-- ==== Sys2Proof/Word.lean ====
section
/-! DEFINITION. The byte of the host link and the fixed-size table used for the part's record tables. -/

namespace Sys2Proof

/-- One byte of a host frame (10.1). -/
abbrev Byte := BitVec 8

/-- A table of exactly `n` records, indexed from 0 (00_scope, Tables, records and fields). -/
structure Table (α : Type) (n : Nat) where
  cells : List α
  size_ok : cells.length = n
deriving DecidableEq, Repr

end Sys2Proof
end

