-- ==== Sys2Proof/Config.lean ====
section
/-! DEFINITION. What the part fixes (tables, capacities) and the values the manual leaves open, as constants
without a body. -/

namespace Sys2Proof

/-- Saturation vapour pressure es[0..14] in Pa over the nodes T_k = -3000 + 500 k cd (04, 4.3). -/
def Config.saturation : List Nat :=
  [51, 81, 126, 191, 287, 422, 611, 872, 1228, 1705, 2339, 3169, 4246, 5627, 7381]

/-- Half-cycle table S[0..16] of the SINE effect (R121). -/
def Config.sine : List Nat :=
  [0, 10, 38, 84, 146, 222, 309, 402, 500, 598, 691, 778, 854, 916, 962, 990, 1000]

/-- The step and slew periods in ms that channels, outputs and PROTECT settings may take (R110, R135, R166). -/
def Config.periods : List Nat := [0, 1, 2, 5, 10, 20, 50, 100, 200]

/-- Last value of the clock and of an energy accumulator, and the last sequence number. -/
def Config.maxWord : Nat := 4294967295

/-- DESIGN CHOICE: free value (log entry 7): the ice temperature shown when the brine estimate of R47 lies above the
range -32768..32767 of T; the manual states no result there. -/
opaque Config.estimateBeyondRange : Int → BitVec 16

/-- Free choice (log entry 6): whether, at the end of a LOAD, the deferred trip comes before the held program
entries (R171: not fixed). One answer per choice taken. -/
opaque Config.tripBeforeHeldEntries : Nat → Bool

/-- Free choice (log entry 14): whether a request that its own command brings to an empty buffer, before any port is locked, came
over SPI. One answer per choice taken. -/
opaque Config.requestOverSpi : Nat → Bool

end Sys2Proof
end

