-- ==== Sys2Proof/Syntax.lean ====
section
/-! DEFINITION. The part's commands: one constructor per row of opcode_table.json. A request row carries the
request's TAG and the bytes of its BODY after the bytes the row itself fixes (R184, R186, R193). -/

namespace Sys2Proof

/-- The two link ports (R180). -/
inductive Port
  | uart
  | spi
deriving DecidableEq, Repr

/-- The MODE strap (R198). -/
inductive Strap
  | standalone
  | attended
deriving DecidableEq, Repr

/-- One command per row of the table of operations and events. -/
inductive Instr
  /-- POWER_ON, with the MODE strap at the release of the reset. -/
  | powerOn (strap : Strap)
  /-- PIN_RESET, with the MODE strap at the release of the reset. -/
  | pinReset (strap : Strap)
  | settleEnd
  /-- HOST_FRAME: bytes received on a port, up to and including the frame's last CHECK byte. -/
  | hostFrame (port : Port) (bytes : List Byte)
  /-- GAP_TIMEOUT: the bytes received on the UART before the gap. -/
  | gapTimeout (bytes : List Byte)
  | replyDelivered
  | unknownKindRequest (tag kind : Byte) (body : List Byte)
  /-- READ_POINTS: the body after the table code; `lasts` when other events fall inside the assembly. -/
  | readPoints (tag : Byte) (rest : List Byte) (lasts : Bool)
  | readCounters (tag : Byte) (rest : List Byte) (lasts : Bool)
  | readEnergy (tag : Byte) (rest : List Byte) (lasts : Bool)
  /-- WRITE_POINTS_CONFIG: index and record bytes; so for every WRITE row whose operand is `rest`. -/
  | writePointsConfig (tag : Byte) (rest : List Byte)
  | writePointValue (tag : Byte) (rest : List Byte)
  /-- WRITE_BUS_SETTINGS: `receiving` when a frame of another node is on the line. -/
  | writeBusSettings (tag : Byte) (rest : List Byte) (receiving : Bool)
  | writeWindows (tag : Byte) (rest : List Byte)
  | writeSheets (tag : Byte) (rest : List Byte)
  | writeZones (tag : Byte) (rest : List Byte)
  | writeSinks (tag : Byte) (rest : List Byte)
  /-- WRITE_ALLOCATOR_SETTINGS: the record bytes of SINKS record 12. -/
  | writeAllocatorSettings (tag : Byte) (record : List Byte)
  | writeChannels (tag : Byte) (rest : List Byte)
  | writeScenes (tag : Byte) (rest : List Byte)
  | writeOutputs (tag : Byte) (rest : List Byte)
  /-- WRITE_STAGE_SETTINGS: the record bytes of OUTPUTS record 16. -/
  | writeStageSettings (tag : Byte) (record : List Byte)
  | writeRemotes (tag : Byte) (rest : List Byte)
  | writeProfiles (tag : Byte) (rest : List Byte)
  | writeProtectSettings (tag : Byte) (rest : List Byte)
  | writeNoticeSettings (tag : Byte) (rest : List Byte)
  /-- WRITE: the whole body of a WRITE whose table or record is not writable. -/
  | write (tag : Byte) (body : List Byte)
  | fetch (tag : Byte) (body : List Byte)
  | status (tag : Byte) (body : List Byte)
  /-- SCENE_RECALL: the act's fields, after the act code; so for every act. -/
  | sceneRecall (tag : Byte) (fields : List Byte)
  | channelSet (tag : Byte) (fields : List Byte)
  | effectStart (tag : Byte) (fields : List Byte)
  | effectStop (tag : Byte) (fields : List Byte)
  | outputSet (tag : Byte) (fields : List Byte)
  | modeSet (tag : Byte) (fields : List Byte)
  | resurfaceStart (tag : Byte) (fields : List Byte)
  | resurfaceEnd (tag : Byte) (fields : List Byte)
  | coverOn (tag : Byte) (fields : List Byte)
  | coverOff (tag : Byte) (fields : List Byte)
  | protectTrip (tag : Byte) (fields : List Byte)
  | protectClear (tag : Byte) (fields : List Byte)
  | latchClear (tag : Byte) (fields : List Byte)
  | busRelease (tag : Byte) (fields : List Byte)
  | busReclaim (tag : Byte) (fields : List Byte)
  | busTest (tag : Byte) (fields : List Byte)
  | allocateNow (tag : Byte) (fields : List Byte)
  | snapshotTake (tag : Byte) (fields : List Byte)
  | storeSave (tag : Byte) (fields : List Byte)
  | storeLoad (tag : Byte) (fields : List Byte)
  | clockSet (tag : Byte) (fields : List Byte)
  | programAdd (tag : Byte) (fields : List Byte)
  | programDelete (tag : Byte) (fields : List Byte)
  | start (tag : Byte) (fields : List Byte)
  | reset (tag : Byte) (fields : List Byte)
  /-- SOFT_RESET, with the MODE strap at the release of the reset. -/
  | softReset (strap : Strap)
  | noticeWaitExpiry
  /-- FRAME_RECEIVED: the levels on the line from the start bit on, `true` for recessive (1); with an own frame on the line, those the part reads
  back. -/
  | frameReceived (bits : List Bool)
  | frameStart
  | ownFrameDone
  | arbitrationLost
  | transmitError
  | isolatedRecovery
  | pauseTimerExpiry (node : Nat)
  | handAsserted
  | handDeasserted
  | receiveEntryTaken
  | agingExpiry
  | holdExpiry (sheet : Nat)
  | tankReheatExpiry (sheet : Nat)
  | criticalHoldExpiry (sheet : Nat)
  | periodTimerExpiry
  | stepTimerExpiry (channel : Nat)
  | effectSample (channel : Nat)
  | slewStep (output : Nat)
  | refreshExpiry (entry : Nat)
  | tick
  | protectAsserted
  | protectDeasserted
  | keyPress
  | keyRelease
  | keyHoldExpiry
  /-- SAVE_COMPLETE: the check word that is read back behind the image. -/
  | saveComplete (check : BitVec 16)
  /-- LOAD_COMPLETE: `receiving` when a frame of another node is on the line. -/
  | loadComplete (receiving : Bool)
  /-- SNAPSHOT_WRITE_COMPLETE: whether the check found the snapshot as written. -/
  | snapshotWriteComplete (good : Bool)
  | idlePeriod
  /-- LENGTH_ABOVE_200: the LENGTH byte that follows a SYNC on the port. -/
  | lengthAbove200 (port : Port) (length : Byte)
  | unknownActCode (tag code : Byte) (fields : List Byte)
deriving DecidableEq, Repr

end Sys2Proof
end

