-- ==== Sys2Proof/Decode.lean ====
section
/-! DEFINITION. Words of the command table: opcode_table.json gives no row any bits (every row's fields are empty), so a word spells
no command. The bytes of host frames and the bits of bus frames are read in Sys2Proof/Machine/Wire.lean. -/

namespace Sys2Proof

/-- No word spells a command: the table has no row with bits (log entry 26). -/
def decodeTableWord (_nbits _w : Nat) : Option Instr := none

end Sys2Proof
end

