-- ==== Sys2Proof/Machine/Records.lean ====
section
/-! DEFINITION. The records of the part's tables: the configuration parts, with the Default column as field defaults,
and the runtime parts, with the reset values of a record whose configuration is the default. -/

namespace Sys2Proof.Machine
open Sys2Proof

/-- A radiant power in watts, or UNLIMITED, a value of its own (00_scope, Unlimited). -/
inductive Power
  | watts (w : Nat)
  | unlimited
deriving DecidableEq, Repr

/-! ### Measurement points (01, 1.1) -/

inductive PointBinding
  | none
  | bus
  | link
deriving DecidableEq, Repr

inductive PointKind
  | iceSurface
  | brineReturn
  | subsoil
  | airTemp
  | airRh
  | nearIceAir
  | ceilingTemp
  | heatFlow
  | occupancy
  | generic
deriving DecidableEq, Repr

inductive ComparatorMode
  | none
  | above
  | hysteresis
  | window
deriving DecidableEq, Repr

inductive Quality
  | noValue
  | good
  | stale
  | suspect
  | failed
  | unbound
deriving DecidableEq, Repr

/-- Configuration part of a POINTS record. Node and point are 0 where the binding is not BUS (absent, R1). -/
structure PointConfig where
  binding : PointBinding := .none
  node : Nat := 0
  point : Nat := 0
  kind : PointKind := .generic
  stale : Nat := 30
  plausMin : Int := -5000
  plausMax : Int := 10000
  mode : ComparatorMode := .none
  high : Int := 0
  low : Int := 0
  latch : Bool := false
  trip : Bool := false
deriving DecidableEq, Repr

/-- Runtime part of a POINTS record (1.1, R18); `output` is true for SET. -/
structure PointRun where
  value : Option Int := none
  age : Nat := 0
  quality : Quality := .unbound
  suspect : Nat := 0
  output : Bool := false
deriving DecidableEq, Repr

/-! ### Field bus (02) -/

inductive BusKind
  | reading
  | command
  | pause
  | poll
deriving DecidableEq, Repr

/-- The fields of a field bus frame before the check (2.2). -/
structure BusFrame where
  priority : Nat
  kind : BusKind
  source : Nat
  target : Nat
  point : Nat
  value : Int
deriving DecidableEq, Repr

/-- Configuration of an acceptance window (R26); `accept` false is REJECT. -/
structure WindowConfig where
  enabled : Bool := false
  matchSource : Nat := 0
  matchPoint : Nat := 0
  sourceMask : Nat := 0
  pointMask : Nat := 0
  accept : Bool := true
deriving DecidableEq, Repr

/-- BUS record 0 (R19). -/
structure BusSettings where
  ownAddress : Nat := 0
  bitRate : Nat := 125
  warning : Nat := 64
  accept : Bool := true
  clearOnRead : Bool := false
deriving DecidableEq, Repr

inductive BusState
  | active
  | cautious
  | isolated
deriving DecidableEq, Repr

inductive HandOver
  | owned
  | releasePending
  | released
deriving DecidableEq, Repr

inductive TestMode
  | normal
  | listen
  | loop
deriving DecidableEq, Repr

inductive TxKind
  | command
  | poll
deriving DecidableEq, Repr

/-- A transmit queue entry (2.5). `owner` is the model's own: the remote entry that made the latest request for it,
to whom a later drop is reported (log entry 13); none for a POLL. -/
structure TxEntry where
  kind : TxKind
  target : Nat
  point : Nat
  value : Int
  priority : Nat
  owner : Option (Fin 32)
deriving DecidableEq, Repr

/-- The entry in flight: its section, and whether it goes on the internal path of LOOP (R41). -/
structure InFlight where
  entry : TxEntry
  protect : Bool
  looped : Bool
deriving DecidableEq, Repr

/-- A receive queue entry (2.4). -/
structure RxEntry where
  source : Nat
  point : Nat
  kind : BusKind
  value : Int
  arrival : Nat
deriving DecidableEq, Repr

/-- The 15 counters, in the order of their table (R42). -/
inductive Counter
  | rxGood
  | rxCheck
  | rxAccepted
  | rxRejected
  | rxUnbound
  | rxOverrun
  | txDone
  | txError
  | arbLost
  | txDrop
  | pauses
  | polls
  | linkCheck
  | linkTimeout
  | linkBusy
deriving DecidableEq, Repr

/-! ### Sheets (03) -/

/-- Configuration part of a SHEETS record (3.1). -/
structure SheetConfig where
  enabled : Bool := false
  surfaces : List Nat := []
  brine : Option Nat := none
  subsoil : Option Nat := none
  tSet : Int := -550
  tSoft : Int := -350
  tLimit : Int := -250
  hysteresis : Nat := 20
  bMax : Nat := 60000
  fallback : Nat := 250
  brineOffset : Nat := 400
  resurfaceHold : Nat := 600
  tankTime : Nat := 900
  criticalHold : Nat := 0
  subsoilMin : Int := 100
  heaveHysteresis : Nat := 50
deriving DecidableEq, Repr

inductive SheetState
  | off
  | normal
  | soft
  | critical
  | resurface
  | blind
  | covered
deriving DecidableEq, Repr

inductive TempSource
  | surface
  | estimate
  | none
deriving DecidableEq, Repr

inductive Heave
  | min
  | max
deriving DecidableEq, Repr

/-- Runtime part of a SHEETS record (3.2). The covered flag is `state = covered`. -/
structure SheetRun where
  state : SheetState := .off
  temp : Option Int := none
  source : TempSource := .none
  budget : Power := .unlimited
  atLastPass : Option Power := none
  frozen : Option Nat := none
  hold : Nat := 0
  tank : Nat := 0
  criticalTime : Nat := 0
  trigger : Bool := false
  heave : Heave := .min
deriving DecidableEq, Repr

/-! ### Zones (04) -/

/-- Configuration part of a ZONES record (4.1). -/
structure ZoneConfig where
  enabled : Bool := false
  airTemp : Nat := 0
  airRh : Nat := 1
  nearIce : Option Nat := none
  ceiling : Option Nat := none
  sheet : Option (Fin 2) := none
  watch : Nat := 300
  risk : Nat := 150
  hysteresis : Nat := 50
  flood : Nat := 100
  fallback : Nat := 600
  servedRegen : Bool := true
  servedCeiling : Bool := true
deriving DecidableEq, Repr

inductive ZoneState
  | clear
  | watch
  | risk
  | fog
  | unknown
deriving DecidableEq, Repr

inductive Surface
  | nearIce
  | ceiling
deriving DecidableEq, Repr

/-- Runtime part of a ZONES record (4.2), with the values of a disabled zone (R68). -/
structure ZoneRun where
  state : ZoneState := .unknown
  dewPoint : Option Int := none
  floorFlag : Bool := false
  fogMargin : Option Int := none
  dripMargin : Option Int := none
  margin : Option Int := none
  limiting : Option Surface := none
  flood : Bool := false
  demand : Nat := 0
deriving DecidableEq, Repr

/-! ### Heat (05) -/

inductive SinkKind
  | heave
  | tank
  | regen
  | ceiling
  | stands
  | fixed
deriving DecidableEq, Repr

inductive SinkClass
  | protective
  | event
  | comfort
  | store
deriving DecidableEq, Repr

inductive SinkStatus
  | idle
  | served
  | partly
  | short
  | capped
  | held
deriving DecidableEq, Repr

/-- Configuration part of a SINKS record 0 to 11 (5.3). -/
structure SinkConfig where
  enabled : Bool := false
  kind : SinkKind := .fixed
  cls : SinkClass := .comfort
  sheet : Option (Fin 2) := none
  min : Nat := 0
  max : Nat := 0
  fullOpen : Nat := 1000
  occupancy : Option Nat := none
  occupancyFull : Nat := 1000
  spill : Nat := 0
deriving DecidableEq, Repr

/-- Runtime part of a SINKS record (5.3), with the carried remainder of its accumulator (R104). -/
structure SinkRun where
  reqMin : Nat := 0
  reqMax : Nat := 0
  cls : SinkClass := .comfort
  grant : Nat := 0
  status : SinkStatus := .idle
  shortfall : Nat := 0
  energy : Nat := 0
  remainder : Nat := 0
deriving DecidableEq, Repr

/-- SINKS record 12 (R85). -/
structure AllocatorSettings where
  heatPoint : Option Nat := none
  reserve : Nat := 200
  period : Nat := 10
  clearOnRead : Bool := false
deriving DecidableEq, Repr

/-- The per-sheet figures of the allocator status (record 13), and the sheet's tank timer as last informed (R90). -/
structure SheetHeat where
  budget : Option Power := none
  lUp : Option Nat := none
  reserve : Option Nat := none
  cap : Option Power := none
  allowance : Power := .watts 0
  tankRunning : Bool := false
deriving DecidableEq, Repr

/-- An energy accumulator with its carried remainder (R104). -/
structure Energy where
  total : Nat := 0
  remainder : Nat := 0
deriving DecidableEq, Repr

/-! ### Lighting (06) -/

inductive ChannelAction
  | hold
  | egress
  | stored
  | off
deriving DecidableEq, Repr

/-- Configuration part of a CHANNELS record (6.1). -/
structure ChannelConfig where
  sheet : Option (Fin 2) := none
  coefficient : Nat := 0
  floor : Nat := 0
  safe : Nat := 0
  action : ChannelAction := .hold
  step : Nat := 4095
  period : Nat := 0
deriving DecidableEq, Repr

inductive Shape
  | triangle
  | sawtooth
  | sine
  | pulse
deriving DecidableEq, Repr

/-- A running effect (R118, R119); `untilSample` is the time in ms to its next sample. -/
structure Effect where
  shape : Shape
  low : Nat
  high : Nat
  period : Nat
  duty : Option Nat
  phase : Nat
  untilSample : Nat
deriving DecidableEq, Repr

/-- Runtime part of a CHANNELS record (6.1). `timer` is the step timer in ms, none when stopped; `taken` is the protect
action the channel took at the trip, none while it follows its base target. -/
structure ChannelRun where
  level : Nat := 0
  base : Nat := 0
  target : Nat := 0
  step : Nat := 4095
  period : Nat := 0
  effect : Option Effect := none
  timer : Option Nat := none
  taken : Option ChannelAction := none
deriving DecidableEq, Repr

/-- Lighting status of a sheet (CHANNELS records 32 and 33). -/
structure SheetLight where
  allowance : Power := .watts 0
  lUp : Nat := 0
  derate : Nat := 1000
deriving DecidableEq, Repr

/-- A scene (6.3). -/
structure Scene where
  levels : Table (Option Nat) 32 := ⟨List.replicate 32 none, by simp⟩
  fade : Option Nat := none
deriving DecidableEq, Repr

/-! ### Outputs (07) -/

inductive OutputKind
  | voltage
  | current
  | switch
  | pwm
deriving DecidableEq, Repr

inductive OutputBinding
  | none
  | light
  | sink
  | zoneDemand
  | fan
  | sheetAlarm
  | backup
  | fixed
deriving DecidableEq, Repr

inductive OutputAction
  | hold
  | safe
  | hiz
deriving DecidableEq, Repr

/-- Configuration part of an OUTPUTS record 0 to 15 (7.1). -/
structure OutputConfig where
  kind : OutputKind := .voltage
  binding : OutputBinding := .none
  index : Nat := 0
  pwm : Nat := 1000
  step : Nat := 4095
  period : Nat := 0
  action : OutputAction := .hold
  safe : Nat := 0
deriving DecidableEq, Repr

/-- What a local output does between a trip and the clear (R141): keep its target, follow a channel (HOLD bound LIGHT),
carry its safe code, or float. -/
inductive OutputProtect
  | hold
  | follow (channel : Nat)
  | safe
  | hiz
deriving DecidableEq, Repr

/-- Runtime part of an OUTPUTS record (7.1); `driven` false is HIZ. -/
structure OutputRun where
  source : Nat := 0
  fixed : Nat := 0
  target : Nat := 0
  code : Nat := 0
  driven : Bool := false
  timer : Option Nat := none
  taken : Option OutputProtect := none
deriving DecidableEq, Repr

inductive RemoteAction
  | hold
  | safe
deriving DecidableEq, Repr

/-- Configuration part of a REMOTES record (7.5). -/
structure RemoteConfig where
  binding : OutputBinding := .none
  index : Nat := 0
  node : Nat := 0
  point : Nat := 0
  priority : Nat := 3
  refresh : Nat := 0
  action : RemoteAction := .hold
  safe : Int := 0
deriving DecidableEq, Repr

/-- What a remote entry does between a trip and the clear, with the configuration in force at the trip (R143, R146). -/
structure RemoteProtect where
  safe : Bool
  config : RemoteConfig
deriving DecidableEq, Repr

/-- Runtime part of a REMOTES record (7.5), with the entry's fixed code (R138). `timer` 0 is a stopped refresh timer. -/
structure RemoteRun where
  value : Option Int := none
  last : Option Int := none
  dirty : Bool := false
  timer : Nat := 0
  fixed : Nat := 0
  taken : Option RemoteProtect := none
deriving DecidableEq, Repr

/-! ### Modes and the program (08) -/

inductive ArenaMode
  | idle
  | practice
  | publicSkate
  | event
  | changeover
deriving DecidableEq, Repr

/-- A mode profile (8.2). -/
structure Profile where
  standsPercent : Nat
  standsClass : SinkClass
  baseDemand : Nat
  lightingShare : Nat
  entryScene : Option Nat
  keyBypass : Bool
deriving DecidableEq, Repr

/-- An action of the event program with its fields (8.4). -/
inductive ProgramAction
  | mode (m : ArenaMode)
  | scene (s : Fin 24) (fade : Option Nat)
  | resurface (sheet : Fin 2)
  | cover (sheet : Fin 2) (on : Bool)
  | allocate
deriving DecidableEq, Repr

structure ProgramEntry where
  id : Nat
  start : Nat
  action : ProgramAction
deriving DecidableEq, Repr

/-! ### Protect and store (09, 11) -/

inductive ProtectState
  | armed
  | tripped
  | held
deriving DecidableEq, Repr

/-- Triggers in code order (9.2). -/
inductive Trigger
  | pin
  | key
  | host
  | sheetA
  | sheetB
  | point
deriving DecidableEq, Repr

inductive KeyState
  | released
  | timing
  | spent
deriving DecidableEq, Repr

/-- PROTECT record 0 (R166). -/
structure ProtectSettings where
  keyHold : Nat := 20
  step : Nat := 64
  period : Nat := 20
deriving DecidableEq, Repr

inductive StoreOp
  | none
  | save
  | load
  | snapshot
deriving DecidableEq, Repr

structure SnapSheet where
  state : SheetState
  temp : Option Int
  budget : Power
deriving DecidableEq, Repr

structure SnapZone where
  state : ZoneState
  dewPoint : Option Int
  margin : Option Int
deriving DecidableEq, Repr

/-- A snapshot (9.6). -/
structure Snapshot where
  sequence : Nat
  clock : Nat
  triggers : List Trigger
  mode : ArenaMode
  sheets : Table SnapSheet 2
  zones : Table SnapZone 4
  grants : Table Nat 12
  levels : Table Nat 32
  busState : BusState
  txe : Nat
  rxe : Nat
deriving DecidableEq, Repr

/-! ### Host link (10) -/

inductive PortLock
  | none
  | uart
  | spi
deriving DecidableEq, Repr

/-- A request as LNK holds it (R183). -/
structure Request where
  tag : Byte
  kind : Byte
  body : List Byte
deriving DecidableEq, Repr

inductive ReplyKind
  | done
  | refused
  | busy
deriving DecidableEq, Repr

/-- A reply: the bodies of its frames in order, more than one only for a segmented READ reply (R185). -/
structure Reply where
  tag : Byte
  kind : ReplyKind
  bodies : List (List Byte)
deriving DecidableEq, Repr

/-- Which of the three assemblies a READ in progress is (R17, R43, R105). -/
inductive AssemblyKind
  | points
  | counters
  | energy
deriving DecidableEq, Repr

structure Assembly where
  kind : AssemblyKind
  reply : Reply
deriving DecidableEq, Repr

/-- Notice kinds in code order from POINT 1 (10.5). -/
inductive NoticeKind
  | point
  | limit
  | sheet
  | zone
  | grantShort
  | backup
  | derate
  | protect
  | bus
  | program
  | store
deriving DecidableEq, Repr

/-- A notice (10.3) with its waiting time in seconds (R190). -/
structure Notice where
  kind : NoticeKind
  subject : Nat
  value : Int
  clock : Nat
  waited : Nat
deriving DecidableEq, Repr

/-- NOTICE record 0 (R189): one enable per notice kind in code order. -/
structure NoticeSettings where
  enables : Table Bool 11 := ⟨List.replicate 11 true, by simp⟩
  threshold : Nat := 1
  coalescing : Nat := 0
deriving DecidableEq, Repr

/-- Refusal reasons (10.5). -/
inductive Reason
  | unknownKind
  | badTable
  | badIndex
  | badLength
  | badValue
  | notNow
  | locked
  | storeBusy
  | tableFull
deriving DecidableEq, Repr

/-! ### The whole configuration (R194) -/

/-- The default profiles of the five modes (8.2). -/
def defaultProfiles : Table Profile 5 :=
  ⟨[⟨0, .comfort, 300, 1000, none, true⟩,
    ⟨20, .comfort, 400, 500, none, false⟩,
    ⟨60, .comfort, 500, 300, none, false⟩,
    ⟨100, .event, 500, 600, none, false⟩,
    ⟨10, .comfort, 600, 1000, none, false⟩], rfl⟩

/-- Every configuration part the image holds (R194), with the defaults. -/
structure Configuration where
  points : Table PointConfig 64 := ⟨List.replicate 64 {}, by simp⟩
  windows : Table WindowConfig 4 := ⟨List.replicate 4 {}, by simp⟩
  bus : BusSettings := {}
  sheets : Table SheetConfig 2 := ⟨List.replicate 2 {}, by simp⟩
  zones : Table ZoneConfig 4 := ⟨List.replicate 4 {}, by simp⟩
  sinks : Table SinkConfig 12 := ⟨List.replicate 12 {}, by simp⟩
  allocator : AllocatorSettings := {}
  channels : Table ChannelConfig 32 := ⟨List.replicate 32 {}, by simp⟩
  scenes : Table Scene 24 := ⟨List.replicate 24 {}, by simp⟩
  outputs : Table OutputConfig 16 := ⟨List.replicate 16 {}, by simp⟩
  backupFull : Nat := 1000
  remotes : Table RemoteConfig 32 := ⟨List.replicate 32 {}, by simp⟩
  profiles : Table Profile 5 := defaultProfiles
  protect : ProtectSettings := {}
  notice : NoticeSettings := {}
deriving DecidableEq, Repr

/-- The non-volatile image: its contents, and the check word stored behind them (R194, log entry 37). -/
structure StoredImage where
  contents : Configuration
  check : BitVec 16
deriving DecidableEq, Repr

end Sys2Proof.Machine
end

