-- ==== Sys2Proof/Machine/State.lean ====
section
/-! DEFINITION. The state of the part: every table, queue, counter, timer, mode and pin the manual gives it, the queue of
waiting commands, and the state after reset. -/

namespace Sys2Proof.Machine
open Sys2Proof

/-- The only fault of the model. -/
inductive Fault
  /-- Raised by a meaning whose operands are not of its row: a channel, sheet, output, entry or node the part does not
  have in a timer's event, a KIND that is a request kind in UNKNOWN_KIND_REQUEST, and so on (`Instr.wellFormed`).
  No event of the part is such a command. Safe: the machine stops. -/
  | illFormed
deriving DecidableEq, Repr

/-- The only refusal of the model. -/
inductive Refusal
  /-- Raised by `exec` for a command that has no meaning yet. Safe: the machine stops. -/
  | notModelled (mnemonic : String)
deriving DecidableEq, Repr

/-- Start-up phase (R198). -/
inductive Phase
  | settle
  | waiting
  | run
deriving DecidableEq, Repr

/-- Levels on the input pins, as the last edge left them. -/
structure Pins where
  hand : Bool := false
  protect : Bool := false
  egress : Bool := false
deriving DecidableEq, Repr

/-- Link Interface (10); `clocked` counts the bytes of the oldest waiting reply that the SPI host has clocked out (R182). -/
structure Lnk where
  locked : PortLock := .none
  uartIntake : List Byte := []
  spiIntake : List Byte := []
  requests : List Request := []
  output : List Reply := []
  clocked : Nat := 0
  assembly : Option Assembly := none
  resetWait : Option Nat := none
  notices : List Notice := []
  lost : Nat := 0
deriving DecidableEq, Repr

/-- Field Bus Controller (02). -/
structure Fbc where
  txe : Nat := 0
  rxe : Nat := 0
  idlePeriods : Nat := 0
  handOver : HandOver := .owned
  hand : Bool := false
  linkRequest : Bool := false
  testMode : TestMode := .normal
  address : Nat := 0
  bitRate : Nat := 125
  acked : Bool := false
  rxQueue : List RxEntry := []
  txProtect : List TxEntry := []
  txOrdinary : List TxEntry := []
  inFlight : Option InFlight := none
  pauses : Table Nat 64 := ⟨List.replicate 64 0, by simp⟩
  counters : Table Nat 15 := ⟨List.replicate 15 0, by simp⟩
  tallies : Table Nat 15 := ⟨List.replicate 15 0, by simp⟩
  unbound : Option (Nat × Nat) := none
deriving DecidableEq, Repr

/-- Point Table (01): the runtime parts, and the aging expiries held behind a POINTS assembly (R17). -/
structure Ptb where
  points : Table PointRun 64 := ⟨List.replicate 64 {}, by simp⟩
  heldAging : Nat := 0
deriving DecidableEq, Repr

/-- Heat Allocator (05). -/
structure Hra where
  sinks : Table SinkRun 12 := ⟨List.replicate 12 {}, by simp⟩
  heatUsed : Option Nat := none
  pool : Nat := 0
  rejected : Nat := 0
  backup : Nat := 0
  hold : Bool := false
  sheets : Table SheetHeat 2 := ⟨List.replicate 2 {}, by simp⟩
  rotation : Table Nat 4 := ⟨List.replicate 4 0, by simp⟩
  timer : Nat := 0
  rejectedEnergy : Energy := {}
  backupEnergy : Energy := {}
  credited : Nat := 0
deriving DecidableEq, Repr

/-- Lighting Sequencer (06). -/
structure Lsq where
  channels : Table ChannelRun 32 := ⟨List.replicate 32 {}, by simp⟩
  sheets : Table SheetLight 2 := ⟨List.replicate 2 {}, by simp⟩
deriving DecidableEq, Repr

/-- Output Stage (07). -/
structure Ost where
  outputs : Table OutputRun 16 := ⟨List.replicate 16 {}, by simp⟩
  remotes : Table RemoteRun 32 := ⟨List.replicate 32 {}, by simp⟩
deriving DecidableEq, Repr

/-- Schedule Unit (08); `elapsed` is the part of the clock's second that has passed, in ms. -/
structure Scu where
  clock : Nat := 0
  elapsed : Nat := 0
  mode : ArenaMode := .idle
  program : List ProgramEntry := []
  nextId : Nat := 0
deriving DecidableEq, Repr

/-- Protect Unit (09). -/
structure Pru where
  state : ProtectState := .armed
  triggers : List Trigger := []
  deferred : List Trigger := []
  pin : Bool := false
  key : KeyState := .released
  keyTimer : Nat := 0
  arrived : Bool := false
deriving DecidableEq, Repr

/-- Store Controller (09, 11); an `image` of none has never been written, or its SAVE was cut off (R194). -/
structure Stc where
  op : StoreOp := .none
  image : Option StoredImage := none
  saving : Option Configuration := none
  slots : Table (Option Snapshot) 4 := ⟨List.replicate 4 none, by simp⟩
  snapshot : Option Snapshot := none
  writing : Option (Fin 4 × Snapshot) := none
  nextSequence : Nat := 1
deriving DecidableEq, Repr

/-- The part. `pending` is the queue of waiting commands, first in, first out. -/
structure State where
  pending : List Instr := []
  choices : Nat := 0
  ms : Nat := 0
  phase : Phase := .waiting
  strap : Strap := .attended
  pins : Pins := {}
  cfg : Configuration := {}
  lnk : Lnk := {}
  fbc : Fbc := {}
  ptb : Ptb := {}
  shm : Table SheetRun 2 := ⟨List.replicate 2 {}, by simp⟩
  cdm : Table ZoneRun 4 := ⟨List.replicate 4 {}, by simp⟩
  hra : Hra := {}
  lsq : Lsq := {}
  ost : Ost := {}
  scu : Scu := {}
  pru : Pru := {}
  stc : Stc := {}
deriving DecidableEq, Repr

/-- The part at the end of SETTLE after a power-on reset, ATTENDED, with a store that has never been written and no pin
asserted: WAITING on the defaults (R198, R200; log entry 1). -/
def State.reset : State := {}

end Sys2Proof.Machine
end

