-- ==== Sys2Proof/Machine/Tables.lean ====
section
/-! DEFINITION. Reading and writing the records of a table, and loops over all indices in index order. -/

namespace Sys2Proof

def Table.get {α : Type} {n : Nat} (t : Table α n) (i : Fin n) : α :=
  t.cells.get (i.cast t.size_ok.symm)

def Table.set {α : Type} {n : Nat} (t : Table α n) (i : Fin n) (x : α) : Table α n :=
  ⟨t.cells.set i x, by simp [t.size_ok]⟩

/-- The table whose record `i` is `f i`. -/
def Table.ofFn {α : Type} {n : Nat} (f : Fin n → α) : Table α n :=
  ⟨(List.finRange n).map f, by simp⟩

/-- Every record changed by a function of its index and content. -/
def Table.mapIdx {α β : Type} {n : Nat} (f : Fin n → α → β) (t : Table α n) : Table β n :=
  Table.ofFn fun i => f i (t.get i)

def Table.modify {α : Type} {n : Nat} (t : Table α n) (i : Fin n) (f : α → α) : Table α n :=
  t.set i (f (t.get i))

def Table.all {α : Type} {n : Nat} (t : Table α n) (p : α → Bool) : Bool :=
  t.cells.all p

/-- The table whose every record is `x`. -/
def Table.const {α : Type} (n : Nat) (x : α) : Table α n :=
  ⟨List.replicate n x, by simp⟩

/-- The index a raw number names, if the table has it. -/
def index (n k : Nat) : Option (Fin n) :=
  if h : k < n then some ⟨k, h⟩ else none

/-- Do `f` for each index 0, 1, … in order. -/
def forEach {σ : Type} (n : Nat) (f : Fin n → σ → σ) (s : σ) : σ :=
  (List.finRange n).foldl (fun acc i => f i acc) s

/-- The sum of a figure over all indices. -/
def sumOver (n : Nat) (f : Fin n → Nat) : Nat :=
  ((List.finRange n).map f).sum

/-- Division rounded up, where the text says so. -/
def ceilDiv (a b : Nat) : Nat := (a + b - 1) / b

/-- A number limited to `lo..hi`. -/
def clampNat (lo hi v : Nat) : Nat := max lo (min hi v)

/-- A signed number limited to `lo..hi`. -/
def clampInt (lo hi v : Int) : Int := max lo (min hi v)

/-- One clamped field, counted when the clamp changed it (the clamped-field count of DONE). -/
def clampedBy {α : Type} [DecidableEq α] (before after : α) : Nat := if before = after then 0 else 1

/-- The greatest listed period not above `v` (R110, R135, R166: the nearest listed value below, or 200). -/
def clampPeriod (v : Nat) : Nat := (Config.periods.filter (· ≤ v)).foldl max 0

end Sys2Proof
end

