-- ==== Sys2Proof/Machine/Wire.lean ====
section
/-! DEFINITION. Bytes and bits on the two wires: the byte order of the link, the CRCs, host frames (R181), bit insertion
and the field bus frame (R20, 10.5), and the codes of names (R193). -/

namespace Sys2Proof.Machine
open Sys2Proof

/-! ### Fields as bytes: most significant byte first, signed fields two's complement (10, R193) -/

def u8 (n : Nat) : List Byte := [BitVec.ofNat 8 n]
def u16 (n : Nat) : List Byte := [BitVec.ofNat 8 (n / 256), BitVec.ofNat 8 n]
def u32 (n : Nat) : List Byte := u16 (n / 65536) ++ u16 n
def s16 (v : Int) : List Byte := u16 (v % 65536).toNat
def s32 (v : Int) : List Byte := u32 (v % 4294967296).toNat
def flag (b : Bool) : List Byte := u8 (if b then 1 else 0)

/-- A field that may be absent: a present byte, then the field, 0 when absent (R193). -/
def optional {α : Type} (put : α → List Byte) (zero : α) : Option α → List Byte
  | some x => u8 1 ++ put x
  | none => u8 0 ++ put zero

/-- UNLIMITED is 0xFFFFFFFF in a 4-byte field (R193). -/
def putPower : Power → List Byte
  | .watts w => u32 w
  | .unlimited => u32 4294967295

/-- A list: a count byte, then its entries (R193). -/
def putList (xs : List Nat) : List Byte := u8 xs.length ++ xs.flatMap u8

/-- The byte at an offset of a body, as a number; offsets beyond the end read 0 (lengths are checked first, R184). -/
def u8At (b : List Byte) (i : Nat) : Nat := (b.getD i 0).toNat
def u16At (b : List Byte) (i : Nat) : Nat := u8At b i * 256 + u8At b (i + 1)
def u32At (b : List Byte) (i : Nat) : Nat := u16At b i * 65536 + u16At b (i + 2)

/-- A 16-bit two's complement number. -/
def signed16 (n : Nat) : Int := if n < 32768 then n else (n : Int) - 65536
def s16At (b : List Byte) (i : Nat) : Int := signed16 (u16At b i)

/-- No and yes are 0 and 1 (R193); any other code is outside the list. -/
def flagAt (b : List Byte) (i : Nat) : Option Bool :=
  if u8At b i = 0 then some false else if u8At b i = 1 then some true else none

/-- A present byte and the field after it; of an absent field the bytes behind the present byte are ignored (DESIGN CHOICE, log entry 10). -/
def optionAt {α : Type} (get : List Byte → Nat → α) (b : List Byte) (i : Nat) : Option (Option α) :=
  match flagAt b i with
  | some true => some (some (get b (i + 1)))
  | some false => some none
  | none => none

/-! ### Names as codes: the position in the chapter's list (R193) -/

/-- The name a code byte stands for, none outside the list. -/
def nameAt {α : Type} (names : List α) (b : List Byte) (i : Nat) : Option α := names[u8At b i]?

/-- The code of a name. -/
def codeOf {α : Type} [DecidableEq α] (names : List α) (x : α) : Nat := names.idxOf x

def pointBindings : List PointBinding := [.none, .bus, .link]
def pointKinds : List PointKind :=
  [.iceSurface, .brineReturn, .subsoil, .airTemp, .airRh, .nearIceAir, .ceilingTemp, .heatFlow, .occupancy, .generic]
def comparatorModes : List ComparatorMode := [.none, .above, .hysteresis, .window]
def qualities : List Quality := [.noValue, .good, .stale, .suspect, .failed, .unbound]
def busKinds : List BusKind := [.reading, .command, .pause, .poll]
def busStates : List BusState := [.active, .cautious, .isolated]
def handOvers : List HandOver := [.owned, .releasePending, .released]
def testModes : List TestMode := [.normal, .listen, .loop]
def sheetStates : List SheetState := [.off, .normal, .soft, .critical, .resurface, .blind, .covered]
def tempSources : List TempSource := [.surface, .estimate, .none]
def heaves : List Heave := [.min, .max]
def sheetChoices : List (Option (Fin 2)) := [some 0, some 1, none]
def zoneStates : List ZoneState := [.clear, .watch, .risk, .fog, .unknown]
def surfaces : List Surface := [.nearIce, .ceiling]
def sinkKinds : List SinkKind := [.heave, .tank, .regen, .ceiling, .stands, .fixed]
def sinkClasses : List SinkClass := [.protective, .event, .comfort, .store]
def sinkStatuses : List SinkStatus := [.idle, .served, .partly, .short, .capped, .held]
def channelActions : List ChannelAction := [.hold, .egress, .stored, .off]
def shapes : List Shape := [.triangle, .sawtooth, .sine, .pulse]
def outputKinds : List OutputKind := [.voltage, .current, .switch, .pwm]
def outputBindings : List OutputBinding := [.none, .light, .sink, .zoneDemand, .fan, .sheetAlarm, .backup, .fixed]
def outputActions : List OutputAction := [.hold, .safe, .hiz]
def remoteActions : List RemoteAction := [.hold, .safe]
def arenaModes : List ArenaMode := [.idle, .practice, .publicSkate, .event, .changeover]
def protectStates : List ProtectState := [.armed, .tripped, .held]
def triggers : List Trigger := [.pin, .key, .host, .sheetA, .sheetB, .point]
def keyStates : List KeyState := [.released, .timing, .spent]
def storeOps : List StoreOp := [.none, .save, .load, .snapshot]
def portLocks : List PortLock := [.none, .uart, .spi]
def noticeKinds : List NoticeKind :=
  [.point, .limit, .sheet, .zone, .grantShort, .backup, .derate, .protect, .bus, .program, .store]
def counters : List Counter :=
  [.rxGood, .rxCheck, .rxAccepted, .rxRejected, .rxUnbound, .rxOverrun, .txDone, .txError, .arbLost, .txDrop,
    .pauses, .polls, .linkCheck, .linkTimeout, .linkBusy]
def reasons : List Reason :=
  [.unknownKind, .badTable, .badIndex, .badLength, .badValue, .notNow, .locked, .storeBusy, .tableFull]

/-- Reason codes run from 1 (10.5). -/
def Reason.code (r : Reason) : Nat := codeOf reasons r + 1

/-- The mode with a code 0..4 (8.2). -/
def modeOfCode (n : Nat) : Option ArenaMode := arenaModes[n]?

/-- The record of PROFILES that belongs to a mode (8.2). -/
def modeIndex : ArenaMode → Fin 5
  | .idle => 0
  | .practice => 1
  | .publicSkate => 2
  | .event => 3
  | .changeover => 4

/-- Triggers as a list in code order without duplicates (9.1). -/
def insertTrigger (t : Trigger) (ts : List Trigger) : List Trigger :=
  triggers.filter fun x => x == t || ts.contains x

/-! ### Host frames (10.1, R181) -/

def syncByte : Byte := 0xC3

/-- One bit of the CRC-16 with polynomial 0x1021, most significant bit first. -/
def crc16Bit (c : Nat) : Nat := if c < 32768 then c * 2 else (c * 2 - 65536) ^^^ 0x1021

def crc16Byte (c : Nat) (b : Byte) : Nat := crc16Bit^[8] (c ^^^ (b.toNat * 256))

/-- CRC-16 with initial value 0xFFFF and no final inversion (10.1). -/
def crc16 (bytes : List Byte) : Nat := bytes.foldl crc16Byte 0xFFFF

/-- A host frame: SYNC, LENGTH, TAG, KIND, BODY, CHECK (10.5). -/
def hostFrame (tag kind : Byte) (body : List Byte) : List Byte :=
  let inner := BitVec.ofNat 8 body.length :: tag :: kind :: body
  syncByte :: inner ++ u16 (crc16 inner)

/-- What the search for frames finds in received bytes. -/
inductive LinkEvent
  | good (r : Request)
  | bad
deriving DecidableEq, Repr

/-- The search of R181 over the bytes of an attempt: what it finds, in order, and the bytes of the attempt it leaves under way. -/
def scanFrom : Nat → List Byte → List LinkEvent × List Byte
  | 0, buf => ([], buf)
  | fuel + 1, buf =>
    match buf.dropWhile (· != syncByte) with
    | [] => ([], [])
    | [c] => ([], [c])
    | c :: len :: rest =>
      if len.toNat > 200 then
        let (es, left) := scanFrom fuel (len :: rest)
        (.bad :: es, left)
      else if rest.length < len.toNat + 4 then ([], c :: len :: rest)
      else
        let body := (rest.drop 2).take len.toNat
        let check := u16At rest (len.toNat + 2)
        if crc16 (len :: rest.take (len.toNat + 2)) = check then
          let (es, left) := scanFrom fuel (rest.drop (len.toNat + 4))
          (.good ⟨rest.getD 0 0, rest.getD 1 0, body⟩ :: es, left)
        else
          let (es, left) := scanFrom fuel (len :: rest)
          (.bad :: es, left)

def scan (buf : List Byte) : List LinkEvent × List Byte := scanFrom (buf.length + 1) buf

/-- Kind codes of the link (10.5). -/
def kindRead : Byte := 0x01
def kindWrite : Byte := 0x02
def kindAct : Byte := 0x03
def kindFetch : Byte := 0x04
def kindStatus : Byte := 0x05

def ReplyKind.code : ReplyKind → Byte
  | .done => 0x80
  | .refused => 0x81
  | .busy => 0x82

/-- The bytes of a reply's frames, in order (R185, 10.5). -/
def Reply.bytes (r : Reply) : List Byte := r.bodies.flatMap fun b => hostFrame r.tag r.kind.code b

/-! ### Field bus frames (2.2, R20, 10.5). A level is `true` for recessive (1), `false` for dominant (0). -/

/-- The `w` low bits of a number, most significant first. -/
def natBits : Nat → Nat → List Bool
  | 0, _ => []
  | w + 1, n => n.testBit w :: natBits w n

def bitsNat (bits : List Bool) : Nat := bits.foldl (fun acc b => acc * 2 + b.toNat) 0

/-- One bit of the CRC-8 with generator x^8 + x^2 + x + 1. -/
def crc8Bit (c : Nat) (b : Bool) : Nat :=
  let shifted := c * 2 % 256
  if (decide (128 ≤ c)) != b then shifted ^^^ 7 else shifted

/-- CRC-8 with initial value 0 and no final inversion (R20). -/
def crc8 (bits : List Bool) : Nat := bits.foldl crc8Bit 0

/-- The field bits from priority to value (10.5). -/
def BusFrame.bits (f : BusFrame) : List Bool :=
  natBits 3 f.priority ++ natBits 2 (codeOf busKinds f.kind) ++ natBits 6 f.source ++ natBits 6 f.target ++
    natBits 6 f.point ++ natBits 16 (f.value % 65536).toNat

/-- Bit insertion after a run of six equal bits; `last` and `run` describe the bits before (R20). -/
def insertBits : Bool → Nat → List Bool → List Bool
  | _, _, [] => []
  | last, run, b :: bs =>
    let run' := if b = last then run + 1 else 1
    if run' = 6 then b :: (!b) :: insertBits (!b) 1 bs else b :: insertBits b run' bs

/-- Removal of inserted bits, for `n` bits still to come; none on seven equal bits or a short frame (R20). -/
def removeBits : Nat → Bool → Nat → List Bool → Option (List Bool × List Bool)
  | 0, _, run, [] => if run = 6 then none else some ([], [])
  | _ + 1, _, _, [] => none
  | n, last, run, b :: bs =>
    if run = 6 then
      if b = last then none else removeBits n b 1 bs
    else
      match n with
      | 0 => some ([], b :: bs)
      | m + 1 => (removeBits m b (if b = last then run + 1 else 1) bs).map fun r => (b :: r.1, r.2)

/-- The levels a transmitter sends for a frame: start bit, fields and check with inserted bits, recessive acknowledge slot and end field. -/
def BusFrame.lineBits (f : BusFrame) : List Bool :=
  false :: insertBits false 1 (f.bits ++ natBits 8 (crc8 f.bits)) ++ List.replicate 8 true

/-- The frame in its field bits. -/
def frameOfBits (d : List Bool) : BusFrame :=
  { priority := bitsNat (d.take 3)
    kind := (busKinds[bitsNat ((d.drop 3).take 2)]?).getD .reading
    source := bitsNat ((d.drop 5).take 6)
    target := bitsNat ((d.drop 11).take 6)
    point := bitsNat ((d.drop 17).take 6)
    value := signed16 (bitsNat ((d.drop 23).take 16)) }

/-- What a receiver makes of the levels from a start bit on: a good frame, or none for a frame error or a check failure (R20).
The acknowledge slot, the first level after the check, may read either way. -/
def receiveBits (bits : List Bool) : Option BusFrame :=
  match bits with
  | false :: rest =>
    match removeBits 47 false 1 rest with
    | some (d, tail) =>
      if tail.length ≥ 8 && (tail.drop 1).take 7 == List.replicate 7 true
          && bitsNat (d.drop 39) == crc8 (d.take 39) then
        some (frameOfBits (d.take 39))
      else none
    | none => none
  | _ => none

end Sys2Proof.Machine
end

