-- ==== Sys2Proof/Machine/Flags.lean ====
section
/-! DEFINITION. States, statuses and lines that the part derives from what it holds: the bus state, ATTN, GRANT, the statuses
of channels and outputs, the active level triggers, and whether a point is usable. -/

namespace Sys2Proof.Machine
open Sys2Proof

/-! ### Points -/

/-- Usable: quality GOOD or STALE (00_scope, Usable). -/
def Quality.usable (q : Quality) : Bool := q == .good || q == .stale

/-- The record of a point as a reference of kind `k` sees it: none, as if UNBOUND, where the kinds differ (R3). -/
def State.pointOfKind (s : State) (k : PointKind) (p : Nat) : Option PointRun :=
  match index 64 p with
  | some i => if (s.cfg.points.get i).kind = k then some (s.ptb.points.get i) else none
  | none => none

/-- The value of a usable point of the expected kind (R3, R69). -/
def State.usableValue (s : State) (k : PointKind) (p : Nat) : Option Int :=
  match s.pointOfKind k p with
  | some r => if r.quality.usable then r.value else none
  | none => none

/-- An active point trigger: output SET while the trip flag is on (R16). -/
def State.pointTrigger (s : State) (i : Fin 64) : Bool :=
  (s.ptb.points.get i).output && (s.cfg.points.get i).trip

/-- How many points are active triggers (R167). -/
def State.pointTriggers (s : State) : Nat := sumOver 64 fun i => (s.pointTrigger i).toNat

/-! ### Protect -/

def State.armed (s : State) : Bool := s.pru.state == .armed

/-- Whether a level trigger is active; HOST has no active period (R167). -/
def State.levelActive (s : State) : Trigger → Bool
  | .pin => s.pru.pin
  | .key => s.pru.key == .spent
  | .host => false
  | .sheetA => (s.shm.get 0).trigger
  | .sheetB => (s.shm.get 1).trigger
  | .point => s.pointTriggers != 0

/-- The active level triggers, ascending (9.1, R167). -/
def State.activeTriggers (s : State) : List Trigger := triggers.filter s.levelActive

/-- Protect entries in the transmit queue, the entry in flight included (9.1, R30). -/
def State.protectEntries (s : State) : Nat :=
  s.fbc.txProtect.length + (match s.fbc.inFlight with | some f => f.protect.toNat | none => 0)

/-! ### Bus -/

/-- The bus state from the error counters (R34). -/
def busStateOf (txe rxe : Nat) : BusState :=
  if txe = 256 then .isolated
  else if 96 ≤ txe ∨ 96 ≤ rxe then .cautious
  else .active

def State.busState (s : State) : BusState := busStateOf s.fbc.txe s.fbc.rxe

/-- The GRANT line (R37). -/
def State.grant (s : State) : Bool := s.fbc.handOver == .released

/-- What R22 asks, but for the test mode. -/
def State.maySend (s : State) : Bool :=
  s.phase == .run && s.busState != .isolated && s.fbc.handOver == .owned

/-- Whether the acknowledge slot of a good frame is driven (R22). -/
def State.mayAcknowledge (s : State) : Bool := s.maySend && s.fbc.testMode == .normal

/-- Whether an own frame may start (R22, R41). -/
def State.mayStart (s : State) : Bool := s.maySend && s.fbc.testMode != .listen

/-- The nodes whose pause timer runs, ascending (2.1). -/
def State.pausedNodes (s : State) : List Nat :=
  ((List.finRange 64).filter fun n => s.fbc.pauses.get n != 0).map Fin.val

/-- The slots of the transmit queue that are held (R28a). -/
def Fbc.slots (f : Fbc) : Nat :=
  f.txProtect.length + f.txOrdinary.length + (if f.inFlight.isSome then 1 else 0)

/-! ### Link -/

/-- The ATTN line (R190), deasserted through SETTLE. -/
def State.attn (s : State) : Bool :=
  s.phase != .settle &&
    (s.cfg.notice.threshold ≤ s.lnk.notices.length
      || (s.cfg.notice.coalescing != 0 &&
          (match s.lnk.notices with | n :: _ => s.cfg.notice.coalescing ≤ n.waited | [] => false))
      || (s.lnk.locked == .spi && !s.lnk.output.isEmpty))

/-! ### Channels and outputs -/

inductive ChannelStatus
  | steady
  | fading
  | effect
  | underProtect
deriving DecidableEq, Repr

/-- Status of a channel (6.1). -/
def State.channelStatus (s : State) (i : Fin 32) : ChannelStatus :=
  let r := s.lsq.channels.get i
  if !s.armed then .underProtect
  else if r.effect.isSome then .effect
  else if s.phase == .run && r.level != r.target then .fading
  else .steady

inductive OutputStatus
  | hiz
  | steady
  | slewing
  | underProtect
deriving DecidableEq, Repr

/-- Status of a local output (7.1). -/
def State.outputStatus (s : State) (i : Fin 16) : OutputStatus :=
  let r := s.ost.outputs.get i
  if !r.driven then .hiz
  else if !s.armed then .underProtect
  else if r.code != r.target then .slewing
  else .steady

/-- The electrical value of a code: mV, µA, on as true, or duty in per-mille (R136). -/
inductive Electrical
  | millivolt (v : Nat)
  | microamp (v : Nat)
  | switched (on : Bool)
  | duty (v : Nat)
deriving DecidableEq, Repr

def electricalOf (k : OutputKind) (code : Nat) : Electrical :=
  match k with
  | .voltage => .millivolt (code * 10000 / 4095)
  | .current => .microamp (4000 + code * 16000 / 4095)
  | .switch => .switched (decide (2048 ≤ code))
  | .pwm => .duty (code * 1000 / 4095)

/-- The electrical value a driven output shows; none in HIZ (R136). -/
def State.electrical (s : State) (i : Fin 16) : Option Electrical :=
  let r := s.ost.outputs.get i
  if r.driven then some (electricalOf (s.cfg.outputs.get i).kind r.code) else none

/-- The covered flag of a sheet (3.2). -/
def SheetRun.isCovered (r : SheetRun) : Bool := r.state == .covered

/-- The profile of the present mode (R154). -/
def State.profile (s : State) : Profile := s.cfg.profiles.get (modeIndex s.scu.mode)

/-- Protect target list membership of an egress fade: every channel that took action EGRESS has arrived (R129). -/
def State.egressArrived (s : State) : Bool :=
  s.lsq.channels.all fun r => r.taken != some .egress || r.level == r.target

end Sys2Proof.Machine
end

