-- ==== Sys2Proof/Machine/Ops.lean ====
section
/-! DEFINITION. The named operations shared by the blocks: notices, counters, the error counters, the transmit queue, pause
timers, hand-over, replies. -/

namespace Sys2Proof.Machine
open Sys2Proof

/-! ### Notices (10.3) -/

def noticeIndex (k : NoticeKind) : Fin 11 :=
  match k with
  | .point => 0 | .limit => 1 | .sheet => 2 | .zone => 3 | .grantShort => 4 | .backup => 5
  | .derate => 6 | .protect => 7 | .bus => 8 | .program => 9 | .store => 10

/-- LNK's part of queueing a notice (R187). -/
def Lnk.offer (l : Lnk) (enabled : Bool) (n : Notice) : Lnk :=
  if !enabled then l
  else if l.notices.length < 32 then { l with notices := l.notices ++ [n] }
  else { l with lost := min 255 (l.lost + 1) }

/-- A block offers a notice; LNK stamps it with the clock (R187). -/
def State.notice (k : NoticeKind) (subject : Nat) (value : Int) (s : State) : State :=
  { s with lnk := s.lnk.offer (s.cfg.notice.enables.get (noticeIndex k)) ⟨k, subject, value, s.scu.clock, 0⟩ }

/-- A notice when a condition holds. -/
def State.noticeIf (c : Bool) (k : NoticeKind) (subject : Nat) (value : Int) (s : State) : State :=
  if c then s.notice k subject value else s

/-! ### Counters (2.9) -/

def counterIndex (c : Counter) : Fin 15 :=
  match c with
  | .rxGood => 0 | .rxCheck => 1 | .rxAccepted => 2 | .rxRejected => 3 | .rxUnbound => 4 | .rxOverrun => 5
  | .txDone => 6 | .txError => 7 | .arbLost => 8 | .txDrop => 9 | .pauses => 10 | .polls => 11
  | .linkCheck => 12 | .linkTimeout => 13 | .linkBusy => 14

def saturate16 (n : Nat) : Nat := min 65535 n

/-- A COUNTERS reply is being assembled, so increments are held (R43). -/
def State.holdsCounts (s : State) : Bool :=
  match s.lnk.assembly with | some a => a.kind == .counters | none => false

/-- FBC's part of counting: to the held tally or to the counter (R42, R43). -/
def Fbc.count (f : Fbc) (held : Bool) (c : Counter) : Fbc :=
  if held then { f with tallies := f.tallies.modify (counterIndex c) (· + 1) }
  else { f with counters := f.counters.modify (counterIndex c) fun n => saturate16 (n + 1) }

def State.count (c : Counter) (s : State) : State := { s with fbc := s.fbc.count s.holdsCounts c }

/-! ### Error counters and bus state (2.6) -/

/-- A change of the error counters: warnings first, then the notice of a new bus state, and the idle-period count starts at 0
on entry to ISOLATED (R33 to R36). -/
def State.setErrors (txe rxe : Nat) (s : State) : State :=
  let level := s.cfg.bus.warning
  let before := s.busState
  let after := busStateOf txe rxe
  let txWarn := decide (s.fbc.txe < level ∧ level ≤ txe)
  let rxWarn := decide (s.fbc.rxe < level ∧ level ≤ rxe)
  let s1 : State := { s with fbc := { s.fbc with
    txe := txe, rxe := rxe,
    idlePeriods := if before = after then s.fbc.idlePeriods else 0 } }
  ((s1.noticeIf txWarn .bus 1 txe).noticeIf rxWarn .bus 2 rxe).noticeIf (before != after) .bus 0
    (codeOf busStates after)

/-- A received frame error or check failure (R33). -/
def State.rxError (s : State) : State := s.setErrors s.fbc.txe (min 255 (s.fbc.rxe + 1))

/-- A good received frame (R33). -/
def State.rxGood (s : State) : State := s.setErrors s.fbc.txe (s.fbc.rxe - 1)

/-- A transmit error (R33). -/
def State.txError (s : State) : State := s.setErrors (min 256 (s.fbc.txe + 8)) s.fbc.rxe

/-- An own frame done (R33). -/
def State.txGood (s : State) : State := s.setErrors (s.fbc.txe - 1) s.fbc.rxe

/-- Recovery from ISOLATED: both counters and the idle-period count become 0, and the state ACTIVE; no warning (R35, R36). -/
def State.recover (s : State) : State :=
  ({ s with fbc := { s.fbc with txe := 0, rxe := 0, idlePeriods := 0 } } : State).notice .bus 0 0

/-! ### The transmit queue (2.5) -/

/-- The key of an entry: kind, target and point. -/
def TxEntry.sameKey (a b : TxEntry) : Bool :=
  a.kind == b.kind && a.target == b.target && a.point == b.point

/-- Answer to a request to enqueue (2.5). -/
inductive TxAnswer
  | taken
  | coalesced
  | dropped
deriving DecidableEq, Repr

/-- Replacement of value and priority in the waiting entry with the request's key (R28). -/
def coalesceIn (e : TxEntry) (q : List TxEntry) : List TxEntry :=
  q.map fun w => if w.sameKey e then { w with value := e.value, priority := e.priority, owner := e.owner } else w

/-- The requester of a displaced or removed entry sees a drop: its remote entry becomes dirty (R28a, R30, R144). -/
def Ost.reportDrop (o : Ost) (e : TxEntry) : Ost :=
  match e.owner with
  | some i => { o with remotes := o.remotes.modify i fun r => { r with dirty := true } }
  | none => o

/-- A request to the transmit queue (R28, R28a): the answer, the queue sections, and an entry displaced. -/
def Fbc.request (f : Fbc) (protect : Bool) (e : TxEntry) : TxAnswer × Fbc × Option TxEntry :=
  if f.txProtect.any (·.sameKey e) then
    if protect then (.coalesced, { f with txProtect := coalesceIn e f.txProtect }, none)
    else (.dropped, f, none)
  else if f.txOrdinary.any (·.sameKey e) then
    if protect then
      (.coalesced, { f with
        txOrdinary := f.txOrdinary.filter fun w => !w.sameKey e
        txProtect := f.txProtect ++ [e] }, none)
    else (.coalesced, { f with txOrdinary := coalesceIn e f.txOrdinary }, none)
  else if f.slots < 16 then
    if protect then (.taken, { f with txProtect := f.txProtect ++ [e] }, none)
    else (.taken, { f with txOrdinary := f.txOrdinary ++ [e] }, none)
  else if protect then
    match f.txOrdinary.getLast? with
    | some w => (.taken, { f with txOrdinary := f.txOrdinary.dropLast, txProtect := f.txProtect ++ [e] }, some w)
    | none => (.dropped, f, none)
  else (.dropped, f, none)

/-- A request to the transmit queue with its counts and reports (R28, R28a). -/
def State.enqueue (protect : Bool) (e : TxEntry) (s : State) : TxAnswer × State :=
  match s.fbc.request protect e with
  | (answer, f, displaced) =>
    let s1 : State := { s with fbc := f }
    let s2 := if answer = .dropped then s1.count .txDrop else s1
    match displaced with
    | some w => (answer, { s2.count .txDrop with ost := s2.ost.reportDrop w })
    | none => (answer, s2)

/-- The end of the entry in flight without success: it returns to the head of its section unless superseded (R30). -/
def State.returnEntry (f : InFlight) (s : State) : State :=
  let e := f.entry
  if s.fbc.txProtect.any (·.sameKey e) then s
  else
    match s.fbc.txOrdinary.find? (·.sameKey e) with
    | some w =>
      if f.protect then
        let s1 : State := { s with fbc := { s.fbc with
          txOrdinary := s.fbc.txOrdinary.filter fun x => !x.sameKey e
          txProtect := e :: s.fbc.txProtect } }
        { s1.count .txDrop with ost := s1.ost.reportDrop w }
      else s
    | none =>
      if f.protect then { s with fbc := { s.fbc with txProtect := e :: s.fbc.txProtect } }
      else { s with fbc := { s.fbc with txOrdinary := e :: s.fbc.txOrdinary } }

/-- Whether the pause timer of an entry's target runs (R29). -/
def Fbc.isPaused (f : Fbc) (node : Nat) : Bool :=
  match index 64 node with | some i => f.pauses.get i != 0 | none => false

/-- The eligible entry of a section: its first entry whose target is not paused (R29). -/
def Fbc.eligibleIn (f : Fbc) (q : List TxEntry) : Option TxEntry := q.find? fun e => !f.isPaused e.target

/-- The entry the queue offers, protect section first (R29), with its section. -/
def Fbc.eligible (f : Fbc) : Option (TxEntry × Bool) :=
  match f.eligibleIn f.txProtect with
  | some e => some (e, true)
  | none =>
    match f.eligibleIn f.txOrdinary with
    | some e => some (e, false)
    | none => none

/-! ### Hand-over (2.7) -/

def Fbc.requested (f : Fbc) : Bool := f.hand || f.linkRequest

/-- A requester begins to hold: effective in OWNED only (R37). -/
def Fbc.beginHold (f : Fbc) : Fbc :=
  match f.handOver with
  | .owned => { f with handOver := if f.inFlight.isSome then .releasePending else .released }
  | _ => f

/-- A requester lets go: RELEASED ends with the last one (R37). -/
def Fbc.letGo (f : Fbc) : Fbc :=
  match f.handOver with
  | .released => if f.requested then f else { f with handOver := .owned }
  | _ => f

/-- The end of an own frame in RELEASE_PENDING (R37). -/
def Fbc.frameEnded (f : Fbc) : Fbc :=
  match f.handOver with
  | .releasePending => { f with handOver := if f.requested then .released else .owned }
  | _ => f

/-- The settings' address and bit rate come into force on the line (R19). -/
def State.applyLine (s : State) : State :=
  { s with fbc := { s.fbc with address := s.cfg.bus.ownAddress, bitRate := s.cfg.bus.bitRate } }

/-- An own frame is on the line; a looped frame is not (R41). -/
def Fbc.onLine (f : Fbc) : Bool := match f.inFlight with | some x => !x.looped | none => false

/-- Written settings come into force at once on an idle line, else at the end of the frame on it (R19). -/
def State.applyLineWhenIdle (receiving : Bool) (s : State) : State :=
  if receiving || s.fbc.onLine then s else s.applyLine

/-! ### Replies (10.2) -/

/-- A reply is placed in the reply output (R182). -/
def State.place (r : Reply) (s : State) : State :=
  { s with lnk := { s.lnk with output := s.lnk.output ++ [r] } }

/-- The part is past SETTLE and not waiting for the delivery of a RESET reply: its blocks act (R191, R198; log entry 8). -/
def State.live (s : State) : Bool := s.phase != .settle && s.lnk.resetWait.isNone

/-- An event of a block: it has its effect while the part is live. -/
def State.event (f : State → State) (s : State) : State := if s.live then f s else s

end Sys2Proof.Machine
end

