-- ==== Sys2Proof/Machine/Outputs.lean ====
section
/-! DEFINITION. The Output Stage (07): source codes, slew, requests of remote entries, and what a trip, a clear, a WRITE, a LOAD
and START do to the outputs. -/

namespace Sys2Proof.Machine
open Sys2Proof

/-! ### Source codes (R137) -/

/-- The code a binding calls for (R137). -/
def State.sourceCode (s : State) (b : OutputBinding) (k fixed : Nat) : Nat :=
  match b with
  | .none => 0
  | .light => match index 32 k with | some i => (s.lsq.channels.get i).level | none => 0
  | .sink =>
    match index 12 k with
    | some i => min 4095 ((s.hra.sinks.get i).grant * 4095 / (s.cfg.sinks.get i).fullOpen)
    | none => 0
  | .zoneDemand => match index 4 k with | some i => (s.cdm.get i).demand * 4095 / 1000 | none => 0
  | .fan =>
    match index 4 k with
    | some i => if (s.cdm.get i).state = .risk ∨ (s.cdm.get i).state = .fog then 4095 else 0
    | none => 0
  | .sheetAlarm => match index 2 k with | some i => if (s.shm.get i).state = .critical then 4095 else 0 | none => 0
  | .backup => min 4095 (s.hra.backup * 4095 / s.cfg.backupFull)
  | .fixed => fixed

def State.outputSource (s : State) (i : Fin 16) : Nat :=
  let c := s.cfg.outputs.get i
  s.sourceCode c.binding c.index (s.ost.outputs.get i).fixed

def State.remoteSource (s : State) (i : Fin 32) : Nat :=
  let c := s.cfg.remotes.get i
  s.sourceCode c.binding c.index (s.ost.remotes.get i).fixed

/-! ### Local outputs (7.3) -/

/-- A driven output aims at its target (R139); with slew period 0 it takes it at once, also where a slew interval still runs at
an older period (DESIGN CHOICE, log entry 35). -/
def OutputRun.aim (c : OutputConfig) (o : OutputRun) : OutputRun :=
  if o.code = o.target then { o with timer := none }
  else if c.period = 0 ∨ c.binding = .light then { o with code := o.target, timer := none }
  else { o with timer := some (o.timer.getD c.period) }

/-- One move of `step` from `v` toward `target`, stopping at it. -/
def stepToward (step v target : Nat) : Nat :=
  if v < target then min target (v + step) else max target (v - step)

/-- An expiry of the slew timer (R139). -/
def OutputRun.slew (c : OutputConfig) (o : OutputRun) : OutputRun :=
  let code := stepToward c.step o.code o.target
  { o with code := code, timer := if code = o.target then none else some c.period }

/-- HIZ: the drive floats, the code is 0 and no slew runs (R140); so is the target (DESIGN CHOICE, log entry 34). -/
def OutputRun.float (o : OutputRun) : OutputRun :=
  { o with driven := false, code := 0, target := 0, timer := none }

/-- The output keeps the code it has as its target (R141, HOLD). -/
def OutputRun.keep (o : OutputRun) : OutputRun := { o with target := o.code, timer := none }

/-- A code and target taken at once. -/
def OutputRun.jump (v : Nat) (o : OutputRun) : OutputRun := { o with code := v, target := v, timer := none }

/-- The protect action of an output whose binding is not NONE, as at a trip (R141); `source` is its source code. -/
def OutputRun.takeAction (c : OutputConfig) (source : Nat) (o : OutputRun) : OutputRun :=
  match c.action with
  | .hold =>
    if c.binding = .light then { o.jump source with taken := some (.follow c.index) }
    else { o.keep with taken := some .hold }
  | .safe => { o.jump c.safe with taken := some .safe }
  | .hiz => { o.float with taken := some .hiz }

/-- An output takes a new source code that its source hands on (R137, R141). -/
def State.handOutput (i : Fin 16) (s : State) : State :=
  let c := s.cfg.outputs.get i
  let o := { s.ost.outputs.get i with source := s.outputSource i }
  let o' :=
    if !o.driven then o
    else if s.armed then ({ o with target := o.source } : OutputRun).aim c
    else match o.taken with
      | some (.follow k) => o.jump (s.sourceCode .light k 0)
      | _ => o
  { s with ost := { s.ost with outputs := s.ost.outputs.set i o' } }

/-! ### Remote entries (7.5) -/

/-- The configuration a remote entry goes by: the one in force at the trip while protect lasts (R143). -/
def State.remoteConfig (s : State) (i : Fin 32) : RemoteConfig :=
  match (s.ost.remotes.get i).taken with
  | some p => p.config
  | none => s.cfg.remotes.get i

def State.setRemote (i : Fin 32) (r : RemoteRun) (s : State) : State :=
  { s with ost := { s.ost with remotes := s.ost.remotes.set i r } }

/-- A request of a remote entry for its value (R144), or, as a protect COMMAND with priority 0, for its safe value (R146). -/
def State.requestRemote (protect : Bool) (i : Fin 32) (s : State) : State :=
  let c := s.remoteConfig i
  match (s.ost.remotes.get i).value with
  | none => s
  | some v =>
    let e : TxEntry := ⟨.command, c.node, c.point, v, if protect then 0 else c.priority, some i⟩
    let (answer, s1) := s.enqueue protect e
    let r := s1.ost.remotes.get i
    if answer = .dropped then s1.setRemote i { r with dirty := true }
    else s1.setRemote i { r with last := some v, dirty := false, timer := c.refresh }

/-- A new value of an entry: requested in RUN (R144); in WAITING it is only kept (R148). The value it has already is no change
(DESIGN CHOICE for OUTPUT_SET, log entry 33). -/
def State.newRemoteValue (i : Fin 32) (v : Nat) (s : State) : State :=
  let r := s.ost.remotes.get i
  if r.value = some (v : Int) then s
  else
    let s1 := s.setRemote i { r with value := some (v : Int) }
    if s.phase = .run then s1.requestRemote false i else s1

/-- Whether an entry under protect follows its channel: a HOLD entry bound LIGHT (R146). -/
def RemoteProtect.follows (p : RemoteProtect) : Bool := !p.safe && p.config.binding == .light

/-- A remote entry takes the figure its source has now: bound and ARMED its source code (R144), following a channel under protect that
channel's level (R146). -/
def State.handRemote (i : Fin 32) (s : State) : State :=
  if s.armed then
    if (s.cfg.remotes.get i).binding = .none then s else s.newRemoteValue i (s.remoteSource i)
  else
    match (s.ost.remotes.get i).taken with
    | some p => if p.follows then s.newRemoteValue i (s.sourceCode .light p.config.index 0) else s
    | none => s

/-! ### Handing on (R137, R144) -/

/-- Whether an output takes up figures for the bindings in `bs`: for its own binding, whose source code is kept current in every
protect state (R137, R141), and for LIGHT while it follows a channel under protect. -/
def State.outputTakes (s : State) (bs : List OutputBinding) (i : Fin 16) : Bool :=
  bs.contains (s.cfg.outputs.get i).binding ||
    (bs.contains .light && match (s.ost.outputs.get i).taken with | some (.follow _) => true | _ => false)

/-- A block hands on figures for the bindings in `bs`: the local outputs take them up at once (R137). The remote entries take theirs up
at the end of the event (`handRemotes`). -/
def State.handOn (bs : List OutputBinding) (s : State) : State :=
  forEach 16 (fun i st => if st.outputTakes bs i then st.handOutput i else st) s

/-- The remote entries that an event changed take up their figures and make their requests, in entry index order (R144). That this comes
once, at the end of the event, at the end of each pass of an event that runs several, and ahead of a trip in it, is DESIGN CHOICE (log
entry 42). -/
def State.handRemotes (s : State) : State := forEach 32 State.handRemote s

/-- Whether the source code of a bound entry is another than in an earlier state of the event. -/
def State.sourceMoved (before s : State) (i : Fin 32) : Bool :=
  (s.cfg.remotes.get i).binding != .none && s.remoteSource i != before.remoteSource i

/-- An entry at the end of an event whose source `moved` before the event's pass: it requests its last figure also where the pass has
brought that back to the value it had (R144; log entry 42). -/
def State.settleRemote (moved : Bool) (i : Fin 32) (s : State) : State :=
  if moved && s.armed && s.phase == .run && (s.ost.remotes.get i).value == some (s.remoteSource i : Int) then s.requestRemote false i
  else s.handRemote i

/-- The round of requests of an event that changed sources before its pass (R144). -/
def State.settleRemotes (moved : Fin 32 → Bool) (s : State) : State := forEach 32 (fun i => State.settleRemote (moved i) i) s

/-! ### Trip and clear (7.4, 7.6) -/

def State.setOutput (i : Fin 16) (o : OutputRun) (s : State) : State :=
  { s with ost := { s.ost with outputs := s.ost.outputs.set i o } }

/-- A local output at a trip (R141); one with binding NONE stays in HIZ. -/
def State.tripOutput (i : Fin 16) (s : State) : State :=
  let c := s.cfg.outputs.get i
  if c.binding = .none then s
  else
    let o := { s.ost.outputs.get i with source := s.outputSource i }
    s.setOutput i (o.takeAction c o.source)

/-- A remote entry takes its protect action (R146); `fresh` for an entry whose binding leaves NONE under protect, which takes
its source code as value (R143). -/
def State.tripRemote (fresh : Bool) (i : Fin 32) (s : State) : State :=
  let c := s.cfg.remotes.get i
  let r := s.ost.remotes.get i
  if c.binding = .none then s
  else
    match c.action with
    | .safe =>
      (s.setRemote i { r with value := some c.safe, taken := some ⟨true, c⟩ }).requestRemote true i
    | .hold =>
      let s1 := s.setRemote i { r with taken := some ⟨false, c⟩ }
      if c.binding = .light then s1.newRemoteValue i (s1.remoteSource i)
      else if fresh then
        (s1.setRemote i { r with taken := some ⟨false, c⟩, value := some (s1.remoteSource i : Int) }).requestRemote false i
      else
        match r.last with
        | some v => s1.setRemote i { r with taken := some ⟨false, c⟩, value := some v }
        | none => s1

/-- The Output Stage at a trip: local outputs, then remote entries in index order (R141, R146, R170). -/
def State.tripOutputs (s : State) : State :=
  forEach 32 (fun i st => st.tripRemote false i) (forEach 16 State.tripOutput s)

/-- A local output at the clear (R142). -/
def State.clearOutput (i : Fin 16) (s : State) : State :=
  let c := s.cfg.outputs.get i
  let o := s.ost.outputs.get i
  if c.binding = .none then s.setOutput i { o with taken := none }
  else
    let source := s.outputSource i
    s.setOutput i (({ o with driven := true, taken := none, source := source, target := source } : OutputRun).aim c)

/-- A refresh timer under the configuration that comes into force at the clear, before the entry's request: stopped for period 0, started
when it was stopped; a running one keeps its remaining time (DESIGN CHOICE, log entry 40). -/
def refreshFrom (timer period : Nat) : Nat := if period = 0 then 0 else if timer = 0 then period else timer

/-- A remote entry at the clear (R147). -/
def State.clearRemote (i : Fin 32) (s : State) : State :=
  let c := s.cfg.remotes.get i
  let r := s.ost.remotes.get i
  if c.binding = .none then s.setRemote i { r with taken := none }
  else
    let v := s.remoteSource i
    (s.setRemote i { r with taken := none, value := some (v : Int), timer := refreshFrom r.timer c.refresh }).requestRemote false i

def State.clearOutputs (s : State) : State :=
  forEach 32 State.clearRemote (forEach 16 State.clearOutput s)

/-! ### WRITEs (R135, R140, R143) -/

/-- The effect of an accepted OUTPUTS WRITE; the new configuration already stands, `wasNone` says whether the old binding was NONE. -/
def State.outputWritten (wasNone : Bool) (i : Fin 16) (s : State) : State :=
  let c := s.cfg.outputs.get i
  let source := s.outputSource i
  let o := { s.ost.outputs.get i with source := source }
  let o' :=
    if c.binding = .none then { o.float with taken := none }
    else if s.phase != .run then o
    else if s.armed then
      if o.driven then ({ o with target := source } : OutputRun).aim c
      else ({ o with driven := true, code := 0, target := source } : OutputRun).aim c
    else if wasNone then ({ o with driven := true, code := 0 } : OutputRun).takeAction c source
    else o
  s.setOutput i o'

/-- The effect of an accepted REMOTES WRITE (R143). -/
def State.remoteWritten (wasNone : Bool) (i : Fin 32) (s : State) : State :=
  let c := s.cfg.remotes.get i
  let r := s.ost.remotes.get i
  if c.binding = .none then
    s.setRemote i { r with value := none, last := none, dirty := false, timer := 0, taken := none }
  else if s.phase != .run then s.setRemote i { r with value := some (s.remoteSource i : Int) }
  else if s.armed then
    (s.setRemote i { r with value := some (s.remoteSource i : Int), timer := c.refresh }).requestRemote false i
  else if wasNone then (s.setRemote i { r with timer := c.refresh }).tripRemote true i
  else s

/-! ### START, LOAD, refresh (R140, R145, R148, R149) -/

/-- Outputs and entries at START (R140, R148). -/
def State.startOutputs (s : State) : State :=
  let startOutput (i : Fin 16) (st : State) : State :=
    let c := st.cfg.outputs.get i
    if c.binding = .none then st
    else
      let source := st.outputSource i
      st.setOutput i (({ st.ost.outputs.get i with driven := true, code := 0, source := source, target := source } : OutputRun).aim c)
  let startRemote (i : Fin 32) (st : State) : State :=
    let c := st.cfg.remotes.get i
    if c.binding = .none then st
    else
      let r := st.ost.remotes.get i
      (st.setRemote i { r with value := some (st.remoteSource i : Int), timer := c.refresh }).requestRemote false i
  forEach 32 startRemote (forEach 16 startOutput s)

/-- Outputs and entries at a LOAD; the loaded configuration already stands (R149). The refresh timer of an entry whose loaded binding is
NONE stops (DESIGN CHOICE, log entry 43). -/
def State.loadOutputs (s : State) : State :=
  let loadOutput (i : Fin 16) (st : State) : State := st.outputWritten false i
  let loadRemote (i : Fin 32) (st : State) : State :=
    let c := st.cfg.remotes.get i
    let r := st.ost.remotes.get i
    if c.binding = .none then st.setRemote i { r with value := none, timer := 0 }
    else
      let s1 := st.setRemote i { r with
        value := some (st.remoteSource i : Int), timer := if st.phase = .run then c.refresh else 0 }
      if st.phase = .run then s1.requestRemote false i else s1
  forEach 32 loadRemote (forEach 16 loadOutput s)

/-- An expiry of an entry's refresh timer (R145, R146). -/
def State.refreshRemote (i : Fin 32) (s : State) : State :=
  let r := s.ost.remotes.get i
  let c := s.remoteConfig i
  if s.phase != .run || r.timer == 0 then s
  else
    let s1 := s.setRemote i { r with timer := c.refresh }
    let clean := !r.dirty
    match r.taken with
    | some ⟨true, _⟩ =>
      if r.dirty then s1.requestRemote true i
      else if s.busState = .active then s1.requestRemote false i
      else s1
    | _ => if clean && s.busState != .active then s1 else s1.requestRemote false i

end Sys2Proof.Machine
end

