-- ==== Sys2Proof/Machine/Lighting.lean ====
section
/-! DEFINITION. The Lighting Sequencer (06): demand load and derate, targets and fades, scenes, effects, protect actions. -/

namespace Sys2Proof.Machine
open Sys2Proof

/-! ### Demand load and derate (6.5) -/

/-- The demand level: effect high while an effect runs, base target otherwise (R123). -/
def ChannelRun.demandLevel (r : ChannelRun) : Nat :=
  match r.effect with | some e => e.high | none => r.base

/-- The demand load in watts, rounded up (R123). -/
def demandLoad (c : ChannelConfig) (r : ChannelRun) : Nat := ceilDiv (c.coefficient * r.demandLevel) 4095

/-- L_up of a sheet (R123). -/
def State.lUp (s : State) (sh : Fin 2) : Nat :=
  sumOver 32 fun i =>
    let c := s.cfg.channels.get i
    if c.sheet = some sh then demandLoad c (s.lsq.channels.get i) else 0

/-- D (R125). -/
def derateOf (allowance : Power) (lUp : Nat) : Nat :=
  match allowance with
  | .unlimited => 1000
  | .watts w => if lUp ≤ w then 1000 else w * 1000 / lUp

/-- L_up and D of a sheet are recomputed, with the DERATE notice (R124, R127). -/
def State.relightSheet (sh : Fin 2) (s : State) : State :=
  let l := s.lsq.sheets.get sh
  let up := s.lUp sh
  let d := derateOf l.allowance up
  let s1 : State := { s with lsq := { s.lsq with sheets := s.lsq.sheets.set sh { l with lUp := up, derate := d } } }
  s1.noticeIf ((l.derate == 1000) != (d == 1000)) .derate sh.val d

/-- The derate factor of a channel: 1000 with sheet none (R125). -/
def State.channelDerate (s : State) (c : ChannelConfig) : Nat :=
  match c.sheet with | some sh => (s.lsq.sheets.get sh).derate | none => 1000

/-- A level held to the allowance, never below the egress floor (R125). -/
def derated (floor d level : Nat) : Nat := max floor (level * d / 1000)

/-- The effective target while protect is ARMED (R125). -/
def State.effectiveTarget (s : State) (i : Fin 32) : Nat :=
  let c := s.cfg.channels.get i
  derated c.floor (s.channelDerate c) (s.lsq.channels.get i).base

/-! ### Fades (6.2) -/

/-- A channel whose target was set compares it with its level (R112); fades run only in RUN (R132), and a channel with an effect
follows its generator (R119). With period in use 0 it takes the target at once where `jumps`; in the event of a LOAD, which changes
no level (R134), it starts an interval of 0 ms instead (DESIGN CHOICE, log entry 19). -/
def ChannelRun.aim (running jumps : Bool) (r : ChannelRun) : ChannelRun :=
  if r.effect.isSome || !running then r
  else if r.level = r.target then { r with timer := none }
  else if r.period = 0 ∧ jumps = true then { r with level := r.target, timer := none }
  else { r with timer := some (r.timer.getD r.period) }

/-- An expiry of the step timer (R112). -/
def ChannelRun.stepFade (r : ChannelRun) : ChannelRun :=
  let level := stepToward r.step r.level r.target
  { r with level := level, timer := if level = r.target then none else some r.period }

def State.mapChannels (f : Fin 32 → ChannelRun → ChannelRun) (s : State) : State :=
  { s with lsq := { s.lsq with channels := s.lsq.channels.mapIdx f } }

def State.setChannel (i : Fin 32) (r : ChannelRun) (s : State) : State :=
  { s with lsq := { s.lsq with channels := s.lsq.channels.set i r } }

/-- The chosen channels take their new effective targets; under protect the targets stay (R124, R128). -/
def State.setTargets (chosen : Fin 32 → Bool) (s : State) : State :=
  if s.armed then s.mapChannels fun i r => if chosen i then { r with target := s.effectiveTarget i } else r
  else s

/-- The chosen channels aim at their targets (R112). -/
def State.aimChannels (jumps : Bool) (chosen : Fin 32 → Bool) (s : State) : State :=
  s.mapChannels fun i r => if chosen i then r.aim (s.phase == .run) jumps else r

/-- Channels of the sheets in `shs`. -/
def State.onSheets (s : State) (shs : List (Fin 2)) (i : Fin 32) : Bool :=
  match (s.cfg.channels.get i).sheet with | some sh => shs.contains sh | none => false

/-- L_up and D of the given sheets are recomputed (R124). That the sheets, and so their DERATE notices of one event, come in index order
is DESIGN CHOICE (log entry 12). -/
def State.relight (shs : List (Fin 2)) (s : State) : State :=
  forEach 2 (fun sh st => if shs.contains sh then st.relightSheet sh else st) s

/-- An event that changed what the given sheets demand, or their allowance: L_up and D, then every target of the sheets and of the
chosen channels, then the fades (R124). Levels are handed on by the caller. -/
def State.relightAndAim (jumps : Bool) (shs : List (Fin 2)) (also : Fin 32 → Bool) (s : State) : State :=
  let s1 := s.relight shs
  let chosen (i : Fin 32) : Bool := s1.onSheets shs i || also i
  let s2 := s1.setTargets chosen
  if s.armed then s2.aimChannels jumps chosen else s2

/-- The sheet of a channel, as a list. -/
def State.sheetsOf (s : State) (i : Fin 32) : List (Fin 2) := (s.cfg.channels.get i).sheet.toList

/-- Channel levels are handed to the Output Stage's local outputs (R112, R137). -/
def State.handLevels (s : State) : State := s.handOn [.light]

/-- A published allowance is received (R124); under protect it moves no target (R128). -/
def State.receiveAllowance (jumps : Bool) (sh : Fin 2) (a : Power) (s : State) : State :=
  let l := s.lsq.sheets.get sh
  let s1 : State := { s with lsq := { s.lsq with sheets := s.lsq.sheets.set sh { l with allowance := a } } }
  (s1.relightAndAim jumps [sh] fun _ => false).handLevels

/-! ### Setting, scenes, effects (6.2 to 6.4) -/

/-- Step and period in use become the channel's own (R114, R122, R131). -/
def ChannelRun.ownStep (c : ChannelConfig) (r : ChannelRun) : ChannelRun := { r with step := c.step, period := c.period }

/-- A channel takes a base target and its own step; a running effect stops (R114, R122). -/
def State.setBase (i : Fin 32) (level : Nat) (s : State) : State :=
  let c := s.cfg.channels.get i
  let r := s.lsq.channels.get i
  let s1 := s.setChannel i (({ r with base := level, effect := none } : ChannelRun).ownStep c)
  ((s1.relightAndAim true (s.sheetsOf i) (· == i)).handLevels).handRemotes

/-- Step and period in use of a recalled channel, `delta` away from its target (R117). -/
def recallStep (c : ChannelConfig) (fade : Option Nat) (delta : Nat) : Nat × Nat :=
  match fade with
  | none => (c.step, c.period)
  | some 0 => (c.step, 0)
  | some f =>
    let period := if c.period = 0 then 20 else c.period
    (clampNat 1 4095 (ceilDiv (delta * period) (f * 100)), period)

def natDistance (a b : Nat) : Nat := (a - b) + (b - a)

/-- What a scene recall does to the lights while protect is ARMED (R116): base targets, L_up and D of both sheets with every target, then
steps and fades. -/
def State.recallLights (k : Fin 24) (fade : Option Nat) (s : State) : State :=
  let scene := s.cfg.scenes.get k
  let f := match fade with | some x => some x | none => scene.fade
  let present (i : Fin 32) : Bool := (scene.levels.get i).isSome
  let s1 := s.mapChannels fun i r =>
    match scene.levels.get i with
    | some level => { r with base := level, effect := none }
    | none => r
  let s2 := (s1.relight [0, 1]).setTargets fun _ => true
  let s3 := s2.mapChannels fun i r =>
    if present i then
      let sp := recallStep (s.cfg.channels.get i) f (natDistance r.target r.level)
      { r with step := sp.1, period := sp.2 }
    else r
  (s3.aimChannels true fun _ => true).handLevels

/-- A scene recall as an event of its own (R116, R144). -/
def State.recall (k : Fin 24) (fade : Option Nat) (s : State) : State := (s.recallLights k fade).handRemotes

/-- The SINE table reading S at phase `phi` of a cycle of `p` ms (R121). -/
def sineAt (p phi : Nat) : Nat :=
  let half := p / 2
  let x := if phi < half then phi else p - phi
  let j := 16 * x / half
  if j ≥ 16 then 1000
  else
    let a := Config.sine.getD j 0
    let b := Config.sine.getD (j + 1) 0
    a + (b - a) * (16 * x - j * half) / half

/-- The level of a shape at a phase, from the effective low and high (R120, R121). -/
def shapeLevel (shape : Shape) (p duty low high phi : Nat) : Nat :=
  match shape with
  | .sawtooth => low + (high - low) * phi / p
  | .triangle => if 2 * phi < p then low + (high - low) * (2 * phi) / p else low + (high - low) * (2 * (p - phi)) / p
  | .pulse => if phi * 1000 < duty * p then high else low
  | .sine => low + (high - low) * sineAt p phi / 1000

/-- The level of a running effect at its present phase (R119, R125). -/
def State.sampleLevel (s : State) (i : Fin 32) (e : Effect) : Nat :=
  let c := s.cfg.channels.get i
  let d := s.channelDerate c
  shapeLevel e.shape (e.period * 100) (e.duty.getD 0) (derated c.floor d e.low) (derated c.floor d e.high) e.phase

/-- The channel takes the sample at its effect's present phase (R119). -/
def State.takeSample (i : Fin 32) (s : State) : State :=
  let r := s.lsq.channels.get i
  match r.effect with
  | some e => s.setChannel i { r with level := s.sampleLevel i e }
  | none => s

/-- An effect starts on a channel (R118). -/
def State.startEffect (i : Fin 32) (e : Effect) (s : State) : State :=
  let r := s.lsq.channels.get i
  let s1 := s.setChannel i { r with effect := some e, timer := none }
  let s2 := s1.relightAndAim true (s.sheetsOf i) (· == i)
  (if s.phase = .run then (s2.takeSample i).handLevels else s2.handLevels).handRemotes

/-- The phase 20 ms later, wrapping to 0 at the period (R119). -/
def Effect.advance (e : Effect) : Effect :=
  let phi := e.phase + 20
  { e with phase := if e.period * 100 ≤ phi then 0 else phi, untilSample := 20 }

/-- A sample 20 ms after the one before (R119). -/
def State.nextSample (i : Fin 32) (s : State) : State :=
  let r := s.lsq.channels.get i
  match r.effect with
  | some e => (((s.setChannel i { r with effect := some e.advance }).takeSample i).handLevels).handRemotes
  | none => s

/-- The effect of an accepted CHANNELS WRITE; the new configuration already stands, `old` is the sheet named before (R111). A step
period of 0 ends a running interval and jumps (DESIGN CHOICE, log entry 19). -/
def State.channelWritten (old : Option (Fin 2)) (i : Fin 32) (s : State) : State :=
  let shs := s.sheetsOf i ++ old.toList
  if s.armed then
    let s1 := s.setChannel i ((s.lsq.channels.get i).ownStep (s.cfg.channels.get i))
    ((s1.relightAndAim true shs (· == i)).handLevels).handRemotes
  else s.relight shs

/-! ### Trip, clear, START, LOAD (6.6, 6.7) -/

/-- The protect target, step and period of a channel at a trip (R128). -/
def ChannelRun.takeAction (c : ChannelConfig) (p : ProtectSettings) (r : ChannelRun) : ChannelRun :=
  let r1 : ChannelRun := { r with taken := some c.action }
  match c.action with
  | .hold => { r1 with target := r.level, step := c.step, period := 0 }
  | .egress => { r1 with target := c.floor, step := p.step, period := p.period }
  | .stored => { r1 with target := c.safe, step := c.step, period := 0 }
  | .off => { r1 with target := 0, step := c.step, period := 0 }

/-- A running effect stops, and its level becomes the base target (R128). -/
def ChannelRun.stopEffect (r : ChannelRun) : ChannelRun :=
  match r.effect with
  | some _ => { r with base := r.level, effect := none }
  | none => r

/-- The Lighting Sequencer at a trip (R128): effects stop, L_up and D are recomputed, every channel takes its action and aims. The
levels are taken up by the Output Stage's own trip (R141, R146). Whether the egress fades have arrived is recorded (R129). -/
def State.tripChannels (s : State) : State :=
  let s1 := (s.mapChannels fun _ r => r.stopEffect).relight [0, 1]
  let s2 := s1.mapChannels fun i r =>
    (r.takeAction (s.cfg.channels.get i) s.cfg.protect).aim true true
  { s2 with pru := { s2.pru with arrived := s2.egressArrived } }

/-- The Lighting Sequencer at the clear (R131). The levels are taken up by the Output Stage's own clear, which follows (R142, R147,
R173). -/
def State.clearChannels (s : State) : State :=
  let s1 := s.mapChannels fun i r => ({ r with base := r.level, taken := none } : ChannelRun).ownStep (s.cfg.channels.get i)
  ((s1.relight [0, 1]).setTargets fun _ => true).aimChannels true fun _ => true

/-- Fades and effects at START (R132). -/
def State.startChannels (s : State) : State :=
  let s1 := s.aimChannels true fun _ => true
  (forEach 32 State.takeSample s1).handLevels

/-- The Lighting Sequencer at a LOAD; the loaded configuration already stands, and no level changes (R134). -/
def State.loadChannels (s : State) : State :=
  let s1 := s.mapChannels fun i r => r.ownStep (s.cfg.channels.get i)
  ((s1.relight [0, 1]).setTargets fun _ => true).aimChannels false fun _ => true

end Sys2Proof.Machine
end

