-- ==== Sys2Proof/Machine/Heat.lean ====
section
/-! DEFINITION. The Heat Allocator (05): requests, the allocation pass in its eight steps, energy, and the heat hold. -/

namespace Sys2Proof.Machine
open Sys2Proof

/-! ### Requests (5.4) -/

/-- The zones that a predicate on configuration and record chooses, among the enabled ones. -/
def State.someZone (s : State) (p : ZoneConfig → ZoneRun → Bool) : Bool :=
  (List.finRange 4).any fun z => (s.cfg.zones.get z).enabled && p (s.cfg.zones.get z) (s.cdm.get z)

def ZoneState.atRisk (z : ZoneState) : Bool := z == .risk || z == .fog

/-- The largest demand among the zones served by regeneration, 0 when none is (R91). -/
def State.servedDemand (s : State) : Nat :=
  ((List.finRange 4).map fun z =>
    let c := s.cfg.zones.get z
    if c.enabled && c.servedRegen then (s.cdm.get z).demand else 0).foldl max 0

/-- A zone served by regeneration is in RISK or FOG (R91). -/
def State.regenPromoted (s : State) : Bool := s.someZone fun c z => c.servedRegen && z.state.atRisk

/-- A zone served by ceiling heat is in RISK or FOG with limiting surface CEILING (R92). -/
def State.ceilingCalled (s : State) : Bool :=
  s.someZone fun c z => c.servedCeiling && z.state.atRisk && z.limiting == some .ceiling

/-- Occupied seats of a STANDS sink (R93). -/
def State.occupied (s : State) (c : SinkConfig) : Nat :=
  match c.occupancy with
  | none => c.occupancyFull
  | some p =>
    match s.usableValue .occupancy p with
    | none => c.occupancyFull
    | some v => min v.toNat c.occupancyFull

/-- The heave request a HEAVE sink follows; MIN with sheet none (R89). -/
def State.heaveOf (s : State) (c : SinkConfig) : Heave :=
  match c.sheet with | some sh => (s.shm.get sh).heave | none => .min

/-- Either tank reheat timer runs, as last informed (R90). -/
def State.tankCalled (s : State) : Bool :=
  (s.hra.sheets.get 0).tankRunning || (s.hra.sheets.get 1).tankRunning

/-- Request max of a sink (R88 to R93); 0 when disabled. -/
def State.requestMax (s : State) (c : SinkConfig) : Nat :=
  if !c.enabled then 0
  else
    match c.kind with
    | .heave => if s.heaveOf c = .max then c.max else c.min
    | .tank => if s.tankCalled then c.max else c.min
    | .regen => c.max * s.servedDemand / 1000
    | .ceiling => if s.ceilingCalled then c.max else 0
    | .stands => c.max * s.profile.standsPercent * s.occupied c / (100 * c.occupancyFull)
    | .fixed => c.max

/-- Request min of a sink (R88, R89). -/
def State.requestMin (s : State) (c : SinkConfig) : Nat :=
  match c.kind with
  | .heave => s.requestMax c
  | _ => min c.min (s.requestMax c)

/-- Class in force of a sink (R88, R91, R93). -/
def State.classInForce (s : State) (c : SinkConfig) : SinkClass :=
  if !c.enabled then c.cls
  else
    match c.kind with
    | .regen => if s.regenPromoted then .protective else c.cls
    | .stands => s.profile.standsClass
    | _ => c.cls

def State.setSinks (t : Table SinkRun 12) (s : State) : State := { s with hra := { s.hra with sinks := t } }

/-- The request and class in force of the chosen sinks are recomputed; no grant, status or shortfall changes (R88). -/
def State.recompute (chosen : SinkConfig → Bool) (s : State) : State :=
  s.setSinks (s.hra.sinks.mapIdx fun i r =>
    let c := s.cfg.sinks.get i
    if chosen c then { r with reqMin := s.requestMin c, reqMax := s.requestMax c, cls := s.classInForce c } else r)

/-- Recomputation of the sinks of some kinds. -/
def State.recomputeKinds (ks : List SinkKind) (s : State) : State := s.recompute fun c => ks.contains c.kind

/-! ### Pool (R86) -/

/-- The heat value used; none in the rows that give 0 for want of a value (R86). -/
def State.heatValue (s : State) : Option Nat :=
  match s.cfg.allocator.heatPoint with
  | none => none
  | some p =>
    match s.pointOfKind .heatFlow p with
    | none => none
    | some r => if r.quality.usable || r.quality == .suspect then r.value.map Int.toNat else none

def poolOf (heat : Option Nat) (reserve : Nat) : Nat := min 30000 (heat.getD 0 - reserve)

/-! ### Caps (R96) -/

/-- The figures a pass forms for a sheet from its budget (R96). -/
def sheetFigures (b : Power) (lUp share : Nat) (h : SheetHeat) : SheetHeat :=
  match b with
  | .unlimited => { h with budget := some .unlimited, lUp := none, reserve := none, cap := some .unlimited }
  | .watts w =>
    let r := min lUp (w * share / 1000)
    { h with budget := some (.watts w), lUp := some lUp, reserve := some r, cap := some (.watts (w - r)) }

/-! ### Grants (R97 to R100) -/

/-- What a pass carries from member to member: the pool left, the remaining caps, the total spills, and the records. -/
structure Round where
  pool : Nat
  caps : Table Power 2
  spills : Table Nat 2
  sinks : Table SinkRun 12
deriving DecidableEq, Repr

/-- The cap that limits a sink: a STANDS sink with spill above 0 on a sheet with a finite remaining cap (R98). -/
def Round.capOf (r : Round) (c : SinkConfig) : Option (Fin 2 × Nat) :=
  match c.kind, c.sheet with
  | .stands, some sh =>
    match r.caps.get sh with
    | .watts w => some (sh, w)
    | .unlimited => none
  | _, _ => none

/-- Effective max (R98). -/
def Round.effectiveMax (r : Round) (c : SinkConfig) (reqMax : Nat) : Nat :=
  match r.capOf c with
  | some (_, w) => if 0 < c.spill then min reqMax (w * 10 / c.spill) else reqMax
  | none => reqMax

/-- Grant, status and shortfall of a member: the first row of R98 that applies. -/
def decideGrant (held : Bool) (pool : Nat) (k : SinkRun) (effective : Nat) : Nat × SinkStatus × Nat :=
  if held then (0, .held, 0)
  else if k.reqMax = 0 then (0, .idle, 0)
  else if effective < k.reqMin then (0, .capped, 0)
  else if k.reqMin ≤ pool then
    let g := min pool effective
    (g, if g = k.reqMax then .served else .partly, 0)
  else
    match k.cls with
    | .protective => (pool, .short, k.reqMin - pool)
    | .event => (0, .short, k.reqMin)
    | .comfort => (0, .short, 0)
    | .store => (0, .short, 0)

/-- The spill of a grant in watts, rounded up (R99). -/
def spillOf (grant spill : Nat) : Nat := ceilDiv (grant * spill) 10

/-- A member is taken: its grant is decided and leaves the pool, its spill leaves its sheet's cap (R98, R99). So does the spill of a
STANDS sink that is SHORT with the grant P in class PROTECTIVE, against R99's words on SHORT sinks (DESIGN CHOICE, log entry 39). -/
def Round.takeMember (hold : Bool) (c : SinkConfig) (i : Fin 12) (r : Round) : Round :=
  let k := r.sinks.get i
  let (g, st, sf) := decideGrant (hold && c.kind == .stands) r.pool k (r.effectiveMax c k.reqMax)
  let r1 : Round := { r with
    pool := r.pool - g, sinks := r.sinks.set i { k with grant := g, status := st, shortfall := sf } }
  match r.capOf c with
  | some (sh, w) =>
    { r1 with
      caps := r1.caps.set sh (.watts (w - spillOf g c.spill))
      spills := r1.spills.modify sh (· + spillOf g c.spill) }
  | none => r1

/-- The indices in the order a class with this rotation start takes them (R97). -/
def rotated (start : Nat) : List (Fin 12) :=
  (List.finRange 12).filter (fun i => start ≤ i.val) ++ (List.finRange 12).filter (fun i => i.val < start)

/-- The members of a class in the order the pass takes them (R97). -/
def members (cfg : Table SinkConfig 12) (sinks : Table SinkRun 12) (cls : SinkClass) (start : Nat) : List (Fin 12) :=
  (rotated start).filter fun i => (cfg.get i).enabled && (sinks.get i).cls == cls

def classIndex : SinkClass → Fin 4
  | .protective => 0 | .event => 1 | .comfort => 2 | .store => 3

/-- A class was fully served: every member's grant equals its request max (R100). -/
def fullyServed (sinks : Table SinkRun 12) (ms : List (Fin 12)) : Bool :=
  ms.all fun i => (sinks.get i).grant == (sinks.get i).reqMax

/-- The rotation start after a class has been taken (R100). -/
def nextStart (sinks : Table SinkRun 12) (ms : List (Fin 12)) (start : Nat) : Nat :=
  match ms with
  | [] => start
  | i :: _ => if fullyServed sinks ms then start else (i.val + 1) % 12

def takeMembers (hold : Bool) (cfg : Table SinkConfig 12) (ms : List (Fin 12)) (r : Round) : Round :=
  ms.foldl (fun acc i => acc.takeMember hold (cfg.get i) i) r

/-- One class of the pass: the round, the rotation starts, and the order of the sinks taken so far (R97 to R100). -/
def takeClass (hold : Bool) (cfg : Table SinkConfig 12) (acc : Round × Table Nat 4 × List (Fin 12)) (cls : SinkClass) :
    Round × Table Nat 4 × List (Fin 12) :=
  let ms := members cfg acc.1.sinks cls (acc.2.1.get (classIndex cls))
  let r := takeMembers hold cfg ms acc.1
  (r, acc.2.1.modify (classIndex cls) (nextStart r.sinks ms), acc.2.2 ++ ms)

/-- Step 3 and step 4 over the four classes (R97 to R100). -/
def takeClasses (hold : Bool) (cfg : Table SinkConfig 12) (r : Round) (rotation : Table Nat 4) :
    Round × Table Nat 4 × List (Fin 12) :=
  sinkClasses.foldl (takeClass hold cfg) (r, rotation, [])

/-- What every pass gives a disabled sink (R98). -/
def SinkRun.disabledAtPass (hold : Bool) (c : SinkConfig) (k : SinkRun) : SinkRun :=
  { k with grant := 0, shortfall := 0, status := if hold && c.kind == .stands then .held else .idle }

def disabledSinks (cfg : Table SinkConfig 12) : List (Fin 12) :=
  (List.finRange 12).filter fun i => !(cfg.get i).enabled

/-- The records after steps 3 and 4, disabled sinks included. -/
def settleDisabled (hold : Bool) (cfg : Table SinkConfig 12) (sinks : Table SinkRun 12) : Table SinkRun 12 :=
  sinks.mapIdx fun i k => if (cfg.get i).enabled then k else k.disabledAtPass hold (cfg.get i)

/-! ### Backup and allowance (R102) -/

/-- Backup demand: the shortfalls of PROTECTIVE and EVENT sinks (R102). -/
def backupOf (sinks : Table SinkRun 12) : Nat :=
  sumOver 12 fun i =>
    let k := sinks.get i
    if k.cls = .protective ∨ k.cls = .event then k.shortfall else 0

/-- The allowance a pass publishes for a sheet (R102). -/
def allowanceOf (b : Power) (spill : Nat) : Power :=
  match b with | .unlimited => .unlimited | .watts w => .watts (w - spill)

/-! ### Energy (R104) -/

/-- One accumulator credited with a rate over an interval (R104). -/
def creditEnergy (rate dt total remainder : Nat) : Nat × Nat :=
  let t := rate * dt + remainder
  (min Config.maxWord (total + t / 360000), t % 360000)

def SinkRun.credit (dt : Nat) (k : SinkRun) : SinkRun :=
  let e := creditEnergy k.grant dt k.energy k.remainder
  { k with energy := e.1, remainder := e.2 }

def Energy.credit (rate dt : Nat) (e : Energy) : Energy :=
  let x := creditEnergy rate dt e.total e.remainder
  ⟨x.1, x.2⟩

/-- The fourteen accumulators credited with the interval that ends now (R104). -/
def Hra.credit (now : Nat) (h : Hra) : Hra :=
  let dt := now - h.credited
  { h with
    sinks := h.sinks.mapIdx fun _ k => k.credit dt
    rejectedEnergy := h.rejectedEnergy.credit h.rejected dt
    backupEnergy := h.backupEnergy.credit h.backup dt
    credited := now }

/-! ### The pass (5.6) -/

/-- The budgets that SHM hands over, recorded as the budget at last pass (R53, R96). -/
def State.takeBudgets (s : State) : State :=
  { s with shm := s.shm.mapIdx fun _ r => { r with atLastPass := some r.budget } }

/-- Steps 1 to 7 inside HRA: the allocator after the pass, and the order in which it took the sinks. -/
def State.allocate (s : State) : Hra × List (Fin 12) :=
  let h := s.hra.credit s.ms
  let heat := s.heatValue
  let pool := poolOf heat s.cfg.allocator.reserve
  let figures := Table.ofFn fun sh =>
    sheetFigures (s.shm.get sh).budget (s.lsq.sheets.get sh).lUp s.profile.lightingShare (h.sheets.get sh)
  let round : Round :=
    { pool := pool
      caps := figures.mapIdx fun _ f => f.cap.getD (.watts 0)
      spills := Table.const 2 0
      sinks := h.sinks }
  let out := takeClasses h.hold s.cfg.sinks round h.rotation
  let sinks := settleDisabled h.hold s.cfg.sinks out.1.sinks
  ({ h with
      sinks := sinks
      heatUsed := heat
      pool := pool
      rejected := out.1.pool
      backup := backupOf sinks
      sheets := figures.mapIdx fun sh f => { f with allowance := allowanceOf (s.shm.get sh).budget (out.1.spills.get sh) }
      rotation := out.2.1
      timer := s.cfg.allocator.period },
    out.2.2)

/-- The GRANT_SHORT notice of a sink, when its status entered or left SHORT (R103). -/
def State.grantNotice (before : Table SinkRun 12) (s : State) (i : Fin 12) : State :=
  let old := (before.get i).status
  let new := (s.hra.sinks.get i).status
  s.noticeIf ((old == .short) != (new == .short)) .grantShort i.val (codeOf sinkStatuses new)

/-- One allocation pass: energy, pool, caps, grants, rotation, allowances to the Lighting Sequencer, grants and backup demand to the
Output Stage, notices (R96 to R104). The order of the hand-overs is log entry 12; `jumps` is false in the event of a LOAD (R134). -/
def State.passWith (jumps : Bool) (s : State) : State :=
  let before := s.hra.sinks
  let wasBackup := s.hra.backup
  let out := s.allocate
  let s1 : State := { s.takeBudgets with hra := out.1 }
  let s2 := forEach 2 (fun sh st => st.receiveAllowance jumps sh (out.1.sheets.get sh).allowance) s1
  let s3 := s2.handOn [.sink, .backup]
  let s4 := (out.2 ++ disabledSinks s.cfg.sinks).foldl (State.grantNotice before) s3
  s4.noticeIf ((wasBackup == 0) != (out.1.backup == 0)) .backup 0 out.1.backup

/-- A pass as an event of its own (R94, R95, R144). -/
def State.pass (s : State) : State := (s.passWith true).handRemotes

/-- `n` triggers that came together, acted on in RUN only: so many passes one after the other, each an event that hands its results on,
with the requests of the entries it changed, before the next (R94, R103, R144). -/
def State.passes (jumps : Bool) : Nat → State → State
  | 0, s => s
  | n + 1, s => (if s.phase = .run then (s.passWith jumps).handRemotes else s).passes jumps n

/-- A trigger of a pass inside an event that makes one round of requests for its own changes and its pass: acted on in RUN only (R94). -/
def State.passTrigger (s : State) : State := if s.phase = .run then s.passWith true else s

/-! ### Events that trigger passes on the way (R53, R79, R94) -/

/-- What an event has come to so far: the state, and the passes that it has triggered. That the passes wait until every sheet, zone and
point of the event was served is DESIGN CHOICE (log entry 12). -/
structure Triggered where
  state : State
  passes : Nat
deriving DecidableEq, Repr

/-- The event goes on, and may trigger more. -/
def Triggered.and (x : Triggered) (f : State → Triggered) : Triggered :=
  let y := f x.state
  ⟨y.state, x.passes + y.passes⟩

/-- The event goes on without a trigger. -/
def Triggered.andThen (x : Triggered) (f : State → State) : Triggered := ⟨f x.state, x.passes⟩

/-- A condition of the event triggers one pass more. -/
def Triggered.triggerIf (b : Bool) (x : Triggered) : Triggered := ⟨x.state, x.passes + b.toNat⟩

/-- The things of an event one after the other, in index order. -/
def forEachTriggered (n : Nat) (f : Fin n → State → Triggered) (s : State) : Triggered :=
  forEach n (fun i x => x.and (f i)) ⟨s, 0⟩

/-- The end of the event: its passes, then the requests of the entries that it changed, where no pass has made them (R94, R144). -/
def Triggered.finish (x : Triggered) : State := (x.state.passes true x.passes).handRemotes

/-! ### Informs and the heat hold (R90, R106, R107) -/

/-- SHM informs HRA that a sheet's tank timer started or stopped (R58, R90). -/
def State.informTank (sh : Fin 2) (running : Bool) (s : State) : State :=
  let s1 : State := { s with hra := { s.hra with
    sheets := s.hra.sheets.modify sh fun h => { h with tankRunning := running } } }
  s1.recomputeKinds [.tank]

/-- The heat hold with its pass (R106, R107). -/
def State.setHold (on : Bool) (s : State) : State :=
  ({ s with hra := { s.hra with hold := on } } : State).passTrigger

end Sys2Proof.Machine
end

