-- ==== Sys2Proof/Machine/Store.lean ====
section
/-! DEFINITION. The Store Controller's snapshots (9.6): capture, choice of slot, the write, and reading by age. -/

namespace Sys2Proof.Machine
open Sys2Proof

/-- Every field of a snapshot taken from the owning blocks as they stand (R175). -/
def State.snapshotNow (ts : List Trigger) (s : State) : Snapshot :=
  { sequence := s.stc.nextSequence
    clock := s.scu.clock
    triggers := ts
    mode := s.scu.mode
    sheets := s.shm.mapIdx fun _ r => ⟨r.state, r.temp, r.budget⟩
    zones := s.cdm.mapIdx fun _ z => ⟨z.state, z.dewPoint, z.margin⟩
    grants := s.hra.sinks.mapIdx fun _ k => k.grant
    levels := s.lsq.channels.mapIdx fun _ c => c.level
    busState := s.busState
    txe := s.fbc.txe
    rxe := s.fbc.rxe }

/-- The VALID slots with their snapshots, in slot order. -/
def Stc.valid (c : Stc) : List (Fin 4 × Snapshot) :=
  (List.finRange 4).filterMap fun i => (c.slots.get i).map fun x => (i, x)

/-- The slot with the lowest sequence number, the lower slot on a tie (R177). -/
def oldest : List (Fin 4 × Snapshot) → Option (Fin 4)
  | [] => none
  | x :: xs => some (xs.foldl (fun b y => if y.2.sequence < b.2.sequence then y else b) x).1

/-- The slot a snapshot write goes to (R177): the lowest EMPTY slot, or else the oldest. -/
def Stc.target (c : Stc) : Fin 4 :=
  match (List.finRange 4).find? fun i => (c.slots.get i).isNone with
  | some i => i
  | none => (oldest c.valid).getD 0

/-- The write of the pending snapshot begins, and its slot reads as EMPTY (R175, R177). -/
def Stc.beginWrite (c : Stc) : Stc :=
  match c.snapshot with
  | some x =>
    let i := c.target
    { c with op := .snapshot, slots := c.slots.set i none, writing := some (i, x), snapshot := none }
  | none => c

/-- A snapshot is pending or being written (R170, R176). -/
def Stc.holdsSnapshot (c : Stc) : Bool := c.snapshot.isSome || c.writing.isSome

/-- A capture (R175). -/
def State.capture (ts : List Trigger) (s : State) : State :=
  let c : Stc := { s.stc with
    snapshot := some (s.snapshotNow ts)
    nextSequence := min Config.maxWord (s.stc.nextSequence + 1) }
  { s with stc := if c.op = .none then c.beginWrite else c }

/-- STC at a reset: image and slots kept, the image bad when a SAVE was cut off, and the next sequence number from the slots
(R177, R179, R200). -/
def Stc.afterReset (c : Stc) : Stc :=
  { op := .none
    image := if c.op = .save then none else c.image
    saving := none
    slots := c.slots
    snapshot := none
    writing := none
    nextSequence := min Config.maxWord ((c.valid.map fun x => x.2.sequence).foldl max 0 + 1) }

/-- `a` is newer than `b`: higher sequence number, or the higher slot on a tie (R178). -/
def newer (a b : Fin 4 × Snapshot) : Bool :=
  b.2.sequence < a.2.sequence || (a.2.sequence == b.2.sequence && b.1.val < a.1.val)

/-- The VALID snapshot that is `k`-th newest (R178). -/
def Stc.newest (c : Stc) (k : Nat) : Option Snapshot :=
  ((c.valid.find? fun x => (c.valid.filter fun y => newer y x).length == k)).map Prod.snd

end Sys2Proof.Machine
end

