-- ==== Sys2Proof/Machine/Protect.lean ====
section
/-! DEFINITION. The Protect Unit (09): triggers, the trip, the HELD test, the clear, and the egress key. -/

namespace Sys2Proof.Machine
open Sys2Proof

def State.setPru (p : Pru) (s : State) : State := { s with pru := p }

/-- A PROTECT notice (R174). -/
def State.protectNotice (subject : Nat) (s : State) : State :=
  s.notice .protect subject (codeOf protectStates s.pru.state)

/-- Subject of a notice that names no trigger (R174). -/
def noTrigger : Nat := 6

/-- The HELD test (R172). -/
def State.heldTest (s : State) : State :=
  if s.pru.state = .tripped ∧ s.pru.arrived = true ∧ s.protectEntries = 0 ∧ s.busState ≠ .isolated
      ∧ s.fbc.handOver ≠ .released then
    (s.setPru { s.pru with state := .held }).protectNotice noTrigger
  else s

/-- Step 3 of a trip: a snapshot is captured unless one is pending or being written (R170, R175). -/
def State.captureAtTrip (ts : List Trigger) (s : State) : State :=
  if s.stc.holdsSnapshot then s else s.capture ts

/-- A trip with its seven steps (R170). -/
def State.trip (ts : List Trigger) (s : State) : State :=
  let s1 := s.setPru { s.pru with state := .tripped, triggers := ts, arrived := false }
  let s2 := ts.foldl (fun st t => st.protectNotice (codeOf triggers t)) s1
  (((((s2.captureAtTrip ts).tripChannels).tripOutputs).setHold true)).heldTest

/-- A trigger is raised (R167, R171): ignored outside RUN, gathered during a LOAD, a trip when ARMED, else it joins the set. -/
def State.raise (t : Trigger) (s : State) : State :=
  if s.phase ≠ .run then s
  else if s.stc.op = .load then s.setPru { s.pru with deferred := insertTrigger t s.pru.deferred }
  else if s.pru.state = .armed then s.trip [t]
  else if s.pru.triggers.contains t then s
  else (s.setPru { s.pru with triggers := insertTrigger t s.pru.triggers }).protectNotice (codeOf triggers t)

/-- The number of active point triggers went from `before` to what it is now (R16, R167). -/
def State.pointsRaised (before : Nat) (s : State) : State :=
  if before = 0 ∧ s.pointTriggers ≠ 0 then s.raise .point else s

/-- The clear, once accepted (R173). -/
def State.clearProtect (s : State) : State :=
  let s1 := (s.setPru { s.pru with state := .armed, triggers := [], arrived := false }).protectNotice noTrigger
  (((s1.clearChannels).clearOutputs).setHold false).handRemotes

/-! ### The egress key (R168) -/

/-- KEY becomes active. -/
def State.keySpent (s : State) : State :=
  (s.setPru { s.pru with key := .spent, keyTimer := 0 }).raise .key

/-- A counted press in RUN (R168). -/
def State.pressCounted (s : State) : State :=
  if s.profile.keyBypass then s.keySpent
  else s.setPru { s.pru with key := .timing, keyTimer := s.cfg.protect.keyHold * 100 }

def State.pressKey (s : State) : State :=
  match s.pru.key with
  | .released => if s.phase = .run then s.pressCounted else s.setPru { s.pru with key := .timing, keyTimer := 0 }
  | _ => s

def State.releaseKey (s : State) : State :=
  match s.pru.key with
  | .released => s
  | _ => s.setPru { s.pru with key := .released, keyTimer := 0 }

/-- The hold timer runs in TIMING in RUN only (R168). -/
def State.expireKey (s : State) : State :=
  if s.pru.key = .timing ∧ s.pru.keyTimer ≠ 0 then s.keySpent else s

/-- Protect at START (R168, R171): a trip with every active level trigger, then a key in TIMING as a press taken now. -/
def State.evaluateProtect (s : State) : State :=
  let ts := s.activeTriggers
  let s1 := if ts.isEmpty then s else s.trip ts
  if s1.pru.key = .timing then s1.pressCounted else s1

end Sys2Proof.Machine
end

