-- ==== Sys2Proof/Machine/Zones.lean ====
section
/-! DEFINITION. The Condensation Monitor (04): dew point, margins, states, demand, and the handing on of a zone. -/

namespace Sys2Proof.Machine
open Sys2Proof

/-! ### The dew point (4.3) -/

def saturationAt (k : Nat) : Nat := Config.saturation.getD k 0

/-- Stage 2: the saturation pressure at a clamped air temperature, -3000..4000 cd (R70). -/
def saturationPressure (ta : Int) : Nat :=
  if ta = 4000 then saturationAt 14
  else
    let x := (ta + 3000).toNat
    let k := x / 500
    saturationAt k + (saturationAt (k + 1) - saturationAt k) * (x - 500 * k) / 500

/-- The largest index with es[k] ≤ e, for 51 ≤ e (R71). -/
def saturationIndex (e : Nat) : Nat := (Config.saturation.filter (· ≤ e)).length - 1

/-- Stage 4: the temperature at which the vapour pressure would saturate, and the floor flag (R71). -/
def inverseSaturation (e : Nat) : Int × Bool :=
  if e < 51 then (-3000, true)
  else if 7381 ≤ e then (4000, false)
  else
    let k := saturationIndex e
    (-3000 + 500 * k + ((e - saturationAt k) * 500 / (saturationAt (k + 1) - saturationAt k) : Nat), false)

/-- The dew point and floor flag from the two readings, in the five stages of R70 to R72. -/
def dewPoint (airTemp airRh : Int) : Int × Bool :=
  let ta := clampInt (-3000) 4000 airTemp
  let rh := (clampInt 0 1000 airRh).toNat
  let e := saturationPressure ta * rh / 1000
  let d := inverseSaturation e
  (clampInt (-3000) ta d.1, d.2)

/-! ### Thresholds and levels (4.5) -/

/-- The danger order CLEAR < WATCH < RISK < FOG; UNKNOWN counts as CLEAR for the comparison (R76). -/
def ZoneState.rank : ZoneState → Nat
  | .clear => 0 | .watch => 1 | .risk => 2 | .fog => 3 | .unknown => 0

/-- Risk and watch thresholds in force (R74). -/
def riskThreshold (c : ZoneConfig) (flood : Bool) : Int := c.risk + (if flood then c.flood else 0 : Nat)
def watchThreshold (c : ZoneConfig) (flood : Bool) : Int := c.watch + (if flood then c.flood else 0 : Nat)

/-- The level of a margin against the thresholds raised by `extra`: U with 0, Dn with the hysteresis (R76). -/
def zoneLevel (c : ZoneConfig) (flood : Bool) (extra : Nat) (m : Int) : ZoneState :=
  if m ≤ extra then .fog
  else if m ≤ riskThreshold c flood + extra then .risk
  else if m ≤ watchThreshold c flood + extra then .watch
  else .clear

/-- The new state (R76). -/
def nextZoneState (c : ZoneConfig) (flood : Bool) (present : ZoneState) (m : Int) : ZoneState :=
  let u := zoneLevel c flood 0 m
  let dn := zoneLevel c flood c.hysteresis m
  if present = .unknown then u
  else if present.rank < u.rank then u
  else if dn.rank < present.rank then dn
  else present

/-- The demand of a state (R77). -/
def zoneDemand (c : ZoneConfig) (state : ZoneState) (flood : Bool) (base : Nat) : Nat :=
  let d := match state with
    | .clear => base
    | .watch => max base 500
    | .risk => 1000
    | .fog => 1000
    | .unknown => c.fallback
  if flood then max d 700 else d

/-! ### Evaluation (R69 to R77) -/

def State.zoneInput (s : State) (k : PointKind) (p : Option Nat) : Option Int :=
  match p with | some i => s.usableValue k i | none => none

/-- The dew point and floor flag, present when both air inputs are usable (R70). -/
def State.zoneDew (s : State) (c : ZoneConfig) : Option (Int × Bool) :=
  match s.usableValue .airTemp c.airTemp, s.usableValue .airRh c.airRh with
  | some t, some h => some (dewPoint t h)
  | _, _ => none

/-- The smaller present margin and the surface that gives it (R73). -/
def limitingMargin : Option Int → Option Int → Option (Int × Surface)
  | some f, some d => if f ≤ d then some (f, .nearIce) else some (d, .ceiling)
  | some f, none => some (f, .nearIce)
  | none, some d => some (d, .ceiling)
  | none, none => none

/-- The record of an enabled zone after an evaluation with this flood flag, from this present state. -/
def State.evaluatedZone (s : State) (c : ZoneConfig) (flood : Bool) (present : ZoneState) : ZoneRun :=
  let dew := s.zoneDew c
  let margin (k : PointKind) (p : Option Nat) : Option Int :=
    match dew, s.zoneInput k p with
    | some d, some v => some (v - d.1)
    | _, _ => none
  let fog := margin .nearIceAir c.nearIce
  let drip := margin .ceilingTemp c.ceiling
  let m := limitingMargin fog drip
  let state := match m with | some x => nextZoneState c flood present x.1 | none => .unknown
  { state := state
    dewPoint := dew.map Prod.fst
    floorFlag := match dew with | some d => d.2 | none => false
    fogMargin := fog
    dripMargin := drip
    margin := m.map Prod.fst
    limiting := m.map Prod.snd
    flood := flood
    demand := zoneDemand c state flood s.profile.baseDemand }

/-- A zone's record is complete: it stands, and a change of state queues a ZONE notice (R81). -/
def State.putZone (z : Fin 4) (r : ZoneRun) (s : State) : State :=
  let old := s.cdm.get z
  ({ s with cdm := s.cdm.set z r } : State).noticeIf (old.state != r.state) .zone z.val (codeOf zoneStates r.state)

/-- What the Heat Allocator and the Output Stage are handed after a zone's record went from `old` to what it is now
(R79, R80); `config` when the enabled or served flags changed. -/
def State.handZone (config : Bool) (old : ZoneRun) (z : Fin 4) (s : State) : State :=
  let r := s.cdm.get z
  let s1 := if config || old.state != r.state || old.demand != r.demand || old.limiting != r.limiting then
      s.recomputeKinds [.regen, .ceiling] else s
  if old.state != r.state || old.demand != r.demand then s1.handOn [.zoneDemand, .fan] else s1

/-- A new record of a zone stands and is handed on; the zone's entry to RISK or FOG triggers a pass (R79 to R81). -/
def State.replaceZone (config : Bool) (z : Fin 4) (r : ZoneRun) (s : State) : Triggered :=
  let old := s.cdm.get z
  Triggered.triggerIf (r.state.atRisk && old.state != r.state) ⟨(s.putZone z r).handZone config old z, 0⟩

/-- An evaluation of an enabled zone with a flood flag (R69). -/
def State.evaluateZone (flood : Bool) (z : Fin 4) (s : State) : Triggered :=
  s.replaceZone false z (s.evaluatedZone (s.cfg.zones.get z) flood (s.cdm.get z).state)

/-- A point informs the enabled zones that name it (R11, R69). -/
def ZoneConfig.names (c : ZoneConfig) (p : Nat) : Bool :=
  c.airTemp == p || c.airRh == p || c.nearIce == some p || c.ceiling == some p

/-- Zones served by one inform are evaluated and handed on in index order (DESIGN CHOICE, log entry 12). -/
def State.informZones (p : Nat) (s : State) : Triggered :=
  forEachTriggered 4 (fun z st =>
    let c := st.cfg.zones.get z
    if c.enabled && c.names p then st.evaluateZone (st.cdm.get z).flood z else ⟨st, 0⟩) s

/-- SHM informs CDM that a sheet began or ended resurfacing (R74). -/
def State.informFlood (sh : Fin 2) (on : Bool) (s : State) : Triggered :=
  forEachTriggered 4 (fun z st =>
    let c := st.cfg.zones.get z
    if c.enabled && c.sheet == some sh then st.evaluateZone on z else ⟨st, 0⟩) s

/-- A change of the base demand in force (R78), inside an event of its cause. -/
def State.recomputeDemands (s : State) : State :=
  forEach 4 (fun z st =>
    let c := st.cfg.zones.get z
    let r := st.cdm.get z
    let d := zoneDemand c r.state r.flood st.profile.baseDemand
    if c.enabled && d != r.demand then
      ({ st with cdm := st.cdm.set z { r with demand := d } } : State).handZone false r z
    else st) s

/-- The flood flag a WRITE or a LOAD takes from the linked sheet as it stands (R67, R74). -/
def State.floodOf (s : State) (c : ZoneConfig) : Bool :=
  match c.sheet with | some sh => (s.shm.get sh).state == .resurface | none => false

/-- The record of a zone after its configuration was replaced, by a WRITE or a LOAD (R67, R68, R84). -/
def State.rewrittenZone (s : State) (before c : ZoneConfig) (r : ZoneRun) : ZoneRun :=
  if c.enabled then s.evaluatedZone c (s.floodOf c) (if before.enabled then r.state else .unknown)
  else {}

/-- The effect of an accepted ZONES WRITE; the new configuration already stands, `before` is the old one (R67, R79). -/
def State.zoneWritten (before : ZoneConfig) (z : Fin 4) (s : State) : State :=
  let c := s.cfg.zones.get z
  let flags := before.enabled != c.enabled || before.servedRegen != c.servedRegen || before.servedCeiling != c.servedCeiling
  (s.replaceZone flags z (s.rewrittenZone before c (s.cdm.get z))).finish

/-- The zones at a LOAD, after points and sheets (R84); their outputs and the pass follow in the LOAD's own order (R196). That they are
taken in index order, and so queue their ZONE notices, is DESIGN CHOICE (log entry 24). -/
def State.loadZones (before : Configuration) (s : State) : State :=
  (forEach 4 (fun z st =>
    st.putZone z (st.rewrittenZone (before.zones.get z) (st.cfg.zones.get z) (st.cdm.get z))) s).recomputeKinds [.regen, .ceiling]

end Sys2Proof.Machine
end

