-- ==== Sys2Proof/Machine/Sheets.lean ====
section
/-! DEFINITION. The Sheet Monitor (03): ice temperature, states, radiant budget, resurfacing, covers, critical trigger, heave. -/

namespace Sys2Proof.Machine
open Sys2Proof

/-! ### Ice temperature (R47) -/

/-- The brine estimate, exact (R47). -/
def brineEstimate (brine : Int) (offset : Nat) : Int := brine + offset

/-- T as its field shows it; above the field's range the value is open (R47, log entry 7). -/
def shownTemp (t : Int) : Int := if t ≤ 32767 then t else (Config.estimateBeyondRange t).toInt

def greatest : List Int → Option Int
  | [] => none
  | x :: xs => some (xs.foldl max x)

/-- T and its source, from the points as they stand, T exact (R47); the field shows `shownTemp` of it. -/
def State.sheetTemp (s : State) (c : SheetConfig) : Option Int × TempSource :=
  match greatest (c.surfaces.filterMap (s.usableValue .iceSurface)) with
  | some t => (some t, .surface)
  | none =>
    match c.brine.bind (s.usableValue .brineReturn) with
    | some b => (some (brineEstimate b c.brineOffset), .estimate)
    | none => (none, .none)

/-! ### States (R49, R50) -/

/-- A fresh evaluation (R50). -/
def freshState (c : SheetConfig) (t : Option Int) (src : TempSource) : SheetState :=
  match t, src with
  | some t, .surface => if c.tLimit ≤ t then .critical else if c.tSoft < t then .soft else .normal
  | _, _ => .blind

/-- An evaluation from NORMAL, SOFT or CRITICAL on a usable surface temperature (R49). -/
def nextSheetState (c : SheetConfig) (present : SheetState) (t : Int) : SheetState :=
  if c.tLimit ≤ t then .critical
  else if c.tLimit - c.hysteresis < t then
    (if present = .critical then .critical else .soft)
  else if c.tSoft - c.hysteresis < t then (if present = .normal ∧ t ≤ c.tSoft then .normal else .soft)
  else .normal

/-- The state an evaluation gives (R48). -/
def evaluatedState (c : SheetConfig) (present : SheetState) (t : Option Int) (src : TempSource) : SheetState :=
  match present with
  | .normal | .soft | .critical =>
    match t, src with
    | some t, .surface => nextSheetState c present t
    | _, _ => .blind
  | .blind => freshState c t src
  | .resurface => .resurface
  | .covered => .covered
  | .off => .off

/-! ### Budget (R51, R52) -/

/-- The straight line of R51. -/
def lineBudget (c : SheetConfig) (t : Int) : Nat :=
  if t ≤ c.tSet then c.bMax else c.bMax * (c.tLimit - t).toNat / (c.tLimit - c.tSet).toNat

/-- B of a state, from T exact (R51, R52). -/
def budgetOf (c : SheetConfig) (state : SheetState) (t : Option Int) (src : TempSource) (frozen : Option Nat) : Power :=
  match state with
  | .normal | .soft => .watts (match t with | some t => lineBudget c t | none => 0)
  | .critical => .watts 0
  | .resurface => .watts (frozen.getD 0)
  | .blind =>
    match t, src with
    | some t, .estimate =>
      .watts (min (if c.tLimit ≤ t then 0 else lineBudget c t) (c.bMax * c.fallback / 1000))
    | _, _ => .watts 0
  | .covered => .unlimited
  | .off => .unlimited

/-- UNLIMITED counts as greater than every number (R53). -/
def Power.below : Power → Power → Bool
  | .watts a, .watts b => a < b
  | .watts _, .unlimited => true
  | .unlimited, _ => false

/-- A new B is a decrease to be informed (R53). -/
def isDecrease (b : Power) (atLastPass : Option Power) : Bool :=
  match atLastPass, b with
  | some p, b => b.below p
  | none, .watts _ => true
  | none, .unlimited => false

/-! ### The record -/

/-- A record in a new state, with what leaving or entering CRITICAL and leaving RESURFACE does to it (R56, R61). -/
def SheetRun.enter (c : SheetConfig) (state : SheetState) (t : Option Int) (src : TempSource) (r : SheetRun) : SheetRun :=
  let inCritical := state == .critical && r.state == .critical
  let frozen := if state = .resurface then r.frozen else none
  { r with
    state := state
    temp := t.map shownTemp
    source := src
    budget := budgetOf c state t src frozen
    frozen := frozen
    hold := if state = .resurface then r.hold else 0
    criticalTime := if inCritical then r.criticalTime else 0
    trigger := inCritical && r.trigger }

/-- The record after an evaluation (R48). -/
def State.evaluatedSheet (s : State) (sh : Fin 2) : SheetRun :=
  let c := s.cfg.sheets.get sh
  let r := s.shm.get sh
  let m := s.sheetTemp c
  r.enter c (evaluatedState c r.state m.1 m.2) m.1 m.2

/-- The record after a fresh evaluation (R50). -/
def State.freshSheet (s : State) (sh : Fin 2) : SheetRun :=
  let c := s.cfg.sheets.get sh
  let m := s.sheetTemp c
  (s.shm.get sh).enter c (freshState c m.1 m.2) m.1 m.2

def State.setSheet (sh : Fin 2) (r : SheetRun) (s : State) : State := { s with shm := s.shm.set sh r }

/-- The SHEET notice of a change from `old` (R63). -/
def State.sheetNotice (old : SheetState) (sh : Fin 2) (s : State) : State :=
  let new := (s.shm.get sh).state
  s.noticeIf (old != new) .sheet sh.val (codeOf sheetStates new)

/-- The Output Stage takes up a change of CRITICAL (R137). -/
def State.handAlarm (old : SheetState) (sh : Fin 2) (s : State) : State :=
  if old != (s.shm.get sh).state then s.handOn [.sheetAlarm] else s

/-- A new record stands: notice, alarm outputs, and the decrease inform when B changed or `always`, which triggers a pass (R53, R57,
R63). -/
def State.putSheet (always : Bool) (sh : Fin 2) (r : SheetRun) (s : State) : Triggered :=
  let old := s.shm.get sh
  let s1 := ((s.setSheet sh r).sheetNotice old.state sh).handAlarm old.state sh
  Triggered.triggerIf ((always || old.budget != r.budget) && isDecrease r.budget r.atLastPass) ⟨s1, 0⟩

def State.evaluateSheet (sh : Fin 2) (s : State) : Triggered := s.putSheet false sh (s.evaluatedSheet sh)

/-! ### Critical trigger and heave (R61, R62) -/

def sheetTrigger (sh : Fin 2) : Trigger := if sh = 0 then .sheetA else .sheetB

/-- The critical trip hold compared with the time in CRITICAL, at a WRITE or a LOAD (R61). -/
def State.recheckTrigger (sh : Fin 2) (s : State) : State :=
  let r := s.shm.get sh
  let hold := (s.cfg.sheets.get sh).criticalHold
  let on := r.state == .critical && hold != 0 && hold ≤ r.criticalTime
  let s1 := s.setSheet sh { r with trigger := on }
  if on && !r.trigger then s1.raise (sheetTrigger sh) else s1

/-- The heave request an evaluation gives (R62). -/
def State.heaveNow (s : State) (c : SheetConfig) (present : Heave) : Heave :=
  match c.subsoil with
  | none => .min
  | some p =>
    match s.usableValue .subsoil p with
    | none => .max
    | some v =>
      if v < c.subsoilMin then .max
      else if c.subsoilMin + c.heaveHysteresis < v then .min
      else present

/-- A heave evaluation, informing HRA of a change (R62). -/
def State.evaluateHeave (sh : Fin 2) (s : State) : State :=
  let r := s.shm.get sh
  let h := s.heaveNow (s.cfg.sheets.get sh) r.heave
  if h = r.heave then s else (s.setSheet sh { r with heave := h }).recomputeKinds [.heave]

/-- PTB informs SHM of a point (R48, R62). -/
def State.informSheets (p : Nat) (s : State) : Triggered :=
  forEachTriggered 2 (fun sh st =>
    let c := st.cfg.sheets.get sh
    let x := if c.surfaces.contains p || c.brine == some p then st.evaluateSheet sh else ⟨st, 0⟩
    if c.subsoil == some p then x.andThen (State.evaluateHeave sh) else x) s

/-! ### Resurfacing (3.7) -/

/-- The tank reheat timer is set or stopped, informing HRA when it starts from stopped or stops (R58). -/
def State.setTank (sh : Fin 2) (time : Nat) (s : State) : State :=
  let r := s.shm.get sh
  let s1 := s.setSheet sh { r with tank := time }
  if (r.tank == 0) == (time == 0) then s1 else s1.informTank sh (time != 0)

/-- A resurfacing start in NORMAL or SOFT, or its repeat (R54, R55); none where it is refused NOT_NOW. -/
def State.resurface (sh : Fin 2) (s : State) : Option State :=
  let c := s.cfg.sheets.get sh
  let r := s.shm.get sh
  match r.state with
  | .normal | .soft =>
    let frozen := match r.budget with | .watts w => w | .unlimited => 0
    let s1 := s.setSheet sh { r with state := .resurface, frozen := some frozen, hold := c.resurfaceHold }
    some ((((s1.setTank sh c.tankTime).informFlood sh true).finish).sheetNotice r.state sh)
  | .resurface => some ((s.setSheet sh { r with hold := c.resurfaceHold }).setTank sh c.tankTime)
  | _ => none

/-- The end of RESURFACE by expiry or RESURFACE_END (R57). -/
def State.endResurface (sh : Fin 2) (s : State) : State :=
  ((s.informFlood sh false).and fun st => st.putSheet true sh (st.freshSheet sh)).finish

/-! ### Covers (3.8) -/

/-- COVER on (R59); none where it is refused NOT_NOW. -/
def State.coverOn (sh : Fin 2) (s : State) : Option State :=
  let r := s.shm.get sh
  match r.state with
  | .normal | .soft | .critical | .blind =>
    let r1 := { r with state := .covered, budget := .unlimited, criticalTime := 0, trigger := false }
    let s1 := (s.setSheet sh r1).handAlarm r.state sh
    some ((Triggered.finish ⟨s1, 1⟩).sheetNotice r.state sh)
  | .covered => some s
  | _ => none

/-- COVER off (R60): decrease inform and cover change, then the notice; none where it is refused NOT_NOW. -/
def State.coverOff (sh : Fin 2) (s : State) : Option State :=
  let r := s.shm.get sh
  match r.state with
  | .covered =>
    let r1 := s.freshSheet sh
    let s1 := (s.setSheet sh r1).handAlarm r.state sh
    let x := Triggered.triggerIf (isDecrease r1.budget r1.atLastPass) ⟨s1, 1⟩
    some (x.finish.sheetNotice r.state sh)
  | _ => none

/-! ### Timers (R57, R58, R61) -/

def State.expireHold (sh : Fin 2) (s : State) : State :=
  let r := s.shm.get sh
  if r.state = .resurface ∧ r.hold ≠ 0 then s.endResurface sh else s

def State.expireTank (sh : Fin 2) (s : State) : State :=
  if (s.shm.get sh).tank = 0 then s else s.setTank sh 0

/-- The time in CRITICAL reaches the critical trip hold (R61). -/
def State.expireCritical (sh : Fin 2) (s : State) : State :=
  let r := s.shm.get sh
  let hold := (s.cfg.sheets.get sh).criticalHold
  if r.state = .critical ∧ hold ≠ 0 ∧ r.trigger = false then
    (s.setSheet sh { r with criticalTime := hold, trigger := true }).raise (sheetTrigger sh)
  else s

/-! ### WRITE and LOAD (R46, R65) -/

/-- The record after its configuration was replaced: OFF, fresh, evaluated, or kept (R46). T and its source stay where R46's row
gives no evaluation (DESIGN CHOICE, log entry 27). -/
def State.rewrittenSheet (s : State) (sh : Fin 2) : SheetRun :=
  let c := s.cfg.sheets.get sh
  let r := s.shm.get sh
  match c.enabled, r.state with
  | true, .off => s.freshSheet sh
  | true, .resurface => r
  | true, .covered => r
  | true, _ => s.evaluatedSheet sh
  | false, .off => r
  | false, _ => { r.enter c .off none .none with temp := r.temp, source := r.source }

/-- The effect of an accepted SHEETS WRITE; the new configuration already stands (R46, R61, R62). -/
def State.sheetWritten (sh : Fin 2) (s : State) : State :=
  let old := s.shm.get sh
  let r := s.rewrittenSheet sh
  let x := s.putSheet false sh r
  let y := if r.state == .off && old.state == .resurface then x.and (State.informFlood sh false) else x
  let z := y.triggerIf (r.state == .off && old.state == .covered)
  (z.finish.recheckTrigger sh).evaluateHeave sh

/-- A sheet at a LOAD, after the points restarted: its record, notice, trigger and heave; whether it informs HRA, by a budget decrease
and by a cover change, is answered for the passes that follow the LOAD's own (R65, R109). -/
def State.loadSheet (sh : Fin 2) (s : State) : Triggered :=
  let old := s.shm.get sh
  let r := s.rewrittenSheet sh
  let c := s.cfg.sheets.get sh
  let informed := !c.surfaces.isEmpty || c.brine.isSome
  let stays := r.state == .resurface || r.state == .covered || r.state == .off
  let m := s.sheetTemp c
  let r' := if informed && stays then { r with temp := m.1.map shownTemp, source := m.2 } else r
  let s1 := (s.setSheet sh r').sheetNotice old.state sh
  let decrease := old.budget != r'.budget && isDecrease r'.budget r'.atLastPass
  let uncovered := old.state == .covered && r'.state == .off
  (Triggered.triggerIf decrease ⟨(s1.recheckTrigger sh).evaluateHeave sh, 0⟩).triggerIf uncovered

end Sys2Proof.Machine
end

