-- ==== Sys2Proof/Machine/Points.lean ====
section
/-! DEFINITION. The Point Table (01): updates, plausibility, comparator, trips, aging, and the informs to the blocks. -/

namespace Sys2Proof.Machine
open Sys2Proof

/-! ### Comparator (R12 to R14) -/

/-- The unlatched result (R12); `present` is the output now. -/
def unlatched (c : PointConfig) (present : Bool) (v : Int) : Bool :=
  match c.mode with
  | .none => false
  | .above => c.high ≤ v
  | .hysteresis => if c.high ≤ v then true else if v ≤ c.low then false else present
  | .window => v < c.low || c.high < v

/-- The output after an evaluation (R12, R13). -/
def evaluated (c : PointConfig) (present : Bool) (v : Int) : Bool :=
  if c.latch && present then true else unlatched c present v

/-- The value would leave the output CLEAR for a LATCH_CLEAR (R14); `present` is the output now. -/
def leavesClear (c : PointConfig) (present : Bool) (v : Int) : Bool :=
  match c.mode with
  | .none => !present
  | .above => v < c.high
  | .hysteresis => v ≤ c.low
  | .window => c.low ≤ v && v ≤ c.high

/-! ### Updates (R7, R8) -/

def PointConfig.plausible (c : PointConfig) (v : Int) : Bool := c.plausMin ≤ v && v ≤ c.plausMax

/-- The runtime part after an update (R7, R8). -/
def PointRun.update (c : PointConfig) (v : Int) (r : PointRun) : PointRun :=
  if c.plausible v then
    { value := some v, age := 0, quality := .good, suspect := 0, output := evaluated c r.output v }
  else
    let run := min 3 (r.suspect + 1)
    { r with suspect := run, quality := if r.quality = .failed ∨ run = 3 then .failed else .suspect }

/-- The runtime part of a restart (R4, R18). -/
def restarted (b : PointBinding) : PointRun := { quality := if b = .none then .unbound else .noValue }

/-! ### Informs (R11) -/

/-- PTB informs HRA of an occupancy point (R88); the recovered-heat point is read at each pass (R86). -/
def State.informSinks (p : Nat) (s : State) : State :=
  s.recompute fun c => c.kind == .stands && c.occupancy == some p

/-- PTB informs every block that refers to a point: SHM, CDM, HRA (R11; order: log entry 12). -/
def State.informPoint (p : Fin 64) (s : State) : Triggered :=
  ((s.informSheets p.val).and (State.informZones p.val)).andThen (State.informSinks p.val)

/-! ### Completing an event of one point (R11, R12, R16) -/

def State.setPoint (i : Fin 64) (r : PointRun) (s : State) : State :=
  { s with ptb := { s.ptb with points := s.ptb.points.set i r } }

/-- POINT then LIMIT notices of a change from `old` (R11). -/
def State.pointNotices (old : PointRun) (i : Fin 64) (s : State) : State :=
  let new := s.ptb.points.get i
  (s.noticeIf (old.quality != new.quality) .point i.val (codeOf qualities new.quality)).noticeIf
    (old.output != new.output) .limit i.val new.output.toNat

/-- The record of a point goes from `old` to `new`: notices, then the Protect Unit, then the informs when a value was stored or the
quality changed. `triggers` is the number of active point triggers before the event. -/
def State.completePoint (triggers : Nat) (stored : Bool) (i : Fin 64) (new : PointRun) (s : State) : State :=
  let old := s.ptb.points.get i
  let s1 := ((s.setPoint i new).pointNotices old i).pointsRaised triggers
  if stored || old.quality != new.quality then (s1.informPoint i).finish else s1

/-- An update offered to a point (R7, R8). -/
def State.updatePoint (i : Fin 64) (v : Int) (s : State) : State :=
  let c := s.cfg.points.get i
  s.completePoint s.pointTriggers (c.plausible v) i ((s.ptb.points.get i).update c v)

/-- The BUS point that holds an identity (R5). -/
def State.pointOfIdentity (s : State) (node point : Nat) : Option (Fin 64) :=
  (List.finRange 64).find? fun i =>
    let c := s.cfg.points.get i
    c.binding == .bus && c.node == node && c.point == point

/-- A receive entry taken from the queue (R5). -/
def State.handleEntry (e : RxEntry) (s : State) : State :=
  if e.kind ≠ .reading then s
  else
    match s.pointOfIdentity e.source e.point with
    | some i => s.updatePoint i e.value
    | none =>
      let s1 := s.count .rxUnbound
      { s1 with fbc := { s1.fbc with unbound := some (e.source, e.point) } }

/-- A coherent point READ is being assembled (R17). -/
def State.readsPoints (s : State) : Bool :=
  match s.lnk.assembly with | some a => a.kind == .points | none => false

/-- PTB takes the oldest receive entry (R5, R17). -/
def State.takeEntry (s : State) : State :=
  match s.fbc.rxQueue with
  | [] => s
  | e :: rest =>
    if s.readsPoints then s else ({ s with fbc := { s.fbc with rxQueue := rest } } : State).handleEntry e

/-! ### Aging (R9, R10) -/

/-- The runtime part of a point after an expiry (R9). -/
def PointRun.aged (c : PointConfig) (r : PointRun) : PointRun :=
  match r.quality with
  | .noValue | .unbound => r
  | q =>
    let age := saturate16 (r.age + 1)
    { r with
      age := age
      quality :=
        if q ≠ .failed ∧ 4 * c.stale ≤ age then .failed
        else if q = .good ∧ c.stale ≤ age then .stale
        else q }

/-- A POLL is asked for at this expiry (R10). -/
def pollDue (c : PointConfig) (old new : PointRun) : Bool :=
  c.binding == .bus && new.quality == .stale && (old.quality != .stale || new.age % c.stale == 0)

/-- PTB asks FBC for a POLL (R10, R32). -/
def State.requestPoll (c : PointConfig) (s : State) : State :=
  (s.enqueue false ⟨.poll, c.node, c.point, 0, 4, none⟩).2

/-- One point at an expiry: its record, notices and POLL. -/
def State.agePoint (i : Fin 64) (s : State) : State :=
  let c := s.cfg.points.get i
  let old := s.ptb.points.get i
  let new := old.aged c
  let s1 := (s.setPoint i new).pointNotices old i
  if pollDue c old new then s1.requestPoll c else s1

/-- An expiry of the aging interval: every point ages, then the informs of the points whose quality changed (R9, R11). That the points
age, and so notify and poll, in index order, and inform in index order, is DESIGN CHOICE (log entry 12). -/
def State.ageAll (s : State) : State :=
  let before := s.ptb.points
  let changed (i : Fin 64) : Bool :=
    ((before.get i).aged (s.cfg.points.get i)).quality != (before.get i).quality
  (forEachTriggered 64 (fun i st => if changed i then st.informPoint i else ⟨st, 0⟩) (forEach 64 State.agePoint s)).finish

/-- Aging expiries held behind an assembly are applied one after the other (R17). -/
def State.applyHeldAging (s : State) : State :=
  (List.range s.ptb.heldAging).foldl (fun st _ => st.ageAll) { s with ptb := { s.ptb with heldAging := 0 } }

/-! ### Configuration WRITEs (R1, R4, R15, R16) -/

def PointConfig.sameSource (a b : PointConfig) : Bool :=
  a.binding == b.binding && a.node == b.node && a.point == b.point && a.kind == b.kind

def PointConfig.sameComparator (a b : PointConfig) : Bool :=
  a.mode == b.mode && a.high == b.high && a.low == b.low && a.latch == b.latch

/-- The runtime part after a configuration WRITE from `before` to `c` (R4, R15). -/
def PointRun.reconfigured (before c : PointConfig) (r : PointRun) : PointRun :=
  if !before.sameSource c then restarted c.binding
  else if before.sameComparator c then r
  else if c.mode = .none then { r with output := false }
  else match r.value with
    | some v => { r with output := evaluated c r.output v }
    | none => r

/-- The effect of an accepted configuration WRITE; `s` still holds the old configuration (R1, R4, R15, R16). The informs go to the
references of both kinds, which are those that name the point. -/
def State.writePoint (i : Fin 64) (c : PointConfig) (s : State) : State :=
  let before := s.cfg.points.get i
  let n := s.pointTriggers
  let new := (s.ptb.points.get i).reconfigured before c
  ({ s with cfg := { s.cfg with points := s.cfg.points.set i c } } : State).completePoint n (!before.sameSource c) i new

/-- Another BUS point already holds the identity (R1, R2). -/
def State.identityTaken (i : Fin 64) (c : PointConfig) (s : State) : Bool :=
  c.binding == .bus && (List.finRange 64).any fun j =>
    let d := s.cfg.points.get j
    j != i && d.binding == .bus && d.node == c.node && d.point == c.point

/-- Every point restarts at a LOAD, without notices; the consumers read the records after it (R18, R196). -/
def State.loadPoints (s : State) : State :=
  { s with ptb := { s.ptb with points := s.cfg.points.mapIdx fun _ c => restarted c.binding } }

end Sys2Proof.Machine
end

