-- ==== Sys2Proof/Machine/FieldBus.lean ====
section
/-! DEFINITION. The Field Bus Controller's events (02): frames received, own frames, pauses, recovery, hand-over. -/

namespace Sys2Proof.Machine
open Sys2Proof

/-! ### Reception (2.3) -/

/-- A window matches in every bit position its masks leave in (R25). -/
def WindowConfig.matches (w : WindowConfig) (source point : Nat) : Bool :=
  (source ||| w.sourceMask) == (w.matchSource ||| w.sourceMask)
    && (point ||| w.pointMask) == (w.matchPoint ||| w.pointMask)

/-- The windows in index order, then the default action (R25). -/
def State.accepts (s : State) (source point : Nat) : Bool :=
  match (List.finRange 4).find? fun i =>
      (s.cfg.windows.get i).enabled && (s.cfg.windows.get i).matches source point with
  | some i => (s.cfg.windows.get i).accept
  | none => s.cfg.bus.accept

/-- A reading offered to the receive queue (R27). -/
def State.offerReading (f : BusFrame) (s : State) : State :=
  if s.fbc.rxQueue.length < 8 then
    { s with fbc := { s.fbc with rxQueue := s.fbc.rxQueue ++ [⟨f.source, f.point, f.kind, f.value, s.scu.clock⟩] } }
  else s.count .rxOverrun

/-- A PAUSE sets its source node's pause timer (R31). -/
def Fbc.pause (node : Nat) (value : Int) (f : Fbc) : Fbc :=
  match index 64 node with
  | some i => { f with pauses := f.pauses.set i value.toNat }
  | none => f

/-- A good frame for the part, by kind (R24). -/
def State.sortFrame (f : BusFrame) (s : State) : State :=
  match f.kind with
  | .pause => ({ s with fbc := s.fbc.pause f.source f.value } : State).count .pauses
  | .reading =>
    if s.accepts f.source f.point then (s.count .rxAccepted).offerReading f else s.count .rxRejected
  | .command => s
  | .poll => s

/-- What follows a good frame: the count, RXE, the target, the kind (R24, R33). -/
def State.goodFrame (f : BusFrame) (s : State) : State :=
  let mine := f.target == s.fbc.address || f.target == 63
  let s1 := (s.count .rxGood).rxGood
  if mine then s1.sortFrame f else s1

/-- A frame from the line has ended; the acknowledge slot was driven as R22 permits (R24). Levels that do not begin with the start
bit count as a frame error (DESIGN CHOICE, log entry 31). -/
def State.receiveFrame (bits : List Bool) (s : State) : State :=
  match receiveBits bits with
  | some f => ({ s with fbc := { s.fbc with acked := s.mayAcknowledge } } : State).goodFrame f
  | none => (({ s with fbc := { s.fbc with acked := false } } : State).count .rxCheck).rxError

/-! ### Own frames (2.2, 2.5, 2.6) -/

/-- The frame of an entry (R23). -/
def TxEntry.frame (e : TxEntry) (own : Nat) : BusFrame :=
  ⟨e.priority, match e.kind with | .command => .command | .poll => .poll, own, e.target, e.point, e.value⟩

/-- How an own frame ends (R21). -/
inductive OwnOutcome
  | lost
  | error
  | done
deriving DecidableEq, Repr

/-- What the part reads back of a frame that nobody disturbs: the levels it sends, and the acknowledge slot, ahead of the seven levels of
the end field, driven dominant by a receiver (R20, R21). -/
def acknowledged (sent : List Bool) : List Bool := sent.set (sent.length - 8) false

/-- How many levels of a frame carry its start bit and its arbitration fields, with the bits inserted among and directly behind them, which
R21 does not sort (DESIGN CHOICE, log entry 41). -/
def BusFrame.arbitrationSpan (f : BusFrame) : Nat := 1 + (insertBits false 1 (f.bits.take 23)).length

/-- The outcome that the first level read back other than `expected` gives, with `span` levels of arbitration to come; none while the
frame goes on (R21). -/
def judgeLevels : Nat → List Bool → List Bool → Option OwnOutcome
  | _, [], _ => some .done
  | _, _ :: _, [] => none
  | span, e :: expected, r :: read =>
    if r = e then judgeLevels (span - 1) expected read
    else if e = true ∧ 0 < span then some .lost
    else some .error

/-- The outcome of a sent frame by the levels read back since its start bit (R21). -/
def BusFrame.outcome (f : BusFrame) (levels : List Bool) : Option OwnOutcome :=
  judgeLevels f.arbitrationSpan (acknowledged f.lineBits) levels

/-- The entry leaves its section and is in flight (R23, R41). -/
def Fbc.launch (e : TxEntry) (protect : Bool) (f : Fbc) : Fbc :=
  let f1 := if protect then { f with txProtect := f.txProtect.erase e } else { f with txOrdinary := f.txOrdinary.erase e }
  { f1 with inFlight := some ⟨e, protect, f.testMode == .loop⟩ }

/-- An own frame starts when R23 allows it. -/
def State.startFrame (s : State) : State :=
  if s.mayStart && s.fbc.inFlight.isNone then
    match s.fbc.eligible with
    | some (e, protect) => { s with fbc := s.fbc.launch e protect }
    | none => s
  else s

def State.noFlight (s : State) : State := { s with fbc := { s.fbc with inFlight := none } }

def State.frameEnded (s : State) : State := { s with fbc := s.fbc.frameEnded }

/-- PRU is told when the count of protect entries has fallen to 0 from `before` (R172). -/
def State.entriesFell (before : Nat) (s : State) : State :=
  if before ≠ 0 ∧ s.protectEntries = 0 then s.heldTest else s

/-- An own frame is done (R30, R33, R37, R41): its entry is gone; a looped frame is then handled as a received one. That the HELD test of
R172 comes after the hand-over is DESIGN CHOICE (log entry 12). -/
def State.ownDone (s : State) : State :=
  match s.fbc.inFlight with
  | none => s
  | some x =>
    let before := s.protectEntries
    let s1 := s.noFlight.count .txDone
    let s2 := if x.entry.kind = .poll then s1.count .polls else s1
    let s3 := s2.txGood.frameEnded
    let s4 := if x.looped then s3.goodFrame (x.entry.frame s.fbc.address) else s3.applyLine
    s4.entriesFell before

/-- An own frame lost arbitration (R21, R30); a looped frame cannot (R41). -/
def State.ownLost (s : State) : State :=
  match s.fbc.inFlight with
  | none => s
  | some x => if x.looped then s else ((s.noFlight.count .arbLost).returnEntry x).frameEnded

/-- An own frame ended in a transmit error (R21, R30, R33). -/
def State.ownError (s : State) : State :=
  match s.fbc.inFlight with
  | none => s
  | some x => if x.looped then s else (((s.noFlight.count .txError).returnEntry x).txError).frameEnded.applyLine

/-- The outcome of the own frame on the line by the levels read back since its start bit; none for a looped frame, which is not on
the line (R21, R23, R41). -/
def State.ownOutcome (levels : List Bool) (s : State) : Option OwnOutcome :=
  match s.fbc.inFlight with
  | some x => if x.looped then none else (x.entry.frame s.fbc.address).outcome levels
  | none => none

/-- A frame of another node ends, and settings that waited for its end come into force (R19, R24). -/
def State.endReceived (bits : List Bool) (s : State) : State := (s.receiveFrame bits).applyLine

/-- A frame ends on the line. With an own frame on it, the levels read back say how that frame ends (R21): a frame lost is followed by the
reception of the winner's. That FRAME_RECEIVED carries these levels too, where the three rows of an own frame's end name their outcome
without levels, is DESIGN CHOICE (log entry 41). -/
def State.endFrame (bits : List Bool) (s : State) : State :=
  if s.fbc.onLine then
    match s.ownOutcome bits with
    | some .lost => s.ownLost.endReceived bits
    | some .error => s.ownError
    | some .done => s.ownDone
    | none => s
  else s.endReceived bits

/-! ### Recovery and idle periods (R35) -/

/-- The idle period that takes the count to 64 in ISOLATED: recovery, and the HELD test at leaving ISOLATED (R35, R172). -/
def State.leaveIsolated (s : State) : State :=
  if s.busState = .isolated ∧ 64 ≤ s.fbc.idlePeriods + 1 then s.recover.heldTest else s

/-- A full run of 11 recessive bits (R35). -/
def State.idlePeriod (s : State) : State :=
  if s.busState ≠ .isolated then s
  else if 64 ≤ s.fbc.idlePeriods + 1 then s.leaveIsolated
  else { s with fbc := { s.fbc with idlePeriods := s.fbc.idlePeriods + 1 } }

def State.expirePause (n : Fin 64) (s : State) : State :=
  { s with fbc := { s.fbc with pauses := s.fbc.pauses.set n 0 } }

/-! ### Hand-over (2.7) -/

/-- FBC's requesters changed; leaving RELEASED gives the HELD test (R37, R172). -/
def State.setFbc (f : Fbc) (s : State) : State :=
  let s1 : State := { s with fbc := f }
  if s.fbc.handOver = .released ∧ f.handOver ≠ .released then s1.heldTest else s1

/-- HAND as sampled becomes held or clear (R37). -/
def State.sampleHand (held : Bool) (s : State) : State :=
  if held then
    if s.fbc.hand then s else s.setFbc ({ s.fbc with hand := true } : Fbc).beginHold
  else
    if s.fbc.hand then s.setFbc ({ s.fbc with hand := false } : Fbc).letGo else s

/-- BUS_RELEASE (R38). -/
def State.linkHold (s : State) : State :=
  if s.fbc.linkRequest then s else s.setFbc ({ s.fbc with linkRequest := true } : Fbc).beginHold

/-- BUS_RECLAIM with the link request held (R38). -/
def State.linkLetGo (s : State) : State := s.setFbc ({ s.fbc with linkRequest := false } : Fbc).letGo

end Sys2Proof.Machine
end

