-- ==== Sys2Proof/Machine/Schedule.lean ====
section
/-! DEFINITION. The Schedule Unit (08): mode changes, the event program, the clock. -/

namespace Sys2Proof.Machine
open Sys2Proof

/-! ### Mode changes (R154, R155) -/

def State.setScu (x : Scu) (s : State) : State := { s with scu := x }

/-- The subject of a mode change's notice (R162). -/
def modeSubject : Nat := 65535

/-- The entry scene of the mode in force is recalled when there is one and protect is ARMED (R154). -/
def State.recallEntryScene (s : State) : State :=
  match s.profile.entryScene.bind (index 24) with
  | some k => if s.armed then s.recallLights k none else s
  | none => s

/-- Steps 1 to 4 of a mode change: the mode, the STANDS requests, the demands, the entry scene (R154, R155). -/
def State.takeMode (m : ArenaMode) (s : State) : State :=
  (((s.setScu { s.scu with mode := m }).recomputeKinds [.stands]).recomputeDemands).recallEntryScene

/-- A mode change in its six steps (R154, R155), one event with one round of requests (R144). -/
def State.changeMode (m : ArenaMode) (s : State) : State :=
  let s1 := s.takeMode m
  (s1.passTrigger.settleRemotes (s.sourceMoved s1)).notice .program modeSubject (codeOf arenaModes m)

/-! ### The event program (8.4, 8.5) -/

/-- The place of a new entry: behind every entry with a start time not above its own (R156). -/
def insertEntry (e : ProgramEntry) : List ProgramEntry → List ProgramEntry
  | [] => [e]
  | x :: xs => if x.start ≤ e.start then x :: insertEntry e xs else e :: x :: xs

def nextIdAfter (n : Nat) : Nat := (n + 1) % 65535

/-- The first id from `n` on that no held entry has; at most 48 are held (R157). -/
def freeId (held : List ProgramEntry) : Nat → Nat → Nat
  | 0, n => n
  | fuel + 1, n => if held.any (·.id == n) then freeId held fuel (nextIdAfter n) else n

/-- Values of a PROGRAM notice (R162). -/
def outcomeDone : Nat := 0
def outcomeSkipped : Nat := 1
def outcomeRefused (r : Reason) : Nat := 16 + r.code

/-- An act that may be refused NOT_NOW, as an entry's outcome (R161). -/
def outcomeOf (s : State) : Option State → Nat × State
  | some t => (outcomeDone, t)
  | none => (outcomeRefused .notNow, s)

/-- A due entry's action with its outcome (R161). -/
def State.perform (a : ProgramAction) (s : State) : Nat × State :=
  match a with
  | .mode m => (outcomeDone, s.changeMode m)
  | .scene k fade => if s.armed then (outcomeDone, s.recall k fade) else (outcomeSkipped, s)
  | .resurface sh => outcomeOf s (s.resurface sh)
  | .cover sh on => outcomeOf s (if on then s.coverOn sh else s.coverOff sh)
  | .allocate => (outcomeDone, if s.phase = .run then s.pass else s)

def State.removeEntry (id : Nat) (s : State) : State :=
  s.setScu { s.scu with program := s.scu.program.filter fun e => e.id != id }

/-- An entry is removed and executed, or skipped, with its notice (R161 to R163). -/
def State.takeProgramEntry (execute : Bool) (e : ProgramEntry) (s : State) : State :=
  let s1 := s.removeEntry e.id
  if execute then
    let r := s1.perform e.action
    r.2.notice .program e.id r.1
  else s1.notice .program e.id outcomeSkipped

/-- The entries whose start time is at or before the clock, in table order (R160). -/
def State.dueEntries (s : State) : List ProgramEntry := s.scu.program.takeWhile fun e => e.start ≤ s.scu.clock

/-- Every due entry is executed, oldest first (R160). -/
def State.takeDue (s : State) : State :=
  s.dueEntries.foldl (fun st e => st.takeProgramEntry true e) s

/-- The catch-up to the clock: entries more than 300 s old are skipped (R163, R164). -/
def State.catchUp (s : State) : State :=
  s.dueEntries.foldl (fun st e => st.takeProgramEntry (decide (s.scu.clock ≤ e.start + 300)) e) s

/-- A tick (R150, R160, R163): the wrap to 0 takes no entries. -/
def State.tickClock (s : State) : State :=
  let wraps := s.scu.clock == Config.maxWord
  let s1 := s.setScu { s.scu with clock := if wraps then 0 else s.scu.clock + 1, elapsed := 0 }
  if s.phase = .run ∧ s.stc.op ≠ .load ∧ wraps = false then s1.takeDue else s1

/-- CLOCK_SET (R163). -/
def State.setClock (c : Nat) (s : State) : State :=
  let s1 := s.setScu { s.scu with clock := c, elapsed := 0 }
  if s.phase = .run ∧ s.scu.clock < c then s1.catchUp else s1

/-- An accepted PROGRAM_ADD: its id, and the state (R157, R158). -/
def State.addEntry (start : Nat) (a : ProgramAction) (s : State) : Nat × State :=
  let id := freeId s.scu.program 49 s.scu.nextId
  let e : ProgramEntry := ⟨id, start, a⟩
  let s1 := s.setScu { s.scu with program := insertEntry e s.scu.program, nextId := nextIdAfter id }
  (id, if s.phase = .run ∧ start ≤ s.scu.clock then s1.takeProgramEntry true e else s1)

end Sys2Proof.Machine
end

