-- ==== Sys2Proof/Machine/Operands.lean ====
section
/-! DEFINITION. The records that WRITEs carry (R193): their lengths, fields, clamps with their count, and codes outside a list, which
refuse a record (none: BAD_VALUE). -/

namespace Sys2Proof.Machine
open Sys2Proof

/-! ### Clamped fields -/

/-- A field after its clamp, with 1 when the clamp changed it. -/
def limited (lo hi v : Nat) : Nat × Nat := (clampNat lo hi v, clampedBy v (clampNat lo hi v))

def limitedInt (lo hi v : Int) : Int × Nat := (clampInt lo hi v, clampedBy v (clampInt lo hi v))

/-- An optional field: the clamp acts when it is present. -/
def limitedOption (lo hi : Nat) (v : Option Nat) : Option Nat × Nat :=
  match v with
  | some x => (some (limited lo hi x).1, (limited lo hi x).2)
  | none => (none, 0)

/-- A step or slew period (R110, R135, R166). -/
def limitedPeriod (v : Nat) : Nat × Nat := (clampPeriod v, clampedBy v (clampPeriod v))

/-- The bit rate, to the nearer of the two (R19). -/
def limitedRate (v : Nat) : Nat × Nat :=
  let r := if v ≤ 187 then 125 else 250
  (r, clampedBy v r)

/-! ### Records (R1, R19, R26, R45, R66, R85, R87, R110, R115, R135, R143, R151, R166, R189) -/

def pointLength : Nat := 16

/-- A POINTS configuration record (R1, 10.5). -/
def parsePoint (b : List Byte) : Option (PointConfig × Nat) := do
  let binding ← nameAt pointBindings b 0
  let kind ← nameAt pointKinds b 3
  let mode ← nameAt comparatorModes b 10
  let isBus := binding == .bus
  let node := if isBus then limited 0 63 (u8At b 1) else (0, 0)
  let point := if isBus then limited 0 63 (u8At b 2) else (0, 0)
  let stale := limited 1 600 (u16At b 4)
  let flags := u8At b 15
  pure ({ binding := binding, node := node.1, point := point.1, kind := kind, stale := stale.1
          plausMin := s16At b 6, plausMax := s16At b 8, mode := mode, high := s16At b 11, low := s16At b 13
          latch := flags.testBit 0, trip := flags.testBit 1 },
    node.2 + point.2 + stale.2)

/-- The comparator thresholds a record is refused for (R1). -/
def PointConfig.thresholdsBad (c : PointConfig) : Bool :=
  (c.mode == .hysteresis || c.mode == .window) && c.high ≤ c.low

def windowLength : Nat := 6

def acceptActions : List Bool := [true, false]

/-- A WINDOWS record (R26). -/
def parseWindow (b : List Byte) : Option (WindowConfig × Nat) := do
  let enabled ← flagAt b 0
  let accept ← nameAt acceptActions b 5
  let ms := limited 0 63 (u8At b 1)
  let mp := limited 0 63 (u8At b 2)
  let sm := limited 0 63 (u8At b 3)
  let pm := limited 0 63 (u8At b 4)
  pure ({ enabled := enabled, matchSource := ms.1, matchPoint := mp.1, sourceMask := sm.1, pointMask := pm.1
          accept := accept }, ms.2 + mp.2 + sm.2 + pm.2)

def busLength : Nat := 5

/-- BUS record 0 (R19). -/
def parseBus (b : List Byte) : Option (BusSettings × Nat) := do
  let accept ← nameAt acceptActions b 3
  let clear ← flagAt b 4
  let own := limited 0 62 (u8At b 0)
  let rate := limitedRate (u8At b 1)
  let level := limited 1 255 (u8At b 2)
  pure ({ ownAddress := own.1, bitRate := rate.1, warning := level.1, accept := accept, clearOnRead := clear },
    own.2 + rate.2 + level.2)

/-- The length of a SHEETS record depends on the count of its surface list; a count above 4 is the wrong length (R45, R193). -/
def sheetLengthOk (b : List Byte) : Bool := u8At b 1 ≤ 4 && b.length == 31 + u8At b 1

def temperature (v : Int) : Int × Nat := limitedInt (-5000) 10000 v

/-- The critical trip hold is 0 or 10..3600 (R45). -/
def limitedHold (v : Nat) : Nat × Nat := if v = 0 then (0, 0) else limited 10 3600 v

/-- A list field counts one clamped field, however many of its entries were clamped (log entry 11). -/
def limitedList (xs : List Nat) : List Nat × Nat :=
  let ys := xs.map (min 63)
  (ys, clampedBy xs ys)

/-- A SHEETS configuration record (R45). -/
def parseSheet (b : List Byte) : Option (SheetConfig × Nat) := do
  let n := u8At b 1
  let r := b.drop (2 + n)
  let enabled ← flagAt b 0
  let brine ← optionAt u8At r 0
  let subsoil ← optionAt u8At r 2
  let surfaces := limitedList (((b.drop 2).take n).map BitVec.toNat)
  let brine := limitedOption 0 63 brine
  let subsoil := limitedOption 0 63 subsoil
  let tSet := temperature (s16At r 4)
  let tSoft := temperature (s16At r 6)
  let tLimit := temperature (s16At r 8)
  let hyst := limited 0 200 (u8At r 10)
  let bMax := limited 0 200000 (u32At r 11)
  let fallback := limited 0 1000 (u16At r 15)
  let offset := limited 0 2000 (u16At r 17)
  let hold := limited 60 1800 (u16At r 19)
  let tank := limited 0 3600 (u16At r 21)
  let crit := limitedHold (u16At r 23)
  let sMin := temperature (s16At r 25)
  let heave := limited 0 500 (u16At r 27)
  pure ({ enabled := enabled, surfaces := surfaces.1, brine := brine.1, subsoil := subsoil.1, tSet := tSet.1
          tSoft := tSoft.1, tLimit := tLimit.1, hysteresis := hyst.1, bMax := bMax.1, fallback := fallback.1
          brineOffset := offset.1, resurfaceHold := hold.1, tankTime := tank.1, criticalHold := crit.1
          subsoilMin := sMin.1, heaveHysteresis := heave.1 },
    surfaces.2 + brine.2 + subsoil.2 + tSet.2 + tSoft.2 + tLimit.2 + hyst.2 + bMax.2 + fallback.2 + offset.2
      + hold.2 + tank.2 + crit.2 + sMin.2 + heave.2)

/-- T_set ≥ T_soft or T_soft ≥ T_limit refuses the record (R45). -/
def SheetConfig.temperaturesBad (c : SheetConfig) : Bool := c.tSoft ≤ c.tSet || c.tLimit ≤ c.tSoft

def zoneLength : Nat := 20

/-- A ZONES configuration record (R66). -/
def parseZone (b : List Byte) : Option (ZoneConfig × Nat) := do
  let enabled ← flagAt b 0
  let nearIce ← optionAt u8At b 3
  let ceiling ← optionAt u8At b 5
  let sheet ← nameAt sheetChoices b 7
  let regen ← flagAt b 18
  let served ← flagAt b 19
  let airTemp := limited 0 63 (u8At b 1)
  let airRh := limited 0 63 (u8At b 2)
  let nearIce := limitedOption 0 63 nearIce
  let ceiling := limitedOption 0 63 ceiling
  let watch := limited 0 2000 (u16At b 8)
  let risk := limited 0 2000 (u16At b 10)
  let hyst := limited 0 500 (u16At b 12)
  let flood := limited 0 1000 (u16At b 14)
  let fallback := limited 0 1000 (u16At b 16)
  pure ({ enabled := enabled, airTemp := airTemp.1, airRh := airRh.1, nearIce := nearIce.1, ceiling := ceiling.1
          sheet := sheet, watch := watch.1, risk := risk.1, hysteresis := hyst.1, flood := flood.1
          fallback := fallback.1, servedRegen := regen, servedCeiling := served },
    airTemp.2 + airRh.2 + nearIce.2 + ceiling.2 + watch.2 + risk.2 + hyst.2 + flood.2 + fallback.2)

def sinkLength : Nat := 16

/-- A SINKS configuration record 0 to 11 (R87). -/
def parseSink (b : List Byte) : Option (SinkConfig × Nat) := do
  let enabled ← flagAt b 0
  let kind ← nameAt sinkKinds b 1
  let cls ← nameAt sinkClasses b 2
  let sheet ← nameAt sheetChoices b 3
  let occupancy ← optionAt u8At b 10
  let min := limited 0 30000 (u16At b 4)
  let max := limited 0 30000 (u16At b 6)
  let full := limited 1 30000 (u16At b 8)
  let occupancy := limitedOption 0 63 occupancy
  let persons := limited 1 5000 (u16At b 12)
  let spill := limited 0 1000 (u16At b 14)
  pure ({ enabled := enabled, kind := kind, cls := cls, sheet := sheet, min := min.1, max := max.1, fullOpen := full.1
          occupancy := occupancy.1, occupancyFull := persons.1, spill := spill.1 },
    min.2 + max.2 + full.2 + occupancy.2 + persons.2 + spill.2)

def allocatorLength : Nat := 6

/-- SINKS record 12 (R85). -/
def parseAllocator (b : List Byte) : Option (AllocatorSettings × Nat) := do
  let point ← optionAt u8At b 0
  let clear ← flagAt b 5
  let point := limitedOption 0 63 point
  let reserve := limited 0 30000 (u16At b 2)
  let period := limited 2 60 (u8At b 4)
  pure ({ heatPoint := point.1, reserve := reserve.1, period := period.1, clearOnRead := clear },
    point.2 + reserve.2 + period.2)

def channelLength : Nat := 11

/-- A CHANNELS configuration record (R110). -/
def parseChannel (b : List Byte) : Option (ChannelConfig × Nat) := do
  let sheet ← nameAt sheetChoices b 0
  let action ← nameAt channelActions b 7
  let coefficient := limited 0 20000 (u16At b 1)
  let floor := limited 0 4095 (u16At b 3)
  let safe := limited 0 4095 (u16At b 5)
  let step := limited 1 4095 (u16At b 8)
  let period := limitedPeriod (u8At b 10)
  pure ({ sheet := sheet, coefficient := coefficient.1, floor := floor.1, safe := safe.1, action := action
          step := step.1, period := period.1 },
    coefficient.2 + floor.2 + safe.2 + step.2 + period.2)

def sceneLength : Nat := 99

/-- A SCENES record (R115). -/
def parseScene (b : List Byte) : Option (Scene × Nat) := do
  let fields ← (List.range 33).mapM fun i => optionAt u16At b (3 * i)
  let level (i : Nat) : Option Nat × Nat := limitedOption 0 4095 (fields.getD i none)
  let fade := limitedOption 0 600 (fields.getD 32 none)
  pure ({ levels := Table.ofFn fun i => (level i.val).1, fade := fade.1 }, (sumOver 32 fun i => (level i.val).2) + fade.2)

/-- The binding index is clamped to the range its binding gives it; without a range it is kept as written (R135, R143). -/
def limitedIndex (b : OutputBinding) (v : Nat) : Nat × Nat :=
  match b with
  | .light => limited 0 31 v
  | .sink => limited 0 11 v
  | .zoneDemand => limited 0 3 v
  | .fan => limited 0 3 v
  | .sheetAlarm => limited 0 1 v
  | .none => (v, 0)
  | .backup => (v, 0)
  | .fixed => (v, 0)

def outputLength : Nat := 11

/-- An OUTPUTS configuration record 0 to 15 (R135). -/
def parseOutput (b : List Byte) : Option (OutputConfig × Nat) := do
  let kind ← nameAt outputKinds b 0
  let binding ← nameAt outputBindings b 1
  let action ← nameAt outputActions b 8
  let index := limitedIndex binding (u8At b 2)
  let pwm := limited 100 25000 (u16At b 3)
  let step := limited 1 4095 (u16At b 5)
  let period := limitedPeriod (u8At b 7)
  let safe := limited 0 4095 (u16At b 9)
  pure ({ kind := kind, binding := binding, index := index.1, pwm := pwm.1, step := step.1, period := period.1
          action := action, safe := safe.1 }, index.2 + pwm.2 + step.2 + period.2 + safe.2)

def stageLength : Nat := 2

def remoteLength : Nat := 9

/-- A REMOTES configuration record (R143). -/
def parseRemote (b : List Byte) : Option (RemoteConfig × Nat) := do
  let binding ← nameAt outputBindings b 0
  let action ← nameAt remoteActions b 6
  let index := limitedIndex binding (u8At b 1)
  let node := limited 0 63 (u8At b 2)
  let point := limited 0 63 (u8At b 3)
  let priority := limited 0 7 (u8At b 4)
  let refresh := limited 0 60 (u8At b 5)
  pure ({ binding := binding, index := index.1, node := node.1, point := point.1, priority := priority.1
          refresh := refresh.1, action := action, safe := s16At b 7 },
    index.2 + node.2 + point.2 + priority.2 + refresh.2)

def profileLength : Nat := 9

/-- A PROFILES record (R151). -/
def parseProfile (b : List Byte) : Option (Profile × Nat) := do
  let cls ← nameAt sinkClasses b 1
  let scene ← optionAt u8At b 6
  let bypass ← flagAt b 8
  let percent := limited 0 100 (u8At b 0)
  let base := limited 0 1000 (u16At b 2)
  let share := limited 0 1000 (u16At b 4)
  let scene := limitedOption 0 23 scene
  pure (⟨percent.1, cls, base.1, share.1, scene.1, bypass⟩, percent.2 + base.2 + share.2 + scene.2)

def protectLength : Nat := 4

/-- PROTECT record 0 (R166). -/
def parseProtect (b : List Byte) : ProtectSettings × Nat :=
  let hold := limited 5 50 (u8At b 0)
  let step := limited 1 4095 (u16At b 1)
  let period := limitedPeriod (u8At b 3)
  (⟨hold.1, step.1, period.1⟩, hold.2 + step.2 + period.2)

def noticeLength : Nat := 13

/-- NOTICE record 0 (R189). -/
def parseNotice (b : List Byte) : Option (NoticeSettings × Nat) := do
  let enables ← (List.range 11).mapM fun i => flagAt b i
  let threshold := limited 1 32 (u8At b 11)
  let coalescing := limited 0 60 (u8At b 12)
  pure ({ enables := Table.ofFn fun i => enables.getD i.val true, threshold := threshold.1, coalescing := coalescing.1 },
    threshold.2 + coalescing.2)

/-! ### Program entries of PROGRAM_ADD (R158, R193) -/

/-- The five action codes, in the order of the entry table. -/
inductive ActionCode
  | mode
  | scene
  | resurface
  | cover
  | allocate
deriving DecidableEq, Repr

def actionCodes : List ActionCode := [.mode, .scene, .resurface, .cover, .allocate]

/-- Body length of PROGRAM_ADD for an action: start time, action, and its fields. -/
def actionLength : ActionCode → Nat
  | .mode => 6
  | .scene => 9
  | .resurface => 6
  | .cover => 7
  | .allocate => 5

/-- Cover codes: on 0, off 1 (R193). -/
def coverCodes : List Bool := [true, false]

/-- The action a PROGRAM_ADD body names: its code checks, then its index checks (R158), and the clamp of a fade time. -/
def parseAction (a : ActionCode) (b : List Byte) : Except Reason (ProgramAction × Nat) :=
  match a with
  | .mode =>
    match modeOfCode (u8At b 5) with
    | some m => .ok (.mode m, 0)
    | none => .error .badValue
  | .scene =>
    match optionAt u16At b 6 with
    | none => .error .badValue
    | some f =>
      let fade := limitedOption 0 600 f
      match index 24 (u8At b 5) with
      | some k => .ok (.scene k fade.1, fade.2)
      | none => .error .badIndex
  | .resurface =>
    match index 2 (u8At b 5) with
    | some sh => .ok (.resurface sh, 0)
    | none => .error .badIndex
  | .cover =>
    match nameAt coverCodes b 6 with
    | none => .error .badValue
    | some on =>
      match index 2 (u8At b 5) with
      | some sh => .ok (.cover sh on, 0)
      | none => .error .badIndex
  | .allocate => .ok (.allocate, 0)

end Sys2Proof.Machine
end

