-- ==== Sys2Proof/Machine/ReadRecords.lean ====
section
/-! DEFINITION. The bytes of every record that a READ returns, of a notice, and of the STATUS body (10.5, R193). -/

namespace Sys2Proof.Machine
open Sys2Proof

/-- The bytes of a group repeated for every index in order (R193). -/
def forAll {n : Nat} (f : Fin n → List Byte) : List Byte := (List.finRange n).flatMap f

/-- The code of a name as a byte. -/
def named {α : Type} [DecidableEq α] (names : List α) (x : α) : List Byte := u8 (codeOf names x)

/-! ### Configuration parts, in the order of their chapters' tables -/

def pointFlags (c : PointConfig) (present : Bool) : Nat :=
  c.latch.toNat + 2 * c.trip.toNat + 4 * present.toNat

def putPointConfig (c : PointConfig) (present : Bool) : List Byte :=
  named pointBindings c.binding ++ u8 c.node ++ u8 c.point ++ named pointKinds c.kind ++ u16 c.stale
    ++ s16 c.plausMin ++ s16 c.plausMax ++ named comparatorModes c.mode ++ s16 c.high ++ s16 c.low
    ++ u8 (pointFlags c present)

def putPoint (c : PointConfig) (r : PointRun) : List Byte :=
  putPointConfig c r.value.isSome ++ s16 (r.value.getD 0) ++ u16 r.age ++ named qualities r.quality
    ++ u8 r.suspect ++ flag r.output

def putWindow (w : WindowConfig) : List Byte :=
  flag w.enabled ++ u8 w.matchSource ++ u8 w.matchPoint ++ u8 w.sourceMask ++ u8 w.pointMask ++ named acceptActions w.accept

def putBus (c : BusSettings) : List Byte :=
  u8 c.ownAddress ++ u8 c.bitRate ++ u8 c.warning ++ named acceptActions c.accept ++ flag c.clearOnRead

def putSheetConfig (c : SheetConfig) : List Byte :=
  flag c.enabled ++ putList c.surfaces ++ optional u8 0 c.brine ++ optional u8 0 c.subsoil ++ s16 c.tSet ++ s16 c.tSoft
    ++ s16 c.tLimit ++ u8 c.hysteresis ++ u32 c.bMax ++ u16 c.fallback ++ u16 c.brineOffset ++ u16 c.resurfaceHold
    ++ u16 c.tankTime ++ u16 c.criticalHold ++ s16 c.subsoilMin ++ u16 c.heaveHysteresis

def putZoneConfig (c : ZoneConfig) : List Byte :=
  flag c.enabled ++ u8 c.airTemp ++ u8 c.airRh ++ optional u8 0 c.nearIce ++ optional u8 0 c.ceiling
    ++ named sheetChoices c.sheet ++ u16 c.watch ++ u16 c.risk ++ u16 c.hysteresis ++ u16 c.flood ++ u16 c.fallback
    ++ flag c.servedRegen ++ flag c.servedCeiling

def putSinkConfig (c : SinkConfig) : List Byte :=
  flag c.enabled ++ named sinkKinds c.kind ++ named sinkClasses c.cls ++ named sheetChoices c.sheet ++ u16 c.min ++ u16 c.max
    ++ u16 c.fullOpen ++ optional u8 0 c.occupancy ++ u16 c.occupancyFull ++ u16 c.spill

def putAllocator (c : AllocatorSettings) : List Byte :=
  optional u8 0 c.heatPoint ++ u16 c.reserve ++ u8 c.period ++ flag c.clearOnRead

def putChannelConfig (c : ChannelConfig) : List Byte :=
  named sheetChoices c.sheet ++ u16 c.coefficient ++ u16 c.floor ++ u16 c.safe ++ named channelActions c.action
    ++ u16 c.step ++ u8 c.period

def putScene (c : Scene) : List Byte :=
  (forAll fun i => optional u16 0 (c.levels.get i)) ++ optional u16 0 c.fade

def putOutputConfig (c : OutputConfig) : List Byte :=
  named outputKinds c.kind ++ named outputBindings c.binding ++ u8 c.index ++ u16 c.pwm ++ u16 c.step ++ u8 c.period
    ++ named outputActions c.action ++ u16 c.safe

def putRemoteConfig (c : RemoteConfig) : List Byte :=
  named outputBindings c.binding ++ u8 c.index ++ u8 c.node ++ u8 c.point ++ u8 c.priority ++ u8 c.refresh
    ++ named remoteActions c.action ++ s16 c.safe

def putProfile (p : Profile) : List Byte :=
  u8 p.standsPercent ++ named sinkClasses p.standsClass ++ u16 p.baseDemand ++ u16 p.lightingShare
    ++ optional u8 0 p.entryScene ++ flag p.keyBypass

def putProtect (p : ProtectSettings) : List Byte := u8 p.keyHold ++ u16 p.step ++ u8 p.period

def putNoticeSettings (n : NoticeSettings) : List Byte :=
  (forAll fun i => flag (n.enables.get i)) ++ u8 n.threshold ++ u8 n.coalescing

/-! ### The image (R194) -/

/-- The contents of the image: the configuration part of every table in the order of R194, each record in its link layout
(log entry 37). -/
def imageBytes (c : Configuration) : List Byte :=
  (forAll fun i => putPointConfig (c.points.get i) false)
    ++ (forAll fun i => putWindow (c.windows.get i))
    ++ putBus c.bus
    ++ (forAll fun i => putSheetConfig (c.sheets.get i))
    ++ (forAll fun i => putZoneConfig (c.zones.get i))
    ++ (forAll fun i => putChannelConfig (c.channels.get i))
    ++ (forAll fun i => putOutputConfig (c.outputs.get i))
    ++ (forAll fun i => putRemoteConfig (c.remotes.get i))
    ++ (forAll fun i => putSinkConfig (c.sinks.get i))
    ++ putAllocator c.allocator
    ++ (forAll fun i => putScene (c.scenes.get i))
    ++ (forAll fun i => putProfile (c.profiles.get i))
    ++ u16 c.backupFull
    ++ putProtect c.protect
    ++ putNoticeSettings c.notice

/-- The check that STC computes over the contents (R194). -/
def imageCheck (c : Configuration) : BitVec 16 := BitVec.ofNat 16 (crc16 (imageBytes c))

/-- The image is good when the computed check equals the stored one (R194). -/
def StoredImage.good (x : StoredImage) : Bool := imageCheck x.contents == x.check

/-- The configuration in a good image; none when the image reads as bad (R194). -/
def Stc.goodImage (c : Stc) : Option Configuration :=
  match c.image with
  | some x => if x.good then some x.contents else none
  | none => none

/-! ### Runtime and status parts -/

/-- Requester lists its values as held, clear (2.1). -/
def putHeld (b : Bool) : List Byte := u8 (if b then 0 else 1)

/-- BUS record 1 (2.1). -/
def State.putBusStatus (s : State) : List Byte :=
  named busStates s.busState ++ u16 s.fbc.txe ++ u8 s.fbc.rxe ++ u8 s.fbc.idlePeriods ++ named handOvers s.fbc.handOver
    ++ putHeld s.fbc.hand ++ putHeld s.fbc.linkRequest ++ named testModes s.fbc.testMode ++ flag s.fbc.inFlight.isSome
    ++ u8 s.fbc.rxQueue.length ++ optional u32 0 (s.fbc.rxQueue.head?.map RxEntry.arrival) ++ u8 s.fbc.slots
    ++ putList s.pausedNodes
    ++ optional (fun p : Nat × Nat => u8 p.1 ++ u8 p.2) (0, 0) s.fbc.unbound

def putSheetRun (r : SheetRun) : List Byte :=
  named sheetStates r.state ++ optional s16 0 r.temp ++ named tempSources r.source ++ putPower r.budget
    ++ optional putPower (.watts 0) r.atLastPass ++ optional u32 0 r.frozen ++ u16 r.hold ++ u16 r.tank
    ++ u16 r.criticalTime ++ flag r.trigger ++ flag r.isCovered ++ named heaves r.heave

def putZoneRun (r : ZoneRun) : List Byte :=
  named zoneStates r.state ++ optional s16 0 r.dewPoint ++ flag r.floorFlag ++ optional s32 0 r.fogMargin
    ++ optional s32 0 r.dripMargin ++ optional s32 0 r.margin ++ optional (named surfaces) .nearIce r.limiting
    ++ flag r.flood ++ u16 r.demand

def putSinkRun (r : SinkRun) : List Byte :=
  u16 r.reqMin ++ u16 r.reqMax ++ named sinkClasses r.cls ++ u16 r.grant ++ named sinkStatuses r.status ++ u16 r.shortfall
    ++ u32 r.energy

/-- SINKS record 13: each per-sheet and per-class field repeated in index order (5.1, R193). -/
def Hra.putStatus (h : Hra) : List Byte :=
  optional u16 0 h.heatUsed ++ u16 h.pool ++ u16 h.rejected ++ u32 h.backup ++ flag h.hold
    ++ (forAll fun sh => optional putPower (.watts 0) (h.sheets.get sh).budget)
    ++ (forAll fun sh => optional u32 0 (h.sheets.get sh).lUp)
    ++ (forAll fun sh => optional u32 0 (h.sheets.get sh).reserve)
    ++ (forAll fun sh => optional putPower (.watts 0) (h.sheets.get sh).cap)
    ++ (forAll fun sh => putPower (h.sheets.get sh).allowance)
    ++ (forAll fun c => u8 (h.rotation.get c)) ++ u8 h.timer

/-- Effect codes: NONE, then the four shapes (6.1). -/
def effectCode (e : Option Effect) : Nat := match e with | none => 0 | some x => 1 + codeOf shapes x.shape

def channelStatuses : List ChannelStatus := [.steady, .fading, .effect, .underProtect]

def State.putChannelRun (s : State) (i : Fin 32) : List Byte :=
  let r := s.lsq.channels.get i
  u16 r.level ++ u16 r.base ++ u16 r.target ++ u16 r.step ++ u8 r.period ++ u8 (effectCode r.effect)
    ++ optional u16 0 (r.effect.map Effect.low) ++ optional u16 0 (r.effect.map Effect.high)
    ++ optional u16 0 (r.effect.map Effect.period) ++ optional u16 0 (r.effect.bind Effect.duty)
    ++ optional u16 0 (r.effect.map Effect.phase) ++ named channelStatuses (s.channelStatus i)

def putSheetLight (l : SheetLight) : List Byte := putPower l.allowance ++ u32 l.lUp ++ u16 l.derate

/-- The electrical value takes the width of its widest case; a switch is on 0 or off 1 (R193). -/
def putElectrical : Electrical → List Byte
  | .millivolt v => u16 v
  | .microamp v => u16 v
  | .switched on => u16 (if on then 0 else 1)
  | .duty v => u16 v

def outputStatuses : List OutputStatus := [.hiz, .steady, .slewing, .underProtect]

/-- Drive lists DRIVEN, HIZ (7.1). -/
def State.putOutputRun (s : State) (i : Fin 16) : List Byte :=
  let r := s.ost.outputs.get i
  u16 r.source ++ u16 r.fixed ++ u16 r.target ++ u16 r.code ++ u8 (if r.driven then 0 else 1)
    ++ optional putElectrical (.duty 0) (s.electrical i) ++ named outputStatuses (s.outputStatus i)

def putRemoteRun (r : RemoteRun) : List Byte :=
  optional s16 0 r.value ++ optional s16 0 r.last ++ flag r.dirty ++ u8 r.timer

/-- PROTECT record 1 (9.1). -/
def State.putProtectStatus (s : State) : List Byte :=
  named protectStates s.pru.state ++ putList (s.pru.triggers.map (codeOf triggers))
    ++ putList (s.activeTriggers.map (codeOf triggers)) ++ named keyStates s.pru.key ++ u16 s.pru.keyTimer
    ++ flag s.pru.arrived ++ u8 s.protectEntries ++ named storeOps s.stc.op ++ flag s.stc.snapshot.isSome
    ++ u32 s.stc.nextSequence

/-- A PROGRAM record after its present byte: every field of the entry table, 0 where the action does not use it (R193). -/
def putEntry (e : ProgramEntry) : List Byte :=
  let head (a : ActionCode) := u16 e.id ++ u32 e.start ++ named actionCodes a
  match e.action with
  | .mode m => head .mode ++ named arenaModes m ++ u8 0 ++ optional u16 0 none ++ u8 0 ++ u8 0
  | .scene k f => head .scene ++ u8 0 ++ u8 k.val ++ optional u16 0 f ++ u8 0 ++ u8 0
  | .resurface sh => head .resurface ++ u8 0 ++ u8 0 ++ optional u16 0 none ++ u8 sh.val ++ u8 0
  | .cover sh on => head .cover ++ u8 0 ++ u8 0 ++ optional u16 0 none ++ u8 sh.val ++ named coverCodes on
  | .allocate => head .allocate ++ u8 0 ++ u8 0 ++ optional u16 0 none ++ u8 0 ++ u8 0

/-- The trigger byte of a snapshot: bit n for trigger code n (10.5). -/
def triggerBits (ts : List Trigger) : Nat := (ts.map fun t => 2 ^ codeOf triggers t).sum

/-- A snapshot: header, then its sections in order (9.6, 10.5). -/
def putSnapshot (x : Snapshot) : List Byte :=
  u32 x.sequence ++ u32 x.clock ++ u8 (triggerBits x.triggers) ++ named arenaModes x.mode
    ++ (forAll fun i =>
        let sh := x.sheets.get i
        named sheetStates sh.state ++ optional s16 0 sh.temp ++ putPower sh.budget)
    ++ (forAll fun i =>
        let z := x.zones.get i
        named zoneStates z.state ++ optional s16 0 z.dewPoint ++ optional s32 0 z.margin)
    ++ (forAll fun i => u16 (x.grants.get i)) ++ (forAll fun i => u16 (x.levels.get i))
    ++ named busStates x.busState ++ u16 x.txe ++ u8 x.rxe

/-- A record behind a present byte (R185). -/
def marked {α : Type} (put : α → List Byte) : Option α → List Byte
  | some x => u8 1 ++ put x
  | none => u8 0

def State.putCounters (s : State) : List Byte := forAll fun i => u16 (s.fbc.counters.get i)

def State.putEnergy (s : State) : List Byte :=
  (forAll fun i => u32 (s.hra.sinks.get i).energy) ++ u32 s.hra.rejectedEnergy.total ++ u32 s.hra.backupEnergy.total

/-! ### Tables (10.5) -/

/-- Record `i` of a table a READ can name; none where the table has no such record. -/
def State.record (s : State) (table i : Nat) : Option (List Byte) :=
  match table with
  | 1 => (index 64 i).map fun k => putPoint (s.cfg.points.get k) (s.ptb.points.get k)
  | 2 => (index 4 i).map fun k => putWindow (s.cfg.windows.get k)
  | 3 => if i = 0 then some (putBus s.cfg.bus) else if i = 1 then some s.putBusStatus else none
  | 4 => (index 2 i).map fun k => putSheetConfig (s.cfg.sheets.get k) ++ putSheetRun (s.shm.get k)
  | 5 => (index 4 i).map fun k => putZoneConfig (s.cfg.zones.get k) ++ putZoneRun (s.cdm.get k)
  | 6 =>
    if i = 12 then some (putAllocator s.cfg.allocator)
    else if i = 13 then some s.hra.putStatus
    else (index 12 i).map fun k => putSinkConfig (s.cfg.sinks.get k) ++ putSinkRun (s.hra.sinks.get k)
  | 7 =>
    if i = 32 then some (putSheetLight (s.lsq.sheets.get 0))
    else if i = 33 then some (putSheetLight (s.lsq.sheets.get 1))
    else (index 32 i).map fun k => putChannelConfig (s.cfg.channels.get k) ++ s.putChannelRun k
  | 8 => (index 24 i).map fun k => putScene (s.cfg.scenes.get k)
  | 9 =>
    if i = 16 then some (u16 s.cfg.backupFull)
    else (index 16 i).map fun k => putOutputConfig (s.cfg.outputs.get k) ++ s.putOutputRun k
  | 10 => (index 32 i).map fun k => putRemoteConfig (s.cfg.remotes.get k) ++ putRemoteRun (s.ost.remotes.get k)
  | 11 => (index 5 i).map fun k => putProfile (s.cfg.profiles.get k)
  | 12 => if i = 0 then some (putProtect s.cfg.protect) else if i = 1 then some s.putProtectStatus else none
  | 13 => if i = 0 then some (putNoticeSettings s.cfg.notice) else none
  | 14 => (index 48 i).map fun k => marked putEntry s.scu.program[k.val]?
  | 15 => if i = 0 then some s.putCounters else none
  | 16 => if i = 0 then some s.putEnergy else none
  | 17 => (index 4 i).map fun k => marked putSnapshot (s.stc.newest k.val)
  | _ => none

/-! ### Segments, FETCH and STATUS bodies (R185, R188, 10.5) -/

/-- The segment bodies of READ record bytes: up to 199 bytes each behind a segment byte, bit 7 set in the last (R185). -/
def segmentsFrom : Nat → Nat → List Byte → List (List Byte)
  | 0, _, _ => []
  | fuel + 1, n, bytes =>
    if bytes.length ≤ 199 then [BitVec.ofNat 8 (128 + n) :: bytes]
    else (BitVec.ofNat 8 n :: bytes.take 199) :: segmentsFrom fuel (n + 1) (bytes.drop 199)

def segments (bytes : List Byte) : List (List Byte) := segmentsFrom (bytes.length + 1) 0 bytes

/-- A notice record of 11 bytes (10.5). -/
def putNotice (n : Notice) : List Byte :=
  u8 ((noticeIndex n.kind).val + 1) ++ u16 n.subject ++ s32 n.value ++ u32 n.clock

/-- The DONE body of a FETCH (R188). -/
def fetchBody (lost : Nat) (ns : List Notice) : List Byte := u8 lost ++ u8 ns.length ++ ns.flatMap putNotice

def phaseCode : Phase → Nat
  | .run => 1
  | _ => 0

/-- The STATUS body of 19 bytes (10.5). -/
def State.statusBody (s : State) : List Byte :=
  named arenaModes s.scu.mode ++ u8 (phaseCode s.phase) ++ named protectStates s.pru.state
    ++ (forAll fun sh => named sheetStates (s.shm.get sh).state) ++ (forAll fun z => named zoneStates (s.cdm.get z).state)
    ++ named busStates s.busState ++ named handOvers s.fbc.handOver ++ named storeOps s.stc.op
    ++ u8 s.lnk.notices.length ++ u8 s.lnk.lost ++ named portLocks s.lnk.locked ++ u32 s.scu.clock

end Sys2Proof.Machine
end

