-- ==== Sys2Proof/Machine/Startup.lean ====
section
/-! DEFINITION. Start-up and the store's completions (11): resets, the end of SETTLE, the work of START, SAVE, LOAD and snapshot ends. -/

namespace Sys2Proof.Machine
open Sys2Proof

/-! ### Resets (R198, R200) -/

/-- A reset begins: SETTLE, with only what the kind of reset keeps. `soft` keeps the port lock and the clock (R191, R200). -/
def State.beginSettle (strap : Strap) (soft : Bool) (s : State) : State :=
  { pending := s.pending
    choices := s.choices
    phase := .settle
    strap := strap
    pins := s.pins
    lnk := { locked := if soft then s.lnk.locked else .none }
    scu := { clock := if soft then s.scu.clock else 0 }
    stc := s.stc.afterReset }

/-- The reset value of a sheet's runtime part (R64). -/
def sheetAfterReset (c : SheetConfig) : SheetRun :=
  { state := if c.enabled then .blind else .off
    budget := if c.enabled then .watts 0 else .unlimited
    heave := if c.subsoil.isSome then .max else .min }

/-- The reset value of a zone's runtime part (R82). -/
def zoneAfterReset (c : ZoneConfig) : ZoneRun := { demand := if c.enabled then c.fallback else 0 }

/-- The reset value of a channel's runtime part (R133). -/
def channelAfterReset (c : ChannelConfig) : ChannelRun := { target := c.floor, step := c.step, period := c.period }

/-- Source codes and remote values computed from the other blocks' reset values (R148). -/
def State.startSources (s : State) : State :=
  { s with ost := { s.ost with
      outputs := s.ost.outputs.mapIdx fun i o => { o with source := s.outputSource i }
      remotes := s.ost.remotes.mapIdx fun i r =>
        { r with value := if (s.cfg.remotes.get i).binding = .none then none else some (s.remoteSource i : Int) } } }

/-- Every block's reset values on a configuration (R18, R44, R64, R82, R108, R133, R148, R165, R179, R192). -/
def State.resetBlocks (cfg : Configuration) (s : State) : State :=
  ((({ s with
      phase := .waiting
      ms := 0
      cfg := cfg
      lnk := { locked := s.lnk.locked }
      fbc := { address := cfg.bus.ownAddress, bitRate := cfg.bus.bitRate }
      ptb := { points := cfg.points.mapIdx fun _ c => restarted c.binding }
      shm := cfg.sheets.mapIdx fun _ c => sheetAfterReset c
      cdm := cfg.zones.mapIdx fun _ c => zoneAfterReset c
      hra := {}
      lsq := { channels := cfg.channels.mapIdx fun _ c => channelAfterReset c }
      ost := {}
      scu := { clock := s.scu.clock }
      pru := {} } : State).recompute fun _ => true)).startSources

/-- The pins are sampled at the end of SETTLE (R37, R167, R179). -/
def State.samplePins (s : State) : State :=
  (s.sampleHand s.pins.hand).setPru { s.pru with
    pin := s.pins.protect
    key := if s.pins.egress then .timing else .released }

/-- The work of START (R199): outputs, the first pass and the fades it starts, protect, the program. -/
def State.startWork (s : State) : State :=
  let s1 := ({ s with phase := .run } : State).startOutputs
  ((((s1.passWith true).startChannels).handRemotes).evaluateProtect).catchUp

/-- A STORE notice (R197). -/
def State.storeNotice (subject : Nat) (failed : Bool) (s : State) : State := s.notice .store subject failed.toNat

/-- The end of SETTLE (R198). -/
def State.endSettle (s : State) : State :=
  match s.strap, s.stc.goodImage with
  | .standalone, some image => ((s.resetBlocks image).samplePins).startWork
  | .standalone, none => ((s.resetBlocks {}).samplePins).storeNotice 3 true
  | .attended, _ => (s.resetBlocks {}).samplePins

/-! ### SAVE and snapshot write (R177, R195, R197) -/

def State.setStc (c : Stc) (s : State) : State := { s with stc := c }

/-- A SAVE begins: the configuration is taken now (R195). -/
def State.beginSave (s : State) : State := s.setStc { s.stc with op := .save, saving := some s.cfg }

/-- STC after a SAVE whose image is read back with `check` behind its contents (R195, log entry 37). -/
def Stc.afterSave (check : BitVec 16) (c : Stc) : Stc :=
  { c with op := .none, image := c.saving.map fun contents => ⟨contents, check⟩, saving := none }

/-- A SAVE ends: the image is read back and judged, and a pending snapshot's write begins (R175, R195). -/
def State.endSave (check : BitVec 16) (s : State) : State :=
  if s.stc.op = .save then
    let c := s.stc.afterSave check
    (s.setStc c.beginWrite).storeNotice 0 c.goodImage.isNone
  else s

/-- A snapshot write ends (R177). -/
def State.endSnapshot (good : Bool) (s : State) : State :=
  match s.stc.op, s.stc.writing with
  | .snapshot, some (i, x) =>
    (s.setStc { s.stc with
      op := .none, writing := none, slots := if good then s.stc.slots.set i (some x) else s.stc.slots }).storeNotice 2 (!good)
  | _, _ => s

/-! ### LOAD (R196) -/

/-- A good image replaces the configuration as one whole, and each block takes it, the blocks that are read first (R196). Sheet A comes
before sheet B (DESIGN CHOICE, log entry 24). The passes that end it move no level in its event (R94, R109, R134). -/
def State.takeImage (receiving : Bool) (image : Configuration) (s : State) : State :=
  let s1 := (({ s with cfg := image } : State).loadPoints).applyLineWhenIdle receiving
  let a := s1.loadSheet 0
  let b := a.state.loadSheet 1
  let s2 := ((b.state.loadZones s.cfg).recompute fun _ => true).loadChannels.loadOutputs
  s2.passes false (a.passes + b.passes + 1)

/-- The deferred trip (R171). -/
def State.deferredTrip (s : State) : State :=
  let ts := s.pru.deferred
  let s1 := s.setPru { s.pru with deferred := [] }
  if ts.isEmpty then s1 else if s.armed then s1.trip ts else ts.foldl (fun st t => st.raise t) s1

/-- Held entries wait behind the LOAD (R160). -/
def State.holdsEntries (s : State) : Bool := s.phase == .run && !s.dueEntries.isEmpty

def State.takeHeld (s : State) : State := if s.phase = .run then s.takeDue else s

/-- The deferred trip and the held entries, in the order the manual leaves open (R171, log entry 6). -/
def State.afterLoad (s : State) : State :=
  if !s.pru.deferred.isEmpty && s.holdsEntries then
    let s1 : State := { s with choices := s.choices + 1 }
    if Config.tripBeforeHeldEntries s.choices then s1.deferredTrip.takeHeld else s1.takeHeld.deferredTrip
  else s.deferredTrip.takeHeld

/-- A LOAD ends: the image is read and judged (R194, R196). -/
def State.endLoad (receiving : Bool) (s : State) : State :=
  if s.stc.op = .load then
    let s1 := match s.stc.goodImage with
      | some image => (s.takeImage receiving image).storeNotice 1 false
      | none => s.storeNotice 1 true
    (s1.setStc { s1.stc with op := .none }).afterLoad
  else s

end Sys2Proof.Machine
end

