-- ==== Sys2Proof/Machine/Link.lean ====
section
/-! DEFINITION. The Link Interface (10): frame intake, the request buffer, how a request is taken and answered, the decisions of R184 and
R186, READs, and delivery. -/

namespace Sys2Proof.Machine
open Sys2Proof

/-! ### Intake (R180 to R183) -/

def portLock : Port → PortLock
  | .uart => .uart
  | .spi => .spi

/-- The port is ignored: the other one is locked (R180). -/
def State.ignores (s : State) (p : Port) : Bool := s.lnk.locked != .none && s.lnk.locked != portLock p

def Lnk.intake (l : Lnk) : Port → List Byte
  | .uart => l.uartIntake
  | .spi => l.spiIntake

def Lnk.setIntake (p : Port) (b : List Byte) (l : Lnk) : Lnk :=
  match p with
  | .uart => { l with uartIntake := b }
  | .spi => { l with spiIntake := b }

def State.setIntake (p : Port) (b : List Byte) (s : State) : State := { s with lnk := s.lnk.setIntake p b }

/-- A good frame: it locks the port, joins the buffer, or is answered BUSY (R180, R183). The other port's bytes are ignored from then on. -/
def State.offerRequest (p : Port) (r : Request) (s : State) : State :=
  let l := { s.lnk with locked := portLock p }
  let l := match p with | .uart => l.setIntake .spi [] | .spi => l.setIntake .uart []
  let s1 : State := { s with lnk := l }
  if l.requests.length < 2 then { s1 with lnk := { l with requests := l.requests ++ [r] } }
  else (s1.place ⟨r.tag, .busy, [[]]⟩).count .linkBusy

/-- What the search for frames found, in order (R181). -/
def State.takeLinkEvent (p : Port) (s : State) (e : LinkEvent) : State :=
  match e with
  | .good r => s.offerRequest p r
  | .bad => s.count .linkCheck

/-- Bytes arrive on a port that is not ignored (R181). -/
def State.receiveBytes (p : Port) (bytes : List Byte) (s : State) : State :=
  let found := scan (s.lnk.intake p ++ bytes)
  found.1.foldl (State.takeLinkEvent p) (s.setIntake p found.2)

/-- LNK listens from the end of SETTLE on, also while a RESET waits for its delivery (R180, R191). -/
def State.listens (s : State) (p : Port) : Bool := s.phase != .settle && !s.ignores p

/-- The gap ends a UART attempt under way (R181). -/
def State.endAttempt (s : State) : State :=
  if s.lnk.uartIntake.isEmpty then s else (s.setIntake .uart []).count .linkTimeout

/-! ### The reply output (R180, R182) -/

/-- The reply bytes that have not left, in order. -/
def Lnk.waitingBytes (l : Lnk) : List Byte := (l.output.flatMap Reply.bytes).drop l.clocked

/-- What SDO carries at the next clock while SEL is asserted: nothing once the UART is locked, 0x00 before the SPI port is locked or with
no reply byte waiting, and otherwise the next reply byte (R180, R182). -/
def State.sdo (s : State) : Option Byte :=
  match s.lnk.locked with
  | .uart => none
  | .none => some 0
  | .spi => some (s.lnk.waitingBytes.headD 0)

/-- The reply bytes still to leave on LTX, which stays idle unless the UART is locked (R180, R182). -/
def State.ltx (s : State) : List Byte := if s.lnk.locked = .uart then s.lnk.waitingBytes else []

/-- The oldest waiting reply has been delivered; a waiting RESET counts it (R182, R191). -/
def Lnk.deliver (l : Lnk) : Lnk :=
  match l.output with
  | [] => l
  | _ :: rest => { l with output := rest, clocked := 0, resetWait := l.resetWait.map (· - 1) }

def State.deliver (s : State) : State := { s with lnk := s.lnk.deliver }

/-- The host clocks `n` bytes on the locked SPI port; each carries the next reply byte, and the last byte of a reply delivers it (R182). -/
def Lnk.clockOut : Nat → Lnk → Lnk
  | 0, l => l
  | n + 1, l =>
    match l.output with
    | [] => l
    | r :: _ =>
      if l.clocked + 1 < r.bytes.length then Lnk.clockOut n { l with clocked := l.clocked + 1 }
      else Lnk.clockOut n l.deliver

/-- `n` bytes on a port move reply bytes out in the same clocks when it is the locked SPI port (R182). -/
def State.clockOut (p : Port) (n : Nat) (s : State) : State :=
  if p = .spi ∧ s.lnk.locked = .spi then { s with lnk := s.lnk.clockOut n } else s

/-! ### Assemblies (R17, R43, R185) -/

/-- The held tallies are added to the counters (R43). -/
def Fbc.mergeTallies (f : Fbc) : Fbc :=
  { f with
    counters := f.counters.mapIdx fun i n => saturate16 (n + f.tallies.get i)
    tallies := Table.const 15 0 }

/-- The oldest held request leaves the buffer as its reply is handed to the output (R183). -/
def State.dropRequest (s : State) : State := { s with lnk := { s.lnk with requests := s.lnk.requests.tail } }

/-- A reply is handed to the output and its request is held no more (R183). -/
def State.reply (r : Reply) (s : State) : State := (s.place r).dropRequest

/-- The end of an assembly: its reply is handed over, held increments are added, held aging is applied (R17, R43, R185). That held aging
comes before every waiting receive entry is DESIGN CHOICE (log entry 2). -/
def State.endAssembly (s : State) : State :=
  match s.lnk.assembly with
  | none => s
  | some a =>
    let s1 := (({ s with lnk := { s.lnk with assembly := none } } : State).reply a.reply)
    match a.kind with
    | .counters => { s1 with fbc := s1.fbc.mergeTallies }
    | .points => s1.applyHeldAging
    | .energy => s1

/-! ### Taking a request (R183) -/

/-- A request that its own command brings to an empty buffer comes over the locked port, or locks one (R180, log entry 14). -/
def State.arrive (r : Request) (s : State) : State :=
  match s.lnk.locked with
  | .uart => s.offerRequest .uart r
  | .spi => s.offerRequest .spi r
  | .none =>
    let s1 : State := { s with choices := s.choices + 1 }
    if Config.requestOverSpi s.choices then s1.offerRequest .spi r else s1.offerRequest .uart r

/-- LNK takes the oldest held request when no request is being handled: an assembly ends first; `r` must be the head of the buffer, or
the buffer empty, where the request arrives with this command (log entry 14). Anything else is no event. -/
def State.takeRequest (r : Request) (f : State → State) (s : State) : State :=
  if !s.live then s
  else
    let s1 := s.endAssembly
    match s1.lnk.requests with
    | [] => f (s1.arrive r)
    | q :: _ => if q = r then f s1 else s

/-- What a request's own rule decides: a refusal, which changes nothing (R183), or the DONE body and the state. -/
abbrev Decision := Except Reason (List Byte × State)

/-- The reply to a decided request, of one frame. -/
def State.conclude (tag : Byte) (d : Decision) (s : State) : State :=
  match d with
  | .ok (body, s1) => s1.reply ⟨tag, .done, [body]⟩
  | .error e => s.reply ⟨tag, .refused, [u8 e.code]⟩

/-- A request taken and answered in one event. -/
def State.serve (tag kind : Byte) (body : List Byte) (decide : State → Decision) (s : State) : State :=
  s.takeRequest ⟨tag, kind, body⟩ fun st => st.conclude tag (decide st)

/-! ### WRITE (R184) -/

/-- A SAVE or LOAD runs (R184). -/
def State.storeBusy (s : State) : Bool := s.stc.op == .save || s.stc.op == .load

/-- Table codes (10.5). -/
def tablePoints : Nat := 1
def tableWindows : Nat := 2
def tableBus : Nat := 3
def tableSheets : Nat := 4
def tableZones : Nat := 5
def tableSinks : Nat := 6
def tableChannels : Nat := 7
def tableScenes : Nat := 8
def tableOutputs : Nat := 9
def tableRemotes : Nat := 10
def tableProfiles : Nat := 11
def tableProtect : Nat := 12
def tableNotice : Nat := 13
def tableProgram : Nat := 14
def tableCounters : Nat := 15
def tableEnergy : Nat := 16
def tableSnapshots : Nat := 17

/-- How many records of a table are writable, from index 0 (R19, R45, R85, R110, R135, R166, R189). -/
def writableRecords (table : Nat) : Nat :=
  match table with
  | 1 => 64
  | 2 => 4
  | 3 => 1
  | 4 => 2
  | 5 => 4
  | 6 => 13
  | 7 => 32
  | 8 => 24
  | 9 => 17
  | 10 => 32
  | 11 => 5
  | 12 => 1
  | 13 => 1
  | _ => 0

/-- The clamped-field count of a DONE reply. -/
def done (clamps : Nat) (s : State) : Decision := .ok (u8 clamps, s)

/-- A WRITE to one of `n` records, in the order of R184: index, length, STORE_BUSY, then the record's own checks. -/
def State.write (n : Nat) (rest : List Byte) (lengthOk : List Byte → Bool)
    (apply : Fin n → List Byte → State → Decision) (s : State) : Decision :=
  match rest with
  | [] => .error .badLength
  | i :: record =>
    match index n i.toNat with
    | none => .error .badIndex
    | some k =>
      if !lengthOk record then .error .badLength
      else if s.storeBusy then .error .storeBusy
      else apply k record s

/-- A record with a code outside its list is refused BAD_VALUE. -/
def withRecord {α : Type} (p : Option (α × Nat)) (f : α → Nat → Decision) : Decision :=
  match p with
  | some (c, n) => f c n
  | none => .error .badValue

/-- A WRITE that names no writable record (R184). -/
def refusedWrite (body : List Byte) : Reason :=
  match body with
  | [] => .badLength
  | t :: rest =>
    if t.toNat = 0 ∨ 17 < t.toNat then .badTable
    else match rest with
      | [] => .badLength
      | _ => .badIndex

/-! ### ACT (R186) -/

/-- An act with fields of a fixed length: STORE_BUSY while a LOAD runs (R186), then the length, then the act's own rule; that the length
comes before a rule's other checks is the model's choice where the rule gives no order, and so is BAD_LENGTH for an act whose rule names
no refusal of a length (DESIGN CHOICE, log entries 16 and 36). -/
def State.act (n : Nat) (fields : List Byte) (f : State → Decision) (s : State) : Decision :=
  if s.stc.op = .load then .error .storeBusy
  else if fields.length ≠ n then .error .badLength
  else f s

/-- The request of an act. -/
def State.serveAct (tag : Byte) (code : Nat) (fields : List Byte) (decide : State → Decision) (s : State) : State :=
  s.serve tag kindAct (BitVec.ofNat 8 code :: fields) decide

/-! ### READ (R17, R184, R185) -/

/-- The record bytes of a READ, or its refusal (R17, R184): table, index, length. A body without a table or an index, and a count other
than 1 for a table other than POINTS, are BAD_LENGTH (DESIGN CHOICE, log entry 10). -/
def State.readBytes (body : List Byte) (s : State) : Except Reason (List Byte) :=
  match body with
  | [] => .error .badLength
  | t :: rest =>
    if t.toNat = 0 ∨ 17 < t.toNat then .error .badTable
    else
      match rest with
      | [] => .error .badLength
      | i :: more =>
        let count := if t.toNat = tablePoints then u8At more 0 else 1
        match ((List.range' i.toNat (max 1 count)).mapM (s.record t.toNat)) with
        | none => .error .badIndex
        | some records =>
          if more.length ≠ 1 then .error .badLength
          else if t.toNat = tablePoints then
            if u8At more 0 = 0 ∨ 16 < u8At more 0 then .error .badLength else .ok records.flatten
          else if u8At more 0 ≠ 1 then .error .badLength
          else .ok records.flatten

/-- A READ being taken: refused at once, or assembled; the assembly ends in the same event unless it `lasts`. -/
def State.assemble (tag : Byte) (kind : AssemblyKind) (lasts : Bool) (body : List Byte) (onTaken : State → State)
    (s : State) : State :=
  match s.readBytes body with
  | .error e => s.reply ⟨tag, .refused, [u8 e.code]⟩
  | .ok bytes =>
    let s1 := onTaken { s with lnk := { s.lnk with assembly := some ⟨kind, ⟨tag, .done, segments bytes⟩⟩ } }
    if lasts then s1 else s1.endAssembly

/-- A READ with an assembly of its own. -/
def State.serveRead (tag : Byte) (table : Nat) (rest : List Byte) (kind : AssemblyKind) (lasts : Bool)
    (onTaken : State → State) (s : State) : State :=
  let body := BitVec.ofNat 8 table :: rest
  s.takeRequest ⟨tag, kindRead, body⟩ fun st => st.assemble tag kind lasts body onTaken

/-- Counters zeroed at the moment of a READ with clear-on-read (R43). -/
def State.clearCounters (s : State) : State :=
  if s.cfg.bus.clearOnRead then { s with fbc := { s.fbc with counters := Table.const 15 0 } } else s

/-- Accumulators zeroed at the moment of a READ with clear-on-read; the remainders are kept (R105). -/
def State.clearEnergy (s : State) : State :=
  if s.cfg.allocator.clearOnRead then
    { s with hra := { s.hra with
        sinks := s.hra.sinks.mapIdx fun _ k => { k with energy := 0 }
        rejectedEnergy := { s.hra.rejectedEnergy with total := 0 }
        backupEnergy := { s.hra.backupEnergy with total := 0 } } }
  else s

/-- A held request that no row of the command table takes is answered in one event (log entry 3). -/
def State.answerRowless (r : Request) (s : State) : State :=
  if r.kind = kindRead then
    match s.readBytes r.body with
    | .error e => s.reply ⟨r.tag, .refused, [u8 e.code]⟩
    | .ok bytes => s.reply ⟨r.tag, .done, segments bytes⟩
  else s.reply ⟨r.tag, .refused, [u8 Reason.badLength.code]⟩

/-- A request without a row: a READ of a table other than POINTS, COUNTERS and ENERGY, or of none; an ACT without an act code. -/
def Request.rowless (r : Request) : Bool :=
  match r.body with
  | t :: _ => r.kind == kindRead && t.toNat != tablePoints && t.toNat != tableCounters && t.toNat != tableEnergy
  | [] => r.kind == kindRead || r.kind == kindAct

/-! ### FETCH, STATUS, delivery (R182, R186, R188, R191) -/

/-- FETCH (R188). -/
def State.fetch (body : List Byte) (s : State) : Decision :=
  match body with
  | [n] =>
    let taken := s.lnk.notices.take (min n.toNat 18)
    .ok (fetchBody s.lnk.lost taken,
      { s with lnk := { s.lnk with notices := s.lnk.notices.drop (min n.toNat 18), lost := 0 } })
  | _ => .error .badLength

/-- RESET is accepted: its reply is placed, and the part waits for its delivery and that of the replies before it (R191). -/
def State.awaitReset (s : State) : State :=
  { s with lnk := { s.lnk with resetWait := some s.lnk.output.length } }

end Sys2Proof.Machine
end

