-- ==== Sys2Proof/Machine/Idle.lean ====
section
/-! DEFINITION. What the part does on an empty command queue (log entries 2 to 4): it ends an assembly, answers a held request that has no
row, or one millisecond passes. -/

namespace Sys2Proof.Machine
open Sys2Proof

/-- A timer counts down and stops short of its expiry, which is a command of its own; 0 is stopped. -/
def countDown (t : Nat) : Nat := if t ≤ 1 then t else t - 1

/-- What a millisecond does to a channel's timers (R112, R119). -/
def ChannelRun.passMs (r : ChannelRun) : ChannelRun :=
  { r with
    timer := r.timer.map countDown
    effect := r.effect.map fun e => { e with untilSample := countDown e.untilSample } }

/-- The timers that count milliseconds (R31, R112, R119, R139, R150, R168); the effect generator runs in RUN only (R132). -/
def State.passMs (s : State) : State :=
  { s with
    ms := s.ms + 1
    fbc := { s.fbc with pauses := s.fbc.pauses.mapIdx fun _ t => countDown t }
    lsq := if s.phase = .run then { s.lsq with channels := s.lsq.channels.mapIdx fun _ r => r.passMs } else s.lsq
    ost := { s.ost with outputs := s.ost.outputs.mapIdx fun _ o => { o with timer := o.timer.map countDown } }
    scu := { s.scu with elapsed := min 999 (s.scu.elapsed + 1) }
    pru := { s.pru with keyTimer := countDown s.pru.keyTimer } }

/-- A second of a sheet: hold, tank, time in CRITICAL short of the trip hold (R56, R58, R61). -/
def SheetRun.passSecond (c : SheetConfig) (r : SheetRun) : SheetRun :=
  let time := min 65535 (r.criticalTime + 1)
  { r with
    hold := countDown r.hold
    tank := countDown r.tank
    criticalTime :=
      if r.state ≠ .critical then r.criticalTime
      else if c.criticalHold ≠ 0 ∧ r.trigger = false ∧ c.criticalHold ≤ time then r.criticalTime
      else time }

/-- The counts of the one-second intervals that run from the end of SETTLE (R56, R94, R145, R190). -/
def State.passSecond (s : State) : State :=
  { s with
    shm := s.shm.mapIdx fun sh r => r.passSecond (s.cfg.sheets.get sh)
    hra := { s.hra with timer := countDown s.hra.timer }
    ost := { s.ost with remotes := s.ost.remotes.mapIdx fun _ r => { r with timer := countDown r.timer } }
    lnk := { s.lnk with notices := s.lnk.notices.map fun n => { n with waited := n.waited + 1 } } }

/-- One millisecond, and the second it may end. -/
def State.passTime (s : State) : State :=
  if !s.live then s
  else
    let s1 := s.passMs
    if s1.ms % 1000 = 0 then s1.passSecond else s1

/-- A turn of the part on an empty queue. -/
def State.idle (s : State) : State :=
  if !s.live then s
  else if s.lnk.assembly.isSome then s.endAssembly
  else
    match s.lnk.requests with
    | r :: _ => if r.rowless then s.answerRowless r else s.passTime
    | [] => s.passTime

end Sys2Proof.Machine
end

