-- ==== Sys2Proof/Machine/LinkCommands.lean ====
section
/-! DEFINITION. Meanings of the resets, the link events, and the requests that are neither WRITE nor ACT. -/

namespace Sys2Proof.Machine
open Sys2Proof

/-- The outcome of a command. -/
abbrev Result := Host.Outcome State Fault Refusal

/-- A command about one of `n` things; none of it for a number the part does not have. -/
def onIndex (n k : Nat) (f : Fin n → Result) : Result :=
  match index n k with
  | some i => f i
  | none => .fault .illFormed

/-! ### Resets (R191, R198, R200) -/

def execPowerOn (strap : Strap) (s : State) : Result := .next (s.beginSettle strap false)

def execPinReset (strap : Strap) (s : State) : Result := .next (s.beginSettle strap false)

/-- SOFT_RESET follows the delivery of the RESET reply (R191); before it, it is no event. -/
def execSoftReset (strap : Strap) (s : State) : Result :=
  .next (if s.lnk.resetWait = some 0 then s.beginSettle strap true else s)

def execSettleEnd (s : State) : Result := .next (if s.phase = .settle then s.endSettle else s)

/-! ### Link events (R180 to R183, R190) -/

/-- HOST_FRAME; on the locked SPI port its bytes clock reply bytes out before the frames they hold are taken (log entry 38). -/
def execHostFrame (port : Port) (bytes : List Byte) (s : State) : Result :=
  .next (if s.listens port then (s.clockOut port bytes.length).receiveBytes port bytes else s)

def execGapTimeout (bytes : List Byte) (s : State) : Result :=
  .next (if s.listens .uart then (s.receiveBytes .uart bytes).endAttempt else s)

/-- LENGTH_ABOVE_200: the search restarts at the LENGTH byte, which is no SYNC (R181). The attempt has no byte yet, where SYNC and LENGTH
come together, or its SYNC alone (log entry 15). -/
def execLengthAbove200 (port : Port) (length : Byte) (s : State) : Result :=
  if length.toNat ≤ 200 then .fault .illFormed
  else
    .next (if s.listens port && ((s.lnk.intake port).isEmpty || s.lnk.intake port == [syncByte]) then
      ((s.clockOut port (2 - (s.lnk.intake port).length)).setIntake port []).count .linkCheck else s)

def execReplyDelivered (s : State) : Result := .next (if s.phase = .settle then s else s.deliver)

/-- The oldest notice has waited the coalescing time (R190). The seconds it still lacked have passed for every notice held, since all count
on one interval (log entry 4): one that the same event queued has waited as long. -/
def Lnk.waitOver (coalescing : Nat) (l : Lnk) : Lnk :=
  match l.notices with
  | n :: _ => { l with notices := l.notices.map fun x => { x with waited := x.waited + (coalescing - n.waited) } }
  | [] => l

def execNoticeWaitExpiry (s : State) : Result :=
  .next (s.event fun st => { st with lnk := st.lnk.waitOver st.cfg.notice.coalescing })

/-! ### Requests (R183, R186, R188) -/

/-- UNKNOWN_KIND_REQUEST: the KIND is not READ, WRITE, ACT, FETCH or STATUS (R183). -/
def execUnknownKindRequest (tag kind : Byte) (body : List Byte) (s : State) : Result :=
  if 1 ≤ kind.toNat ∧ kind.toNat ≤ 5 then .fault .illFormed
  else .next (s.serve tag kind body fun _ => .error .unknownKind)

def execReadPoints (tag : Byte) (rest : List Byte) (lasts : Bool) (s : State) : Result :=
  .next (s.serveRead tag tablePoints rest .points lasts id)

def execReadCounters (tag : Byte) (rest : List Byte) (lasts : Bool) (s : State) : Result :=
  .next (s.serveRead tag tableCounters rest .counters lasts State.clearCounters)

def execReadEnergy (tag : Byte) (rest : List Byte) (lasts : Bool) (s : State) : Result :=
  .next (s.serveRead tag tableEnergy rest .energy lasts State.clearEnergy)

def execFetch (tag : Byte) (body : List Byte) (s : State) : Result :=
  .next (s.serve tag kindFetch body (State.fetch body))

def execStatus (tag : Byte) (body : List Byte) (s : State) : Result :=
  .next (s.serve tag kindStatus body fun st => if body.isEmpty then .ok (st.statusBody, st) else .error .badLength)

end Sys2Proof.Machine
end

