-- ==== Sys2Proof/Machine/WriteCommands.lean ====
section
/-! DEFINITION. Meanings of the WRITE requests (R184): each with its table's checks, clamps and effects. -/

namespace Sys2Proof.Machine
open Sys2Proof

def State.setCfg (c : Configuration) (s : State) : State := { s with cfg := c }

/-- The request of a WRITE. -/
def State.serveWrite (tag : Byte) (table : Nat) (rest : List Byte) (decide : State → Decision) (s : State) : State :=
  s.serve tag kindWrite (BitVec.ofNat 8 table :: rest) decide

def lengthIs (n : Nat) (record : List Byte) : Bool := record.length == n

/-! ### Points (R1, R4, R6) -/

def writePointConfig (rest : List Byte) (s : State) : Decision :=
  s.write 64 rest (lengthIs pointLength) fun i record st =>
    withRecord (parsePoint record) fun c n =>
      if c.thresholdsBad || st.identityTaken i c then .error .badValue else done n (st.writePoint i c)

/-- WRITE_POINTS_CONFIG; a two-byte record is a WRITE_POINT_VALUE (R184). -/
def execWritePointsConfig (tag : Byte) (rest : List Byte) (s : State) : Result :=
  if rest.length = 3 then .fault .illFormed
  else .next (s.serveWrite tag tablePoints rest (writePointConfig rest))

def writeValue (rest : List Byte) (s : State) : Decision :=
  s.write 64 rest (lengthIs 2) fun i record st =>
    if (st.cfg.points.get i).binding = .link then done 0 (st.updatePoint i (s16At record 0)) else .error .notNow

def execWritePointValue (tag : Byte) (rest : List Byte) (s : State) : Result :=
  if rest.length = 3 then .next (s.serveWrite tag tablePoints rest (writeValue rest))
  else .fault .illFormed

/-! ### Bus settings and windows (R19, R26) -/

def writeBus (receiving : Bool) (rest : List Byte) (s : State) : Decision :=
  s.write 1 rest (lengthIs busLength) fun _ record st =>
    withRecord (parseBus record) fun c n => done n ((st.setCfg { st.cfg with bus := c }).applyLineWhenIdle receiving)

def execWriteBusSettings (tag : Byte) (rest : List Byte) (receiving : Bool) (s : State) : Result :=
  .next (s.serveWrite tag tableBus rest (writeBus receiving rest))

def writeWindow (rest : List Byte) (s : State) : Decision :=
  s.write 4 rest (lengthIs windowLength) fun i record st =>
    withRecord (parseWindow record) fun c n => done n (st.setCfg { st.cfg with windows := st.cfg.windows.set i c })

def execWriteWindows (tag : Byte) (rest : List Byte) (s : State) : Result :=
  .next (s.serveWrite tag tableWindows rest (writeWindow rest))

/-! ### Sheets and zones (R45, R46, R66, R67) -/

def writeSheet (rest : List Byte) (s : State) : Decision :=
  s.write 2 rest sheetLengthOk fun i record st =>
    withRecord (parseSheet record) fun c n =>
      if c.temperaturesBad then .error .badValue
      else done n ((st.setCfg { st.cfg with sheets := st.cfg.sheets.set i c }).sheetWritten i)

def execWriteSheets (tag : Byte) (rest : List Byte) (s : State) : Result :=
  .next (s.serveWrite tag tableSheets rest (writeSheet rest))

def writeZone (rest : List Byte) (s : State) : Decision :=
  s.write 4 rest (lengthIs zoneLength) fun i record st =>
    withRecord (parseZone record) fun c n =>
      if c.watch ≤ c.risk then .error .badValue
      else done n ((st.setCfg { st.cfg with zones := st.cfg.zones.set i c }).zoneWritten (st.cfg.zones.get i) i)

def execWriteZones (tag : Byte) (rest : List Byte) (s : State) : Result :=
  .next (s.serveWrite tag tableZones rest (writeZone rest))

/-! ### Sinks and allocator settings (R85, R87) -/

/-- The request and class in force of one sink (R88). -/
def State.recomputeSink (i : Fin 12) (s : State) : State :=
  let c := s.cfg.sinks.get i
  s.setSinks (s.hra.sinks.modify i fun r =>
    { r with reqMin := s.requestMin c, reqMax := s.requestMax c, cls := s.classInForce c })

/-- The effect of an accepted SINKS WRITE: request, source codes where the full-open heat changed, and the pass (R87, R137), one event with
one round of requests (R144). -/
def State.sinkWritten (i : Fin 12) (c : SinkConfig) (s : State) : State :=
  let changed := (s.cfg.sinks.get i).fullOpen != c.fullOpen
  let s1 := (s.setCfg { s.cfg with sinks := s.cfg.sinks.set i c }).recomputeSink i
  ((if changed then s1.handOn [.sink] else s1).passTrigger).settleRemotes (s.sourceMoved s1)

def writeSink (rest : List Byte) (s : State) : Decision :=
  s.write 12 rest (lengthIs sinkLength) fun i record st =>
    withRecord (parseSink record) fun c n => if c.max < c.min then .error .badValue else done n (st.sinkWritten i c)

/-- WRITE_SINKS; record 12 is WRITE_ALLOCATOR_SETTINGS. -/
def execWriteSinks (tag : Byte) (rest : List Byte) (s : State) : Result :=
  if rest.head? = some 12 then .fault .illFormed
  else .next (s.serveWrite tag tableSinks rest (writeSink rest))

def writeAllocator (record : List Byte) (s : State) : Decision :=
  s.write 13 (12 :: record) (lengthIs allocatorLength) fun _ record st =>
    withRecord (parseAllocator record) fun c n => done n (st.setCfg { st.cfg with allocator := c })

def execWriteAllocatorSettings (tag : Byte) (record : List Byte) (s : State) : Result :=
  .next (s.serveWrite tag tableSinks (12 :: record) (writeAllocator record))

/-! ### Channels and scenes (R110, R111, R115) -/

def writeChannel (rest : List Byte) (s : State) : Decision :=
  s.write 32 rest (lengthIs channelLength) fun i record st =>
    withRecord (parseChannel record) fun c n =>
      done n ((st.setCfg { st.cfg with channels := st.cfg.channels.set i c }).channelWritten (st.cfg.channels.get i).sheet i)

def execWriteChannels (tag : Byte) (rest : List Byte) (s : State) : Result :=
  .next (s.serveWrite tag tableChannels rest (writeChannel rest))

def writeScene (rest : List Byte) (s : State) : Decision :=
  s.write 24 rest (lengthIs sceneLength) fun i record st =>
    withRecord (parseScene record) fun c n => done n (st.setCfg { st.cfg with scenes := st.cfg.scenes.set i c })

def execWriteScenes (tag : Byte) (rest : List Byte) (s : State) : Result :=
  .next (s.serveWrite tag tableScenes rest (writeScene rest))

/-! ### Outputs, stage settings, remotes (R135, R143) -/

def writeOutput (rest : List Byte) (s : State) : Decision :=
  s.write 16 rest (lengthIs outputLength) fun i record st =>
    withRecord (parseOutput record) fun c n =>
      let wasNone := (st.cfg.outputs.get i).binding == .none
      done n ((st.setCfg { st.cfg with outputs := st.cfg.outputs.set i c }).outputWritten wasNone i)

/-- WRITE_OUTPUTS; record 16 is WRITE_STAGE_SETTINGS. -/
def execWriteOutputs (tag : Byte) (rest : List Byte) (s : State) : Result :=
  if rest.head? = some 16 then .fault .illFormed
  else .next (s.serveWrite tag tableOutputs rest (writeOutput rest))

def writeStage (record : List Byte) (s : State) : Decision :=
  s.write 17 (16 :: record) (lengthIs stageLength) fun _ record st =>
    let full := limited 1 30000 (u16At record 0)
    done full.2 (((st.setCfg { st.cfg with backupFull := full.1 }).handOn [.backup]).handRemotes)

def execWriteStageSettings (tag : Byte) (record : List Byte) (s : State) : Result :=
  .next (s.serveWrite tag tableOutputs (16 :: record) (writeStage record))

def writeRemote (rest : List Byte) (s : State) : Decision :=
  s.write 32 rest (lengthIs remoteLength) fun i record st =>
    withRecord (parseRemote record) fun c n =>
      let wasNone := (st.cfg.remotes.get i).binding == .none
      done n ((st.setCfg { st.cfg with remotes := st.cfg.remotes.set i c }).remoteWritten wasNone i)

def execWriteRemotes (tag : Byte) (rest : List Byte) (s : State) : Result :=
  .next (s.serveWrite tag tableRemotes rest (writeRemote rest))

/-! ### Profiles, protect and notice settings (R151, R152, R166, R189) -/

/-- The effect of an accepted PROFILES WRITE, field by field when the profile is the present mode's (R152). -/
def State.profileWritten (i : Fin 5) (p : Profile) (s : State) : State :=
  let old := s.profile
  let s1 := s.setCfg { s.cfg with profiles := s.cfg.profiles.set i p }
  if i ≠ modeIndex s.scu.mode then s1
  else
    let s2 := if old.standsPercent ≠ p.standsPercent ∨ old.standsClass ≠ p.standsClass then s1.recomputeKinds [.stands] else s1
    if old.baseDemand ≠ p.baseDemand then (s2.recomputeDemands).handRemotes else s2

def writeProfile (rest : List Byte) (s : State) : Decision :=
  s.write 5 rest (lengthIs profileLength) fun i record st =>
    withRecord (parseProfile record) fun p n => done n (st.profileWritten i p)

def execWriteProfiles (tag : Byte) (rest : List Byte) (s : State) : Result :=
  .next (s.serveWrite tag tableProfiles rest (writeProfile rest))

def writeProtect (rest : List Byte) (s : State) : Decision :=
  s.write 1 rest (lengthIs protectLength) fun _ record st =>
    let p := parseProtect record
    done p.2 (st.setCfg { st.cfg with protect := p.1 })

def execWriteProtectSettings (tag : Byte) (rest : List Byte) (s : State) : Result :=
  .next (s.serveWrite tag tableProtect rest (writeProtect rest))

def writeNoticeSettings (rest : List Byte) (s : State) : Decision :=
  s.write 1 rest (lengthIs noticeLength) fun _ record st =>
    withRecord (parseNotice record) fun c n => done n (st.setCfg { st.cfg with notice := c })

def execWriteNoticeSettings (tag : Byte) (rest : List Byte) (s : State) : Result :=
  .next (s.serveWrite tag tableNotice rest (writeNoticeSettings rest))

/-! ### WRITEs to what is not writable (R184) -/

/-- The body names a writable record: another row's WRITE. -/
def namesWritable (body : List Byte) : Bool :=
  match body with
  | t :: i :: _ => i.toNat < writableRecords t.toNat
  | _ => false

def execWrite (tag : Byte) (body : List Byte) (s : State) : Result :=
  if namesWritable body then .fault .illFormed
  else .next (s.serve tag kindWrite body fun _ => .error (refusedWrite body))

end Sys2Proof.Machine
end

