-- ==== Sys2Proof/Machine/ActCommands.lean ====
section
/-! DEFINITION. Meanings of the ACT requests (R186), each with the checks of its own rule. -/

namespace Sys2Proof.Machine
open Sys2Proof

/-! ### Lighting (R114, R116, R118, R122) -/

/-- SCENE_RECALL (R116); a fade time above 600 is clamped and counts one clamped field (DESIGN CHOICE, log entry 32). -/
def actSceneRecall (fields : List Byte) (s : State) : Decision :=
  s.act 4 fields fun st =>
    match optionAt u16At fields 1 with
    | none => .error .badValue
    | some f =>
      match index 24 (u8At fields 0) with
      | none => .error .badIndex
      | some k =>
        if !st.armed then .error .locked
        else
          let fade := limitedOption 0 600 f
          done fade.2 (st.recall k fade.1)

def execSceneRecall (tag : Byte) (fields : List Byte) (s : State) : Result :=
  .next (s.serveAct tag 1 fields (actSceneRecall fields))

def actChannelSet (fields : List Byte) (s : State) : Decision :=
  s.act 3 fields fun st =>
    match index 32 (u8At fields 0) with
    | none => .error .badIndex
    | some i =>
      if !st.armed then .error .locked
      else
        let level := limited 0 4095 (u16At fields 1)
        done level.2 (st.setBase i level.1)

def execChannelSet (tag : Byte) (fields : List Byte) (s : State) : Result :=
  .next (s.serveAct tag 2 fields (actChannelSet fields))

def actEffectStart (fields : List Byte) (s : State) : Decision :=
  s.act 10 fields fun st =>
    let low := limited 0 4095 (u16At fields 2)
    let high := limited 0 4095 (u16At fields 4)
    let period := limited 5 600 (u16At fields 6)
    match nameAt shapes fields 1 with
    | none => .error .badValue
    | some shape =>
      let duty := limitedOption 0 1000 (if shape = .pulse then some (u16At fields 8) else none)
      if high.1 < low.1 then .error .badValue
      else
        match index 32 (u8At fields 0) with
        | none => .error .badIndex
        | some i =>
          if !st.armed then .error .locked
          else done (low.2 + high.2 + period.2 + duty.2)
            (st.startEffect i ⟨shape, low.1, high.1, period.1, duty.1, 0, 20⟩)

def execEffectStart (tag : Byte) (fields : List Byte) (s : State) : Result :=
  .next (s.serveAct tag 3 fields (actEffectStart fields))

def actEffectStop (fields : List Byte) (s : State) : Decision :=
  s.act 1 fields fun st =>
    match index 32 (u8At fields 0) with
    | none => .error .badIndex
    | some i =>
      let r := st.lsq.channels.get i
      if r.effect.isNone then .error .notNow else done 0 (st.setBase i r.level)

def execEffectStop (tag : Byte) (fields : List Byte) (s : State) : Result :=
  .next (s.serveAct tag 4 fields (actEffectStop fields))

/-! ### Outputs (R138) -/

def State.setFixed (i : Fin 16) (code : Nat) (s : State) : State :=
  (s.setOutput i { s.ost.outputs.get i with fixed := code }).handOutput i

/-- The entry makes a request only when its value changes (R144; DESIGN CHOICE, log entry 33). -/
def State.setRemoteFixed (i : Fin 32) (code : Nat) (s : State) : State :=
  (s.setRemote i { s.ost.remotes.get i with fixed := code }).handRemote i

/-- OUTPUT_SET (R138); the binding is checked before protect, NOT_NOW before LOCKED (DESIGN CHOICE, log entry 33). -/
def actOutputSet (fields : List Byte) (s : State) : Decision :=
  s.act 4 fields fun st =>
    let code := limited 0 4095 (u16At fields 2)
    match flagAt fields 0 with
    | none => .error .badValue
    | some false =>
      match index 16 (u8At fields 1) with
      | none => .error .badIndex
      | some i =>
        if (st.cfg.outputs.get i).binding ≠ .fixed then .error .notNow
        else if !st.armed then .error .locked
        else done code.2 (st.setFixed i code.1)
    | some true =>
      match index 32 (u8At fields 1) with
      | none => .error .badIndex
      | some i =>
        if (st.cfg.remotes.get i).binding ≠ .fixed then .error .notNow
        else if !st.armed then .error .locked
        else done code.2 (st.setRemoteFixed i code.1)

def execOutputSet (tag : Byte) (fields : List Byte) (s : State) : Result :=
  .next (s.serveAct tag 5 fields (actOutputSet fields))

/-! ### Modes, sheets (R54, R57, R59, R60, R153) -/

/-- MODE_SET (R153); the length is checked before the code (DESIGN CHOICE, log entry 36). -/
def actModeSet (fields : List Byte) (s : State) : Decision :=
  s.act 1 fields fun st =>
    match modeOfCode (u8At fields 0) with
    | none => .error .badValue
    | some m => done 0 (st.changeMode m)

def execModeSet (tag : Byte) (fields : List Byte) (s : State) : Result :=
  .next (s.serveAct tag 6 fields (actModeSet fields))

/-- An act on one sheet that its state may refuse NOT_NOW. -/
def sheetAct (k : Nat) (f : Fin 2 → Option State) : Decision :=
  match index 2 k with
  | none => .error .badIndex
  | some sh =>
    match f sh with
    | none => .error .notNow
    | some t => done 0 t

def actResurfaceStart (fields : List Byte) (s : State) : Decision :=
  s.act 1 fields fun st => sheetAct (u8At fields 0) fun sh => st.resurface sh

def execResurfaceStart (tag : Byte) (fields : List Byte) (s : State) : Result :=
  .next (s.serveAct tag 7 fields (actResurfaceStart fields))

/-- RESURFACE_END (R57); a sheet index above 1 is BAD_INDEX (DESIGN CHOICE, log entry 44). -/
def actResurfaceEnd (fields : List Byte) (s : State) : Decision :=
  s.act 1 fields fun st => sheetAct (u8At fields 0) fun sh =>
    if (st.shm.get sh).state = .resurface then some (st.endResurface sh) else none

def execResurfaceEnd (tag : Byte) (fields : List Byte) (s : State) : Result :=
  .next (s.serveAct tag 8 fields (actResurfaceEnd fields))

/-- COVER: its value is checked before its sheet (R59). -/
def actCover (fields : List Byte) (s : State) : Decision :=
  s.act 2 fields fun st =>
    match nameAt coverCodes fields 1 with
    | none => .error .badValue
    | some on => sheetAct (u8At fields 0) fun sh => if on then st.coverOn sh else st.coverOff sh

/-- Two field bytes whose second is `code`: COVER on (0) or off (1). -/
def coverNames (code : Nat) (fields : List Byte) : Bool := fields.length == 2 && u8At fields 1 == code

/-- COVER_ON; a COVER off is COVER_OFF. -/
def execCoverOn (tag : Byte) (fields : List Byte) (s : State) : Result :=
  if coverNames 1 fields then .fault .illFormed
  else .next (s.serveAct tag 9 fields (actCover fields))

def execCoverOff (tag : Byte) (fields : List Byte) (s : State) : Result :=
  if coverNames 0 fields then .fault .illFormed
  else .next (s.serveAct tag 9 fields (actCover fields))

/-! ### Protect and points (R14, R169, R173) -/

def actProtectTrip (fields : List Byte) (s : State) : Decision :=
  s.act 0 fields fun st => if st.phase ≠ .run then .error .notNow else done 0 (st.raise .host)

def execProtectTrip (tag : Byte) (fields : List Byte) (s : State) : Result :=
  .next (s.serveAct tag 10 fields (actProtectTrip fields))

def actProtectClear (fields : List Byte) (s : State) : Decision :=
  s.act 0 fields fun st =>
    if st.armed || !st.activeTriggers.isEmpty || st.pru.key == .timing then .error .notNow
    else done 0 st.clearProtect

def execProtectClear (tag : Byte) (fields : List Byte) (s : State) : Result :=
  .next (s.serveAct tag 11 fields (actProtectClear fields))

def actLatchClear (fields : List Byte) (s : State) : Decision :=
  s.act 1 fields fun st =>
    match index 64 (u8At fields 0) with
    | none => .error .badIndex
    | some i =>
      let r := st.ptb.points.get i
      match r.value with
      | none => .error .notNow
      | some v =>
        if leavesClear (st.cfg.points.get i) r.output v then
          done 0 (st.completePoint st.pointTriggers false i { r with output := false })
        else .error .notNow

def execLatchClear (tag : Byte) (fields : List Byte) (s : State) : Result :=
  .next (s.serveAct tag 12 fields (actLatchClear fields))

/-! ### Bus (R38, R40) -/

def actBusRelease (fields : List Byte) (s : State) : Decision := s.act 0 fields fun st => done 0 st.linkHold

def execBusRelease (tag : Byte) (fields : List Byte) (s : State) : Result :=
  .next (s.serveAct tag 13 fields (actBusRelease fields))

def actBusReclaim (fields : List Byte) (s : State) : Decision :=
  s.act 0 fields fun st => if st.fbc.linkRequest then done 0 st.linkLetGo else .error .notNow

def execBusReclaim (tag : Byte) (fields : List Byte) (s : State) : Result :=
  .next (s.serveAct tag 14 fields (actBusReclaim fields))

/-- BUS_TEST (R40); a body of the wrong length is BAD_LENGTH (DESIGN CHOICE, log entry 36). -/
def actBusTest (fields : List Byte) (s : State) : Decision :=
  s.act 1 fields fun st =>
    match nameAt testModes fields 0 with
    | none => .error .badValue
    | some m => done 0 { st with fbc := { st.fbc with testMode := m } }

def execBusTest (tag : Byte) (fields : List Byte) (s : State) : Result :=
  .next (s.serveAct tag 15 fields (actBusTest fields))

/-! ### Allocator and store (R95, R176, R195, R196) -/

def actAllocateNow (fields : List Byte) (s : State) : Decision :=
  s.act 0 fields fun st => if st.phase ≠ .run then .error .notNow else done 0 st.pass

def execAllocateNow (tag : Byte) (fields : List Byte) (s : State) : Result :=
  .next (s.serveAct tag 16 fields (actAllocateNow fields))

def actSnapshotTake (fields : List Byte) (s : State) : Decision :=
  s.act 0 fields fun st => if st.stc.holdsSnapshot then .error .storeBusy else done 0 (st.capture [])

def execSnapshotTake (tag : Byte) (fields : List Byte) (s : State) : Result :=
  .next (s.serveAct tag 17 fields (actSnapshotTake fields))

def actStoreSave (fields : List Byte) (s : State) : Decision :=
  s.act 0 fields fun st => if st.stc.op ≠ .none then .error .storeBusy else done 0 st.beginSave

def execStoreSave (tag : Byte) (fields : List Byte) (s : State) : Result :=
  .next (s.serveAct tag 18 fields (actStoreSave fields))

def actStoreLoad (fields : List Byte) (s : State) : Decision :=
  s.act 0 fields fun st =>
    if st.stc.op ≠ .none then .error .storeBusy
    else if !st.armed then .error .notNow
    else done 0 (st.setStc { st.stc with op := .load })

def execStoreLoad (tag : Byte) (fields : List Byte) (s : State) : Result :=
  .next (s.serveAct tag 19 fields (actStoreLoad fields))

/-! ### Clock and program (R158, R159, R163) -/

def actClockSet (fields : List Byte) (s : State) : Decision :=
  s.act 4 fields fun st => done 0 (st.setClock (u32At fields 0))

def execClockSet (tag : Byte) (fields : List Byte) (s : State) : Result :=
  .next (s.serveAct tag 20 fields (actClockSet fields))

/-- PROGRAM_ADD, in the order of R158; its DONE body adds the id (R186). A body too short to hold an action code is BAD_LENGTH before
every other check (DESIGN CHOICE, log entry 36). -/
def actProgramAdd (fields : List Byte) (s : State) : Decision :=
  if fields.length < 5 then .error .badLength
  else
    match nameAt actionCodes fields 4 with
    | none => .error .badValue
    | some a =>
      if fields.length ≠ actionLength a then .error .badLength
      else if s.stc.op = .load then .error .storeBusy
      else
        match parseAction a fields with
        | .error e => .error e
        | .ok (action, clamps) =>
          if 48 ≤ s.scu.program.length then .error .tableFull
          else if u32At fields 0 + 60 < s.scu.clock then .error .notNow
          else
            let r := s.addEntry (u32At fields 0) action
            .ok (u8 clamps ++ u16 r.1, r.2)

def execProgramAdd (tag : Byte) (fields : List Byte) (s : State) : Result :=
  .next (s.serveAct tag 21 fields (actProgramAdd fields))

/-- PROGRAM_DELETE (R159); a body of the wrong length is BAD_LENGTH (DESIGN CHOICE, log entry 36). -/
def actProgramDelete (fields : List Byte) (s : State) : Decision :=
  s.act 2 fields fun st =>
    if st.scu.program.any (·.id == u16At fields 0) then done 0 (st.removeEntry (u16At fields 0)) else .error .badIndex

def execProgramDelete (tag : Byte) (fields : List Byte) (s : State) : Result :=
  .next (s.serveAct tag 22 fields (actProgramDelete fields))

/-! ### START, RESET, unknown codes (R186, R191, R199) -/

def actStart (fields : List Byte) (s : State) : Decision :=
  s.act 0 fields fun st => if st.phase = .waiting then done 0 st.startWork else .error .notNow

def execStart (tag : Byte) (fields : List Byte) (s : State) : Result :=
  .next (s.serveAct tag 23 fields (actStart fields))

/-- RESET: DONE is placed, and the part waits for its delivery (R191). -/
def State.answerReset (tag : Byte) (fields : List Byte) (s : State) : State :=
  match s.act 0 fields (done 0) with
  | .ok d => (s.conclude tag (.ok d)).awaitReset
  | .error e => s.conclude tag (.error e)

def execReset (tag : Byte) (fields : List Byte) (s : State) : Result :=
  .next (s.takeRequest ⟨tag, kindAct, 24 :: fields⟩ (State.answerReset tag fields))

/-- UNKNOWN_ACT_CODE: the code is none of 1 to 24; refused UNKNOWN_KIND during a LOAD as well (R186). -/
def execUnknownActCode (tag code : Byte) (fields : List Byte) (s : State) : Result :=
  if 1 ≤ code.toNat ∧ code.toNat ≤ 24 then .fault .illFormed
  else .next (s.serve tag kindAct (code :: fields) fun _ => .error .unknownKind)

end Sys2Proof.Machine
end

