-- ==== Sys2Proof/Machine/EventCommands.lean ====
section
/-! DEFINITION. Meanings of the field bus events, the timers' expiries, the pins' edges and the store's completions. -/

namespace Sys2Proof.Machine
open Sys2Proof

/-! ### Field bus (R5, R19 to R37) -/

/-- FRAME_RECEIVED: the levels of a frame that ends on the line, judged first against an own frame on it (R19, R21, R24). -/
def execFrameReceived (bits : List Bool) (s : State) : Result := .next (s.event (State.endFrame bits))

def execFrameStart (s : State) : Result := .next (s.event State.startFrame)

def execOwnFrameDone (s : State) : Result := .next (s.event State.ownDone)

def execArbitrationLost (s : State) : Result := .next (s.event State.ownLost)

def execTransmitError (s : State) : Result := .next (s.event State.ownError)

def execIsolatedRecovery (s : State) : Result := .next (s.event State.leaveIsolated)

def execIdlePeriod (s : State) : Result := .next (s.event State.idlePeriod)

def execPauseTimerExpiry (node : Nat) (s : State) : Result :=
  onIndex 64 node fun n => .next (s.event (State.expirePause n))

def execReceiveEntryTaken (s : State) : Result := .next (s.event State.takeEntry)

/-! ### Pins (R37, R167, R168) -/

/-- An edge changes the level on its pin at any time; a block samples it while the part is live. -/
def execHandAsserted (s : State) : Result :=
  .next (({ s with pins := { s.pins with hand := true } } : State).event (State.sampleHand true))

def execHandDeasserted (s : State) : Result :=
  .next (({ s with pins := { s.pins with hand := false } } : State).event (State.sampleHand false))

/-- PIN becomes active, or stops being so (R167). -/
def State.samplePin (active : Bool) (s : State) : State :=
  let s1 := s.setPru { s.pru with pin := active }
  if active && !s.pru.pin then s1.raise .pin else s1

def execProtectAsserted (s : State) : Result :=
  .next (({ s with pins := { s.pins with protect := true } } : State).event (State.samplePin true))

def execProtectDeasserted (s : State) : Result :=
  .next (({ s with pins := { s.pins with protect := false } } : State).event (State.samplePin false))

def execKeyPress (s : State) : Result :=
  .next (({ s with pins := { s.pins with egress := true } } : State).event State.pressKey)

def execKeyRelease (s : State) : Result :=
  .next (({ s with pins := { s.pins with egress := false } } : State).event State.releaseKey)

def execKeyHoldExpiry (s : State) : Result := .next (s.event State.expireKey)

/-! ### Timers of points and sheets (R9, R17, R57, R58, R61) -/

/-- An expiry is held while a coherent point READ is assembled (R17). -/
def State.expireAging (s : State) : State :=
  if s.readsPoints then { s with ptb := { s.ptb with heldAging := s.ptb.heldAging + 1 } } else s.ageAll

def execAgingExpiry (s : State) : Result := .next (s.event State.expireAging)

def execHoldExpiry (sheet : Nat) (s : State) : Result := onIndex 2 sheet fun sh => .next (s.event (State.expireHold sh))

def execTankReheatExpiry (sheet : Nat) (s : State) : Result := onIndex 2 sheet fun sh => .next (s.event (State.expireTank sh))

def execCriticalHoldExpiry (sheet : Nat) (s : State) : Result :=
  onIndex 2 sheet fun sh => .next (s.event (State.expireCritical sh))

/-! ### Timers of allocator, channels and outputs (R94, R112, R119, R139, R145) -/

def State.expirePeriod (s : State) : State := if s.phase = .run ∧ s.hra.timer ≠ 0 then s.pass else s

def execPeriodTimerExpiry (s : State) : Result := .next (s.event State.expirePeriod)

/-- LSQ tells PRU that the egress fades have arrived, at the step that brings the last one (R129, R172). -/
def State.reportArrival (s : State) : State :=
  if !s.armed && !s.pru.arrived && s.egressArrived then (s.setPru { s.pru with arrived := true }).heldTest else s

/-- A running step timer expires (R112). -/
def State.expireStep (i : Fin 32) (s : State) : State :=
  let r := s.lsq.channels.get i
  if s.phase = .run ∧ r.timer.isSome = true then (((s.setChannel i r.stepFade).handLevels).handRemotes).reportArrival else s

def execStepTimerExpiry (channel : Nat) (s : State) : Result :=
  onIndex 32 channel fun i => .next (s.event (State.expireStep i))

def State.expireSample (i : Fin 32) (s : State) : State := if s.phase = .run then s.nextSample i else s

def execEffectSample (channel : Nat) (s : State) : Result :=
  onIndex 32 channel fun i => .next (s.event (State.expireSample i))

/-- A running slew timer expires (R139). -/
def State.expireSlew (i : Fin 16) (s : State) : State :=
  let o := s.ost.outputs.get i
  if o.driven = true ∧ o.timer.isSome = true then s.setOutput i (o.slew (s.cfg.outputs.get i)) else s

def execSlewStep (output : Nat) (s : State) : Result := onIndex 16 output fun i => .next (s.event (State.expireSlew i))

def execRefreshExpiry (entry : Nat) (s : State) : Result :=
  onIndex 32 entry fun i => .next (s.event (State.refreshRemote i))

/-! ### Clock and store (R150, R160, R177, R195, R196) -/

def execTick (s : State) : Result := .next (s.event State.tickClock)

def execSaveComplete (check : BitVec 16) (s : State) : Result := .next (s.event (State.endSave check))

def execLoadComplete (receiving : Bool) (s : State) : Result := .next (s.event (State.endLoad receiving))

def execSnapshotWriteComplete (good : Bool) (s : State) : Result := .next (s.event (State.endSnapshot good))

end Sys2Proof.Machine
end

