-- ==== Sys2Proof/Machine/Dispatch.lean ====
section
/-! DEFINITION. The meaning of each command, arm by arm. -/

namespace Sys2Proof.Machine
open Sys2Proof

def exec (i : Instr) (s : State) : Host.Outcome State Fault Refusal :=
  match i with
  | .powerOn strap => Sys2Proof.Machine.execPowerOn strap s
  | .pinReset strap => Sys2Proof.Machine.execPinReset strap s
  | .settleEnd => Sys2Proof.Machine.execSettleEnd s
  | .hostFrame port bytes => Sys2Proof.Machine.execHostFrame port bytes s
  | .gapTimeout bytes => Sys2Proof.Machine.execGapTimeout bytes s
  | .replyDelivered => Sys2Proof.Machine.execReplyDelivered s
  | .unknownKindRequest tag kind body => Sys2Proof.Machine.execUnknownKindRequest tag kind body s
  | .readPoints tag rest lasts => Sys2Proof.Machine.execReadPoints tag rest lasts s
  | .readCounters tag rest lasts => Sys2Proof.Machine.execReadCounters tag rest lasts s
  | .readEnergy tag rest lasts => Sys2Proof.Machine.execReadEnergy tag rest lasts s
  | .writePointsConfig tag rest => Sys2Proof.Machine.execWritePointsConfig tag rest s
  | .writePointValue tag rest => Sys2Proof.Machine.execWritePointValue tag rest s
  | .writeBusSettings tag rest receiving => Sys2Proof.Machine.execWriteBusSettings tag rest receiving s
  | .writeWindows tag rest => Sys2Proof.Machine.execWriteWindows tag rest s
  | .writeSheets tag rest => Sys2Proof.Machine.execWriteSheets tag rest s
  | .writeZones tag rest => Sys2Proof.Machine.execWriteZones tag rest s
  | .writeSinks tag rest => Sys2Proof.Machine.execWriteSinks tag rest s
  | .writeAllocatorSettings tag record => Sys2Proof.Machine.execWriteAllocatorSettings tag record s
  | .writeChannels tag rest => Sys2Proof.Machine.execWriteChannels tag rest s
  | .writeScenes tag rest => Sys2Proof.Machine.execWriteScenes tag rest s
  | .writeOutputs tag rest => Sys2Proof.Machine.execWriteOutputs tag rest s
  | .writeStageSettings tag record => Sys2Proof.Machine.execWriteStageSettings tag record s
  | .writeRemotes tag rest => Sys2Proof.Machine.execWriteRemotes tag rest s
  | .writeProfiles tag rest => Sys2Proof.Machine.execWriteProfiles tag rest s
  | .writeProtectSettings tag rest => Sys2Proof.Machine.execWriteProtectSettings tag rest s
  | .writeNoticeSettings tag rest => Sys2Proof.Machine.execWriteNoticeSettings tag rest s
  | .write tag body => Sys2Proof.Machine.execWrite tag body s
  | .fetch tag body => Sys2Proof.Machine.execFetch tag body s
  | .status tag body => Sys2Proof.Machine.execStatus tag body s
  | .sceneRecall tag fields => Sys2Proof.Machine.execSceneRecall tag fields s
  | .channelSet tag fields => Sys2Proof.Machine.execChannelSet tag fields s
  | .effectStart tag fields => Sys2Proof.Machine.execEffectStart tag fields s
  | .effectStop tag fields => Sys2Proof.Machine.execEffectStop tag fields s
  | .outputSet tag fields => Sys2Proof.Machine.execOutputSet tag fields s
  | .modeSet tag fields => Sys2Proof.Machine.execModeSet tag fields s
  | .resurfaceStart tag fields => Sys2Proof.Machine.execResurfaceStart tag fields s
  | .resurfaceEnd tag fields => Sys2Proof.Machine.execResurfaceEnd tag fields s
  | .coverOn tag fields => Sys2Proof.Machine.execCoverOn tag fields s
  | .coverOff tag fields => Sys2Proof.Machine.execCoverOff tag fields s
  | .protectTrip tag fields => Sys2Proof.Machine.execProtectTrip tag fields s
  | .protectClear tag fields => Sys2Proof.Machine.execProtectClear tag fields s
  | .latchClear tag fields => Sys2Proof.Machine.execLatchClear tag fields s
  | .busRelease tag fields => Sys2Proof.Machine.execBusRelease tag fields s
  | .busReclaim tag fields => Sys2Proof.Machine.execBusReclaim tag fields s
  | .busTest tag fields => Sys2Proof.Machine.execBusTest tag fields s
  | .allocateNow tag fields => Sys2Proof.Machine.execAllocateNow tag fields s
  | .snapshotTake tag fields => Sys2Proof.Machine.execSnapshotTake tag fields s
  | .storeSave tag fields => Sys2Proof.Machine.execStoreSave tag fields s
  | .storeLoad tag fields => Sys2Proof.Machine.execStoreLoad tag fields s
  | .clockSet tag fields => Sys2Proof.Machine.execClockSet tag fields s
  | .programAdd tag fields => Sys2Proof.Machine.execProgramAdd tag fields s
  | .programDelete tag fields => Sys2Proof.Machine.execProgramDelete tag fields s
  | .start tag fields => Sys2Proof.Machine.execStart tag fields s
  | .reset tag fields => Sys2Proof.Machine.execReset tag fields s
  | .softReset strap => Sys2Proof.Machine.execSoftReset strap s
  | .noticeWaitExpiry => Sys2Proof.Machine.execNoticeWaitExpiry s
  | .frameReceived bits => Sys2Proof.Machine.execFrameReceived bits s
  | .frameStart => Sys2Proof.Machine.execFrameStart s
  | .ownFrameDone => Sys2Proof.Machine.execOwnFrameDone s
  | .arbitrationLost => Sys2Proof.Machine.execArbitrationLost s
  | .transmitError => Sys2Proof.Machine.execTransmitError s
  | .isolatedRecovery => Sys2Proof.Machine.execIsolatedRecovery s
  | .pauseTimerExpiry node => Sys2Proof.Machine.execPauseTimerExpiry node s
  | .handAsserted => Sys2Proof.Machine.execHandAsserted s
  | .handDeasserted => Sys2Proof.Machine.execHandDeasserted s
  | .receiveEntryTaken => Sys2Proof.Machine.execReceiveEntryTaken s
  | .agingExpiry => Sys2Proof.Machine.execAgingExpiry s
  | .holdExpiry sheet => Sys2Proof.Machine.execHoldExpiry sheet s
  | .tankReheatExpiry sheet => Sys2Proof.Machine.execTankReheatExpiry sheet s
  | .criticalHoldExpiry sheet => Sys2Proof.Machine.execCriticalHoldExpiry sheet s
  | .periodTimerExpiry => Sys2Proof.Machine.execPeriodTimerExpiry s
  | .stepTimerExpiry channel => Sys2Proof.Machine.execStepTimerExpiry channel s
  | .effectSample channel => Sys2Proof.Machine.execEffectSample channel s
  | .slewStep output => Sys2Proof.Machine.execSlewStep output s
  | .refreshExpiry entry => Sys2Proof.Machine.execRefreshExpiry entry s
  | .tick => Sys2Proof.Machine.execTick s
  | .protectAsserted => Sys2Proof.Machine.execProtectAsserted s
  | .protectDeasserted => Sys2Proof.Machine.execProtectDeasserted s
  | .keyPress => Sys2Proof.Machine.execKeyPress s
  | .keyRelease => Sys2Proof.Machine.execKeyRelease s
  | .keyHoldExpiry => Sys2Proof.Machine.execKeyHoldExpiry s
  | .saveComplete check => Sys2Proof.Machine.execSaveComplete check s
  | .loadComplete receiving => Sys2Proof.Machine.execLoadComplete receiving s
  | .snapshotWriteComplete good => Sys2Proof.Machine.execSnapshotWriteComplete good s
  | .idlePeriod => Sys2Proof.Machine.execIdlePeriod s
  | .lengthAbove200 port length => Sys2Proof.Machine.execLengthAbove200 port length s
  | .unknownActCode tag code fields => Sys2Proof.Machine.execUnknownActCode tag code fields s

end Sys2Proof.Machine
end

