-- ==== Sys2Proof/Safety.lean ====
section
/-! DEFINITION. The terms claims use: what an event leaves alone, how a request stands and is answered, the capacities of the queues,
and the identities of bus points. -/

namespace Sys2Proof.Machine
open Sys2Proof

/-! ### What an event leaves alone -/

/-- Start-up, pins, configuration, clock, program and the queue of commands stay. -/
structure SetupKept (s t : State) : Prop where
  pending : t.pending = s.pending
  choices : t.choices = s.choices
  ms : t.ms = s.ms
  phase : t.phase = s.phase
  strap : t.strap = s.strap
  pins : t.pins = s.pins
  cfg : t.cfg = s.cfg
  scu : t.scu = s.scu

/-- The link stays, but for new notices behind those held and the lost count (R187). -/
structure LinkKept (s t : State) : Prop where
  notices : s.lnk.notices <+: t.lnk.notices
  locked : t.lnk.locked = s.lnk.locked
  uartIntake : t.lnk.uartIntake = s.lnk.uartIntake
  spiIntake : t.lnk.spiIntake = s.lnk.spiIntake
  requests : t.lnk.requests = s.lnk.requests
  output : t.lnk.output = s.lnk.output
  clocked : t.lnk.clocked = s.lnk.clocked
  assembly : t.lnk.assembly = s.lnk.assembly
  resetWait : t.lnk.resetWait = s.lnk.resetWait

/-- The bus stays, but for the waiting transmit entries and TX_DROP with its held tally. -/
structure BusKept (s t : State) : Prop where
  counters : ∀ i, i ≠ counterIndex .txDrop → t.fbc.counters.get i = s.fbc.counters.get i
  tallies : ∀ i, i ≠ counterIndex .txDrop → t.fbc.tallies.get i = s.fbc.tallies.get i
  txe : t.fbc.txe = s.fbc.txe
  rxe : t.fbc.rxe = s.fbc.rxe
  idlePeriods : t.fbc.idlePeriods = s.fbc.idlePeriods
  handOver : t.fbc.handOver = s.fbc.handOver
  hand : t.fbc.hand = s.fbc.hand
  linkRequest : t.fbc.linkRequest = s.fbc.linkRequest
  testMode : t.fbc.testMode = s.fbc.testMode
  address : t.fbc.address = s.fbc.address
  bitRate : t.fbc.bitRate = s.fbc.bitRate
  acked : t.fbc.acked = s.fbc.acked
  rxQueue : t.fbc.rxQueue = s.fbc.rxQueue
  inFlight : t.fbc.inFlight = s.fbc.inFlight
  pauses : t.fbc.pauses = s.fbc.pauses
  unbound : t.fbc.unbound = s.fbc.unbound

/-- What every event that starts inside the part leaves alone. -/
structure Inner (s t : State) : Prop where
  setup : SetupKept s t
  link : LinkKept s t
  bus : BusKept s t

/-- The sheets stay, but for the budget that a pass records (R53). -/
def SheetsKept (s t : State) : Prop :=
  ∀ sh, t.shm.get sh = { s.shm.get sh with atLastPass := (t.shm.get sh).atLastPass }

/-- Outputs and entries only follow their sources: fixed codes, drives and protect behaviour stay. -/
structure Followed (s t : State) : Prop where
  fixed : ∀ i, (t.ost.outputs.get i).fixed = (s.ost.outputs.get i).fixed
  driven : ∀ i, (t.ost.outputs.get i).driven = (s.ost.outputs.get i).driven
  taken : ∀ i, (t.ost.outputs.get i).taken = (s.ost.outputs.get i).taken
  remoteFixed : ∀ i, (t.ost.remotes.get i).fixed = (s.ost.remotes.get i).fixed
  remoteTaken : ∀ i, (t.ost.remotes.get i).taken = (s.ost.remotes.get i).taken

/-- Channels only follow their targets: base targets, effects, steps, periods and protect behaviour stay. -/
structure LightsFollow (s t : State) : Prop where
  base : ∀ i, (t.lsq.channels.get i).base = (s.lsq.channels.get i).base
  effect : ∀ i, (t.lsq.channels.get i).effect = (s.lsq.channels.get i).effect
  step : ∀ i, (t.lsq.channels.get i).step = (s.lsq.channels.get i).step
  period : ∀ i, (t.lsq.channels.get i).period = (s.lsq.channels.get i).period
  taken : ∀ i, (t.lsq.channels.get i).taken = (s.lsq.channels.get i).taken

/-- An event of the Output Stage: outputs, transmit queue and counters, notices. -/
structure OutputEvent (s t : State) : Prop where
  inner : Inner s t
  ptb : t.ptb = s.ptb
  shm : t.shm = s.shm
  cdm : t.cdm = s.cdm
  hra : t.hra = s.hra
  lsq : t.lsq = s.lsq
  pru : t.pru = s.pru
  stc : t.stc = s.stc

/-- An event of the Lighting Sequencer, with the levels it hands on. -/
structure LightEvent (s t : State) : Prop where
  inner : Inner s t
  followed : Followed s t
  ptb : t.ptb = s.ptb
  shm : t.shm = s.shm
  cdm : t.cdm = s.cdm
  hra : t.hra = s.hra
  pru : t.pru = s.pru
  stc : t.stc = s.stc

/-- An event of the Heat Allocator, with the allowances and grants it hands on. -/
structure HeatEvent (s t : State) : Prop where
  inner : Inner s t
  followed : Followed s t
  lights : LightsFollow s t
  ptb : t.ptb = s.ptb
  shm : SheetsKept s t
  cdm : t.cdm = s.cdm
  pru : t.pru = s.pru
  stc : t.stc = s.stc

/-- An event of the Condensation Monitor, with what it hands on. -/
structure ZoneEvent (s t : State) : Prop where
  inner : Inner s t
  followed : Followed s t
  lights : LightsFollow s t
  ptb : t.ptb = s.ptb
  shm : SheetsKept s t
  pru : t.pru = s.pru
  stc : t.stc = s.stc

/-- An event of the Sheet Monitor that raises no trigger, with what it hands on. -/
structure SheetEvent (s t : State) : Prop where
  inner : Inner s t
  followed : Followed s t
  lights : LightsFollow s t
  ptb : t.ptb = s.ptb
  pru : t.pru = s.pru
  stc : t.stc = s.stc

/-- An event that may trip protect: the trip reaches lighting, outputs, heat and the store. -/
structure ProtectEvent (s t : State) : Prop where
  inner : Inner s t
  ptb : t.ptb = s.ptb
  shm : SheetsKept s t
  cdm : t.cdm = s.cdm

/-- An event of the Field Bus Controller alone: its own figures and notices. -/
structure BusEvent (s t : State) : Prop where
  setup : SetupKept s t
  link : LinkKept s t
  ptb : t.ptb = s.ptb
  shm : t.shm = s.shm
  cdm : t.cdm = s.cdm
  hra : t.hra = s.hra
  lsq : t.lsq = s.lsq
  ost : t.ost = s.ost
  pru : t.pru = s.pru
  stc : t.stc = s.stc

/-- Exactly the counters in `cs` count one, in the held tallies while a COUNTERS reply is assembled (R42, R43). -/
def Counted (cs : List Counter) (s t : State) : Prop :=
  ∀ c : Counter,
    t.fbc.counters.get (counterIndex c) =
      (if c ∈ cs ∧ s.holdsCounts = false then min 65535 (s.fbc.counters.get (counterIndex c) + 1)
       else s.fbc.counters.get (counterIndex c)) ∧
    t.fbc.tallies.get (counterIndex c) =
      s.fbc.tallies.get (counterIndex c) + (if c ∈ cs ∧ s.holdsCounts = true then 1 else 0)

/-! ### Notices of an event (10.3) -/

/-- A notice as a block offers it: kind, subject and value. -/
abbrev Offer := NoticeKind × Nat × Int

/-- A notice that a condition calls for. -/
def Offer.when (c : Prop) [Decidable c] (k : NoticeKind) (subject : Nat) (value : Int) : List Offer :=
  if c then [(k, subject, value)] else []

/-- The link after notices were offered one after the other, each stamped with the clock (R187). -/
def State.offered (s : State) (ns : List Offer) : Lnk :=
  ns.foldl (fun l n => l.offer (s.cfg.notice.enables.get (noticeIndex n.1)) ⟨n.1, n.2.1, n.2.2, s.scu.clock, 0⟩) s.lnk

/-- The notices of the given kinds that the event from `s` to `t` queued, where it left room in the queue, are those of `ns` with an enabled
kind, in order (R187). -/
def Notified (kinds : List NoticeKind) (ns : List Offer) (s t : State) : Prop :=
  t.lnk.notices.length < 32 →
    (t.lnk.notices.drop s.lnk.notices.length).filter (fun n => kinds.contains n.kind) =
      (ns.filter fun n => t.cfg.notice.enables.get (noticeIndex n.1)).map fun n => ⟨n.1, n.2.1, n.2.2, s.scu.clock, 0⟩

/-- The POINT notice of a changed quality, then the LIMIT notice of a changed output (R11, R12). -/
def pointChanges (s t : State) (i : Fin 64) : List Offer :=
  let old := s.ptb.points.get i
  let new := t.ptb.points.get i
  Offer.when (old.quality ≠ new.quality) .point i (codeOf qualities new.quality)
    ++ Offer.when (old.output ≠ new.output) .limit i new.output.toNat

/-- A SHEET notice for each sheet whose state changed (R63). -/
def sheetChanges (s t : State) : List Offer :=
  (List.finRange 2).flatMap fun sh =>
    Offer.when ((s.shm.get sh).state ≠ (t.shm.get sh).state) .sheet sh (codeOf sheetStates (t.shm.get sh).state)

/-- A ZONE notice for each zone whose state changed (R81). -/
def zoneChanges (s t : State) : List Offer :=
  (List.finRange 4).flatMap fun z =>
    Offer.when ((s.cdm.get z).state ≠ (t.cdm.get z).state) .zone z (codeOf zoneStates (t.cdm.get z).state)

/-- An event that changed each state of a sheet or zone at most once queued the SHEET and ZONE notices of these changes, and no other. -/
structure StatesNotified (s t : State) : Prop where
  sheets : Notified [.sheet] (sheetChanges s t) s t
  zones : Notified [.zone] (zoneChanges s t) s t

/-- A DERATE notice for each sheet whose D left or came back to 1000 (R127). -/
def derateChanges (s t : State) : List Offer :=
  (List.finRange 2).flatMap fun sh =>
    let old := (s.lsq.sheets.get sh).derate
    let new := (t.lsq.sheets.get sh).derate
    Offer.when (old = 1000 ∧ new ≠ 1000 ∨ old ≠ 1000 ∧ new = 1000) .derate sh new

/-- The GRANT_SHORT notice of a sink whose status entered or left SHORT (R103). -/
def shortChange (s t : State) (i : Fin 12) : List Offer :=
  let old := (s.hra.sinks.get i).status
  let new := (t.hra.sinks.get i).status
  Offer.when (old = .short ∧ new ≠ .short ∨ old ≠ .short ∧ new = .short) .grantShort i (codeOf sinkStatuses new)

/-- The notices of one pass: DERATE, then GRANT_SHORT in the order in which it took the sinks, the disabled ones behind, then BACKUP
(R102, R103, R127; that DERATE comes first is the model's choice, log entry 12). -/
def passNotices (s t : State) : List Offer :=
  derateChanges s t
    ++ (s.allocate.2 ++ (List.finRange 12).filter fun i => !(s.cfg.sinks.get i).enabled).flatMap (shortChange s t)
    ++ Offer.when (s.hra.backup = 0 ∧ t.hra.backup ≠ 0 ∨ s.hra.backup ≠ 0 ∧ t.hra.backup = 0) .backup 0 t.hra.backup

/-- The BUS notices of a change of the error counters: TXE, then RXE, that rose to the warning level, then a new bus state (R36). -/
def busChanges (s t : State) : List Offer :=
  let level := s.cfg.bus.warning
  Offer.when (s.fbc.txe < level ∧ level ≤ t.fbc.txe) .bus 1 t.fbc.txe
    ++ Offer.when (s.fbc.rxe < level ∧ level ≤ t.fbc.rxe) .bus 2 t.fbc.rxe
    ++ Offer.when (s.busState ≠ t.busState) .bus 0 (codeOf busStates t.busState)

/-! ### A trip -/

/-- What a trip leaves of a channel (R128): its effect stopped, and level, target, step and period by its protect action. -/
structure TrippedChannel (c : ChannelConfig) (p : ProtectSettings) (r t : ChannelRun) : Prop where
  effect : t.effect = none
  base : t.base = if r.effect.isSome then r.level else r.base
  hold : c.action = .hold → t.target = r.level ∧ t.level = r.level
  egress : c.action = .egress → t.target = c.floor ∧ t.step = p.step ∧ t.period = p.period ∧
    t.level = if p.period = 0 then c.floor else r.level
  stored : c.action = .stored → t.target = c.safe ∧ t.level = c.safe
  off : c.action = .off → t.target = 0 ∧ t.level = 0

/-- What a trip leaves of a local output whose binding is not NONE (R141). -/
structure TrippedOutput (c : OutputConfig) (o t : OutputRun) : Prop where
  hold : c.action = .hold → c.binding ≠ .light → t.code = o.code ∧ t.target = o.code ∧ t.driven = o.driven
  safe : c.action = .safe → t.code = c.safe ∧ t.target = c.safe ∧ t.driven = o.driven
  hiz : c.action = .hiz → t.code = 0 ∧ t.driven = false

/-- What a trip leaves of a remote entry whose binding is not NONE (R146); `s` and `t` are the states before and after. -/
structure TrippedRemote (c : RemoteConfig) (r u : RemoteRun) (s t : State) : Prop where
  safe : c.action = .safe → u.value = some c.safe ∧ u.taken = some ⟨true, c⟩ ∧
    (u.dirty = true ∨ u.last = some c.safe ∧ u.timer = c.refresh) ∧
    (u.dirty = false → ∃ w ∈ t.fbc.txProtect,
      w.kind = .command ∧ w.target = c.node ∧ w.point = c.point ∧ w.priority = 0)
  hold : c.action = .hold → c.binding ≠ .light → u.value = (match r.last with | some v => some v | none => r.value) ∧
    u.taken = some ⟨false, c⟩ ∧ u.last = r.last ∧ u.timer = r.timer
  follow : c.action = .hold → c.binding = .light → u.value = some (t.sourceCode .light c.index 0 : Int) ∧
    u.taken = some ⟨false, c⟩

/-- A trip in RUN with the trigger set `ts` (R106, R128, R141, R146, R170, R174, R175). -/
structure Tripped (ts : List Trigger) (s t : State) : Prop where
  event : ProtectEvent s t
  state : t.pru.state = .tripped ∨ t.pru.state = .held
  triggers : t.pru.triggers = ts
  captured : s.stc.holdsSnapshot = false →
    let next := min 4294967295 (s.stc.nextSequence + 1)
    (s.stc.op ≠ .none → t.stc = { s.stc with snapshot := some (s.snapshotNow ts), nextSequence := next }) ∧
    (s.stc.op = .none → t.stc = { s.stc with
      op := .snapshot, writing := some (s.stc.target, s.snapshotNow ts), nextSequence := next
      slots := s.stc.slots.set s.stc.target none })
  skipped : s.stc.holdsSnapshot = true → t.stc = s.stc
  channels : ∀ i, TrippedChannel (s.cfg.channels.get i) s.cfg.protect (s.lsq.channels.get i) (t.lsq.channels.get i)
  outputs : ∀ i, (s.cfg.outputs.get i).binding ≠ .none →
    TrippedOutput (s.cfg.outputs.get i) (s.ost.outputs.get i) (t.ost.outputs.get i)
  unbound : ∀ i, (s.cfg.outputs.get i).binding = .none → (s.ost.outputs.get i).taken = none →
    t.ost.outputs.get i = s.ost.outputs.get i
  remotes : ∀ i, (s.cfg.remotes.get i).binding ≠ .none →
    TrippedRemote (s.cfg.remotes.get i) (s.ost.remotes.get i) (t.ost.remotes.get i) s t
  freeRemotes : ∀ i, (s.cfg.remotes.get i).binding = .none → (s.ost.remotes.get i).taken = none →
    t.ost.remotes.get i = { s.ost.remotes.get i with dirty := (t.ost.remotes.get i).dirty }
  notices : s.cfg.notice.enables.get 7 = true → s.lnk.notices.length + ts.length ≤ 32 →
    s.lnk.notices ++ ts.map (fun x => ⟨.protect, codeOf Machine.triggers x, 1, s.scu.clock, 0⟩) <+: t.lnk.notices
  notified : Notified [.protect]
    (ts.flatMap (fun x => Offer.when True .protect (codeOf Machine.triggers x) 1) ++ Offer.when (t.pru.state = .held) .protect 6 2) s t
  hold : t.hra.hold = true
  stands : ∀ i, (s.cfg.sinks.get i).kind = .stands → (t.hra.sinks.get i).grant = 0 ∧ (t.hra.sinks.get i).status = .held

/-- The HELD test (R172): from `u`, the Protect Unit goes to HELD with its notice (R174) when every condition holds; else nothing changes. -/
structure HeldTested (u t : State) : Prop where
  held : u.pru.state = .tripped → u.pru.arrived = true → u.protectEntries = 0 → u.busState ≠ .isolated →
    u.fbc.handOver ≠ .released → t = { u with pru := { u.pru with state := .held }, lnk := u.offered [(.protect, 6, 2)] }
  stays : u.pru.state ≠ .tripped ∨ u.pru.arrived = false ∨ u.protectEntries ≠ 0 ∨ u.busState = .isolated ∨
    u.fbc.handOver = .released → t = u

/-! ### Requests of remote entries (R144) -/

/-- A bound entry whose value is not its source code: the event has changed it (R137, R144). -/
def State.entryBehind (s : State) (i : Fin 32) : Bool :=
  (s.cfg.remotes.get i).binding != .none && (s.ost.remotes.get i).value != some (s.remoteSource i : Int)

/-- The ordinary COMMAND that a bound entry asks for: its source code, to its rack point, at its priority (R144). -/
def State.entryCommand (s : State) (i : Fin 32) : TxEntry :=
  let c := s.cfg.remotes.get i
  ⟨.command, c.node, c.point, (s.remoteSource i : Int), c.priority, some i⟩

/-- The bus after one ordinary request: as the queue answers it, and with TX_DROP counted after a drop (R28, R28a). -/
def Fbc.asked (f : Fbc) (held : Bool) (e : TxEntry) : Fbc :=
  if (f.request false e).1 = .dropped then f.count held .txDrop else (f.request false e).2.1

/-- The bus after the requests of the first `n` entries, in index order, of those that `asks` picks. -/
def State.busAfter (s : State) (asks : Fin 32 → Bool) (n : Nat) : Fbc :=
  ((List.finRange 32).take n).foldl (fun f i => if asks i then f.asked s.holdsCounts (s.entryCommand i) else f) s.fbc

/-- From `s` to `t` the entries that `asks` picks take their source code as value and request it, in entry index order: last requested,
clean and with a new refresh interval where the queue takes or coalesces the request, dirty where it drops it (R28, R144). -/
structure EntriesRequest (asks : Fin 32 → Bool) (s t : State) : Prop where
  rest : t = { s with fbc := t.fbc, ost := { s.ost with remotes := t.ost.remotes } }
  bus : t.fbc = s.busAfter asks 32
  quiet : ∀ i, asks i = false → t.ost.remotes.get i = s.ost.remotes.get i
  taken : ∀ i, asks i = true → ((s.busAfter asks i).request false (s.entryCommand i)).1 ≠ .dropped →
    t.ost.remotes.get i = { s.ost.remotes.get i with
      value := some (s.remoteSource i : Int), last := some (s.remoteSource i : Int), dirty := false
      timer := (s.cfg.remotes.get i).refresh }
  dropped : ∀ i, asks i = true → ((s.busAfter asks i).request false (s.entryCommand i)).1 = .dropped →
    t.ost.remotes.get i = { s.ost.remotes.get i with value := some (s.remoteSource i : Int), dirty := true }

/-- One pass in RUN while ARMED, from `s` to `t`: it takes the budgets, restarts the period and hands its results on; then the entries that
are left behind their sources, and those that `moved` before it in the event it ends, request (R94, R103, R144). -/
def PassRound (moved : Fin 32 → Bool) (s t : State) : Prop :=
  ∃ w : State, HeatEvent s w ∧ w.fbc = s.fbc ∧ w.ost.remotes = s.ost.remotes ∧ w.hra.timer = s.cfg.allocator.period ∧
    (∀ sh, (w.shm.get sh).atLastPass = some (s.shm.get sh).budget) ∧ EntriesRequest (fun i => w.entryBehind i || moved i) w t

/-! ### Bytes and fields of records (10, R193) -/

/-- The `w` bytes of a figure, most significant first, two's complement. -/
def bytesOf (w : Nat) (v : Int) : List Byte := (List.range w).reverse.map fun k => BitVec.ofInt 8 (v / 256 ^ k)

/-- The figures of a record in order, each with its width in bytes. -/
def layout (fields : List (Nat × Int)) : List Byte := fields.flatMap fun f => bytesOf f.1 f.2

/-- A field that may be absent: a present byte, then the field, 0 when absent. -/
def present (w : Nat) : Option Int → List (Nat × Int)
  | some v => [(1, 1), (w, v)]
  | none => [(1, 0), (w, 0)]

/-- A power in its 4-byte field: UNLIMITED is 0xFFFFFFFF. -/
def Power.figure : Power → Int
  | .watts w => w
  | .unlimited => 0xFFFFFFFF

/-- The fields of a record as a WRITE takes them, each written value with its clamp and the value stored, and the count `n` of those that the
clamp changed (R184). -/
structure Taken (fields : List (Int × (Int → Int) × Int)) (n : Nat) : Prop where
  stored : ∀ f ∈ fields, f.2.2 = f.2.1 f.1
  clamped : n = fields.countP fun f => decide (f.2.2 ≠ f.1)

/-- The clamp to the nearer end of a range. -/
def between (lo hi v : Int) : Int := if v < lo then lo else if hi < v then hi else v

/-- The clamp of a step or slew period: to the nearest listed period below (R110, R135, R166). -/
def listedPeriod (v : Int) : Int :=
  if 200 ≤ v then 200 else if 100 ≤ v then 100 else if 50 ≤ v then 50 else if 20 ≤ v then 20 else if 10 ≤ v then 10
  else if 5 ≤ v then 5 else if 2 ≤ v then 2 else v

/-- The clamp of a binding index, by its binding (R135, R143); an index that its binding does not use stays as written (log entry 17). -/
def bindingRange : OutputBinding → Int → Int
  | .light => between 0 31
  | .sink => between 0 11
  | .zoneDemand => between 0 3
  | .fan => between 0 3
  | .sheetAlarm => between 0 1
  | .none => id
  | .backup => id
  | .fixed => id

/-- An optional field in a record: its present byte at an offset, its bytes behind, which count only when present (log entry 10). -/
def optionField (get : List Byte → Nat → Nat) (b : List Byte) (i : Nat) : Option Nat := if u8At b i = 1 then some (get b (i + 1)) else none

/-- The clamp of an optional field, written and stored. -/
def optionRow (lo hi : Int) (written stored : Option Nat) : Int × (Int → Int) × Int :=
  (written.getD lo.toNat, between lo hi, stored.getD lo.toNat)

/-! ### Requests and replies -/

/-- The part acts and can take the request `r`: no assembly is in progress and `r` is the oldest held request (R183). -/
structure Ready (r : Request) (s : State) : Prop where
  phase : s.phase ≠ .settle
  resetWait : s.lnk.resetWait = none
  assembly : s.lnk.assembly = none
  head : s.lnk.requests.head? = some r

/-- The request of an act is ready, and no LOAD runs (R186). -/
structure ActReady (tag : Byte) (code : Nat) (fields : List Byte) (s : State) : Prop where
  ready : Ready ⟨tag, kindAct, BitVec.ofNat 8 code :: fields⟩ s
  load : s.stc.op ≠ .load

/-- The request of a WRITE is ready, and no SAVE or LOAD runs (R184). -/
structure WriteReady (tag : Byte) (table : Nat) (rest : List Byte) (s : State) : Prop where
  ready : Ready ⟨tag, kindWrite, BitVec.ofNat 8 table :: rest⟩ s
  store : s.stc.op ≠ .save ∧ s.stc.op ≠ .load

/-- `s` with the oldest request answered by one frame, and nothing else changed (R183, R186). -/
def State.answered (tag : Byte) (kind : ReplyKind) (body : List Byte) (s : State) : State :=
  { s with lnk := { s.lnk with output := s.lnk.output ++ [⟨tag, kind, [body]⟩], requests := s.lnk.requests.tail } }

/-- `s` with the oldest request refused for a reason, and nothing else changed (R183). -/
def State.refusedFor (tag : Byte) (reason : Reason) (s : State) : State := s.answered tag .refused (u8 reason.code)

/-! ### Capacities -/

/-- The queues and counters of the part keep to their capacities (R27, R28a, R33, R42, R156, R183, R187), and no two waiting transmit
entries have the same kind, target and point (R28). -/
structure QueuesFit (s : State) : Prop where
  requests : s.lnk.requests.length ≤ 2
  notices : s.lnk.notices.length ≤ 32
  lost : s.lnk.lost ≤ 255
  received : s.fbc.rxQueue.length ≤ 8
  slots : s.fbc.slots ≤ 16
  keys : (s.fbc.txProtect ++ s.fbc.txOrdinary).Pairwise fun a b => a.sameKey b = false
  program : s.scu.program.length ≤ 48
  txe : s.fbc.txe ≤ 256
  rxe : s.fbc.rxe ≤ 255
  counters : ∀ i, s.fbc.counters.get i ≤ 65535

/-- The program is in order of start time, its ids are distinct and below 65535, and the next id is below 65535 (R156, R157). -/
structure ProgramOrdered (s : State) : Prop where
  starts : s.scu.program.Pairwise fun a b => a.start ≤ b.start
  ids : s.scu.program.Pairwise fun a b => a.id ≠ b.id
  range : ∀ e ∈ s.scu.program, e.id ≤ 65534
  next : s.scu.nextId ≤ 65534
  length : s.scu.program.length ≤ 48

/-! ### Configurations -/

def within (lo hi : Nat) (v : Nat) : Bool := lo ≤ v && v ≤ hi
def withinInt (lo hi : Int) (v : Int) : Bool := lo ≤ v && v ≤ hi
def withinOption (hi : Nat) (v : Option Nat) : Bool := match v with | some x => x ≤ hi | none => true
def isPeriod (v : Nat) : Bool := Config.periods.contains v

/-- A field of 16 bits, signed. -/
def isInt16 (v : Int) : Bool := withinInt (-32768) 32767 v

/-- An ice or soil temperature setting (3.1). -/
def isTemperature (v : Int) : Bool := withinInt (-5000) 10000 v

/-- What an accepted POINTS WRITE leaves (R1). -/
def PointConfig.valid (c : PointConfig) : Bool :=
  (if c.binding = .bus then within 0 63 c.node && within 0 63 c.point else c.node == 0 && c.point == 0)
    && within 1 600 c.stale && isInt16 c.plausMin && isInt16 c.plausMax && isInt16 c.high && isInt16 c.low
    && !((c.mode == .hysteresis || c.mode == .window) && decide (c.high ≤ c.low))

/-- What an accepted WINDOWS WRITE leaves (R26). -/
def WindowConfig.valid (c : WindowConfig) : Bool :=
  within 0 63 c.matchSource && within 0 63 c.matchPoint && within 0 63 c.sourceMask && within 0 63 c.pointMask

/-- What an accepted BUS WRITE leaves (R19). -/
def BusSettings.valid (c : BusSettings) : Bool :=
  within 0 62 c.ownAddress && (c.bitRate == 125 || c.bitRate == 250) && within 1 255 c.warning

/-- What an accepted SHEETS WRITE leaves (R45). -/
def SheetConfig.valid (c : SheetConfig) : Bool :=
  decide (c.surfaces.length ≤ 4) && c.surfaces.all (within 0 63) && withinOption 63 c.brine && withinOption 63 c.subsoil
    && isTemperature c.tSet && isTemperature c.tSoft && isTemperature c.tLimit && decide (c.tSet < c.tSoft)
    && decide (c.tSoft < c.tLimit) && within 0 200 c.hysteresis && within 0 200000 c.bMax && within 0 1000 c.fallback
    && within 0 2000 c.brineOffset && within 60 1800 c.resurfaceHold && within 0 3600 c.tankTime
    && (c.criticalHold == 0 || within 10 3600 c.criticalHold) && isTemperature c.subsoilMin
    && within 0 500 c.heaveHysteresis

/-- What an accepted ZONES WRITE leaves (R66). -/
def ZoneConfig.valid (c : ZoneConfig) : Bool :=
  within 0 63 c.airTemp && within 0 63 c.airRh && withinOption 63 c.nearIce && withinOption 63 c.ceiling
    && within 0 2000 c.watch && decide (c.risk < c.watch) && within 0 500 c.hysteresis && within 0 1000 c.flood
    && within 0 1000 c.fallback

/-- What an accepted SINKS WRITE leaves (R87). -/
def SinkConfig.valid (c : SinkConfig) : Bool :=
  decide (c.min ≤ c.max) && within 0 30000 c.max && within 1 30000 c.fullOpen && withinOption 63 c.occupancy
    && within 1 5000 c.occupancyFull && within 0 1000 c.spill

/-- What an accepted WRITE of SINKS record 12 leaves (R85). -/
def AllocatorSettings.valid (c : AllocatorSettings) : Bool :=
  withinOption 63 c.heatPoint && within 0 30000 c.reserve && within 2 60 c.period

/-- What an accepted CHANNELS WRITE leaves (R110). -/
def ChannelConfig.valid (c : ChannelConfig) : Bool :=
  within 0 20000 c.coefficient && within 0 4095 c.floor && within 0 4095 c.safe && within 1 4095 c.step && isPeriod c.period

/-- What an accepted SCENES WRITE leaves (R115). -/
def Scene.valid (c : Scene) : Bool := c.levels.all (withinOption 4095) && withinOption 600 c.fade

/-- The binding index a record may hold (R135, R143). -/
def indexValid (b : OutputBinding) (v : Nat) : Bool :=
  match b with
  | .light => v ≤ 31
  | .sink => v ≤ 11
  | .zoneDemand => v ≤ 3
  | .fan => v ≤ 3
  | .sheetAlarm => v ≤ 1
  | .none => v ≤ 255
  | .backup => v ≤ 255
  | .fixed => v ≤ 255

/-- What an accepted OUTPUTS WRITE leaves (R135). -/
def OutputConfig.valid (c : OutputConfig) : Bool :=
  indexValid c.binding c.index && within 100 25000 c.pwm && within 1 4095 c.step && isPeriod c.period && within 0 4095 c.safe

/-- What an accepted REMOTES WRITE leaves (R143). -/
def RemoteConfig.valid (c : RemoteConfig) : Bool :=
  indexValid c.binding c.index && within 0 63 c.node && within 0 63 c.point && within 0 7 c.priority
    && within 0 60 c.refresh && isInt16 c.safe

/-- What an accepted PROFILES WRITE leaves (R151). -/
def Profile.valid (p : Profile) : Bool :=
  within 0 100 p.standsPercent && within 0 1000 p.baseDemand && within 0 1000 p.lightingShare && withinOption 23 p.entryScene

/-- What an accepted PROTECT WRITE leaves (R166). -/
def ProtectSettings.valid (p : ProtectSettings) : Bool := within 5 50 p.keyHold && within 1 4095 p.step && isPeriod p.period

/-- What an accepted NOTICE WRITE leaves (R189). -/
def NoticeSettings.valid (c : NoticeSettings) : Bool := within 1 32 c.threshold && within 0 60 c.coalescing

/-- No two points with BUS binding hold the same source identity (R2). -/
def Configuration.identitiesUnique (c : Configuration) : Prop :=
  ∀ i j : Fin 64, i ≠ j → (c.points.get i).binding = .bus → (c.points.get j).binding = .bus →
    ¬ ((c.points.get i).node = (c.points.get j).node ∧ (c.points.get i).point = (c.points.get j).point)

/-- Every field of every record lies in its range and meets the cross-field conditions of its WRITE (R194). -/
def Configuration.inRange (c : Configuration) : Bool :=
  c.points.all PointConfig.valid && c.windows.all WindowConfig.valid && c.bus.valid && c.sheets.all SheetConfig.valid
    && c.zones.all ZoneConfig.valid && c.sinks.all SinkConfig.valid && c.allocator.valid
    && c.channels.all ChannelConfig.valid && c.scenes.all Scene.valid && c.outputs.all OutputConfig.valid
    && within 1 30000 c.backupFull && c.remotes.all RemoteConfig.valid && c.profiles.all Profile.valid
    && c.protect.valid && c.notice.valid

/-- A configuration made of defaults and accepted WRITEs (R2, R194). -/
structure Configuration.Valid (c : Configuration) : Prop where
  ranges : c.inRange = true
  identities : c.identitiesUnique

/-- The running configuration, the one in the image and the one a SAVE writes are valid (R2, R194, R195). -/
structure ConfigurationsValid (s : State) : Prop where
  running : s.cfg.Valid
  image : ∀ x, s.stc.image = some x → x.contents.Valid
  saving : ∀ c, s.stc.saving = some c → c.Valid

/-! ### Figures that stay current -/

/-- L_up and D are current, and while protect is ARMED so is every effective target (R123 to R125). -/
structure LightingCurrent (s : State) : Prop where
  lUp : ∀ sh, (s.lsq.sheets.get sh).lUp = s.lUp sh
  derate : ∀ sh, (s.lsq.sheets.get sh).derate = derateOf (s.lsq.sheets.get sh).allowance (s.lsq.sheets.get sh).lUp
  targets : s.pru.state = .armed → ∀ i, (s.lsq.channels.get i).target = s.effectiveTarget i

/-- The heat hold is set exactly while protect is not ARMED, and it keeps every STANDS sink at grant 0 with status HELD (R106);
a LOAD runs only while protect is ARMED, and only then is a trigger deferred (R171). -/
structure HeatHoldKept (s : State) : Prop where
  hold : s.hra.hold = true ↔ s.pru.state ≠ .armed
  run : s.hra.hold = true → s.phase = .run
  settle : s.phase = .settle → s.stc.op = .none
  load : s.stc.op = .load → s.pru.state = .armed
  deferred : s.pru.deferred ≠ [] → s.stc.op = .load ∧ s.phase = .run
  stands : s.hra.hold = true → ∀ i, (s.cfg.sinks.get i).kind = .stands →
    (s.hra.sinks.get i).grant = 0 ∧ (s.hra.sinks.get i).status = .held

/-- A sheet is in RESURFACE only while its hold runs, and then its budget is the frozen one (R56). -/
structure SheetRun.ResurfaceKept (r : SheetRun) : Prop where
  during : r.state = .resurface → 1 ≤ r.hold ∧ ∃ w, r.frozen = some w ∧ r.budget = .watts w
  outside : r.state ≠ .resurface → r.hold = 0 ∧ r.frozen = none
  finite : r.state = .normal ∨ r.state = .soft → ∃ w, r.budget = .watts w

def ResurfaceKept (s : State) : Prop := ∀ sh, (s.shm.get sh).ResurfaceKept

end Sys2Proof.Machine
end

