-- ==== Sys2Proof/WellFormed.lean ====
section
/-! DEFINITION. Which commands are of their row: the operand ranges of the events, and which request belongs to which row. -/

namespace Sys2Proof

/-- How many records of a table are writable, from index 0. -/
def writableCount (table : Nat) : Nat :=
  match table with
  | 1 => 64
  | 2 => 4
  | 3 => 1
  | 4 => 2
  | 5 => 4
  | 6 => 13
  | 7 => 32
  | 8 => 24
  | 9 => 17
  | 10 => 32
  | 11 => 5
  | 12 => 1
  | 13 => 1
  | _ => 0

/-- A command that is of its row; every other is refused with the fault `illFormed`. -/
def Instr.wellFormed : Instr → Bool
  | .unknownKindRequest _ kind _ => kind.toNat == 0 || 5 < kind.toNat
  | .writePointsConfig _ rest => rest.length != 3
  | .writePointValue _ rest => rest.length == 3
  | .writeSinks _ rest => rest.head? != some 12
  | .writeOutputs _ rest => rest.head? != some 16
  | .write _ body =>
    match body with
    | t :: i :: _ => writableCount t.toNat ≤ i.toNat
    | _ => true
  | .coverOn _ fields => !(fields.length == 2 && fields.getD 1 0 == 1)
  | .coverOff _ fields => !(fields.length == 2 && fields.getD 1 0 == 0)
  | .pauseTimerExpiry node => node < 64
  | .holdExpiry sheet => sheet < 2
  | .tankReheatExpiry sheet => sheet < 2
  | .criticalHoldExpiry sheet => sheet < 2
  | .stepTimerExpiry channel => channel < 32
  | .effectSample channel => channel < 32
  | .slewStep output => output < 16
  | .refreshExpiry entry => entry < 32
  | .lengthAbove200 _ length => 200 < length.toNat
  | .unknownActCode _ code _ => code.toNat == 0 || 24 < code.toNat
  | .powerOn _ => true
  | .pinReset _ => true
  | .settleEnd => true
  | .hostFrame _ _ => true
  | .gapTimeout _ => true
  | .replyDelivered => true
  | .readPoints _ _ _ => true
  | .readCounters _ _ _ => true
  | .readEnergy _ _ _ => true
  | .writeBusSettings _ _ _ => true
  | .writeWindows _ _ => true
  | .writeSheets _ _ => true
  | .writeZones _ _ => true
  | .writeAllocatorSettings _ _ => true
  | .writeChannels _ _ => true
  | .writeScenes _ _ => true
  | .writeStageSettings _ _ => true
  | .writeRemotes _ _ => true
  | .writeProfiles _ _ => true
  | .writeProtectSettings _ _ => true
  | .writeNoticeSettings _ _ => true
  | .fetch _ _ => true
  | .status _ _ => true
  | .sceneRecall _ _ => true
  | .channelSet _ _ => true
  | .effectStart _ _ => true
  | .effectStop _ _ => true
  | .outputSet _ _ => true
  | .modeSet _ _ => true
  | .resurfaceStart _ _ => true
  | .resurfaceEnd _ _ => true
  | .protectTrip _ _ => true
  | .protectClear _ _ => true
  | .latchClear _ _ => true
  | .busRelease _ _ => true
  | .busReclaim _ _ => true
  | .busTest _ _ => true
  | .allocateNow _ _ => true
  | .snapshotTake _ _ => true
  | .storeSave _ _ => true
  | .storeLoad _ _ => true
  | .clockSet _ _ => true
  | .programAdd _ _ => true
  | .programDelete _ _ => true
  | .start _ _ => true
  | .reset _ _ => true
  | .softReset _ => true
  | .noticeWaitExpiry => true
  | .frameReceived _ => true
  | .frameStart => true
  | .ownFrameDone => true
  | .arbitrationLost => true
  | .transmitError => true
  | .isolatedRecovery => true
  | .handAsserted => true
  | .handDeasserted => true
  | .receiveEntryTaken => true
  | .agingExpiry => true
  | .periodTimerExpiry => true
  | .tick => true
  | .protectAsserted => true
  | .protectDeasserted => true
  | .keyPress => true
  | .keyRelease => true
  | .keyHoldExpiry => true
  | .saveComplete _ => true
  | .loadComplete _ => true
  | .snapshotWriteComplete _ => true
  | .idlePeriod => true

end Sys2Proof
end

