-- ==== Sys2Proof/Certificates/Slice0/Obligations.lean ====
section
/-! DEFINITION. The statements for the provers. -/

open Sys2Proof Sys2Proof.Machine

/-! ### The command queue -/

/-- A step with a command at the front of the queue is that command on the queue's rest. The queue is the model's. -/
def Obligations.StepRunsFrontCommand : Prop :=
  ∀ (c : Instr) (rest : List Instr) (s : State),
    step { s with pending := c :: rest } = exec c { s with pending := rest }

/-- On an empty queue the part takes a turn that no command of the table stands for: settings, phase and clock stay, and
a live part with nothing to answer counts a millisecond. Then every running timer counts down and waits at 1 for its expiry, which is a
command of its own, so the turn expires none, and expiries come in the order of their commands; a stopped timer stays at 0. Pause, key, slew
timers and, in RUN, step and sample timers count milliseconds; hold, tank, period and refresh timers and the notices count the seconds of the
millisecond count, as does the time in CRITICAL, short of the trip hold. The model's choice (log entries 2 to 4, 29). -/
def Obligations.EmptyQueueTurn : Prop :=
  ∀ s : State, s.pending = [] → ∃ t, step s = .next t ∧ t.pending = [] ∧ t.cfg = s.cfg ∧ t.phase = s.phase ∧
    t.scu.clock = s.scu.clock ∧ t.scu.program = s.scu.program ∧
    (s.live = true → s.lnk.assembly = none → (∀ r, s.lnk.requests.head? = some r → r.rowless = false) →
      let down (left : Nat) : Nat := if left ≤ 1 then left else left - 1
      let second : Prop := (s.ms + 1) % 1000 = 0
      t = { s with
        ms := s.ms + 1
        fbc := { s.fbc with pauses := t.fbc.pauses }
        scu := { s.scu with elapsed := min 999 (s.scu.elapsed + 1) }
        pru := { s.pru with keyTimer := down s.pru.keyTimer }
        lsq := { s.lsq with channels := t.lsq.channels }
        ost := t.ost
        shm := t.shm
        hra := { s.hra with timer := if second then down s.hra.timer else s.hra.timer }
        lnk := { s.lnk with
          notices := if second then s.lnk.notices.map (fun n => { n with waited := n.waited + 1 }) else s.lnk.notices } } ∧
      (∀ n, t.fbc.pauses.get n = down (s.fbc.pauses.get n)) ∧
      (∀ i, let r := s.lsq.channels.get i
        (s.phase ≠ .run → t.lsq.channels.get i = r) ∧
        (s.phase = .run → t.lsq.channels.get i = { r with
          timer := r.timer.map down, effect := r.effect.map fun e => { e with untilSample := down e.untilSample } })) ∧
      (∀ i, t.ost.outputs.get i = { s.ost.outputs.get i with timer := (s.ost.outputs.get i).timer.map down }) ∧
      (∀ i, let r := s.ost.remotes.get i
        t.ost.remotes.get i = { r with timer := if second then down r.timer else r.timer }) ∧
      (∀ sh, let r := s.shm.get sh
        let hold := (s.cfg.sheets.get sh).criticalHold
        let time := min 65535 (r.criticalTime + 1)
        (¬ second → t.shm.get sh = r) ∧
        (second → t.shm.get sh = { r with
          hold := down r.hold
          tank := down r.tank
          criticalTime := if r.state = .critical ∧ ¬ (hold ≠ 0 ∧ r.trigger = false ∧ hold ≤ time) then time else r.criticalTime }))) ∧
    (s.live = false → t = s)

/-- A command of its row completes in every state, and leaves the queue of waiting commands alone; a command that is not of its row is
the fault illFormed (log entry 5). -/
def Obligations.CommandsComplete : Prop :=
  ∀ (c : Instr) (s : State),
    (c.wellFormed = true → ∃ t : State, exec c s = .next t ∧ t.pending = s.pending) ∧
    (c.wellFormed = false → exec c s = .fault .illFormed)

/-! ### Resets and start-up (11) -/

/-- POWER_ON, PIN_RESET and, after its reply is delivered, SOFT_RESET begin SETTLE: what R200 keeps is kept, and every other block stands
at its reset values; the next sequence number is one above the greatest in the slots, or 1 (R177, R179), and the last number again where that
is the greatest (the model's deduction, log entry 23). ACT RESET is answered DONE, and
the part then waits for the delivery of that reply and of those before it, which each delivery counts (R191, R200; the count of deliveries
is the model's, log entry 8). -/
def Obligations.ResetsBeginSettle : Prop :=
  (∀ (strap : Strap) (s : State),
    let kept (soft : Bool) (t : State) : Prop :=
      t.phase = .settle ∧ t.strap = strap ∧ t.pins = s.pins ∧ t.pending = s.pending ∧
      t.lnk = { locked := if soft then s.lnk.locked else .none } ∧
      t.scu = { clock := if soft then s.scu.clock else 0 } ∧
      t.cfg = {} ∧ t.fbc = {} ∧ t.ptb = {} ∧ t.shm = State.reset.shm ∧ t.cdm = State.reset.cdm ∧ t.hra = {} ∧
      t.lsq = {} ∧ t.ost = {} ∧ t.pru = {} ∧ t.ms = 0 ∧ t.choices = s.choices ∧
      t.stc.image = (if s.stc.op = .save then none else s.stc.image) ∧ t.stc.slots = s.stc.slots ∧
      t.stc.op = .none ∧ t.stc.saving = none ∧ t.stc.snapshot = none ∧ t.stc.writing = none ∧
      (∃ greatest, t.stc.nextSequence = min 4294967295 (greatest + 1) ∧
        (∀ i x, s.stc.slots.get i = some x → x.sequence ≤ greatest) ∧
        ((∀ i, s.stc.slots.get i = none) → greatest = 0) ∧
        (∀ i, s.stc.slots.get i ≠ none → ∃ j x, s.stc.slots.get j = some x ∧ x.sequence = greatest)) ∧
      t.attn = false
    (∃ t : State, exec (.powerOn strap) s = .next t ∧ kept false t) ∧
    (∃ t : State, exec (.pinReset strap) s = .next t ∧ kept false t) ∧
    (s.lnk.resetWait = some 0 → ∃ t : State, exec (.softReset strap) s = .next t ∧ kept true t)) ∧
  (∀ (tag : Byte) (s : State), ActReady tag 24 [] s →
    ∃ t : State, exec (.reset tag []) s = .next t ∧
      t = { s.answered tag .done [0] with
        lnk := { (s.answered tag .done [0]).lnk with resetWait := some (s.lnk.output.length + 1) } }) ∧
  (∀ (r : Reply) (rest : List Reply) (s : State), s.phase ≠ .settle → s.lnk.output = r :: rest →
    exec .replyDelivered s =
      .next { s with lnk := { s.lnk with output := rest, clocked := 0, resetWait := s.lnk.resetWait.map (· - 1) } })

/-- The end of SETTLE with the strap ATTENDED or a bad image: WAITING on the defaults, the pins sampled, and STORE 3 for a bad image
on a STANDALONE part (R197, R198). -/
def Obligations.SettleEndsWaiting : Prop :=
  ∀ s : State, s.phase = .settle → (s.strap = .attended ∨ s.stc.goodImage = none) →
    exec .settleEnd s = .next { State.reset with
      pending := s.pending
      choices := s.choices
      strap := s.strap
      pins := s.pins
      stc := s.stc
      scu := { clock := s.scu.clock }
      lnk := {
        locked := s.lnk.locked
        notices := if s.strap = .standalone then [⟨.store, 3, 1, s.scu.clock, 0⟩] else [] }
      fbc := { hand := s.pins.hand, handOver := if s.pins.hand then .released else .owned }
      pru := { pin := s.pins.protect, key := if s.pins.egress then .timing else .released } }

/-- The end of SETTLE on a STANDALONE part with a good image: RUN on the image, by the work of START (R198, R199). The values that points,
sheets and zones take at reset queue no notice (R11, R63, R81). -/
def Obligations.SettleEndsRunning : Prop :=
  ∀ (s : State) (c : Configuration), s.phase = .settle → s.strap = .standalone → s.stc.goodImage = some c →
    ∃ t : State, exec .settleEnd s = .next t ∧ t.phase = .run ∧ t.cfg = c ∧ t.pending = s.pending ∧ t.strap = s.strap ∧
      t.pins = s.pins ∧ t.scu = { clock := s.scu.clock } ∧ t.lnk.locked = s.lnk.locked ∧ t.lnk.requests = [] ∧
      t.lnk.output = [] ∧ t.fbc.address = c.bus.ownAddress ∧ t.fbc.bitRate = c.bus.bitRate ∧ t.fbc.hand = s.pins.hand ∧
      t.fbc.inFlight = none ∧ t.fbc.rxQueue = [] ∧ t.stc.image = s.stc.image ∧ t.hra.timer = c.allocator.period ∧
      (∀ n ∈ t.lnk.notices, n.kind ∉ [NoticeKind.store, .point, .limit, .sheet, .zone, .bus, .program]) ∧
      (s.pins.protect = true → t.pru.state ≠ .armed ∧ Trigger.pin ∈ t.pru.triggers) ∧
      (s.pins.protect = false → s.pins.egress = false → t.pru.state = .armed ∧
        ∀ i, (t.ost.outputs.get i).driven = ((c.outputs.get i).binding != .none))

/-- ACT START in WAITING with protect ARMED: RUN, the period timer started, an active level trigger trips; with none, the key not in
TIMING and no entry due, every output with a binding is driven, and points, sheets, zones, base targets and protect stay (R199). -/
def Obligations.StartRunsArena : Prop :=
  ∀ (tag : Byte) (s : State), ActReady tag 23 [] s → s.phase = .waiting → s.pru.state = .armed →
    ∃ t : State, exec (.start tag []) s = .next (t.answered tag .done [0]) ∧ t.phase = .run ∧ t.cfg = s.cfg ∧
      t.scu.clock = s.scu.clock ∧ LinkKept s t ∧ t.fbc.handOver = s.fbc.handOver ∧ t.fbc.rxQueue = s.fbc.rxQueue ∧
      t.hra.timer = s.cfg.allocator.period ∧
      (s.activeTriggers ≠ [] → t.pru.state ≠ .armed) ∧
      (s.activeTriggers = [] → s.pru.key ≠ .timing → s.dueEntries = [] →
        t.pru = s.pru ∧ t.ptb = s.ptb ∧ t.cdm = s.cdm ∧ SheetsKept s t ∧ t.scu = s.scu ∧ t.stc = s.stc ∧
        (∀ i, (s.cfg.outputs.get i).binding ≠ .none → (t.ost.outputs.get i).driven = true) ∧
        (∀ i, (t.lsq.channels.get i).base = (s.lsq.channels.get i).base))

/-! ### The host link (10) -/

/-- A whole frame on a port that is not ignored, with no attempt under way: the port is locked and the request joins the buffer; with two
requests held it is answered BUSY and counted LINK_BUSY. A gap ends a UART attempt with LINK_TIMEOUT, a LENGTH above 200 ends an attempt
with LINK_CHECK. On the locked SPI port every byte carries the next reply byte out; SDO carries 0x00 before the SPI lock and nothing after
the UART's, and LTX is idle under the SPI lock (R180 to R183). The model's choices: that a lock empties the intake of both ports, and that
LENGTH_ABOVE_200 finds an attempt of no byte or of its SYNC alone (log entry 15); that the bytes of a frame clock reply bytes out before
the frame is taken, and of LENGTH_ABOVE_200 the two or one it brings (log entry 38). -/
def Obligations.HostFrameTaken : Prop :=
  (∀ (p : Port) (tag kind : Byte) (body : List Byte) (s : State), body.length ≤ 200 → s.phase ≠ .settle →
    s.ignores p = false → s.lnk.intake p = [] →
    let c := s.clockOut p (body.length + 6)
    let l : Lnk := { c.lnk with locked := portLock p, uartIntake := [], spiIntake := [] }
    (s.lnk.requests.length < 2 →
      exec (.hostFrame p (hostFrame tag kind body)) s =
        .next { s with lnk := { l with requests := s.lnk.requests ++ [⟨tag, kind, body⟩] } }) ∧
    (s.lnk.requests.length = 2 →
      exec (.hostFrame p (hostFrame tag kind body)) s =
        .next { s with
          lnk := { l with output := c.lnk.output ++ [⟨tag, .busy, [[]]⟩] }
          fbc := s.fbc.count s.holdsCounts .linkBusy })) ∧
  (∀ (bytes left : List Byte) (s : State), s.phase ≠ .settle → s.ignores .uart = false →
    scan (s.lnk.uartIntake ++ bytes) = ([], left) → left ≠ [] →
    exec (.gapTimeout bytes) s =
      .next { s with lnk := { s.lnk with uartIntake := [] }, fbc := s.fbc.count s.holdsCounts .linkTimeout }) ∧
  (∀ (p : Port) (length : Byte) (s : State), 200 < length.toNat → s.phase ≠ .settle → s.ignores p = false →
    (s.lnk.intake p = [] ∨ s.lnk.intake p = [syncByte]) →
    exec (.lengthAbove200 p length) s =
      .next { s with
        lnk := (s.clockOut p (if s.lnk.intake p = [] then 2 else 1)).lnk.setIntake p []
        fbc := s.fbc.count s.holdsCounts .linkCheck }) ∧
  (∀ (p : Port) (n : Nat) (s : State),
    (p = .uart ∨ s.lnk.locked ≠ .spi → s.clockOut p n = s) ∧
    (s.lnk.locked = .spi → (∀ r ∈ s.lnk.output, r.bodies ≠ []) →
      (∀ r, s.lnk.output.head? = some r → s.lnk.clocked < r.bytes.length) →
      (s.clockOut .spi n).lnk.waitingBytes = s.lnk.waitingBytes.drop n ∧
      s.sdo = some (s.lnk.waitingBytes.headD 0) ∧ s.ltx = []) ∧
    (s.lnk.locked = .none → s.sdo = some 0) ∧ (s.lnk.locked = .uart → s.sdo = none ∧ s.ltx = s.lnk.waitingBytes))

/-- Requests refused whatever the part does, and a refused request changes nothing: an unknown KIND and an unknown act code are refused
UNKNOWN_KIND, a WRITE to no table BAD_TABLE, a WRITE to a record that is not writable BAD_INDEX. A WRITE of each row is refused BAD_INDEX for
a record its table does not have, then BAD_LENGTH for a record of another length, then STORE_BUSY while a SAVE or LOAD runs, then BAD_VALUE
for a record with a code outside its list (R183, R184, R186; R110, R135, R143, R151, R189; which codes those are stand with the WRITE of each
table, O13 to O21). The record lengths are those of 10.5: the point record, and R193 over the tables of the chapters, of which the model deduces
them (log entry 17). A WRITE body that ends behind the table code is BAD_LENGTH, and a code outside its list is BAD_VALUE also in the tables
whose chapters are silent on it (POINTS, WINDOWS, BUS, SHEETS, ZONES, SINKS), the model's choices (log entry 10). -/
def Obligations.UnknownRequestsRefused : Prop :=
  (∀ (tag kind : Byte) (body : List Byte) (s : State), kind.toNat = 0 ∨ 5 < kind.toNat →
    Ready ⟨tag, kind, body⟩ s →
    exec (.unknownKindRequest tag kind body) s = .next (s.refusedFor tag .unknownKind)) ∧
  (∀ (tag code : Byte) (fields : List Byte) (s : State), code.toNat = 0 ∨ 24 < code.toNat →
    Ready ⟨tag, kindAct, code :: fields⟩ s →
    exec (.unknownActCode tag code fields) s = .next (s.refusedFor tag .unknownKind)) ∧
  (∀ (tag table : Byte) (rest : List Byte) (s : State), table.toNat = 0 ∨ 17 < table.toNat →
    Ready ⟨tag, kindWrite, table :: rest⟩ s →
    exec (.write tag (table :: rest)) s = .next (s.refusedFor tag .badTable)) ∧
  (∀ (tag table index : Byte) (rest : List Byte) (s : State), 1 ≤ table.toNat → table.toNat ≤ 17 →
    writableCount table.toNat ≤ index.toNat → Ready ⟨tag, kindWrite, table :: index :: rest⟩ s →
    exec (.write tag (table :: index :: rest)) s = .next (s.refusedFor tag .badIndex)) ∧
  (∀ (tag table : Byte) (s : State), 1 ≤ table.toNat → table.toNat ≤ 17 → Ready ⟨tag, kindWrite, [table]⟩ s →
    exec (.write tag [table]) s = .next (s.refusedFor tag .badLength)) ∧
  (∀ (receiving : Bool) (write : Byte → List Byte → Instr) (table count : Nat) (fits codes : List Byte → Bool),
    (write, table, count, fits, codes) ∈ ([
      (.writePointsConfig, 1, 64, fun r => r.length == 16, fun r => (parsePoint r).isSome),
      (.writePointValue, 1, 64, fun r => r.length == 2, fun _ => true),
      (.writeWindows, 2, 4, fun r => r.length == 6, fun r => (parseWindow r).isSome),
      (fun tag rest => .writeBusSettings tag rest receiving, 3, 1, fun r => r.length == 5, fun r => (parseBus r).isSome),
      (.writeSheets, 4, 2, fun r => u8At r 1 ≤ 4 && r.length == 31 + u8At r 1, fun r => (parseSheet r).isSome),
      (.writeZones, 5, 4, fun r => r.length == 20, fun r => (parseZone r).isSome),
      (.writeSinks, 6, 12, fun r => r.length == 16, fun r => (parseSink r).isSome),
      (.writeChannels, 7, 32, fun r => r.length == 11, fun r => (parseChannel r).isSome),
      (.writeScenes, 8, 24, fun r => r.length == 99, fun r => (parseScene r).isSome),
      (.writeOutputs, 9, 16, fun r => r.length == 11, fun r => (parseOutput r).isSome),
      (.writeRemotes, 10, 32, fun r => r.length == 9, fun r => (parseRemote r).isSome),
      (.writeProfiles, 11, 5, fun r => r.length == 9, fun r => (parseProfile r).isSome),
      (.writeProtectSettings, 12, 1, fun r => r.length == 4, fun _ => true),
      (.writeNoticeSettings, 13, 1, fun r => r.length == 13, fun r => (parseNotice r).isSome)] :
        List ((Byte → List Byte → Instr) × Nat × Nat × (List Byte → Bool) × (List Byte → Bool))) →
    ∀ (tag i : Byte) (record : List Byte) (s : State), (write tag (i :: record)).wellFormed = true →
      Ready ⟨tag, kindWrite, BitVec.ofNat 8 table :: i :: record⟩ s →
      (count ≤ i.toNat → exec (write tag (i :: record)) s = .next (s.refusedFor tag .badIndex)) ∧
      (i.toNat < count → fits record = false → exec (write tag (i :: record)) s = .next (s.refusedFor tag .badLength)) ∧
      (i.toNat < count → fits record = true → s.stc.op = .save ∨ s.stc.op = .load →
        exec (write tag (i :: record)) s = .next (s.refusedFor tag .storeBusy)) ∧
      (i.toNat < count → fits record = true → s.stc.op ≠ .save → s.stc.op ≠ .load → codes record = false →
        exec (write tag (i :: record)) s = .next (s.refusedFor tag .badValue))) ∧
  (∀ (write : Byte → List Byte → Instr) (table i : Byte) (length : Nat) (codes : List Byte → Bool),
    (write, table, i, length, codes) ∈ ([(.writeAllocatorSettings, 6, 12, 6, fun r => (parseAllocator r).isSome),
      (.writeStageSettings, 9, 16, 2, fun _ => true)] : List ((Byte → List Byte → Instr) × Byte × Byte × Nat × (List Byte → Bool))) →
    ∀ (tag : Byte) (record : List Byte) (s : State), Ready ⟨tag, kindWrite, table :: i :: record⟩ s →
      (record.length ≠ length → exec (write tag record) s = .next (s.refusedFor tag .badLength)) ∧
      (record.length = length → s.stc.op = .save ∨ s.stc.op = .load →
        exec (write tag record) s = .next (s.refusedFor tag .storeBusy)) ∧
      (record.length = length → s.stc.op ≠ .save → s.stc.op ≠ .load → codes record = false →
        exec (write tag record) s = .next (s.refusedFor tag .badValue)))

/-- STATUS answers the 19 bytes of 10.5, each as listed, and changes nothing; a notice record has the 11 bytes of 10.5; a notice offered is not
queued when its kind is disabled, joins the tail when fewer than 32 are held, and is else discarded and counted as lost, up to 255. FETCH
returns and removes the oldest notices, at most 18, and clears the lost count, and a body of any other length than 1 is BAD_LENGTH; the oldest
notice's reaching the coalescing time asserts ATTN, also when that notice has been fetched and another has waited as long (R186 to R188, R190).
That the seconds which the oldest still lacked have passed for every notice held is the model's choice (log entry 4). -/
def Obligations.StatusAndFetch : Prop :=
  (∀ (tag : Byte) (s : State), Ready ⟨tag, kindStatus, []⟩ s →
    exec (.status tag []) s = .next (s.answered tag .done s.statusBody) ∧ s.statusBody.length = 19) ∧
  (∀ s : State,
    let sheet (sh : Fin 2) : Nat := [SheetState.off, .normal, .soft, .critical, .resurface, .blind, .covered].idxOf (s.shm.get sh).state
    let zone (z : Fin 4) : Nat := [ZoneState.clear, .watch, .risk, .fog, .unknown].idxOf (s.cdm.get z).state
    s.statusBody = layout [
      (1, [ArenaMode.idle, .practice, .publicSkate, .event, .changeover].idxOf s.scu.mode),
      (1, if s.phase = .run then 1 else 0),
      (1, [ProtectState.armed, .tripped, .held].idxOf s.pru.state),
      (1, sheet 0), (1, sheet 1), (1, zone 0), (1, zone 1), (1, zone 2), (1, zone 3),
      (1, [BusState.active, .cautious, .isolated].idxOf s.busState),
      (1, [HandOver.owned, .releasePending, .released].idxOf s.fbc.handOver),
      (1, [StoreOp.none, .save, .load, .snapshot].idxOf s.stc.op),
      (1, s.lnk.notices.length), (1, s.lnk.lost),
      (1, [PortLock.none, .uart, .spi].idxOf s.lnk.locked),
      (4, s.scu.clock)]) ∧
  (∀ n : Notice, putNotice n = layout [
    (1, [NoticeKind.point, .limit, .sheet, .zone, .grantShort, .backup, .derate, .protect, .bus, .program, .store].idxOf n.kind + 1),
    (2, n.subject), (4, n.value), (4, n.clock)]) ∧
  (∀ (l : Lnk) (n : Notice),
    l.offer false n = l ∧
    (l.notices.length < 32 → l.offer true n = { l with notices := l.notices ++ [n] }) ∧
    (32 ≤ l.notices.length → l.offer true n = { l with lost := min 255 (l.lost + 1) })) ∧
  (∀ (tag n : Byte) (s : State), Ready ⟨tag, kindFetch, [n]⟩ s →
    let k := min n.toNat 18
    ∃ t : State, exec (.fetch tag [n]) s = .next (t.answered tag .done
        (u8 s.lnk.lost ++ u8 (min k s.lnk.notices.length) ++ (s.lnk.notices.take k).flatMap putNotice)) ∧
      t = { s with lnk := { s.lnk with notices := s.lnk.notices.drop k, lost := 0 } }) ∧
  (∀ (tag : Byte) (body : List Byte) (s : State), Ready ⟨tag, kindFetch, body⟩ s → body.length ≠ 1 →
    exec (.fetch tag body) s = .next (s.refusedFor tag .badLength)) ∧
  (∀ (n : Notice) (rest : List Notice) (s : State), s.live = true → s.cfg.notice.coalescing ≠ 0 →
    s.lnk.notices = n :: rest →
    ∃ t : State, exec .noticeWaitExpiry s = .next t ∧ t.attn = true ∧
      t = { s with lnk := { s.lnk with notices := t.lnk.notices } } ∧
      t.lnk.notices.head? = some { n with waited := max n.waited s.cfg.notice.coalescing } ∧
      t.lnk.notices = (n :: rest).map (fun x => { x with waited := x.waited + (s.cfg.notice.coalescing - n.waited) }) ∧
      -- ATTN holds on, after the oldest was fetched, while a notice is held that was queued with it
      (∀ x more, rest = x :: more → x.waited = n.waited →
        ({ t with lnk := { t.lnk with notices := t.lnk.notices.drop 1, lost := 0 } } : State).attn = true))

/-- READs of POINTS, COUNTERS and ENERGY that are answered in the event that takes them, and which READs are refused: BAD_INDEX for records
a table does not have, then BAD_LENGTH for a POINTS count of 0 or above 16 and for a body of another length (R17, R43, R105, R184, R185). A
READ of every other table is answered by the turn on an empty queue: BAD_TABLE, BAD_INDEX, or its record, whose bytes stand in O60. The
model's choices: that turn (log entry 3), and BAD_LENGTH for a count other than 1 (log entry 10). -/
def Obligations.ReadsAnswered : Prop :=
  (∀ (tag first count : Byte) (s : State), 1 ≤ count.toNat → count.toNat ≤ 16 → first.toNat + count.toNat ≤ 64 →
    s.ptb.heldAging = 0 → Ready ⟨tag, kindRead, [1, first, count]⟩ s →
    let bytes := ((List.range' first.toNat count.toNat).filterMap (index 64)).flatMap fun i =>
      putPoint (s.cfg.points.get i) (s.ptb.points.get i)
    exec (.readPoints tag [first, count] false) s =
      .next { s with lnk := { s.lnk with
        output := s.lnk.output ++ [⟨tag, .done, segments bytes⟩], requests := s.lnk.requests.tail } }) ∧
  (∀ (tag : Byte) (s : State), Ready ⟨tag, kindRead, [15, 0, 1]⟩ s →
    ∃ t : State, exec (.readCounters tag [0, 1] false) s = .next t ∧
      t = { s with
        lnk := { s.lnk with
          output := s.lnk.output ++ [⟨tag, .done, segments s.putCounters⟩], requests := s.lnk.requests.tail }
        fbc := { s.fbc with counters := t.fbc.counters, tallies := t.fbc.tallies } } ∧
      (∀ i, t.fbc.tallies.get i = 0) ∧
      (∀ i, t.fbc.counters.get i =
        min 65535 ((if s.cfg.bus.clearOnRead then 0 else s.fbc.counters.get i) + s.fbc.tallies.get i))) ∧
  (∀ (tag : Byte) (s : State), Ready ⟨tag, kindRead, [16, 0, 1]⟩ s →
    ∃ t : State, exec (.readEnergy tag [0, 1] false) s =
        .next { t with lnk := { s.lnk with
          output := s.lnk.output ++ [⟨tag, .done, segments s.putEnergy⟩], requests := s.lnk.requests.tail } } ∧
      (s.cfg.allocator.clearOnRead = false → t = s) ∧
      (s.cfg.allocator.clearOnRead = true →
        t = { s with hra := { s.hra with
          sinks := s.hra.sinks.mapIdx fun _ k => { k with energy := 0 }
          rejectedEnergy := { s.hra.rejectedEnergy with total := 0 }
          backupEnergy := { s.hra.backupEnergy with total := 0 } } })) ∧
  (∀ (tag first : Byte) (more : List Byte) (lasts : Bool) (s : State), Ready ⟨tag, kindRead, 1 :: first :: more⟩ s →
    let count := u8At more 0
    (64 < first.toNat + max 1 count →
      exec (.readPoints tag (first :: more) lasts) s = .next (s.refusedFor tag .badIndex)) ∧
    (first.toNat + max 1 count ≤ 64 → more.length ≠ 1 ∨ count = 0 ∨ 16 < count →
      exec (.readPoints tag (first :: more) lasts) s = .next (s.refusedFor tag .badLength))) ∧
  (∀ (read : Byte → List Byte → Bool → Instr) (table : Byte),
    (read, table) ∈ ([(.readCounters, 15), (.readEnergy, 16)] : List ((Byte → List Byte → Bool → Instr) × Byte)) →
    ∀ (tag i : Byte) (more : List Byte) (lasts : Bool) (s : State), Ready ⟨tag, kindRead, table :: i :: more⟩ s →
      (i ≠ 0 → exec (read tag (i :: more) lasts) s = .next (s.refusedFor tag .badIndex)) ∧
      (i = 0 → more ≠ [1] → exec (read tag (i :: more) lasts) s = .next (s.refusedFor tag .badLength))) ∧
  (∀ (tag table i n : Byte) (s : State), s.pending = [] → table.toNat ∉ [1, 15, 16] →
    Ready ⟨tag, kindRead, [table, i, n]⟩ s →
    (table.toNat = 0 ∨ 17 < table.toNat → step s = .next (s.refusedFor tag .badTable)) ∧
    (1 ≤ table.toNat → table.toNat ≤ 17 → s.record table.toNat i.toNat = none → step s = .next (s.refusedFor tag .badIndex)) ∧
    (∀ bytes, s.record table.toNat i.toNat = some bytes →
      (n ≠ 1 → step s = .next (s.refusedFor tag .badLength)) ∧
      (n = 1 → step s = .next { s with lnk := { s.lnk with
        output := s.lnk.output ++ [⟨tag, .done, segments bytes⟩], requests := s.lnk.requests.tail } })))

/-- While an assembly lasts, the reply, formed whole as the request is taken, waits and its request stays held; of a POINTS assembly
intake and aging are held, of a COUNTERS assembly the increments; clear-on-read zeroes at that moment. At its end the reply is handed
over and the request leaves, held increments are added, and held aging expiries follow one by one (R17, R43, R105, R183, R185). The model's
choices (log entry 2): that the turn on an empty queue ends it, and that the held aging comes in that event, before the waiting receive
entries. -/
def Obligations.AssemblyHolds : Prop :=
  (∀ (tag first count : Byte) (s : State), 1 ≤ count.toNat → count.toNat ≤ 16 → first.toNat + count.toNat ≤ 64 →
    Ready ⟨tag, kindRead, [1, first, count]⟩ s →
    let bytes := ((List.range' first.toNat count.toNat).filterMap (index 64)).flatMap fun i =>
      putPoint (s.cfg.points.get i) (s.ptb.points.get i)
    exec (.readPoints tag [first, count] true) s =
      .next { s with lnk := { s.lnk with assembly := some ⟨.points, ⟨tag, .done, segments bytes⟩⟩ } }) ∧
  (∀ (tag : Byte) (s : State), Ready ⟨tag, kindRead, [15, 0, 1]⟩ s →
    exec (.readCounters tag [0, 1] true) s =
      .next { s with
        lnk := { s.lnk with assembly := some ⟨.counters, ⟨tag, .done, segments s.putCounters⟩⟩ }
        fbc := if s.cfg.bus.clearOnRead then { s.fbc with counters := Table.const 15 0 } else s.fbc }) ∧
  (∀ (tag : Byte) (s : State), Ready ⟨tag, kindRead, [16, 0, 1]⟩ s →
    exec (.readEnergy tag [0, 1] true) s =
      .next { s with
        lnk := { s.lnk with assembly := some ⟨.energy, ⟨tag, .done, segments s.putEnergy⟩⟩ }
        hra := if s.cfg.allocator.clearOnRead then { s.hra with
          sinks := s.hra.sinks.mapIdx fun _ k => { k with energy := 0 }
          rejectedEnergy := { s.hra.rejectedEnergy with total := 0 }
          backupEnergy := { s.hra.backupEnergy with total := 0 } } else s.hra }) ∧
  (∀ s : State, s.live = true → s.readsPoints = true →
    exec .receiveEntryTaken s = .next s ∧
    exec .agingExpiry s = .next { s with ptb := { s.ptb with heldAging := s.ptb.heldAging + 1 } }) ∧
  (∀ (c : Counter) (s : State), s.holdsCounts = true →
    (s.count c).fbc.counters = s.fbc.counters ∧
    (s.count c).fbc.tallies.get (counterIndex c) = s.fbc.tallies.get (counterIndex c) + 1) ∧
  (∀ (k : AssemblyKind) (r : Reply) (s : State), s.live = true → s.pending = [] → s.lnk.assembly = some ⟨k, r⟩ →
    let u : State := { s with lnk := { s.lnk with
      assembly := none, output := s.lnk.output ++ [r], requests := s.lnk.requests.tail } }
    ∃ t : State, step s = .next t ∧ t = s.endAssembly ∧
      (k = .energy → t = u) ∧
      (k = .counters →
        t = { u with fbc := { s.fbc with counters := t.fbc.counters, tallies := t.fbc.tallies } } ∧
        (∀ i, t.fbc.tallies.get i = 0) ∧
        (∀ i, t.fbc.counters.get i = min 65535 (s.fbc.counters.get i + s.fbc.tallies.get i))) ∧
      (k = .points →
        t = Nat.iterate State.ageAll s.ptb.heldAging { u with ptb := { s.ptb with heldAging := 0 } }))

/-! ### WRITEs (R184 and the tables' own rules) -/

/-- WRITEs that only store: WINDOWS, the allocator settings, SCENES, PROTECT, NOTICE and BUS replace the record at once, after the clamps,
and answer the clamped-field count; own address and bit rate are in force at once with no frame on the line (R19; that the operand receiving
says that a frame of another node is on the line is the model's choice, log entry 25, and that settings wait for no looped frame the model's
deduction, log entry 21). A record with a code outside its list is refused BAD_VALUE (O9). The codes, fields, clamps and counts of these records
(R19, R26, R85, R115, R166, R189; that the bytes behind a present byte of 0 are ignored, and that a clamped level counts one, are the model's
choices, log entries 10 and 11; that 187 is nearer to 125, and the places of the fields, which follow R193, its deduction, log entry 17). -/
def Obligations.StoringWritesReplaceRecord : Prop :=
  (∀ (tag : Byte) (i : Fin 4) (record : List Byte) (c : WindowConfig) (n : Nat) (s : State),
    WriteReady tag 2 (BitVec.ofNat 8 i :: record) s → record.length = 6 → parseWindow record = some (c, n) →
    exec (.writeWindows tag (BitVec.ofNat 8 i :: record)) s =
      .next (({ s with cfg := { s.cfg with windows := s.cfg.windows.set i c } } : State).answered tag .done (u8 n))) ∧
  (∀ (tag : Byte) (record : List Byte) (c : AllocatorSettings) (n : Nat) (s : State),
    WriteReady tag 6 (12 :: record) s → record.length = 6 → parseAllocator record = some (c, n) →
    exec (.writeAllocatorSettings tag record) s =
      .next (({ s with cfg := { s.cfg with allocator := c } } : State).answered tag .done (u8 n))) ∧
  (∀ (tag : Byte) (i : Fin 24) (record : List Byte) (c : Scene) (n : Nat) (s : State),
    WriteReady tag 8 (BitVec.ofNat 8 i :: record) s → record.length = 99 → parseScene record = some (c, n) →
    exec (.writeScenes tag (BitVec.ofNat 8 i :: record)) s =
      .next (({ s with cfg := { s.cfg with scenes := s.cfg.scenes.set i c } } : State).answered tag .done (u8 n))) ∧
  (∀ (tag : Byte) (record : List Byte) (s : State),
    WriteReady tag 12 (0 :: record) s → record.length = 4 →
    exec (.writeProtectSettings tag (0 :: record)) s =
      .next (({ s with cfg := { s.cfg with protect := (parseProtect record).1 } } : State).answered tag .done
        (u8 (parseProtect record).2))) ∧
  (∀ (tag : Byte) (record : List Byte) (c : NoticeSettings) (n : Nat) (s : State),
    WriteReady tag 13 (0 :: record) s → record.length = 13 → parseNotice record = some (c, n) →
    exec (.writeNoticeSettings tag (0 :: record)) s =
      .next (({ s with cfg := { s.cfg with notice := c } } : State).answered tag .done (u8 n))) ∧
  (∀ (tag : Byte) (record : List Byte) (receiving : Bool) (c : BusSettings) (n : Nat) (s : State),
    WriteReady tag 3 (0 :: record) s → record.length = 5 → parseBus record = some (c, n) →
    (receiving = true ∨ s.fbc.onLine = true →
      exec (.writeBusSettings tag (0 :: record) receiving) s =
        .next (({ s with cfg := { s.cfg with bus := c } } : State).answered tag .done (u8 n))) ∧
    (receiving = false → s.fbc.onLine = false →
      exec (.writeBusSettings tag (0 :: record) receiving) s =
        .next (({ s with
          cfg := { s.cfg with bus := c }
          fbc := { s.fbc with address := c.ownAddress, bitRate := c.bitRate } } : State).answered tag .done (u8 n)))) ∧
  (∀ b : List Byte,
    (parseWindow b = none ↔ 1 < u8At b 0 ∨ 1 < u8At b 5) ∧
    (∀ c n, parseWindow b = some (c, n) →
      c.enabled = (u8At b 0 == 1) ∧ c.accept = (u8At b 5 == 0) ∧
      Taken [(u8At b 1, between 0 63, c.matchSource), (u8At b 2, between 0 63, c.matchPoint),
        (u8At b 3, between 0 63, c.sourceMask), (u8At b 4, between 0 63, c.pointMask)] n)) ∧
  (∀ b : List Byte,
    (parseAllocator b = none ↔ 1 < u8At b 0 ∨ 1 < u8At b 5) ∧
    (∀ c n, parseAllocator b = some (c, n) →
      c.clearOnRead = (u8At b 5 == 1) ∧ c.heatPoint.isSome = (u8At b 0 == 1) ∧
      Taken [optionRow 0 63 (optionField u8At b 0) c.heatPoint, (u16At b 2, between 0 30000, c.reserve),
        (u8At b 4, between 2 60, c.period)] n)) ∧
  (∀ b : List Byte,
    (parseScene b = none ↔ ∃ k, k < 33 ∧ 1 < u8At b (3 * k)) ∧
    (∀ c n, parseScene b = some (c, n) →
      (∀ i : Fin 32, (c.levels.get i).isSome = (u8At b (3 * i) == 1)) ∧ c.fade.isSome = (u8At b 96 == 1) ∧
      Taken ((List.finRange 32).map (fun i : Fin 32 => optionRow 0 4095 (optionField u16At b (3 * i)) (c.levels.get i)) ++
        [optionRow 0 600 (optionField u16At b 96) c.fade]) n)) ∧
  (∀ b : List Byte,
    let p := (parseProtect b).1
    Taken [(u8At b 0, between 5 50, p.keyHold), (u16At b 1, between 1 4095, p.step), (u8At b 3, listedPeriod, p.period)] (parseProtect b).2) ∧
  (∀ b : List Byte,
    (parseNotice b = none ↔ ∃ k, k < 11 ∧ 1 < u8At b k) ∧
    (∀ c n, parseNotice b = some (c, n) →
      (∀ k : Fin 11, c.enables.get k = (u8At b k == 1)) ∧
      Taken [(u8At b 11, between 1 32, c.threshold), (u8At b 12, between 0 60, c.coalescing)] n)) ∧
  (∀ b : List Byte,
    (parseBus b = none ↔ 1 < u8At b 3 ∨ 1 < u8At b 4) ∧
    (∀ c n, parseBus b = some (c, n) →
      c.accept = (u8At b 3 == 0) ∧ c.clearOnRead = (u8At b 4 == 1) ∧
      Taken [(u8At b 0, between 0 62, c.ownAddress), (u8At b 1, fun v => if v ≤ 187 then 125 else 250, c.bitRate),
        (u8At b 2, between 1 255, c.warning)] n))

/-- A configuration WRITE of a point: refused on its two conditions; else the record is replaced and the runtime part restarts or its
comparator is judged again (R1, R4, R15), with the POINT and LIMIT notices of what changed (R11, R12) and the SHEET and ZONE notices of the
sheets and zones that it informs (R63, R81). The codes, fields, clamps and count of the record (R1, 10.5; a code outside its list is refused, log
entry 10, and the flag bits that the layout does not name are ignored, log entry 16). -/
def Obligations.PointWriteRestartsOrKeeps : Prop :=
  (∀ (tag : Byte) (i : Fin 64) (record : List Byte) (c : PointConfig) (n : Nat) (s : State),
    WriteReady tag 1 (BitVec.ofNat 8 i :: record) s → record.length = 16 → parsePoint record = some (c, n) →
    let old := s.cfg.points.get i
    let r := s.ptb.points.get i
    (c.thresholdsBad = true ∨ s.identityTaken i c = true →
      exec (.writePointsConfig tag (BitVec.ofNat 8 i :: record)) s = .next (s.refusedFor tag .badValue)) ∧
    (c.thresholdsBad = false → s.identityTaken i c = false →
      ∃ t new, exec (.writePointsConfig tag (BitVec.ofNat 8 i :: record)) s = .next (t.answered tag .done (u8 n)) ∧
        Inner { s with cfg := { s.cfg with points := s.cfg.points.set i c } } t ∧
        t.ptb = { s.ptb with points := s.ptb.points.set i new } ∧
        Notified [.point, .limit] (pointChanges s t i) s t ∧ StatesNotified s t ∧
        (old.sameSource c = false →
          new = { value := none, age := 0, suspect := 0, output := false,
                  quality := if c.binding = .none then .unbound else .noValue }) ∧
        (old.sameSource c = true → new = { r with output := new.output }) ∧
        (old.sameSource c = true → old.sameComparator c = true → new = r) ∧
        (old.sameSource c = true → old.sameComparator c = false → c.mode = .none → new.output = false) ∧
        (old.sameSource c = true → old.sameComparator c = false → c.mode ≠ .none → r.value = none →
          new.output = r.output) ∧
        (old.sameSource c = true → old.sameComparator c = false → c.mode ≠ .none →
          ∀ v, r.value = some v → new.output = evaluated c r.output v))) ∧
  (∀ b : List Byte,
    (parsePoint b = none ↔ 2 < u8At b 0 ∨ 9 < u8At b 3 ∨ 3 < u8At b 10) ∧
    (∀ c n, parsePoint b = some (c, n) →
      pointBindings[u8At b 0]? = some c.binding ∧ pointKinds[u8At b 3]? = some c.kind ∧ comparatorModes[u8At b 10]? = some c.mode ∧
      c.plausMin = s16At b 6 ∧ c.plausMax = s16At b 8 ∧ c.high = s16At b 11 ∧ c.low = s16At b 13 ∧
      c.latch = (u8At b 15 % 2 == 1) ∧ c.trip = (u8At b 15 / 2 % 2 == 1) ∧
      (c.binding ≠ .bus → c.node = 0 ∧ c.point = 0 ∧ Taken [(u16At b 4, between 1 600, c.stale)] n) ∧
      (c.binding = .bus → Taken [(u8At b 1, between 0 63, c.node), (u8At b 2, between 0 63, c.point),
        (u16At b 4, between 1 600, c.stale)] n)))

/-- A value WRITE: an update of a LINK point, judged by plausibility, with the POINT and LIMIT notices of what changed and the SHEET and ZONE
notices of the sheets and zones that it informs (R11, R12, R63, R81); refused NOT_NOW for any other (R6 to R8). The comparator that a stored
value is judged by: SET by its mode and thresholds, or as a latched output (R12, R13). -/
def Obligations.PointValueWriteUpdates : Prop :=
  (∀ (tag : Byte) (i : Fin 64) (v : BitVec 16) (s : State),
    let rest := BitVec.ofNat 8 i :: s16 v.toInt
    let c := s.cfg.points.get i
    let r := s.ptb.points.get i
    WriteReady tag 1 rest s →
    (c.binding ≠ .link → exec (.writePointValue tag rest) s = .next (s.refusedFor tag .notNow)) ∧
    (c.binding = .link →
      ∃ t new, exec (.writePointValue tag rest) s = .next (t.answered tag .done [0]) ∧ Inner s t ∧
        t.ptb = { s.ptb with points := s.ptb.points.set i new } ∧
        Notified [.point, .limit] (pointChanges s t i) s t ∧ StatesNotified s t ∧
        (c.plausMin ≤ v.toInt → v.toInt ≤ c.plausMax →
          new = { value := some v.toInt, age := 0, quality := .good, suspect := 0, output := evaluated c r.output v.toInt }) ∧
        (v.toInt < c.plausMin ∨ c.plausMax < v.toInt →
          new = { r with
            suspect := min 3 (r.suspect + 1)
            quality := if r.quality = .failed ∨ 2 ≤ r.suspect then .failed else .suspect }))) ∧
  (∀ (c : PointConfig) (present : Bool) (v : Int),
    let result : Prop :=
      match c.mode with
      | .none => False
      | .above => c.high ≤ v
      | .hysteresis => c.high ≤ v ∨ (c.low < v ∧ present = true)
      | .window => v < c.low ∨ c.high < v
    (evaluated c present v = true ↔ result ∨ (c.latch = true ∧ present = true)))

/-- A WRITE of a sheet: refused unless T_set, T_soft and T_limit rise; else, with the SHEET notice of a new state and the ZONE notices of the
zones that it floods no more (R63, R81), OFF when disabled, a fresh evaluation from OFF or BLIND, an
evaluation in NORMAL, SOFT and CRITICAL, and RESURFACE and COVERED held with their budget and hold (R45, R46; what T shows above its
range is free, log entry 7). An evaluation's T and source: the warmest usable surface, else the brine estimate (R47). Its states: fresh, and
from NORMAL, SOFT and CRITICAL (R49, R50). Its budget in every state (R51, R52). The codes, fields, clamps and count of the record (R45; a code
outside its list, and the bytes of an absent field, by log entry 10; the surface list counts one, log entry 11; the places of the fields, which
follow R193, are the model's deduction, log entry 17). -/
def Obligations.SheetWriteTakesEffect : Prop :=
  (∀ (tag : Byte) (i : Fin 2) (record : List Byte) (c : SheetConfig) (n : Nat) (s : State),
    WriteReady tag 4 (BitVec.ofNat 8 i :: record) s → sheetLengthOk record = true → parseSheet record = some (c, n) →
    let old := s.shm.get i
    let m := s.sheetTemp c
    (c.tSoft ≤ c.tSet ∨ c.tLimit ≤ c.tSoft →
      exec (.writeSheets tag (BitVec.ofNat 8 i :: record)) s = .next (s.refusedFor tag .badValue)) ∧
    (c.tSet < c.tSoft → c.tSoft < c.tLimit →
      ∃ t : State, exec (.writeSheets tag (BitVec.ofNat 8 i :: record)) s = .next (t.answered tag .done (u8 n)) ∧
        Inner { s with cfg := { s.cfg with sheets := s.cfg.sheets.set i c } } t ∧ t.ptb = s.ptb ∧ StatesNotified s t ∧
        (∀ j, j ≠ i → t.shm.get j = { s.shm.get j with atLastPass := (t.shm.get j).atLastPass }) ∧
        (t.shm.get i).tank = old.tank ∧
        (c.enabled = false → (t.shm.get i).state = .off) ∧
        (c.enabled = false → old.state ≠ .off → (t.shm.get i).budget = .unlimited ∧ (t.shm.get i).frozen = none ∧
          (t.shm.get i).hold = 0 ∧ (t.shm.get i).criticalTime = 0 ∧ (t.shm.get i).trigger = false) ∧
        (c.enabled = true → old.state = .off ∨ old.state = .blind →
          (t.shm.get i).state = freshState c m.1 m.2 ∧ (t.shm.get i).temp = m.1.map shownTemp ∧ (t.shm.get i).source = m.2 ∧
          (t.shm.get i).budget = budgetOf c (freshState c m.1 m.2) m.1 m.2 none) ∧
        (c.enabled = true → old.state = .normal ∨ old.state = .soft ∨ old.state = .critical →
          (t.shm.get i).state = evaluatedState c old.state m.1 m.2 ∧ (t.shm.get i).temp = m.1.map shownTemp ∧
          (t.shm.get i).budget = budgetOf c (evaluatedState c old.state m.1 m.2) m.1 m.2 none) ∧
        (c.enabled = true → old.state = .resurface ∨ old.state = .covered →
          (t.shm.get i).state = old.state ∧ (t.shm.get i).budget = old.budget ∧ (t.shm.get i).frozen = old.frozen ∧
          (t.shm.get i).hold = old.hold))) ∧
  (∀ (c : SheetConfig) (s : State),
    let reads (p : Nat) (v : Int) : Prop := p ∈ c.surfaces ∧ s.usableValue .iceSurface p = some v
    (∀ p v, reads p v → (∀ q w, reads q w → w ≤ v) → s.sheetTemp c = (some v, .surface)) ∧
    ((∀ p v, ¬ reads p v) →
      (∀ p v, c.brine = some p → s.usableValue .brineReturn p = some v →
        s.sheetTemp c = (some (v + c.brineOffset), .estimate)) ∧
      ((∀ p, c.brine = some p → s.usableValue .brineReturn p = none) → s.sheetTemp c = (none, .none)))) ∧
  (∀ (c : SheetConfig) (x : Option Int) (source : TempSource), source ≠ .surface →
    freshState c x source = .blind ∧
    ∀ present ∈ [SheetState.normal, .soft, .critical], evaluatedState c present x source = .blind) ∧
  (∀ (c : SheetConfig) (t : Int), c.tSet < c.tSoft → c.tSoft < c.tLimit →
    let fresh := freshState c (some t) .surface
    let next (present : SheetState) : SheetState := evaluatedState c present (some t) .surface
    let budget (state : SheetState) : Power := budgetOf c state (some t) .surface none
    let estimate : Power := budgetOf c .blind (some t) .estimate none
    let cap := c.bMax * c.fallback / 1000
    (c.tLimit ≤ t → fresh = .critical ∧ estimate = .watts 0 ∧
      ∀ present ∈ [SheetState.normal, .soft, .critical], next present = .critical) ∧
    (c.tSoft < t → t < c.tLimit → fresh = .soft) ∧ (t ≤ c.tSoft → fresh = .normal) ∧
    (c.tLimit - c.hysteresis < t → t < c.tLimit → next .normal = .soft ∧ next .soft = .soft ∧ next .critical = .critical) ∧
    (c.tSoft - c.hysteresis < t → t ≤ c.tLimit - c.hysteresis → t < c.tLimit →
      next .normal = (if c.tSoft < t then .soft else .normal) ∧ next .soft = .soft ∧ next .critical = .soft) ∧
    (t ≤ c.tSoft - c.hysteresis → t ≤ c.tLimit - c.hysteresis →
      next .normal = .normal ∧ next .soft = .normal ∧ next .critical = .normal) ∧
    (t ≤ c.tSet → budget .normal = .watts c.bMax ∧ budget .soft = .watts c.bMax ∧ estimate = .watts (min c.bMax cap)) ∧
    (c.tSet < t → t < c.tLimit → ∃ w : Nat, (w : Int) = c.bMax * (c.tLimit - t) / (c.tLimit - c.tSet) ∧
      budget .normal = .watts w ∧ budget .soft = .watts w ∧ estimate = .watts (min w cap))) ∧
  (∀ (c : SheetConfig) (x : Option Int) (source : TempSource) (frozen : Option Nat) (w : Nat),
    budgetOf c .critical x source frozen = .watts 0 ∧ budgetOf c .resurface x source (some w) = .watts w ∧
    budgetOf c .blind none .none frozen = .watts 0 ∧ budgetOf c .covered x source frozen = .unlimited ∧
    budgetOf c .off x source frozen = .unlimited) ∧
  (∀ b : List Byte,
    let k := u8At b 1
    let r := b.drop (2 + k)
    let points := ((b.drop 2).take k).map BitVec.toNat
    (parseSheet b = none ↔ 1 < u8At b 0 ∨ 1 < u8At r 0 ∨ 1 < u8At r 2) ∧
    (∀ c n, parseSheet b = some (c, n) →
      c.enabled = (u8At b 0 == 1) ∧ c.surfaces = points.map (min 63) ∧
      c.brine.isSome = (u8At r 0 == 1) ∧ c.subsoil.isSome = (u8At r 2 == 1) ∧
      ∃ m, n = m + (if c.surfaces = points then 0 else 1) ∧
        Taken [optionRow 0 63 (optionField u8At r 0) c.brine, optionRow 0 63 (optionField u8At r 2) c.subsoil,
          (s16At r 4, between (-5000) 10000, c.tSet), (s16At r 6, between (-5000) 10000, c.tSoft),
          (s16At r 8, between (-5000) 10000, c.tLimit), (u8At r 10, between 0 200, c.hysteresis), (u32At r 11, between 0 200000, c.bMax),
          (u16At r 15, between 0 1000, c.fallback), (u16At r 17, between 0 2000, c.brineOffset),
          (u16At r 19, between 60 1800, c.resurfaceHold), (u16At r 21, between 0 3600, c.tankTime),
          (u16At r 23, fun v => if v = 0 then 0 else between 10 3600 v, c.criticalHold),
          (s16At r 25, between (-5000) 10000, c.subsoilMin), (u16At r 27, between 0 500, c.heaveHysteresis)] m))

/-- A WRITE of a zone: refused with the risk margin not below the watch margin; else UNKNOWN with demand 0 when disabled, and when enabled
its flood flag from its sheet, its dew point, its margins over it of the near-ice air and the ceiling, the smaller as limiting margin, the
state of that margin, and the demand of that state (R66 to R68, R70, R73). The limiting margin (R73); the state of a margin, by its up-level
and down-level over the thresholds that a flood shifts, and never more dangerous for a greater margin (R74, R76); and the demand of a state
(R77). A change of the zone's state queues its ZONE notice, also to UNKNOWN when it is disabled (R81). The codes, fields, clamps and count of
the record (R66; a code outside its list, and the bytes of an absent field, by log entry 10; the places of the fields, which follow R193, are the
model's deduction, log entry 17). -/
def Obligations.ZoneWriteTakesEffect : Prop :=
  (∀ (tag : Byte) (i : Fin 4) (record : List Byte) (c : ZoneConfig) (n : Nat) (s : State),
    WriteReady tag 5 (BitVec.ofNat 8 i :: record) s → record.length = 20 → parseZone record = some (c, n) →
    (c.watch ≤ c.risk →
      exec (.writeZones tag (BitVec.ofNat 8 i :: record)) s = .next (s.refusedFor tag .badValue)) ∧
    (c.risk < c.watch →
      ∃ t : State, exec (.writeZones tag (BitVec.ofNat 8 i :: record)) s = .next (t.answered tag .done (u8 n)) ∧
        ZoneEvent { s with cfg := { s.cfg with zones := s.cfg.zones.set i c } } t ∧ StatesNotified s t ∧
        (∀ j, j ≠ i → t.cdm.get j = s.cdm.get j) ∧
        (c.enabled = false → t.cdm.get i = { state := .unknown, demand := 0 }) ∧
        (c.enabled = true →
          let z := t.cdm.get i
          let present := if (s.cfg.zones.get i).enabled then (s.cdm.get i).state else .unknown
          let near := s.zoneInput .nearIceAir c.nearIce
          let ceiling := s.zoneInput .ceilingTemp c.ceiling
          z.flood = (match c.sheet with | some sh => (s.shm.get sh).state == .resurface | none => false) ∧
          z.dewPoint = (s.zoneDew c).map Prod.fst ∧
          (∀ d, s.zoneDew c = some d →
            z.floorFlag = d.2 ∧ z.fogMargin = near.map (· - d.1) ∧ z.dripMargin = ceiling.map (· - d.1)) ∧
          (s.zoneDew c = none → z.floorFlag = false ∧ z.fogMargin = none ∧ z.dripMargin = none) ∧
          z.margin = (limitingMargin z.fogMargin z.dripMargin).map Prod.fst ∧
          z.limiting = (limitingMargin z.fogMargin z.dripMargin).map Prod.snd ∧
          (z.margin = none → z.state = .unknown) ∧
          (∀ x, z.margin = some x → z.state = nextZoneState c z.flood present x) ∧
          z.demand = zoneDemand c z.state z.flood s.profile.baseDemand ∧
          z = s.evaluatedZone c z.flood present))) ∧
  (∀ fog drip : Int,
    limitingMargin (some fog) (some drip) = (if fog ≤ drip then some (fog, .nearIce) else some (drip, .ceiling)) ∧
    limitingMargin (some fog) none = some (fog, .nearIce) ∧ limitingMargin none (some drip) = some (drip, .ceiling) ∧
    limitingMargin none none = none) ∧
  (∀ (c : ZoneConfig) (flood : Bool) (m : Int), c.risk < c.watch →
    let shift : Int := if flood = true then c.flood else 0
    let order : List ZoneState := [.clear, .watch, .risk, .fog]
    let isLevel (extra : Int) (x : ZoneState) : Prop :=
      match x with
      | .fog => m ≤ extra
      | .risk => extra < m ∧ m ≤ c.risk + shift + extra
      | .watch => c.risk + shift + extra < m ∧ extra < m ∧ m ≤ c.watch + shift + extra
      | .clear => c.watch + shift + extra < m
      | .unknown => False
    ∀ up ∈ order, ∀ down ∈ order, isLevel 0 up → isLevel c.hysteresis down →
      nextZoneState c flood .unknown m = up ∧
      (∀ present ∈ order,
        (order.idxOf present < order.idxOf up → nextZoneState c flood present m = up) ∧
        (order.idxOf down < order.idxOf present → nextZoneState c flood present m = down) ∧
        (order.idxOf up ≤ order.idxOf present → order.idxOf present ≤ order.idxOf down → nextZoneState c flood present m = present)) ∧
      (∀ (present : ZoneState) (k : Int), m ≤ k →
        order.idxOf (nextZoneState c flood present k) ≤ order.idxOf (nextZoneState c flood present m))) ∧
  (∀ (c : ZoneConfig) (state : ZoneState) (flood : Bool) (base : Nat),
    let demand : Nat :=
      match state with
      | .clear => base
      | .watch => max base 500
      | .risk | .fog => 1000
      | .unknown => c.fallback
    (flood = false → zoneDemand c state flood base = demand) ∧
    (flood = true → zoneDemand c state flood base = if demand < 700 then 700 else demand)) ∧
  (∀ b : List Byte,
    (parseZone b = none ↔ 1 < u8At b 0 ∨ 1 < u8At b 3 ∨ 1 < u8At b 5 ∨ 2 < u8At b 7 ∨ 1 < u8At b 18 ∨ 1 < u8At b 19) ∧
    (∀ c n, parseZone b = some (c, n) →
      c.enabled = (u8At b 0 == 1) ∧ c.nearIce.isSome = (u8At b 3 == 1) ∧ c.ceiling.isSome = (u8At b 5 == 1) ∧
      sheetChoices[u8At b 7]? = some c.sheet ∧ c.servedRegen = (u8At b 18 == 1) ∧ c.servedCeiling = (u8At b 19 == 1) ∧
      Taken [(u8At b 1, between 0 63, c.airTemp), (u8At b 2, between 0 63, c.airRh), optionRow 0 63 (optionField u8At b 3) c.nearIce,
        optionRow 0 63 (optionField u8At b 5) c.ceiling, (u16At b 8, between 0 2000, c.watch), (u16At b 10, between 0 2000, c.risk),
        (u16At b 12, between 0 500, c.hysteresis), (u16At b 14, between 0 1000, c.flood), (u16At b 16, between 0 1000, c.fallback)] n))

/-- A WRITE of a sink: refused with min above max; else its request and class follow at once, with a pass in RUN and none in
WAITING (R87, R88); while ARMED the entries that the WRITE or its pass changed request in entry index order (R144; once, for both, is the
model's choice, log entry 42, and that a request carries its entry as its requester the model's deduction, log entry 13). The request and the
class in force of each kind (R88 to R93). The codes, fields, clamps and count of the record (R87; a code outside its list, and the bytes of an
absent field, by log entry 10; the places of the fields, which follow R193, are the model's deduction, log entry 17). -/
def Obligations.SinkWriteRecomputes : Prop :=
  (∀ (tag : Byte) (i : Fin 12) (record : List Byte) (c : SinkConfig) (n : Nat) (s : State),
    WriteReady tag 6 (BitVec.ofNat 8 i :: record) s → record.length = 16 → parseSink record = some (c, n) →
    let written : State := { s with cfg := { s.cfg with sinks := s.cfg.sinks.set i c } }
    (c.max < c.min → exec (.writeSinks tag (BitVec.ofNat 8 i :: record)) s = .next (s.refusedFor tag .badValue)) ∧
    (c.min ≤ c.max →
      ∃ t : State, exec (.writeSinks tag (BitVec.ofNat 8 i :: record)) s = .next (t.answered tag .done (u8 n)) ∧
        HeatEvent written t ∧
        (t.hra.sinks.get i).reqMin = written.requestMin c ∧ (t.hra.sinks.get i).reqMax = written.requestMax c ∧
        (t.hra.sinks.get i).cls = written.classInForce c ∧
        (∀ j, j ≠ i → (t.hra.sinks.get j).reqMin = (s.hra.sinks.get j).reqMin ∧
          (t.hra.sinks.get j).reqMax = (s.hra.sinks.get j).reqMax ∧ (t.hra.sinks.get j).cls = (s.hra.sinks.get j).cls) ∧
        (s.phase = .run → t.hra.timer = s.cfg.allocator.period ∧
          t.hra.pool = poolOf s.heatValue s.cfg.allocator.reserve ∧
          (c.enabled = false → (t.hra.sinks.get i).grant = 0)) ∧
        (s.phase = .run → s.pru.state = .armed → (∀ j, (s.ost.remotes.get j).taken = none) →
          ∃ v : State, HeatEvent written v ∧ v.fbc = s.fbc ∧ v.ost.remotes = s.ost.remotes ∧
            (∀ j, (v.hra.sinks.get j).grant = (s.hra.sinks.get j).grant) ∧ PassRound (s.sourceMoved written) v t) ∧
        (s.phase ≠ .run → ∀ j, (t.hra.sinks.get j).grant = (s.hra.sinks.get j).grant ∧
          (t.hra.sinks.get j).status = (s.hra.sinks.get j).status))) ∧
  (∀ (c : SinkConfig) (s : State),
    let most := s.requestMax c
    let least := s.requestMin c
    let risky (z : Fin 4) : Prop := (s.cfg.zones.get z).enabled = true ∧ ((s.cdm.get z).state = .risk ∨ (s.cdm.get z).state = .fog)
    let served (z : Fin 4) : Prop := (s.cfg.zones.get z).enabled = true ∧ (s.cfg.zones.get z).servedRegen = true
    let dripping (z : Fin 4) : Prop := risky z ∧ (s.cfg.zones.get z).servedCeiling = true ∧ (s.cdm.get z).limiting = some .ceiling
    (c.enabled = false → most = 0 ∧ least = 0 ∧ s.classInForce c = c.cls) ∧
    (c.enabled = true →
      (c.kind = .fixed → most = c.max) ∧
      (c.kind = .heave → least = most ∧ (c.sheet = none → most = c.min) ∧
        ∀ sh, c.sheet = some sh → most = if (s.shm.get sh).heave = .max then c.max else c.min) ∧
      (c.kind = .tank →
        most = if (s.hra.sheets.get 0).tankRunning = true ∨ (s.hra.sheets.get 1).tankRunning = true then c.max else c.min) ∧
      (c.kind = .regen → ((∀ z, ¬ served z) → most = 0) ∧
        ∀ z, served z → (∀ y, served y → (s.cdm.get y).demand ≤ (s.cdm.get z).demand) → most = c.max * (s.cdm.get z).demand / 1000) ∧
      (c.kind = .ceiling → ((∃ z, dripping z) → most = c.max) ∧ ((∀ z, ¬ dripping z) → most = 0)) ∧
      (c.kind = .stands →
        let asked (occupied : Nat) : Nat := c.max * s.profile.standsPercent * occupied / (100 * c.occupancyFull)
        (∀ p v, c.occupancy = some p → s.usableValue .occupancy p = some v → most = asked (min v.toNat c.occupancyFull)) ∧
        ((∀ p, c.occupancy = some p → s.usableValue .occupancy p = none) → most = asked c.occupancyFull)) ∧
      (c.kind ≠ .heave → least = min c.min most) ∧
      ((c.kind = .regen ∧ ∃ z, risky z ∧ served z) → s.classInForce c = .protective) ∧
      ((c.kind = .regen ∧ ∀ z, ¬ (risky z ∧ served z)) → s.classInForce c = c.cls) ∧
      (c.kind = .stands → s.classInForce c = s.profile.standsClass) ∧
      (c.kind ≠ .regen → c.kind ≠ .stands → s.classInForce c = c.cls))) ∧
  (∀ b : List Byte,
    (parseSink b = none ↔ 1 < u8At b 0 ∨ 5 < u8At b 1 ∨ 3 < u8At b 2 ∨ 2 < u8At b 3 ∨ 1 < u8At b 10) ∧
    (∀ c n, parseSink b = some (c, n) →
      c.enabled = (u8At b 0 == 1) ∧ sinkKinds[u8At b 1]? = some c.kind ∧ sinkClasses[u8At b 2]? = some c.cls ∧
      sheetChoices[u8At b 3]? = some c.sheet ∧ c.occupancy.isSome = (u8At b 10 == 1) ∧
      Taken [(u16At b 4, between 0 30000, c.min), (u16At b 6, between 0 30000, c.max), (u16At b 8, between 1 30000, c.fullOpen),
        optionRow 0 63 (optionField u8At b 10) c.occupancy, (u16At b 12, between 1 5000, c.occupancyFull),
        (u16At b 14, between 0 1000, c.spill)] n))

/-- A WRITE of a channel: L_up and D of the sheets it names and named follow; while protect is ARMED its own step and period and its
target max(floor, base × D / 1000); under protect every channel stands (R111). A DERATE notice for each sheet whose D left or came back to
1000, and no other (R127; of two, sheet A's first is the model's choice, log entry 12). L_up of a sheet and its D (R123, R125). The codes, fields,
clamps and count of the record (R110; the places of the fields, which follow R193, are the model's deduction, log entry 17). -/
def Obligations.ChannelWriteTakesEffect : Prop :=
  (∀ (tag : Byte) (i : Fin 32) (record : List Byte) (c : ChannelConfig) (n : Nat) (s : State),
    WriteReady tag 7 (BitVec.ofNat 8 i :: record) s → record.length = 11 → parseChannel record = some (c, n) →
    let written : State := { s with cfg := { s.cfg with channels := s.cfg.channels.set i c } }
    ∃ t : State, exec (.writeChannels tag (BitVec.ofNat 8 i :: record)) s = .next (t.answered tag .done (u8 n)) ∧
      LightEvent written t ∧ t.lnk = s.offered (derateChanges s t) ∧
      (∀ j, (t.lsq.channels.get j).base = (s.lsq.channels.get j).base ∧
        (t.lsq.channels.get j).effect = (s.lsq.channels.get j).effect) ∧
      (∀ sh, c.sheet = some sh ∨ (s.cfg.channels.get i).sheet = some sh → (t.lsq.sheets.get sh).lUp = written.lUp sh ∧
        (t.lsq.sheets.get sh).derate = derateOf (s.lsq.sheets.get sh).allowance (written.lUp sh)) ∧
      (s.pru.state = .armed → (t.lsq.channels.get i).step = c.step ∧ (t.lsq.channels.get i).period = c.period ∧
        (t.lsq.channels.get i).target = max c.floor ((s.lsq.channels.get i).base * t.channelDerate c / 1000)) ∧
      (s.pru.state ≠ .armed → t.lsq.channels = s.lsq.channels ∧ t.ost = s.ost)) ∧
  (∀ (s : State) (sh : Fin 2), s.lUp sh = sumOver 32 fun i =>
    let c := s.cfg.channels.get i
    let demand := match (s.lsq.channels.get i).effect with | some e => e.high | none => (s.lsq.channels.get i).base
    if c.sheet = some sh then (c.coefficient * demand + 4094) / 4095 else 0) ∧
  (∀ lUp w : Nat, derateOf .unlimited lUp = 1000 ∧ (lUp ≤ w → derateOf (.watts w) lUp = 1000) ∧
    (w < lUp → derateOf (.watts w) lUp = w * 1000 / lUp)) ∧
  (∀ b : List Byte,
    (parseChannel b = none ↔ 2 < u8At b 0 ∨ 3 < u8At b 7) ∧
    (∀ c n, parseChannel b = some (c, n) →
      sheetChoices[u8At b 0]? = some c.sheet ∧ channelActions[u8At b 7]? = some c.action ∧
      Taken [(u16At b 1, between 0 20000, c.coefficient), (u16At b 3, between 0 4095, c.floor), (u16At b 5, between 0 4095, c.safe),
        (u16At b 8, between 1 4095, c.step), (u8At b 10, listedPeriod, c.period)] n))

/-- WRITEs of an output, of the stage settings and of a remote entry: source codes follow the new binding, and the new backup full, at once
and in every protect state; an output is driven in RUN while ARMED, released with binding NONE, and one whose binding leaves NONE under protect
takes its protect action from code 0; an entry without a binding loses its value, one with a binding in RUN, ARMED and free of protect
behaviour restarts its refresh timer and requests its value, which is taken or coalesced and then its last value, or dropped and the entry
dirty, and one whose binding leaves NONE under protect takes its protect action with its new configuration (R28, R135, R137, R140, R141, R143,
R144, R146). The model's choice: slew period 0 written while a slew interval runs takes the code at once (log entry 35). The model's
deductions: that an entry or output written to NONE loses its protect behaviour also under protect (log entry 18), and that the waiting request
carries this entry as its requester (log entry 13). The source code of each binding (R137). The codes, fields, clamps and counts of both
records (R135, R143; the places of the fields, which follow R193, and the index of a binding that has none, are the model's deduction, log
entry 17). -/
def Obligations.OutputWritesTakeEffect : Prop :=
  (∀ (tag : Byte) (i : Fin 16) (record : List Byte) (c : OutputConfig) (n : Nat) (s : State),
    WriteReady tag 9 (BitVec.ofNat 8 i :: record) s → record.length = 11 → parseOutput record = some (c, n) →
    let written : State := { s with cfg := { s.cfg with outputs := s.cfg.outputs.set i c } }
    let o := s.ost.outputs.get i
    ∃ t : State, exec (.writeOutputs tag (BitVec.ofNat 8 i :: record)) s = .next (t.answered tag .done (u8 n)) ∧
      t = { written with ost := { s.ost with outputs := s.ost.outputs.set i (t.ost.outputs.get i) } } ∧
      (t.ost.outputs.get i).source = s.sourceCode c.binding c.index o.fixed ∧ (t.ost.outputs.get i).fixed = o.fixed ∧
      (c.binding = .none → (t.ost.outputs.get i).driven = false ∧ (t.ost.outputs.get i).code = 0) ∧
      (c.binding ≠ .none → s.phase = .run → s.pru.state = .armed →
        (t.ost.outputs.get i).driven = true ∧
        (t.ost.outputs.get i).target = s.sourceCode c.binding c.index o.fixed ∧
        (c.period = 0 ∨ c.binding = .light → (t.ost.outputs.get i).code = s.sourceCode c.binding c.index o.fixed)) ∧
      (c.binding ≠ .none → s.phase ≠ .run → t.ost.outputs.get i = { o with source := (t.ost.outputs.get i).source }) ∧
      (c.binding ≠ .none → s.phase = .run → s.pru.state ≠ .armed →
        ((s.cfg.outputs.get i).binding ≠ .none → t.ost.outputs.get i = { o with source := (t.ost.outputs.get i).source }) ∧
        ((s.cfg.outputs.get i).binding = .none →
          TrippedOutput c { o with driven := true, code := 0 } (t.ost.outputs.get i) ∧
          (c.action = .hold → c.binding = .light → (t.ost.outputs.get i).driven = true ∧
            (t.ost.outputs.get i).code = s.sourceCode c.binding c.index o.fixed)))) ∧
  (∀ (tag : Byte) (full : BitVec 16) (s : State), WriteReady tag 9 (16 :: u16 full.toNat) s →
    ∃ t : State, exec (.writeStageSettings tag (u16 full.toNat)) s =
        .next (t.answered tag .done (u8 (if 1 ≤ full.toNat ∧ full.toNat ≤ 30000 then 0 else 1))) ∧
      OutputEvent { s with cfg := { s.cfg with backupFull := max 1 (min 30000 full.toNat) } } t ∧ Followed s t ∧
      (∀ i, (s.cfg.outputs.get i).binding = .backup →
        (t.ost.outputs.get i).source = min 4095 (s.hra.backup * 4095 / max 1 (min 30000 full.toNat)))) ∧
  (∀ (tag : Byte) (i : Fin 32) (record : List Byte) (c : RemoteConfig) (n : Nat) (s : State),
    WriteReady tag 10 (BitVec.ofNat 8 i :: record) s → record.length = 9 → parseRemote record = some (c, n) →
    let written : State := { s with cfg := { s.cfg with remotes := s.cfg.remotes.set i c } }
    let r := s.ost.remotes.get i
    ∃ t : State, exec (.writeRemotes tag (BitVec.ofNat 8 i :: record)) s = .next (t.answered tag .done (u8 n)) ∧
      OutputEvent written t ∧ t.ost.outputs = s.ost.outputs ∧
      (c.binding = .none → t.fbc = s.fbc ∧ t.ost.remotes = s.ost.remotes.set i { r with
        value := none, last := none, dirty := false, timer := 0, taken := none }) ∧
      (c.binding ≠ .none → s.phase ≠ .run → t.fbc = s.fbc ∧ t.ost.remotes = s.ost.remotes.set i { r with
        value := some (s.sourceCode c.binding c.index r.fixed : Int) }) ∧
      (c.binding ≠ .none → s.phase = .run → s.pru.state = .armed → r.taken = none →
        let v : Int := s.sourceCode c.binding c.index r.fixed
        let answer := s.fbc.request false ⟨.command, c.node, c.point, v, c.priority, some i⟩
        (answer.1 = .dropped → t.fbc = s.fbc.count s.holdsCounts .txDrop ∧
          t.ost.remotes = s.ost.remotes.set i { r with value := some v, timer := c.refresh, dirty := true }) ∧
        (answer.1 ≠ .dropped → t.fbc = answer.2.1 ∧
          t.ost.remotes = s.ost.remotes.set i { r with value := some v, last := some v, timer := c.refresh, dirty := false })) ∧
      (c.binding ≠ .none → s.phase = .run → s.pru.state ≠ .armed →
        ((s.cfg.remotes.get i).binding ≠ .none → t.fbc = s.fbc ∧ t.ost = s.ost) ∧
        ((s.cfg.remotes.get i).binding = .none →
          let v : Int := s.sourceCode c.binding c.index r.fixed
          let u := t.ost.remotes.get i
          (c.action = .safe →
            let answer := s.fbc.request true ⟨.command, c.node, c.point, c.safe, 0, some i⟩
            u.value = some c.safe ∧ u.taken = some ⟨true, c⟩ ∧ u.timer = c.refresh ∧
            (answer.1 = .dropped → t.fbc = s.fbc.count s.holdsCounts .txDrop ∧ u.dirty = true ∧ u.last = r.last) ∧
            (answer.1 ≠ .dropped → u.dirty = false ∧ u.last = some c.safe ∧
              t.fbc = (if answer.2.2 = none then answer.2.1 else answer.2.1.count s.holdsCounts .txDrop))) ∧
          (c.action = .hold → c.binding ≠ .light ∨ r.value ≠ some v →
            let answer := s.fbc.request false ⟨.command, c.node, c.point, v, c.priority, some i⟩
            u.value = some v ∧ u.taken = some ⟨false, c⟩ ∧ u.timer = c.refresh ∧
            (answer.1 = .dropped → t.fbc = s.fbc.count s.holdsCounts .txDrop ∧ u.dirty = true ∧ u.last = r.last) ∧
            (answer.1 ≠ .dropped → t.fbc = answer.2.1 ∧ u.dirty = false ∧ u.last = some v))))) ∧
  (∀ (s : State) (fixed : Nat),
    (∀ k, s.sourceCode .none k fixed = 0 ∧ s.sourceCode .fixed k fixed = fixed ∧
      s.sourceCode .backup k fixed = min 4095 (s.hra.backup * 4095 / s.cfg.backupFull)) ∧
    (∀ i : Fin 32, s.sourceCode .light i fixed = (s.lsq.channels.get i).level) ∧
    (∀ i : Fin 12, s.sourceCode .sink i fixed = min 4095 ((s.hra.sinks.get i).grant * 4095 / (s.cfg.sinks.get i).fullOpen)) ∧
    (∀ z : Fin 4, s.sourceCode .zoneDemand z fixed = (s.cdm.get z).demand * 4095 / 1000 ∧
      s.sourceCode .fan z fixed = if (s.cdm.get z).state = .risk ∨ (s.cdm.get z).state = .fog then 4095 else 0) ∧
    (∀ sh : Fin 2, s.sourceCode .sheetAlarm sh fixed = if (s.shm.get sh).state = .critical then 4095 else 0)) ∧
  (∀ b : List Byte,
    (parseOutput b = none ↔ 3 < u8At b 0 ∨ 7 < u8At b 1 ∨ 2 < u8At b 8) ∧
    (∀ c n, parseOutput b = some (c, n) →
      outputKinds[u8At b 0]? = some c.kind ∧ outputBindings[u8At b 1]? = some c.binding ∧ outputActions[u8At b 8]? = some c.action ∧
      Taken [(u8At b 2, bindingRange c.binding, c.index), (u16At b 3, between 100 25000, c.pwm), (u16At b 5, between 1 4095, c.step),
        (u8At b 7, listedPeriod, c.period), (u16At b 9, between 0 4095, c.safe)] n)) ∧
  (∀ b : List Byte,
    (parseRemote b = none ↔ 7 < u8At b 0 ∨ 1 < u8At b 6) ∧
    (∀ c n, parseRemote b = some (c, n) →
      outputBindings[u8At b 0]? = some c.binding ∧ remoteActions[u8At b 6]? = some c.action ∧ c.safe = s16At b 7 ∧
      Taken [(u8At b 1, bindingRange c.binding, c.index), (u8At b 2, between 0 63, c.node), (u8At b 3, between 0 63, c.point),
        (u8At b 4, between 0 7, c.priority), (u8At b 5, between 0 60, c.refresh)] n))

/-- A WRITE of a profile: stored; of the present mode, the STANDS requests and the demands follow, and no pass runs (R152). The codes, fields,
clamps and count of the record (R151; the bytes of an absent entry scene by log entry 10; the places of the fields, which follow R193, are the
model's deduction, log entry 17). -/
def Obligations.ProfileWriteTakesEffect : Prop :=
  (∀ (tag : Byte) (i : Fin 5) (record : List Byte) (p : Profile) (n : Nat) (s : State),
    WriteReady tag 11 (BitVec.ofNat 8 i :: record) s → record.length = 9 → parseProfile record = some (p, n) →
    let written : State := { s with cfg := { s.cfg with profiles := s.cfg.profiles.set i p } }
    (i ≠ modeIndex s.scu.mode →
      exec (.writeProfiles tag (BitVec.ofNat 8 i :: record)) s = .next (written.answered tag .done (u8 n))) ∧
    (i = modeIndex s.scu.mode →
      ∃ t : State, exec (.writeProfiles tag (BitVec.ofNat 8 i :: record)) s = .next (t.answered tag .done (u8 n)) ∧
        ZoneEvent written t ∧ t.shm = s.shm ∧ t.lsq = s.lsq ∧
        (∀ z, (s.cfg.zones.get z).enabled = true → s.profile.baseDemand ≠ p.baseDemand →
          t.cdm.get z = { s.cdm.get z with
            demand := zoneDemand (s.cfg.zones.get z) (s.cdm.get z).state (s.cdm.get z).flood p.baseDemand }) ∧
        (∀ z, (s.cfg.zones.get z).enabled = false → t.cdm.get z = s.cdm.get z) ∧
        (∀ j, (t.hra.sinks.get j).grant = (s.hra.sinks.get j).grant ∧
          (t.hra.sinks.get j).status = (s.hra.sinks.get j).status) ∧
        (∀ j, (s.cfg.sinks.get j).kind = .stands →
          s.profile.standsPercent ≠ p.standsPercent ∨ s.profile.standsClass ≠ p.standsClass →
          (t.hra.sinks.get j).reqMax = written.requestMax (s.cfg.sinks.get j) ∧
          (t.hra.sinks.get j).cls = written.classInForce (s.cfg.sinks.get j)))) ∧
  (∀ b : List Byte,
    (parseProfile b = none ↔ 3 < u8At b 1 ∨ 1 < u8At b 6 ∨ 1 < u8At b 8) ∧
    (∀ p n, parseProfile b = some (p, n) →
      sinkClasses[u8At b 1]? = some p.standsClass ∧ p.entryScene.isSome = (u8At b 6 == 1) ∧ p.keyBypass = (u8At b 8 == 1) ∧
      Taken [(u8At b 0, between 0 100, p.standsPercent), (u16At b 2, between 0 1000, p.baseDemand),
        (u16At b 4, between 0 1000, p.lightingShare), optionRow 0 23 (optionField u8At b 6) p.entryScene] n))

/-! ### ACTs (R186 and the acts' own rules) -/

/-- CHANNEL_SET and EFFECT_STOP while protect is ARMED: base target, own step and period, no effect; L_up and D of the sheet and its
targets follow (R114, R122, R124), with a DERATE notice when D left or came back to 1000, and no other notice (R127). Under protect CHANNEL_SET
is refused LOCKED, and without an effect EFFECT_STOP NOT_NOW. -/
def Obligations.ChannelActsSetBase : Prop :=
  ∀ (tag : Byte) (i : Fin 32) (s : State),
    let c := s.cfg.channels.get i
    let r := s.lsq.channels.get i
    let set (level : Nat) (t : State) : Prop :=
      LightEvent s t ∧ t.lnk = s.offered (derateChanges s t) ∧
      (t.lsq.channels.get i).base = level ∧ (t.lsq.channels.get i).effect = none ∧
      (t.lsq.channels.get i).step = c.step ∧ (t.lsq.channels.get i).period = c.period ∧
      (t.lsq.channels.get i).target = max c.floor (level * t.channelDerate c / 1000) ∧
      (∀ sh, c.sheet = some sh → (t.lsq.sheets.get sh).lUp = t.lUp sh ∧
        (t.lsq.sheets.get sh).derate = derateOf (s.lsq.sheets.get sh).allowance (t.lUp sh)) ∧
      (∀ sh, c.sheet ≠ some sh → t.lsq.sheets.get sh = s.lsq.sheets.get sh) ∧
      (∀ j, j ≠ i → (t.lsq.channels.get j).base = (s.lsq.channels.get j).base ∧
        (t.lsq.channels.get j).effect = (s.lsq.channels.get j).effect ∧
        (t.lsq.channels.get j).step = (s.lsq.channels.get j).step ∧
        (t.lsq.channels.get j).period = (s.lsq.channels.get j).period) ∧
      (s.phase = .run → c.period = 0 → (t.lsq.channels.get i).level = (t.lsq.channels.get i).target) ∧
      (s.phase ≠ .run → (t.lsq.channels.get i).level = r.level)
    (∀ v : BitVec 16, ActReady tag 2 (u8 i ++ u16 v.toNat) s →
      (s.pru.state ≠ .armed → exec (.channelSet tag (u8 i ++ u16 v.toNat)) s = .next (s.refusedFor tag .locked)) ∧
      (s.pru.state = .armed → ∃ t : State, exec (.channelSet tag (u8 i ++ u16 v.toNat)) s =
        .next (t.answered tag .done (u8 (if v.toNat ≤ 4095 then 0 else 1))) ∧ set (min 4095 v.toNat) t)) ∧
    (ActReady tag 4 (u8 i) s →
      (r.effect = none → exec (.effectStop tag (u8 i)) s = .next (s.refusedFor tag .notNow)) ∧
      (r.effect ≠ none → s.pru.state = .armed →
        ∃ t : State, exec (.effectStop tag (u8 i)) s = .next (t.answered tag .done [0]) ∧ set r.level t))

/-- EFFECT_START while protect is ARMED, with every field in its range: the effect from phase 0, the step timer stopped, the base target
kept, L_up and D with the effect's high, its DERATE notice (R127), and in RUN the first sample (R118, R119; the shape codes 0 to 3 by R193). -/
def Obligations.EffectStartRunsEffect : Prop :=
  ∀ (tag : Byte) (i : Fin 32) (shape : Shape) (low high period duty : Nat) (s : State),
    low ≤ high → high ≤ 4095 → 5 ≤ period → period ≤ 600 → duty ≤ 1000 → s.pru.state = .armed →
    let fields := u8 i ++ u8 (codeOf shapes shape) ++ u16 low ++ u16 high ++ u16 period ++ u16 duty
    let c := s.cfg.channels.get i
    let e : Effect := ⟨shape, low, high, period, if shape = .pulse then some duty else none, 0, 20⟩
    ActReady tag 3 fields s →
    ∃ t : State, exec (.effectStart tag fields) s = .next (t.answered tag .done [0]) ∧ LightEvent s t ∧
      t.lnk = s.offered (derateChanges s t) ∧
      (t.lsq.channels.get i).effect = some e ∧ (t.lsq.channels.get i).timer = none ∧
      (t.lsq.channels.get i).base = (s.lsq.channels.get i).base ∧
      (t.lsq.channels.get i).step = (s.lsq.channels.get i).step ∧
      (∀ sh, c.sheet = some sh → (t.lsq.sheets.get sh).lUp = t.lUp sh ∧
        (t.lsq.sheets.get sh).derate = derateOf (s.lsq.sheets.get sh).allowance (t.lUp sh)) ∧
      (s.phase = .run → (t.lsq.channels.get i).level = t.sampleLevel i e) ∧
      (s.phase ≠ .run → (t.lsq.channels.get i).level = (s.lsq.channels.get i).level) ∧
      (∀ j, j ≠ i → (t.lsq.channels.get j).base = (s.lsq.channels.get j).base ∧
        (t.lsq.channels.get j).effect = (s.lsq.channels.get j).effect)

/-- SCENE_RECALL while protect is ARMED: base targets of the present entries, L_up and D of both sheets, every target, then steps by the
fade time, with a DERATE notice for each sheet whose D left or came back to 1000 (R127; of two, sheet A's first is the model's choice, log
entry 12); LOCKED under protect (R116). The step and period in use that a fade time gives (R117). -/
def Obligations.SceneRecallSetsTargets : Prop :=
  (∀ (tag : Byte) (k : Fin 24) (fade : Option Nat) (s : State), (∀ f, fade = some f → f ≤ 600) →
    let fields := u8 k ++ optional u16 0 fade
    let scene := s.cfg.scenes.get k
    let f := match fade with | some x => some x | none => scene.fade
    ActReady tag 1 fields s →
    (s.pru.state ≠ .armed → exec (.sceneRecall tag fields) s = .next (s.refusedFor tag .locked)) ∧
    (s.pru.state = .armed →
      ∃ t : State, exec (.sceneRecall tag fields) s = .next (t.answered tag .done [0]) ∧ LightEvent s t ∧
        t.lnk = s.offered (derateChanges s t) ∧
        (∀ i level, scene.levels.get i = some level →
          (t.lsq.channels.get i).base = level ∧ (t.lsq.channels.get i).effect = none ∧
          ((t.lsq.channels.get i).step, (t.lsq.channels.get i).period) = recallStep (s.cfg.channels.get i) f
            (natDistance (t.lsq.channels.get i).target (s.lsq.channels.get i).level)) ∧
        (∀ i, scene.levels.get i = none →
          (t.lsq.channels.get i).base = (s.lsq.channels.get i).base ∧
          (t.lsq.channels.get i).effect = (s.lsq.channels.get i).effect ∧
          (t.lsq.channels.get i).step = (s.lsq.channels.get i).step ∧
          (t.lsq.channels.get i).period = (s.lsq.channels.get i).period) ∧
        (∀ sh, (t.lsq.sheets.get sh).lUp = t.lUp sh ∧
          (t.lsq.sheets.get sh).derate = derateOf (s.lsq.sheets.get sh).allowance (t.lUp sh) ∧
          (t.lsq.sheets.get sh).allowance = (s.lsq.sheets.get sh).allowance) ∧
        (∀ i, (t.lsq.channels.get i).target = max (s.cfg.channels.get i).floor
          ((t.lsq.channels.get i).base * t.channelDerate (s.cfg.channels.get i) / 1000)) ∧
        (s.phase ≠ .run → ∀ i, (t.lsq.channels.get i).level = (s.lsq.channels.get i).level))) ∧
  (∀ (c : ChannelConfig) (f distance : Nat), 1 ≤ f → f ≤ 600 → distance ≤ 4095 →
    recallStep c none distance = (c.step, c.period) ∧ recallStep c (some 0) distance = (c.step, 0) ∧
    ∃ step period, recallStep c (some f) distance = (step, period) ∧ period = (if c.period = 0 then 20 else c.period) ∧
      1 ≤ step ∧ step ≤ 4095 ∧
      (distance * period ≤ 4095 * (f * 100) → distance * period ≤ step * (f * 100)) ∧
      (4095 * (f * 100) < distance * period → step = 4095) ∧
      (2 ≤ step → (step - 1) * (f * 100) < distance * period))

/-- OUTPUT_SET of a FIXED output while ARMED: the clamped code is its fixed code, its source code and, when it is driven, its target. Of a
FIXED remote entry while ARMED: its fixed code and its value, which it requests in RUN when it changed (R28, R144). Each is NOT_NOW with
another binding and LOCKED under protect (R138; the selector 0 output, 1 entry by R193). That NOT_NOW comes before LOCKED, and that the value
an entry has already is not requested again, are the model's choices (log entry 33); that the request carries the entry as its requester, also
when it coalesces, is the model's deduction (log entry 13). -/
def Obligations.OutputSetFixesCode : Prop :=
  (∀ (tag : Byte) (i : Fin 16) (v : BitVec 16) (s : State),
    let fields := u8 0 ++ u8 i ++ u16 v.toNat
    let o := s.ost.outputs.get i
    let code := min 4095 v.toNat
    ActReady tag 5 fields s →
    ((s.cfg.outputs.get i).binding ≠ .fixed → exec (.outputSet tag fields) s = .next (s.refusedFor tag .notNow)) ∧
    ((s.cfg.outputs.get i).binding = .fixed → s.pru.state ≠ .armed →
      exec (.outputSet tag fields) s = .next (s.refusedFor tag .locked)) ∧
    ((s.cfg.outputs.get i).binding = .fixed → s.pru.state = .armed →
      ∃ t : State, exec (.outputSet tag fields) s = .next (t.answered tag .done (u8 (if v.toNat ≤ 4095 then 0 else 1))) ∧
        t = { s with ost := { s.ost with outputs := s.ost.outputs.set i (t.ost.outputs.get i) } } ∧
        (t.ost.outputs.get i).fixed = code ∧ (t.ost.outputs.get i).source = code ∧
        (t.ost.outputs.get i).driven = o.driven ∧
        (o.driven = true → (t.ost.outputs.get i).target = code) ∧
        (o.driven = false → (t.ost.outputs.get i).code = o.code))) ∧
  (∀ (tag : Byte) (i : Fin 32) (v : BitVec 16) (s : State),
    let fields := u8 1 ++ u8 i ++ u16 v.toNat
    let c := s.cfg.remotes.get i
    let r := s.ost.remotes.get i
    let code := min 4095 v.toNat
    ActReady tag 5 fields s →
    ((s.cfg.remotes.get i).binding ≠ .fixed → exec (.outputSet tag fields) s = .next (s.refusedFor tag .notNow)) ∧
    ((s.cfg.remotes.get i).binding = .fixed → s.pru.state ≠ .armed →
      exec (.outputSet tag fields) s = .next (s.refusedFor tag .locked)) ∧
    ((s.cfg.remotes.get i).binding = .fixed → s.pru.state = .armed →
      ∃ t : State, exec (.outputSet tag fields) s = .next (t.answered tag .done (u8 (if v.toNat ≤ 4095 then 0 else 1))) ∧
        OutputEvent s t ∧ t.ost.outputs = s.ost.outputs ∧ (t.ost.remotes.get i).fixed = code ∧
        (t.ost.remotes.get i).value = some (code : Int) ∧
        (s.phase ≠ .run ∨ r.value = some (code : Int) → t.fbc = s.fbc ∧
          t.ost.remotes = s.ost.remotes.set i { r with fixed := code, value := some (code : Int) }) ∧
        (s.phase = .run → r.value ≠ some (code : Int) → r.taken = none →
          let answer := s.fbc.request false ⟨.command, c.node, c.point, code, c.priority, some i⟩
          (answer.1 = .dropped → t.fbc = s.fbc.count s.holdsCounts .txDrop ∧
            t.ost.remotes = s.ost.remotes.set i { r with fixed := code, value := some (code : Int), dirty := true }) ∧
          (answer.1 ≠ .dropped → t.fbc = answer.2.1 ∧ t.ost.remotes = s.ost.remotes.set i { r with
            fixed := code, value := some (code : Int), last := some (code : Int), dirty := false, timer := c.refresh }))))

/-- MODE_SET: the mode, the STANDS class and the zone demands of its profile, the entry scene while ARMED, the pass in RUN, and the
PROGRAM notice last (R153, R154). The remote entries that all this changed make their requests in entry index order, also those that the pass
changed back (R144; once, at the end of the event, is the model's choice, log entry 42, and that a request carries its entry as its requester
the model's deduction, log entry 13). -/
def Obligations.ModeSetChangesMode : Prop :=
  ∀ (tag : Byte) (m : ArenaMode) (s : State),
    let fields := u8 (codeOf arenaModes m)
    let p := s.cfg.profiles.get (modeIndex m)
    ActReady tag 6 fields s →
    ∃ t : State, exec (.modeSet tag fields) s = .next (t.answered tag .done [0]) ∧
      Inner { s with scu := { s.scu with mode := m } } t ∧ Followed s t ∧ t.ptb = s.ptb ∧ SheetsKept s t ∧
      t.pru = s.pru ∧ t.stc = s.stc ∧
      (∀ z, (s.cfg.zones.get z).enabled = true → t.cdm.get z = { s.cdm.get z with
        demand := zoneDemand (s.cfg.zones.get z) (s.cdm.get z).state (s.cdm.get z).flood p.baseDemand }) ∧
      (∀ z, (s.cfg.zones.get z).enabled = false → t.cdm.get z = s.cdm.get z) ∧
      (∀ i, (s.cfg.sinks.get i).enabled = true → (s.cfg.sinks.get i).kind = .stands →
        (t.hra.sinks.get i).cls = p.standsClass) ∧
      (s.phase = .run → t.hra.timer = s.cfg.allocator.period) ∧
      (s.phase ≠ .run → ∀ i, (t.hra.sinks.get i).grant = (s.hra.sinks.get i).grant) ∧
      (p.entryScene = none ∨ s.pru.state ≠ .armed →
        ∀ i, (t.lsq.channels.get i).base = (s.lsq.channels.get i).base) ∧
      (∀ k i level, p.entryScene.bind (index 24) = some k → s.pru.state = .armed →
        (s.cfg.scenes.get k).levels.get i = some level → (t.lsq.channels.get i).base = level) ∧
      (s.cfg.notice.enables.get 9 = true → t.lnk.notices.length < 32 →
        t.lnk.notices.getLast? = some ⟨.program, 65535, codeOf arenaModes m, s.scu.clock, 0⟩) ∧
      (s.phase = .run → s.pru.state = .armed → (∀ i, (s.ost.remotes.get i).taken = none) →
        ∃ v u : State, v.fbc = s.fbc ∧ v.ost.remotes = s.ost.remotes ∧ v.cdm = t.cdm ∧
          (∀ i, (v.hra.sinks.get i).grant = (s.hra.sinks.get i).grant) ∧ PassRound (s.sourceMoved v) v u ∧
          t = { u with lnk := t.lnk })

/-- RESURFACE_START in NORMAL or SOFT freezes the budget and starts hold and tank timer; a repeat in RESURFACE sets both timers again and
changes nothing else, but that a tank timer which starts or stops informs the allocator (R58, R90); RESURFACE_END takes a fresh evaluation
and leaves the tank timer; each is NOT_NOW elsewhere (R54, R55, R57). The change of the sheet's state queues its SHEET notice, and that of a
zone its ZONE notice (R63, R81); a repeat queues none. -/
def Obligations.ResurfaceActs : Prop :=
  ∀ (tag : Byte) (sh : Fin 2) (s : State),
    let c := s.cfg.sheets.get sh
    let r := s.shm.get sh
    let others (t : State) : Prop :=
      ∀ j, j ≠ sh → t.shm.get j = { s.shm.get j with atLastPass := (t.shm.get j).atLastPass }
    (ActReady tag 7 (u8 sh) s →
      (∀ w, r.state = .normal ∨ r.state = .soft → r.budget = .watts w →
        ∃ t : State, exec (.resurfaceStart tag (u8 sh)) s = .next (t.answered tag .done [0]) ∧ SheetEvent s t ∧ others t ∧
          StatesNotified s t ∧
          t.shm.get sh = { r with
            state := .resurface, frozen := some w, hold := c.resurfaceHold, tank := c.tankTime
            atLastPass := (t.shm.get sh).atLastPass } ∧
          (∀ z, (s.cfg.zones.get z).enabled = true → (s.cfg.zones.get z).sheet = some sh →
            (t.cdm.get z).flood = true) ∧
          (∀ z, (s.cfg.zones.get z).enabled = false ∨ (s.cfg.zones.get z).sheet ≠ some sh →
            t.cdm.get z = s.cdm.get z) ∧
          ((s.hra.sheets.get sh).tankRunning = (r.tank != 0) →
            (t.hra.sheets.get sh).tankRunning = (c.tankTime != 0))) ∧
      (r.state = .resurface →
        ∃ t : State, exec (.resurfaceStart tag (u8 sh)) s = .next (t.answered tag .done [0]) ∧
          t = { s with
            shm := s.shm.set sh { r with hold := c.resurfaceHold, tank := c.tankTime }
            hra := t.hra } ∧
          ((r.tank = 0 ↔ c.tankTime = 0) → t.hra = s.hra) ∧
          (¬ (r.tank = 0 ↔ c.tankTime = 0) →
            (t.hra.sheets.get sh).tankRunning = (c.tankTime != 0) ∧
            t.hra = { s.hra with sheets := t.hra.sheets, sinks := t.hra.sinks } ∧
            (∀ j, j ≠ sh → t.hra.sheets.get j = s.hra.sheets.get j) ∧
            ∀ i, (s.cfg.sinks.get i).kind ≠ .tank → t.hra.sinks.get i = s.hra.sinks.get i)) ∧
      (r.state = .critical ∨ r.state = .blind ∨ r.state = .covered ∨ r.state = .off →
        exec (.resurfaceStart tag (u8 sh)) s = .next (s.refusedFor tag .notNow))) ∧
    (ActReady tag 8 (u8 sh) s →
      (r.state = .resurface →
        ∃ t : State, exec (.resurfaceEnd tag (u8 sh)) s = .next (t.answered tag .done [0]) ∧ SheetEvent s t ∧ others t ∧
          StatesNotified s t ∧
          (t.shm.get sh).state = freshState c (s.sheetTemp c).1 (s.sheetTemp c).2 ∧
          (t.shm.get sh).temp = (s.sheetTemp c).1.map shownTemp ∧ (t.shm.get sh).frozen = none ∧ (t.shm.get sh).hold = 0 ∧
          (t.shm.get sh).tank = r.tank ∧
          (t.shm.get sh).budget = budgetOf c (t.shm.get sh).state (s.sheetTemp c).1 (s.sheetTemp c).2 none ∧
          (∀ z, (s.cfg.zones.get z).enabled = true → (s.cfg.zones.get z).sheet = some sh →
            (t.cdm.get z).flood = false) ∧
          (∀ z, (s.cfg.zones.get z).enabled = false ∨ (s.cfg.zones.get z).sheet ≠ some sh →
            t.cdm.get z = s.cdm.get z)) ∧
      (r.state ≠ .resurface → exec (.resurfaceEnd tag (u8 sh)) s = .next (s.refusedFor tag .notNow)))

/-- COVER on and off: UNLIMITED while COVERED, a fresh evaluation when the cover comes off, each with its SHEET notice (R63); NOT_NOW elsewhere
(R59, R60; codes on 0, off 1 by R193). In RUN the cover change runs a pass, and a budget decrease one before it (R53, R94); while ARMED each
pass has the entries that it changed request, the alarm's with the first (R144; the model's choice, log entry 42; that a request carries its
entry as its requester the model's deduction, log entry 13), so that one which the first pass changes and the second changes back requests
twice. -/
def Obligations.CoverActs : Prop :=
  ∀ (tag : Byte) (sh : Fin 2) (s : State),
    let c := s.cfg.sheets.get sh
    let r := s.shm.get sh
    let m := s.sheetTemp c
    let others (t : State) : Prop :=
      ∀ j, j ≠ sh → t.shm.get j = { s.shm.get j with atLastPass := (t.shm.get j).atLastPass }
    let before (a : State) : Prop := SheetEvent s a ∧ a.fbc = s.fbc ∧ a.ost.remotes = s.ost.remotes ∧ a.hra = s.hra ∧ a.lsq = s.lsq
    (ActReady tag 9 (u8 sh ++ [0]) s →
      (r.state = .normal ∨ r.state = .soft ∨ r.state = .critical ∨ r.state = .blind →
        ∃ t : State, exec (.coverOn tag (u8 sh ++ [0])) s = .next (t.answered tag .done [0]) ∧ SheetEvent s t ∧ others t ∧
          t.cdm = s.cdm ∧ StatesNotified s t ∧
          t.shm.get sh = { r with
            state := .covered, budget := .unlimited, criticalTime := 0, trigger := false
            atLastPass := (t.shm.get sh).atLastPass } ∧
          (s.phase = .run → (t.shm.get sh).atLastPass = some .unlimited ∧ t.hra.timer = s.cfg.allocator.period) ∧
          (s.phase = .run → s.pru.state = .armed → (∀ i, (s.ost.remotes.get i).taken = none) →
            ∃ a b : State, before a ∧ a.shm.get sh = { r with state := .covered, budget := .unlimited, criticalTime := 0, trigger := false } ∧
              PassRound (fun _ => false) a b ∧ t = { b with lnk := t.lnk })) ∧
      (r.state = .covered →
        exec (.coverOn tag (u8 sh ++ [0])) s = .next (s.answered tag .done [0])) ∧
      (r.state = .resurface ∨ r.state = .off →
        exec (.coverOn tag (u8 sh ++ [0])) s = .next (s.refusedFor tag .notNow))) ∧
    (ActReady tag 9 (u8 sh ++ [1]) s →
      (r.state = .covered →
        ∃ t : State, exec (.coverOff tag (u8 sh ++ [1])) s = .next (t.answered tag .done [0]) ∧ SheetEvent s t ∧ others t ∧
          t.cdm = s.cdm ∧ StatesNotified s t ∧ (t.shm.get sh).state = freshState c m.1 m.2 ∧ (t.shm.get sh).temp = m.1.map shownTemp ∧
          (t.shm.get sh).budget = budgetOf c (freshState c m.1 m.2) m.1 m.2 none ∧
          (s.phase = .run → (t.shm.get sh).atLastPass = some (t.shm.get sh).budget ∧
            t.hra.timer = s.cfg.allocator.period) ∧
          (s.phase = .run → s.pru.state = .armed → (∀ i, (s.ost.remotes.get i).taken = none) →
            let decrease : Prop :=
              match r.atLastPass, (t.shm.get sh).budget with
              | _, .unlimited => False
              | some (.watts w), .watts b => b < w
              | _, .watts _ => True
            ∃ a b : State, before a ∧ (a.shm.get sh).state = freshState c m.1 m.2 ∧ (a.shm.get sh).budget = (t.shm.get sh).budget ∧
              PassRound (fun _ => false) a b ∧
              (¬ decrease → t = { b with lnk := t.lnk }) ∧
              (decrease → ∃ d : State, PassRound (fun _ => false) b d ∧ t = { d with lnk := t.lnk }))) ∧
      (r.state ≠ .covered → exec (.coverOff tag (u8 sh ++ [1])) s = .next (s.refusedFor tag .notNow)))

/-- PROTECT_TRIP, and PROTECT asserted, trip in RUN while ARMED; else the trigger joins the set, with a PROTECT notice, unless it is a
member; in WAITING the act is NOT_NOW and the pin is only sampled, and while a LOAD runs the pin is gathered in RUN (R167, R169 to R171,
R174). A trip captures a snapshot of what stood before it, with its trigger set, unless one is pending or being written (R170, R175). That in
WAITING the pin is only sampled also while a LOAD runs is the model's deduction (log entry 20). -/
def Obligations.TriggersTrip : Prop :=
  let joined (x : Trigger) (s t : State) : Prop :=
    t = ({ s with pru := { s.pru with triggers := insertTrigger x s.pru.triggers } } : State).notice .protect
      (codeOf triggers x) (codeOf protectStates s.pru.state)
  (∀ (tag : Byte) (s : State), ActReady tag 10 [] s →
    (s.phase = .run → s.pru.state = .armed →
      ∃ t : State, exec (.protectTrip tag []) s = .next (t.answered tag .done [0]) ∧ Tripped [.host] s t) ∧
    (s.phase = .run → s.pru.state ≠ .armed → s.pru.triggers.contains .host = true →
      exec (.protectTrip tag []) s = .next (s.answered tag .done [0])) ∧
    (s.phase = .run → s.pru.state ≠ .armed → s.pru.triggers.contains .host = false →
      ∃ t : State, exec (.protectTrip tag []) s = .next (t.answered tag .done [0]) ∧ joined .host s t) ∧
    (s.phase = .waiting → exec (.protectTrip tag []) s = .next (s.refusedFor tag .notNow))) ∧
  (∀ (tag : Byte) (fields : List Byte) (s : State), Ready ⟨tag, kindAct, 10 :: fields⟩ s →
    (s.stc.op = .load → exec (.protectTrip tag fields) s = .next (s.refusedFor tag .storeBusy)) ∧
    (s.stc.op ≠ .load → fields ≠ [] → exec (.protectTrip tag fields) s = .next (s.refusedFor tag .badLength))) ∧
  (∀ s : State, s.live = true →
    let p : State := { s with pins := { s.pins with protect := true }, pru := { s.pru with pin := true } }
    (s.phase = .run → s.pru.pin = false → s.stc.op ≠ .load → s.pru.state = .armed →
      ∃ t : State, exec .protectAsserted s = .next t ∧ Tripped [.pin] p t) ∧
    (s.phase = .run → s.pru.pin = false → s.stc.op ≠ .load → s.pru.state ≠ .armed →
      (s.pru.triggers.contains .pin = true → exec .protectAsserted s = .next p) ∧
      (s.pru.triggers.contains .pin = false → ∃ t : State, exec .protectAsserted s = .next t ∧ joined .pin p t)) ∧
    (s.phase = .run → s.pru.pin = false → s.stc.op = .load →
      exec .protectAsserted s =
        .next { p with pru := { p.pru with deferred := insertTrigger .pin s.pru.deferred } }) ∧
    (s.phase = .waiting ∨ s.pru.pin = true → exec .protectAsserted s = .next p) ∧
    exec .protectDeasserted s =
      .next { s with pins := { s.pins with protect := false }, pru := { s.pru with pin := false } })

/-- PROTECT_CLEAR: NOT_NOW in ARMED, with a level trigger active or the key in TIMING; else ARMED again with an empty trigger set and the
PROTECT notice of the clear (R174): every
channel resumes on its level with its own fade, every bound output is driven towards its source; every bound remote entry takes its source code
as value and requests it as an ordinary COMMAND, in index order, and is dirty after a drop; then the heat hold ends, with a pass in RUN, and
the entries which that pass changed request again, in index order (R107, R131, R142, R144, R147, R173). So the transmit queue and every
entry after the clear are those that the two rounds of requests leave, from the queue before it. The model's choices: that after a drop a
running refresh timer keeps its time (log entry 40), and that the requests after the pass come once, at the end (log entry 42). The model's
deduction: that a request carries its entry as its requester (log entry 13). -/
def Obligations.ProtectClearResumes : Prop :=
  ∀ (tag : Byte) (s : State), ActReady tag 11 [] s →
    (s.pru.state = .armed ∨ s.activeTriggers ≠ [] ∨ s.pru.key = .timing →
      exec (.protectClear tag []) s = .next (s.refusedFor tag .notNow)) ∧
    (s.pru.state ≠ .armed → s.activeTriggers = [] → s.pru.key ≠ .timing → s.phase = .run →
      ∃ p u w t : State, exec (.protectClear tag []) s = .next (t.answered tag .done [0]) ∧ ProtectEvent s t ∧
        t.pru = { s.pru with state := .armed, triggers := [], arrived := false } ∧ t.stc = s.stc ∧
        Notified [.protect] [(.protect, 6, 0)] s t ∧
        t.hra.hold = false ∧ t.hra.timer = s.cfg.allocator.period ∧
        (∀ i, (t.lsq.channels.get i).base = (s.lsq.channels.get i).level ∧ (t.lsq.channels.get i).taken = none ∧
          (t.lsq.channels.get i).step = (s.cfg.channels.get i).step ∧
          (t.lsq.channels.get i).period = (s.cfg.channels.get i).period ∧
          (t.lsq.channels.get i).target = t.effectiveTarget i) ∧
        (∀ i, (s.cfg.outputs.get i).binding ≠ .none →
          (t.ost.outputs.get i).driven = true ∧ (t.ost.outputs.get i).taken = none ∧
          (t.ost.outputs.get i).target = (t.ost.outputs.get i).source) ∧
        -- the channels and outputs have resumed, and each entry is free of protect behaviour
        ProtectEvent s p ∧ p.hra = s.hra ∧ p.fbc = s.fbc ∧ p.pru = t.pru ∧
        (∀ i, let c := s.cfg.remotes.get i
          let r := s.ost.remotes.get i
          p.ost.remotes.get i = { r with
            taken := none
            timer := if c.binding = .none then r.timer
              else if c.refresh = 0 then 0 else if r.timer = 0 then c.refresh else r.timer }) ∧
        -- every bound entry requests
        EntriesRequest (fun i => (s.cfg.remotes.get i).binding != .none) p u ∧
        -- the heat clear and its pass request nothing
        HeatEvent u w ∧ w.fbc = u.fbc ∧ w.ost.remotes = u.ost.remotes ∧
        -- the entries whose value the pass has changed request
        EntriesRequest w.entryBehind w t)

/-- LATCH_CLEAR clears the output when the present value would leave it CLEAR, with a LIMIT notice, and the point's trigger is withdrawn;
of an output already CLEAR it changes nothing; else NOT_NOW, BAD_INDEX for no such point, and STORE_BUSY while a LOAD runs (R14). -/
def Obligations.LatchClearClearsOutput : Prop :=
  (∀ (tag n : Byte) (s : State), Ready ⟨tag, kindAct, [12, n]⟩ s →
    (s.stc.op = .load → exec (.latchClear tag [n]) s = .next (s.refusedFor tag .storeBusy)) ∧
    (s.stc.op ≠ .load → 64 ≤ n.toNat → exec (.latchClear tag [n]) s = .next (s.refusedFor tag .badIndex))) ∧
  (∀ (tag : Byte) (i : Fin 64) (s : State), ActReady tag 12 (u8 i) s →
    let c := s.cfg.points.get i
    let r := s.ptb.points.get i
    let clears (v : Int) : Prop :=
      match c.mode with
      | .none => r.output = false
      | .above => v < c.high
      | .hysteresis => v ≤ c.low
      | .window => c.low ≤ v ∧ v ≤ c.high
    (∀ v, r.value = some v → clears v →
      (r.output = true → ∃ t : State, exec (.latchClear tag (u8 i)) s = .next (t.answered tag .done [0]) ∧
        t = { s with
          ptb := { s.ptb with points := s.ptb.points.set i { r with output := false } }
          lnk := (s.notice .limit i.val 0).lnk } ∧
        t.pointTrigger i = false) ∧
      (r.output = false → exec (.latchClear tag (u8 i)) s = .next (s.answered tag .done [0]))) ∧
    (∀ v, r.value = some v → ¬ clears v → exec (.latchClear tag (u8 i)) s = .next (s.refusedFor tag .notNow)) ∧
    (r.value = none → exec (.latchClear tag (u8 i)) s = .next (s.refusedFor tag .notNow)))

/-- ALLOCATE_NOW in RUN and the expiry of the period timer run one pass: what the allocator holds after it, grants, statuses, shortfalls,
rotation starts, figures, allowances and the rest, is what `State.allocate` gives of the state before it (R96 to R102; O57 says what that is);
pool, grants and rejected heat add up; each sink's grant, the rejected heat and the backup demand that stood over the interval are credited
with their carried remainders (R104); the period restarts, and allowances go to the lighting; in WAITING the act is NOT_NOW (R94, R95). Its
notices, and no other: DERATE for a sheet whose D left or came back to 1000, GRANT_SHORT for a sink that entered or left SHORT, in the order in
which the pass took the sinks, the disabled ones behind, then BACKUP when the backup demand left or came back to 0 (R102, R103, R127; that
DERATE comes first is the model's choice, log entry 12). While ARMED the remote entries that the pass changed request their values in entry
index order (R144; once, at the end of the pass, is the model's choice, log entry 42, and that a request carries its entry as its requester the
model's deduction, log entry 13). -/
def Obligations.PassRuns : Prop :=
  let passed (s t : State) : Prop :=
    HeatEvent s t ∧ t.hra = s.allocate.1 ∧ t.lnk = s.offered (passNotices s t) ∧
    t.hra.heatUsed = s.heatValue ∧ t.hra.pool = min 30000 (s.heatValue.getD 0 - s.cfg.allocator.reserve) ∧
    sumOver 12 (fun i => (t.hra.sinks.get i).grant) + t.hra.rejected = t.hra.pool ∧
    t.hra.timer = s.cfg.allocator.period ∧ t.hra.credited = s.ms ∧ t.hra.hold = s.hra.hold ∧
    (∀ i, (t.hra.sinks.get i).reqMin = (s.hra.sinks.get i).reqMin ∧
      (t.hra.sinks.get i).reqMax = (s.hra.sinks.get i).reqMax ∧ (t.hra.sinks.get i).cls = (s.hra.sinks.get i).cls ∧
      (t.hra.sinks.get i).energy = min Config.maxWord ((s.hra.sinks.get i).energy +
        ((s.hra.sinks.get i).grant * (s.ms - s.hra.credited) + (s.hra.sinks.get i).remainder) / 360000) ∧
      (t.hra.sinks.get i).remainder =
        ((s.hra.sinks.get i).grant * (s.ms - s.hra.credited) + (s.hra.sinks.get i).remainder) % 360000) ∧
    (let rejected := s.hra.rejected * (s.ms - s.hra.credited) + s.hra.rejectedEnergy.remainder
      let backup := s.hra.backup * (s.ms - s.hra.credited) + s.hra.backupEnergy.remainder
      t.hra.rejectedEnergy = ⟨min Config.maxWord (s.hra.rejectedEnergy.total + rejected / 360000), rejected % 360000⟩ ∧
      t.hra.backupEnergy = ⟨min Config.maxWord (s.hra.backupEnergy.total + backup / 360000), backup % 360000⟩) ∧
    t.hra.backup = (sumOver 12 fun i =>
      if (s.hra.sinks.get i).cls = .protective ∨ (s.hra.sinks.get i).cls = .event then (t.hra.sinks.get i).shortfall else 0) ∧
    (∀ sh, (t.shm.get sh).atLastPass = some (s.shm.get sh).budget ∧
      (t.lsq.sheets.get sh).allowance = (t.hra.sheets.get sh).allowance ∧
      (t.hra.sheets.get sh).budget = some (s.shm.get sh).budget ∧
      ((s.shm.get sh).budget = .unlimited → (t.hra.sheets.get sh).allowance = .unlimited)) ∧
    (s.pru.state = .armed → (∀ i, (s.ost.remotes.get i).taken = none) →
      PassRound (fun _ => false) s t)
  (∀ (tag : Byte) (s : State), ActReady tag 16 [] s →
    (s.phase = .run → ∃ t : State, exec (.allocateNow tag []) s = .next (t.answered tag .done [0]) ∧ passed s t) ∧
    (s.phase = .waiting → exec (.allocateNow tag []) s = .next (s.refusedFor tag .notNow))) ∧
  (∀ s : State, s.live = true → s.phase = .run → s.hra.timer ≠ 0 →
    ∃ t : State, exec .periodTimerExpiry s = .next t ∧ passed s t)

/-- SNAPSHOT_TAKE captures at once, and writes at once, to the lowest EMPTY slot or else the oldest, or waits behind a SAVE; STORE_BUSY with a
snapshot pending or being written and while a LOAD runs, BAD_LENGTH with a body. STORE_SAVE begins a SAVE of the configuration as it stands;
STORE_LOAD begins a LOAD, NOT_NOW under protect; both are STORE_BUSY during a store operation (R175 to R177, R195, R196). The snapshot that is
captured, and that SNAPSHOT_WRITE_COMPLETE then leaves in its slot (O48): the next sequence number, the clock, the trigger set, the mode,
state, T and B of each sheet, state, dew point and margin of each zone, the grants, the levels, the bus state, TXE and RXE, as they stand
(R175). Of two slots with equal sequence numbers the lower one counts as the oldest for the next write: the model's choice (log entry 28), as
R178 has the higher one count as newer. -/
def Obligations.StoreActs : Prop :=
  (∀ (tag : Byte) (fields : List Byte) (s : State), Ready ⟨tag, kindAct, 17 :: fields⟩ s →
    (s.stc.op = .load → exec (.snapshotTake tag fields) s = .next (s.refusedFor tag .storeBusy)) ∧
    (s.stc.op ≠ .load → fields ≠ [] → exec (.snapshotTake tag fields) s = .next (s.refusedFor tag .badLength))) ∧
  (∀ (tag : Byte) (s : State),
    (ActReady tag 17 [] s →
      (s.stc.holdsSnapshot = true → exec (.snapshotTake tag []) s = .next (s.refusedFor tag .storeBusy)) ∧
      (s.stc.holdsSnapshot = false →
        ∃ t : State, exec (.snapshotTake tag []) s = .next (t.answered tag .done [0]) ∧ t = { s with stc := t.stc } ∧
          t.stc.image = s.stc.image ∧ t.stc.saving = s.stc.saving ∧
          t.stc.nextSequence = min 4294967295 (s.stc.nextSequence + 1) ∧
          (s.stc.op ≠ .none → t.stc.snapshot = some (s.snapshotNow []) ∧ t.stc.op = s.stc.op ∧ t.stc.slots = s.stc.slots) ∧
          (s.stc.op = .none → t.stc.writing = some (s.stc.target, s.snapshotNow []) ∧ t.stc.op = .snapshot ∧
            t.stc.snapshot = none ∧ t.stc.slots = s.stc.slots.set s.stc.target none))) ∧
    (ActReady tag 18 [] s →
      (s.stc.op ≠ .none → exec (.storeSave tag []) s = .next (s.refusedFor tag .storeBusy)) ∧
      (s.stc.op = .none → exec (.storeSave tag []) s = .next (({ s with
        stc := { s.stc with op := .save, saving := some s.cfg } } : State).answered tag .done [0]))) ∧
    (ActReady tag 19 [] s →
      (s.stc.op ≠ .none → exec (.storeLoad tag []) s = .next (s.refusedFor tag .storeBusy)) ∧
      (s.stc.op = .none → s.pru.state ≠ .armed →
        exec (.storeLoad tag []) s = .next (s.refusedFor tag .notNow)) ∧
      (s.stc.op = .none → s.pru.state = .armed → exec (.storeLoad tag []) s =
        .next (({ s with stc := { s.stc with op := .load } } : State).answered tag .done [0])))) ∧
  (∀ c : Stc,
    (∀ i, c.slots.get i = none → (∀ j, j < i → c.slots.get j ≠ none) → c.target = i) ∧
    (∀ i x, c.slots.get i = some x → (∀ j, ∃ y, c.slots.get j = some y ∧ x.sequence ≤ y.sequence ∧
      (x.sequence = y.sequence → i ≤ j)) → c.target = i)) ∧
  (∀ (s : State) (ts : List Trigger),
    let x := s.snapshotNow ts
    x.sequence = s.stc.nextSequence ∧ x.clock = s.scu.clock ∧ x.triggers = ts ∧ x.mode = s.scu.mode ∧
    (∀ sh, x.sheets.get sh = ⟨(s.shm.get sh).state, (s.shm.get sh).temp, (s.shm.get sh).budget⟩) ∧
    (∀ z, x.zones.get z = ⟨(s.cdm.get z).state, (s.cdm.get z).dewPoint, (s.cdm.get z).margin⟩) ∧
    (∀ i, x.grants.get i = (s.hra.sinks.get i).grant) ∧ (∀ i, x.levels.get i = (s.lsq.channels.get i).level) ∧
    x.busState = s.busState ∧ x.txe = s.fbc.txe ∧ x.rxe = s.fbc.rxe)

/-- CLOCK_SET sets the clock; forward in RUN it takes every entry then due out of the program in table order, executed when it starts at
most 300 s before the new clock and skipped otherwise. PROGRAM_ADD: BAD_VALUE for an action code not listed, BAD_LENGTH for a length not its
action's, STORE_BUSY while a LOAD runs; then, for each of the five actions: BAD_VALUE or BAD_INDEX for a field its action does not admit,
TABLE_FULL with 48 held, NOT_NOW more than 60 s late, else a new id, and the entry after those that start no later; one already due in RUN is
executed and removed in the same event, with its PROGRAM notice. An action's outcome: SCENE is skipped under protect, RESURFACE and COVER are
refused NOT_NOW where the act would be, ALLOCATE runs a pass in RUN (R156 to R158, R160 to R163). -/
def Obligations.ProgramActs : Prop :=
  (∀ (tag : Byte) (c : BitVec 32) (s : State), ActReady tag 20 (u32 c.toNat) s →
    (s.phase ≠ .run ∨ c.toNat ≤ s.scu.clock →
      exec (.clockSet tag (u32 c.toNat)) s =
        .next (({ s with scu := { s.scu with clock := c.toNat, elapsed := 0 } } : State).answered tag .done [0])) ∧
    (s.phase = .run → s.scu.clock < c.toNat → ProgramOrdered s →
      let take (u : State) (e : ProgramEntry) : State :=
        let rest : State := { u with scu := { u.scu with program := u.scu.program.filter fun x => x.id != e.id } }
        if c.toNat ≤ e.start + 300 then (rest.perform e.action).2.notice .program e.id (rest.perform e.action).1
        else rest.notice .program e.id 1
      ∃ t : State, exec (.clockSet tag (u32 c.toNat)) s = .next (t.answered tag .done [0]) ∧
        t = (s.scu.program.filter fun e => decide (e.start ≤ c.toNat)).foldl take
          { s with scu := { s.scu with clock := c.toNat, elapsed := 0 } } ∧
        t.scu.clock = c.toNat ∧
        t.scu.program = s.scu.program.filter (fun e => decide (c.toNat < e.start)) ∧ t.cfg = s.cfg ∧
        LinkKept s t ∧ BusKept s t ∧ t.pru = s.pru ∧ t.ptb = s.ptb)) ∧
  (∀ (tag : Byte) (fields : List Byte) (code : ActionCode) (s : State), ActReady tag 21 fields s →
    nameAt actionCodes fields 4 = some code → fields.length = actionLength code →
    let start := u32At fields 0
    (∀ e, parseAction code fields = .error e → exec (.programAdd tag fields) s = .next (s.refusedFor tag e)) ∧
    (∀ action clamps, parseAction code fields = .ok (action, clamps) →
      (48 ≤ s.scu.program.length → exec (.programAdd tag fields) s = .next (s.refusedFor tag .tableFull)) ∧
      (s.scu.program.length < 48 → start + 60 < s.scu.clock →
        exec (.programAdd tag fields) s = .next (s.refusedFor tag .notNow)) ∧
      (s.scu.program.length < 48 → s.scu.clock ≤ start + 60 → s.scu.nextId ≤ 65534 →
        ∃ id next t, exec (.programAdd tag fields) s = .next (t.answered tag .done (u8 clamps ++ u16 id)) ∧
          id ≤ 65534 ∧ (∀ e ∈ s.scu.program, e.id ≠ id) ∧ next = (id + 1) % 65535 ∧
          ((∀ e ∈ s.scu.program, e.id ≠ s.scu.nextId) → id = s.scu.nextId) ∧
          (s.phase ≠ .run ∨ s.scu.clock < start → ∃ before after, s.scu.program = before ++ after ∧
            t = { s with scu := { s.scu with program := before ++ ⟨id, start, action⟩ :: after, nextId := next } } ∧
            (∀ e ∈ before, e.start ≤ start) ∧ (∀ e, after.head? = some e → start < e.start)) ∧
          (s.phase = .run → start ≤ s.scu.clock →
            let rest : State := { s with scu := { s.scu with nextId := next } }
            t = (rest.perform action).2.notice .program id (rest.perform action).1)))) ∧
  (∀ s : State,
    (∀ m, s.perform (.mode m) = (0, s.changeMode m)) ∧
    (∀ k f, s.pru.state = .armed → s.perform (.scene k f) = (0, s.recall k f)) ∧
    (∀ k f, s.pru.state ≠ .armed → s.perform (.scene k f) = (1, s)) ∧
    (∀ sh t, s.resurface sh = some t → s.perform (.resurface sh) = (0, t)) ∧
    (∀ sh, (s.shm.get sh).state ≠ .normal → (s.shm.get sh).state ≠ .soft → (s.shm.get sh).state ≠ .resurface →
      s.perform (.resurface sh) = (22, s)) ∧
    (∀ sh t, s.coverOn sh = some t → s.perform (.cover sh true) = (0, t)) ∧
    (∀ sh, (s.shm.get sh).state = .resurface ∨ (s.shm.get sh).state = .off → s.perform (.cover sh true) = (22, s)) ∧
    (∀ sh t, s.coverOff sh = some t → s.perform (.cover sh false) = (0, t)) ∧
    (∀ sh, (s.shm.get sh).state ≠ .covered → s.perform (.cover sh false) = (22, s)) ∧
    (s.phase = .run → s.perform .allocate = (0, s.pass)) ∧ (s.phase ≠ .run → s.perform .allocate = (0, s))) ∧
  (∀ (tag : Byte) (fields : List Byte) (s : State), Ready ⟨tag, kindAct, 21 :: fields⟩ s → 5 ≤ fields.length →
    (nameAt actionCodes fields 4 = none → exec (.programAdd tag fields) s = .next (s.refusedFor tag .badValue)) ∧
    (∀ code, nameAt actionCodes fields 4 = some code →
      (fields.length ≠ actionLength code → exec (.programAdd tag fields) s = .next (s.refusedFor tag .badLength)) ∧
      (fields.length = actionLength code → s.stc.op = .load →
        exec (.programAdd tag fields) s = .next (s.refusedFor tag .storeBusy))))

/-- PROGRAM_DELETE removes the entry with the id, with no notice; an id no entry holds is refused BAD_INDEX, and every PROGRAM_DELETE
STORE_BUSY while a LOAD runs (R159). -/
def Obligations.ProgramDelete : Prop :=
  ∀ (tag : Byte) (id : BitVec 16) (s : State), Ready ⟨tag, kindAct, 22 :: u16 id.toNat⟩ s →
    (s.stc.op = .load → exec (.programDelete tag (u16 id.toNat)) s = .next (s.refusedFor tag .storeBusy)) ∧
    (s.stc.op ≠ .load → (∀ e ∈ s.scu.program, e.id ≠ id.toNat) →
      exec (.programDelete tag (u16 id.toNat)) s = .next (s.refusedFor tag .badIndex)) ∧
    (s.stc.op ≠ .load → (∃ e ∈ s.scu.program, e.id = id.toNat) →
      exec (.programDelete tag (u16 id.toNat)) s = .next (({ s with scu := { s.scu with
        program := s.scu.program.filter fun e => e.id != id.toNat } } : State).answered tag .done [0])) ∧
    ((∀ e ∈ s.scu.program, e.id ≤ 65534) → s.stc.op ≠ .load → id.toNat = 65535 →
      exec (.programDelete tag (u16 id.toNat)) s = .next (s.refusedFor tag .badIndex))

/-! ### The field bus (02) -/

/-- Hand-over: a requester that begins to hold in OWNED releases the bus at once, or pending the frame in flight; the last that lets go in
RELEASED takes it back, with the HELD test; BUS_RECLAIM without a link request is NOT_NOW; a repeated request changes nothing; BUS_TEST
sets the test mode (R37, R38, R40). -/
def Obligations.BusHandOver : Prop :=
  let begun (f : Fbc) : HandOver :=
    if f.handOver = .owned then (if f.inFlight = none then .released else .releasePending) else f.handOver
  (∀ (tag : Byte) (s : State), ActReady tag 13 [] s →
    (s.fbc.linkRequest = true → exec (.busRelease tag []) s = .next (s.answered tag .done [0])) ∧
    (s.fbc.linkRequest = false → exec (.busRelease tag []) s = .next (({ s with
      fbc := { s.fbc with linkRequest := true, handOver := begun s.fbc } } : State).answered tag .done [0]))) ∧
  (∀ (tag : Byte) (s : State), ActReady tag 14 [] s →
    (s.fbc.linkRequest = false → exec (.busReclaim tag []) s = .next (s.refusedFor tag .notNow)) ∧
    (s.fbc.linkRequest = true → s.fbc.handOver ≠ .released ∨ s.fbc.hand = true →
      exec (.busReclaim tag []) s = .next (({ s with fbc := { s.fbc with linkRequest := false } } : State).answered tag .done [0])) ∧
    (s.fbc.linkRequest = true → s.fbc.handOver = .released → s.fbc.hand = false →
      ∃ t : State, exec (.busReclaim tag []) s = .next (t.answered tag .done [0]) ∧
        HeldTested { s with fbc := { s.fbc with linkRequest := false, handOver := .owned } } t)) ∧
  (∀ (tag : Byte) (m : TestMode) (s : State), ActReady tag 15 (u8 (codeOf testModes m)) s →
    exec (.busTest tag (u8 (codeOf testModes m))) s =
      .next (({ s with fbc := { s.fbc with testMode := m } } : State).answered tag .done [0])) ∧
  (∀ s : State, s.live = true →
    let p : State := { s with pins := { s.pins with hand := true } }
    (s.fbc.hand = true → exec .handAsserted s = .next p) ∧
    (s.fbc.hand = false → exec .handAsserted s = .next { p with fbc := { s.fbc with hand := true, handOver := begun s.fbc } })) ∧
  (∀ s : State, s.live = true →
    let p : State := { s with pins := { s.pins with hand := false } }
    (s.fbc.hand = false → exec .handDeasserted s = .next p) ∧
    (s.fbc.hand = true → s.fbc.handOver ≠ .released ∨ s.fbc.linkRequest = true →
      exec .handDeasserted s = .next { p with fbc := { s.fbc with hand := false } }) ∧
    (s.fbc.hand = true → s.fbc.handOver = .released → s.fbc.linkRequest = false →
      ∃ t : State, exec .handDeasserted s = .next t ∧
        HeldTested { p with fbc := { s.fbc with hand := false, handOver := .owned } } t))

/-- A frame of another node ends, with no own frame on the line: counters, RXE, the acknowledge, the receive queue and the pause timers by its
check, target and kind, the settings that waited for its end, and the BUS notices: RXE that rose to the warning level, then a new bus state
(R19, R22, R24, R25, R27, R31, R33, R34, R36). That levels which do not begin with a dominant start bit, or none at all, count as a frame with
an error is the model's choice (log entry 31). -/
def Obligations.FrameReceived : Prop :=
  ∀ (bits : List Bool) (s : State), s.live = true → (∀ x, s.fbc.inFlight = some x → x.looped = true) →
    ∃ t : State, exec (.frameReceived bits) s = .next t ∧ BusEvent s t ∧ t.lnk = s.offered (busChanges s t) ∧
      t.fbc.txe = s.fbc.txe ∧ t.fbc.txProtect = s.fbc.txProtect ∧ t.fbc.txOrdinary = s.fbc.txOrdinary ∧
      t.fbc.inFlight = s.fbc.inFlight ∧ t.fbc.handOver = s.fbc.handOver ∧ t.fbc.testMode = s.fbc.testMode ∧
      t.fbc.address = s.cfg.bus.ownAddress ∧ t.fbc.bitRate = s.cfg.bus.bitRate ∧
      (receiveBits bits = none → Counted [.rxCheck] s t ∧ t.fbc.rxe = min 255 (s.fbc.rxe + 1) ∧ t.fbc.acked = false ∧
        t.fbc.rxQueue = s.fbc.rxQueue ∧ t.fbc.pauses = s.fbc.pauses) ∧
      (∀ f, receiveBits bits = some f →
        t.fbc.rxe = s.fbc.rxe - 1 ∧
        (t.fbc.acked = true ↔ s.phase = .run ∧ s.busState ≠ .isolated ∧ s.fbc.handOver = .owned ∧ s.fbc.testMode = .normal) ∧
        (f.target ≠ s.fbc.address → f.target ≠ 63 →
          Counted [.rxGood] s t ∧ t.fbc.rxQueue = s.fbc.rxQueue ∧ t.fbc.pauses = s.fbc.pauses) ∧
        (f.target = s.fbc.address ∨ f.target = 63 →
          (f.kind = .command ∨ f.kind = .poll →
            Counted [.rxGood] s t ∧ t.fbc.rxQueue = s.fbc.rxQueue ∧ t.fbc.pauses = s.fbc.pauses) ∧
          (f.kind = .pause →
            Counted [.rxGood, .pauses] s t ∧ t.fbc.rxQueue = s.fbc.rxQueue ∧
            ∀ n : Fin 64, t.fbc.pauses.get n = if n.val = f.source then f.value.toNat else s.fbc.pauses.get n) ∧
          (f.kind = .reading → t.fbc.pauses = s.fbc.pauses ∧
            (s.accepts f.source f.point = false → Counted [.rxGood, .rxRejected] s t ∧ t.fbc.rxQueue = s.fbc.rxQueue) ∧
            (s.accepts f.source f.point = true → s.fbc.rxQueue.length < 8 →
              Counted [.rxGood, .rxAccepted] s t ∧
              t.fbc.rxQueue = s.fbc.rxQueue ++ [⟨f.source, f.point, .reading, f.value, s.scu.clock⟩]) ∧
            (s.accepts f.source f.point = true → 8 ≤ s.fbc.rxQueue.length →
              Counted [.rxGood, .rxAccepted, .rxOverrun] s t ∧ t.fbc.rxQueue = s.fbc.rxQueue))))

/-- An own frame starts, in RUN with the bus owned and not ISOLATED, outside LISTEN, with the first waiting entry whose target is not
paused, protect section first (R22, R23, R29, R41); and the end of a pause (R31). -/
def Obligations.FrameStart : Prop :=
  (∀ s : State, s.live = true →
    let paused (e : TxEntry) : Prop := ∃ n : Fin 64, n.val = e.target ∧ s.fbc.pauses.get n ≠ 0
    let allowed : Prop := s.phase = .run ∧ s.busState ≠ .isolated ∧ s.fbc.handOver = .owned ∧ s.fbc.testMode ≠ .listen ∧
      s.fbc.inFlight = none
    (¬ allowed → exec .frameStart s = .next s) ∧
    ((∀ e ∈ s.fbc.txProtect ++ s.fbc.txOrdinary, paused e) → exec .frameStart s = .next s) ∧
    (∀ before e after, allowed → s.fbc.txProtect = before ++ e :: after → (∀ x ∈ before, paused x) → ¬ paused e →
      exec .frameStart s = .next { s with fbc := { s.fbc with
        txProtect := before ++ after, inFlight := some ⟨e, true, s.fbc.testMode == .loop⟩ } }) ∧
    (∀ before e after, allowed → (∀ x ∈ s.fbc.txProtect, paused x) → s.fbc.txOrdinary = before ++ e :: after →
      (∀ x ∈ before, paused x) → ¬ paused e →
      exec .frameStart s = .next { s with fbc := { s.fbc with
        txOrdinary := before ++ after, inFlight := some ⟨e, false, s.fbc.testMode == .loop⟩ } })) ∧
  (∀ (n : Fin 64) (s : State), s.live = true →
    exec (.pauseTimerExpiry n) s = .next { s with fbc := { s.fbc with pauses := s.fbc.pauses.set n 0 } })

/-- An own frame is done: its entry is gone, TX_DONE and for a POLL POLLS count, TXE falls, RELEASE_PENDING ends, and the HELD test follows
when the last protect entry has gone; a looped frame is also received (R30, R33, R37, R41, R172), and a new bus state queues its BUS notice (R34,
R36). So ends a frame on the line whose levels read
back are those sent, with the acknowledge slot dominant (R21). The model's choices: the HELD test comes after the hand-over, so a bus that has
just become RELEASED keeps protect TRIPPED (log entry 12), and FRAME_RECEIVED carries the levels read back (log entry 41). The model's
deduction: how a looped frame is received (log entry 21). -/
def Obligations.OwnFrameDone : Prop :=
  ∀ (x : InFlight) (s : State), s.live = true → s.fbc.inFlight = some x →
    ∃ u t : State, exec .ownFrameDone s = .next t ∧ BusEvent s u ∧
      u.fbc.inFlight = none ∧ u.fbc.txProtect = s.fbc.txProtect ∧ u.fbc.txOrdinary = s.fbc.txOrdinary ∧
      u.fbc.rxQueue = s.fbc.rxQueue ∧ u.fbc.pauses = s.fbc.pauses ∧ u.fbc.txe = s.fbc.txe - 1 ∧ u.lnk = s.offered (busChanges s u) ∧
      u.fbc.handOver = (if s.fbc.handOver = .releasePending then
        (if s.fbc.hand = true ∨ s.fbc.linkRequest = true then .released else .owned) else s.fbc.handOver) ∧
      (x.looped = false → u.fbc.rxe = s.fbc.rxe ∧ u.fbc.address = s.cfg.bus.ownAddress ∧
        u.fbc.bitRate = s.cfg.bus.bitRate ∧ Counted (.txDone :: if x.entry.kind = .poll then [.polls] else []) s u) ∧
      (x.looped = true → u.fbc.rxe = s.fbc.rxe - 1 ∧ u.fbc.address = s.fbc.address ∧ u.fbc.bitRate = s.fbc.bitRate ∧
        Counted (.txDone :: .rxGood :: if x.entry.kind = .poll then [.polls] else []) s u) ∧
      (s.protectEntries ≠ 0 → u.protectEntries = 0 → HeldTested u t) ∧
      (s.protectEntries = 0 ∨ u.protectEntries ≠ 0 → t = u) ∧
      (x.looped = false → ∀ more : List Bool,
        let sent := (x.entry.frame s.fbc.address).lineBits
        exec (.frameReceived (sent.set (sent.length - 8) false ++ more)) s = .next t)

/-- An own frame on the line loses arbitration or ends in a transmit error: the count, TXE, and its entry back at the head of its section
unless a waiting entry with its key supersedes it, or is an ordinary one that a protect entry replaces, which its requester sees as a drop
(R30, R33, R37); a TXE that rose to the warning level, and then a new bus state, queue their BUS notices (R34, R36). Which of them it is, the
first level read back other than sent decides: dominant for recessive inside the arbitration fields is lost, and the winner's frame is
received; any other, the acknowledge slot recessive among them, is a transmit error; with none yet the frame goes on (R21). The model's
choices: that FRAME_RECEIVED carries the levels read back, and that the bits inserted among the arbitration fields and behind them belong to
them (log entry 41). -/
def Obligations.OwnFrameFails : Prop :=
  ∀ (x : InFlight) (s : State), s.live = true → s.fbc.inFlight = some x → x.looped = false →
    let e := x.entry
    let inProtect : Prop := ∃ w ∈ s.fbc.txProtect, w.sameKey e = true
    let inOrdinary : Prop := ∃ w ∈ s.fbc.txOrdinary, w.sameKey e = true
    let ended (c : Counter) (t : State) : Prop :=
      SetupKept s t ∧ LinkKept s t ∧ t.ptb = s.ptb ∧ t.shm = s.shm ∧ t.cdm = s.cdm ∧ t.hra = s.hra ∧ t.lsq = s.lsq ∧
      t.ost.outputs = s.ost.outputs ∧ t.pru = s.pru ∧ t.stc = s.stc ∧
      t.fbc.inFlight = none ∧ t.fbc.rxe = s.fbc.rxe ∧ t.fbc.rxQueue = s.fbc.rxQueue ∧ t.fbc.pauses = s.fbc.pauses ∧
      t.fbc.handOver = (if s.fbc.handOver = .releasePending then
        (if s.fbc.hand = true ∨ s.fbc.linkRequest = true then .released else .owned) else s.fbc.handOver) ∧
      (¬ inProtect → ¬ inOrdinary → Counted [c] s t ∧ t.ost = s.ost ∧
        t.fbc.txProtect = (if x.protect then e :: s.fbc.txProtect else s.fbc.txProtect) ∧
        t.fbc.txOrdinary = (if x.protect then s.fbc.txOrdinary else e :: s.fbc.txOrdinary)) ∧
      (inProtect ∨ (x.protect = false ∧ inOrdinary) → Counted [c] s t ∧ t.ost = s.ost ∧
        t.fbc.txProtect = s.fbc.txProtect ∧ t.fbc.txOrdinary = s.fbc.txOrdinary) ∧
      (x.protect = true → ¬ inProtect → inOrdinary → Counted [c, .txDrop] s t ∧
        t.fbc.txProtect = e :: s.fbc.txProtect ∧
        t.fbc.txOrdinary = s.fbc.txOrdinary.filter (fun w => !w.sameKey e) ∧
        (∀ before w after, s.fbc.txOrdinary = before ++ w :: after → w.sameKey e = true → (∀ y ∈ before, y.sameKey e = false) →
          ∀ j, let r := s.ost.remotes.get j
            t.ost.remotes.get j = { r with dirty := r.dirty || w.owner == some j }))
    (∃ t : State, exec .arbitrationLost s = .next t ∧ ended .arbLost t ∧ t.fbc.txe = s.fbc.txe ∧ t.lnk = s.lnk) ∧
    (∃ t : State, exec .transmitError s = .next t ∧ ended .txError t ∧ t.fbc.txe = min 256 (s.fbc.txe + 8) ∧
      t.lnk = s.offered (busChanges s t) ∧
      t.fbc.address = s.cfg.bus.ownAddress ∧ t.fbc.bitRate = s.cfg.bus.bitRate) ∧
    (let f := e.frame s.fbc.address
      let expected := f.lineBits.set (f.lineBits.length - 8) false
      let arbitration := 1 + (insertBits false 1 (f.bits.take 23)).length
      (∀ same sent read, expected = same ++ true :: sent → same.length < arbitration →
        ∃ t : State, exec .arbitrationLost s = .next t ∧
          exec (.frameReceived (same ++ false :: read)) s = exec (.frameReceived (same ++ false :: read)) t) ∧
      (∀ same level sent read, expected = same ++ level :: sent → level = false ∨ arbitration ≤ same.length →
        exec (.frameReceived (same ++ (!level) :: read)) s = exec .transmitError s) ∧
      (∀ same level sent, expected = same ++ level :: sent → exec (.frameReceived same) s = .next s))

/-- Idle periods count in ISOLATED only; the 64th, by IDLE_PERIOD or by ISOLATED_RECOVERY, zeroes both error counters, and the HELD test
follows; the recovery queues the BUS notice of ACTIVE and no warning (R36); ISOLATED_RECOVERY before it changes nothing (R35, R172; which two
commands stand for the 64th period is the model's choice, log entry 22). -/
def Obligations.BusRecovery : Prop :=
  ∀ s : State, s.live = true →
    (s.fbc.txe ≠ 256 → exec .idlePeriod s = .next s ∧ exec .isolatedRecovery s = .next s) ∧
    (s.fbc.txe = 256 →
      (s.fbc.idlePeriods < 63 → exec .isolatedRecovery s = .next s ∧
        exec .idlePeriod s = .next { s with fbc := { s.fbc with idlePeriods := s.fbc.idlePeriods + 1 } }) ∧
      (63 ≤ s.fbc.idlePeriods →
        ∃ u t : State, exec .isolatedRecovery s = .next t ∧ exec .idlePeriod s = .next t ∧
          u = { s with fbc := { s.fbc with txe := 0, rxe := 0, idlePeriods := 0 }, lnk := s.offered [(.bus, 0, 0)] } ∧
          u.busState = .active ∧ HeldTested u t))

/-! ### Points, sheets, lighting and outputs: the timers' events -/

/-- PTB takes the oldest receive entry: an update of the one point that holds its identity, judged by plausibility, or RX_UNBOUND. Every sheet
and zone that names the point is evaluated on it when a value was stored or its quality changed. A changed quality queues a POINT notice, a
changed output a LIMIT notice behind it, and a changed state of a sheet or zone its SHEET or ZONE notice (R11, R12, R63, R81). An aging expiry
ages every point that has a value to age, to STALE and FAILED at its limits; a BUS point that comes to STALE, and again each time its age is a
multiple of its stale limit, is asked for by a POLL of priority 4, and no other POLL joins (R5, R7 to R11, R48, R69); each point whose quality
changed queues its POINT notice (R11; in index order, the model's choice, log entry 12). -/
def Obligations.PointEvents : Prop :=
  (∀ (e : RxEntry) (rest : List RxEntry) (s : State), s.live = true → s.readsPoints = false → s.fbc.rxQueue = e :: rest →
    e.kind = .reading →
    let taken : State := { s with fbc := { s.fbc with rxQueue := rest } }
    let holds (i : Fin 64) : Prop := (s.cfg.points.get i).binding = .bus ∧ (s.cfg.points.get i).node = e.source ∧
      (s.cfg.points.get i).point = e.point
    (∀ i, holds i → (∀ j, holds j → j = i) →
      let c := s.cfg.points.get i
      let r := s.ptb.points.get i
      ∃ (t : State) (new : PointRun), exec .receiveEntryTaken s = .next t ∧ Inner taken t ∧
        t.ptb = { s.ptb with points := s.ptb.points.set i new } ∧
        Notified [.point, .limit] (pointChanges s t i) s t ∧ StatesNotified s t ∧
        (c.plausMin ≤ e.value → e.value ≤ c.plausMax →
          new = { value := some e.value, age := 0, quality := .good, suspect := 0, output := evaluated c r.output e.value }) ∧
        (e.value < c.plausMin ∨ c.plausMax < e.value →
          new = { r with
            suspect := min 3 (r.suspect + 1)
            quality := if r.quality = .failed ∨ 2 ≤ r.suspect then .failed else .suspect }) ∧
        (new.quality ≠ r.quality ∨ (c.plausMin ≤ e.value ∧ e.value ≤ c.plausMax) →
          let u : State := { taken with ptb := t.ptb }
          (∀ sh, let d := s.cfg.sheets.get sh
            let old := s.shm.get sh
            let m := u.sheetTemp d
            let state := evaluatedState d old.state m.1 m.2
            (i.val ∈ d.surfaces ∨ d.brine = some i.val →
              (t.shm.get sh).state = state ∧ (t.shm.get sh).temp = m.1.map shownTemp ∧ (t.shm.get sh).source = m.2 ∧
              (t.shm.get sh).budget = budgetOf d state m.1 m.2 (if state = .resurface then old.frozen else none)) ∧
            (i.val ∉ d.surfaces → d.brine ≠ some i.val → t.shm.get sh = { old with
              atLastPass := (t.shm.get sh).atLastPass, heave := (t.shm.get sh).heave }) ∧
            (d.subsoil = some i.val → (t.shm.get sh).heave = u.heaveNow d old.heave) ∧
            (d.subsoil ≠ some i.val → (t.shm.get sh).heave = old.heave)) ∧
          (∀ z, let d := s.cfg.zones.get z
            let old := s.cdm.get z
            (d.enabled = true → d.names i.val = true → t.cdm.get z = u.evaluatedZone d old.flood old.state) ∧
            (d.enabled = false ∨ d.names i.val = false → t.cdm.get z = old)))) ∧
    ((∀ i, ¬ holds i) →
      ∃ t : State, exec .receiveEntryTaken s = .next t ∧ Counted [.rxUnbound] s t ∧
        t = { taken with fbc := { taken.fbc with
          counters := t.fbc.counters, tallies := t.fbc.tallies, unbound := some (e.source, e.point) } })) ∧
  (∀ s : State, s.live = true → s.readsPoints = false →
    ∃ t : State, exec .agingExpiry s = .next t ∧ Inner s t ∧ Followed s t ∧ LightsFollow s t ∧ t.pru = s.pru ∧ t.stc = s.stc ∧
      t.ptb.heldAging = s.ptb.heldAging ∧ Notified [.point, .limit] ((List.finRange 64).flatMap (pointChanges s t)) s t ∧
      (∀ i, let c := s.cfg.points.get i
        let r := s.ptb.points.get i
        let age := min 65535 (r.age + 1)
        (r.quality = .noValue ∨ r.quality = .unbound → t.ptb.points.get i = r) ∧
        (r.quality ≠ .noValue → r.quality ≠ .unbound → t.ptb.points.get i = { r with
          age := age
          quality := if r.quality ≠ .failed ∧ 4 * c.stale ≤ age then .failed
            else if r.quality = .good ∧ c.stale ≤ age then .stale else r.quality })) ∧
      (let due (i : Fin 64) : Bool :=
          (s.cfg.points.get i).binding == .bus && (t.ptb.points.get i).quality == .stale &&
            ((s.ptb.points.get i).quality != .stale || (t.ptb.points.get i).age % (s.cfg.points.get i).stale == 0)
        let poll (i : Fin 64) : TxEntry := ⟨.poll, (s.cfg.points.get i).node, (s.cfg.points.get i).point, 0, 4, none⟩
        (∀ i, due i = true → s.fbc.slots + (List.finRange 64).countP due ≤ 16 →
          (∀ w ∈ s.fbc.txProtect, w.sameKey (poll i) = false) → poll i ∈ t.fbc.txOrdinary) ∧
        (∀ w ∈ t.fbc.txOrdinary, w.kind = .poll → w ∈ s.fbc.txOrdinary ∨ ∃ i, due i = true ∧ w = poll i)))

/-- The end of the resurfacing hold is a fresh evaluation with the hold, the frozen budget and the flood flags gone, with the SHEET notice and the
ZONE notices of what changed (R63, R81); the end of the tank
reheat timer changes the TANK requests and no grant; the end of the critical trip hold raises the trigger of its sheet, which trips in RUN
while ARMED, is gathered in RUN while a LOAD runs, and in WAITING only stands (R57, R58, R61, R90, R170, R171). That in WAITING it is not
gathered also while a LOAD runs is the model's deduction (log entry 20). -/
def Obligations.SheetTimers : Prop :=
  ∀ (sh : Fin 2) (s : State), s.live = true →
    let c := s.cfg.sheets.get sh
    let r := s.shm.get sh
    let m := s.sheetTemp c
    (r.state ≠ .resurface ∨ r.hold = 0 → exec (.holdExpiry sh) s = .next s) ∧
    (r.state = .resurface → r.hold ≠ 0 →
      ∃ t : State, exec (.holdExpiry sh) s = .next t ∧ SheetEvent s t ∧ StatesNotified s t ∧
        (∀ j, j ≠ sh → t.shm.get j = { s.shm.get j with atLastPass := (t.shm.get j).atLastPass }) ∧
        t.shm.get sh = { r with
          state := freshState c m.1 m.2, temp := m.1.map shownTemp, source := m.2, frozen := none, hold := 0, criticalTime := 0
          trigger := false, budget := budgetOf c (freshState c m.1 m.2) m.1 m.2 none
          atLastPass := (t.shm.get sh).atLastPass } ∧
        (∀ z, (s.cfg.zones.get z).enabled = true → (s.cfg.zones.get z).sheet = some sh → (t.cdm.get z).flood = false)) ∧
    (r.tank = 0 → exec (.tankReheatExpiry sh) s = .next s) ∧
    (r.tank ≠ 0 →
      ∃ t : State, exec (.tankReheatExpiry sh) s = .next t ∧
        t = { s with shm := s.shm.set sh { r with tank := 0 }, hra := t.hra } ∧
        (t.hra.sheets.get sh).tankRunning = false ∧
        (∀ j, j ≠ sh → t.hra.sheets.get j = s.hra.sheets.get j) ∧
        (∀ i, (s.cfg.sinks.get i).enabled = true → (s.cfg.sinks.get i).kind = .tank →
          (t.hra.sinks.get i).reqMax =
            (if (t.hra.sheets.get 0).tankRunning = true ∨ (t.hra.sheets.get 1).tankRunning = true
              then (s.cfg.sinks.get i).max else (s.cfg.sinks.get i).min)) ∧
        (∀ i, (t.hra.sinks.get i).grant = (s.hra.sinks.get i).grant ∧
          (t.hra.sinks.get i).status = (s.hra.sinks.get i).status)) ∧
    (r.state ≠ .critical ∨ c.criticalHold = 0 ∨ r.trigger = true → exec (.criticalHoldExpiry sh) s = .next s) ∧
    (r.state = .critical → c.criticalHold ≠ 0 → r.trigger = false →
      let p : State := { s with shm := s.shm.set sh { r with criticalTime := c.criticalHold, trigger := true } }
      (s.phase = .waiting → exec (.criticalHoldExpiry sh) s = .next p) ∧
      (s.phase = .run → s.stc.op = .load → exec (.criticalHoldExpiry sh) s = .next { p with pru := { s.pru with
        deferred := insertTrigger (if sh = 0 then .sheetA else .sheetB) s.pru.deferred } }) ∧
      (s.phase = .run → s.stc.op ≠ .load → s.pru.state = .armed →
        ∃ t : State, exec (.criticalHoldExpiry sh) s = .next t ∧ Tripped [if sh = 0 then .sheetA else .sheetB] p t))

/-- A running step timer moves its level by the step in use (R112); a sample takes the effect on by 20 ms (R119); a slew step moves an output
(R139); none of them does anything to another channel or output of its own kind but hand the level on. The level of each shape at its phase,
between the derated low and high (R120, R121, R125). -/
def Obligations.LevelTimers : Prop :=
  (∀ (i : Fin 32) (s : State), s.live = true →
    let r := s.lsq.channels.get i
    let level := if r.level < r.target then min r.target (r.level + r.step) else max r.target (r.level - r.step)
    (s.phase ≠ .run ∨ r.timer = none → exec (.stepTimerExpiry i) s = .next s) ∧
    (s.phase = .run → r.timer ≠ none →
      ∃ u t : State, exec (.stepTimerExpiry i) s = .next t ∧ LightEvent s u ∧
        u.lsq = { s.lsq with channels := s.lsq.channels.set i { r with
          level := level, timer := if level = r.target then none else some r.period } } ∧
        (s.pru.state = .armed ∨ s.pru.arrived = true ∨
            (∃ j, (u.lsq.channels.get j).taken = some .egress ∧ (u.lsq.channels.get j).level ≠ (u.lsq.channels.get j).target) →
          t = u) ∧
        (s.pru.state ≠ .armed → s.pru.arrived = false →
            (∀ j, (u.lsq.channels.get j).taken = some .egress → (u.lsq.channels.get j).level = (u.lsq.channels.get j).target) →
          HeldTested { u with pru := { u.pru with arrived := true } } t))) ∧
  (∀ (i : Fin 32) (e : Effect) (s : State), s.live = true → (s.lsq.channels.get i).effect = some e →
    let next : Effect := { e with phase := if e.period * 100 ≤ e.phase + 20 then 0 else e.phase + 20, untilSample := 20 }
    (s.phase ≠ .run → exec (.effectSample i) s = .next s) ∧
    (s.phase = .run →
      ∃ t : State, exec (.effectSample i) s = .next t ∧ LightEvent s t ∧
        t.lsq = { s.lsq with channels := s.lsq.channels.set i { s.lsq.channels.get i with
          effect := some next, level := s.sampleLevel i next } })) ∧
  (∀ (i : Fin 16) (s : State), s.live = true →
    let o := s.ost.outputs.get i
    let step := (s.cfg.outputs.get i).step
    let code := if o.code < o.target then min o.target (o.code + step) else max o.target (o.code - step)
    (o.driven = false ∨ o.timer = none → exec (.slewStep i) s = .next s) ∧
    (o.driven = true → o.timer ≠ none →
      exec (.slewStep i) s = .next { s with ost := { s.ost with outputs := s.ost.outputs.set i { o with
        code := code, timer := if code = o.target then none else some (s.cfg.outputs.get i).period } } })) ∧
  (∀ (i : Fin 32) (e : Effect) (s : State), 1 ≤ e.period → e.phase < e.period * 100 → e.low ≤ e.high →
    let c := s.cfg.channels.get i
    let derate : Nat := match c.sheet with | some sh => (s.lsq.sheets.get sh).derate | none => 1000
    let low := max c.floor (e.low * derate / 1000)
    let high := max c.floor (e.high * derate / 1000)
    let p := e.period * 100
    let half := p / 2
    let phi := e.phase
    let x := if phi < half then phi else p - phi
    let sine : List Nat := [0, 10, 38, 84, 146, 222, 309, 402, 500, 598, 691, 778, 854, 916, 962, 990, 1000]
    let level := s.sampleLevel i e
    low ≤ level ∧ level ≤ high ∧
    (e.shape = .sawtooth → level = low + (high - low) * phi / p) ∧
    (e.shape = .triangle → phi < half → level = low + (high - low) * (2 * phi) / p) ∧
    (e.shape = .triangle → half ≤ phi → level = low + (high - low) * (2 * (p - phi)) / p) ∧
    (∀ duty, e.shape = .pulse → e.duty = some duty → level = if phi * 1000 < duty * p then high else low) ∧
    (e.shape = .sine → x = half → level = high) ∧
    (∀ j, e.shape = .sine → j < 16 → j * half ≤ 16 * x → 16 * x < (j + 1) * half →
      let s0 := sine.getD j 0
      let s1 := sine.getD (j + 1) 0
      level = low + (high - low) * (s0 + (s1 - s0) * (16 * x - j * half) / half) / 1000))

/-- A refresh timer restarts, and the entry requests its value when it is dirty or the bus is ACTIVE; under protect a dirty SAFE entry requests
it as a protect COMMAND of priority 0, and every entry goes by its configuration at the trip. The request is taken, where no waiting entry
has its key and a slot is free; coalesced, where one has; or dropped, with TX_DROP and a dirty entry, where a protect entry has it or no slot
is free. A protect request coalesces with a protect entry, takes the place of an ordinary one, and with no slot free displaces the last
ordinary entry, whose requester sees a drop (R28, R28a, R144 to R146). That a coalesced entry carries the new request's owner as its
requester is the model's deduction (log entry 13). -/
def Obligations.RefreshExpiry : Prop :=
  (∀ (i : Fin 32) (v : Int) (s : State), s.live = true →
    let r := s.ost.remotes.get i
    let c := s.remoteConfig i
    let safe : Prop := ∃ p, r.taken = some p ∧ p.safe = true
    let asked (protect : Bool) (t : State) : Prop :=
      let answer := s.fbc.request protect ⟨.command, c.node, c.point, v, if protect then 0 else c.priority, some i⟩
      OutputEvent s t ∧ t.ost.outputs = s.ost.outputs ∧
      (answer.1 = .dropped → t.fbc = s.fbc.count s.holdsCounts .txDrop ∧
        t.ost.remotes = s.ost.remotes.set i { r with timer := c.refresh, dirty := true }) ∧
      (answer.1 ≠ .dropped →
        t.ost.remotes.get i = { r with timer := c.refresh, last := some v, dirty := false } ∧
        (∀ j, j ≠ i → t.ost.remotes.get j = { s.ost.remotes.get j with dirty := (t.ost.remotes.get j).dirty }) ∧
        (answer.2.2 = none → t.fbc = answer.2.1 ∧
          ∀ j, j ≠ i → (t.ost.remotes.get j).dirty = (s.ost.remotes.get j).dirty) ∧
        (∀ w, answer.2.2 = some w → t.fbc = answer.2.1.count s.holdsCounts .txDrop ∧
          ∀ j, j ≠ i → (t.ost.remotes.get j).dirty = ((s.ost.remotes.get j).dirty || w.owner == some j)))
    (s.phase ≠ .run ∨ r.timer = 0 → exec (.refreshExpiry i) s = .next s) ∧
    (s.phase = .run → r.timer ≠ 0 → r.dirty = false → s.busState ≠ .active →
      exec (.refreshExpiry i) s =
        .next { s with ost := { s.ost with remotes := s.ost.remotes.set i { r with timer := c.refresh } } }) ∧
    (s.phase = .run → r.timer ≠ 0 → r.dirty = true ∨ s.busState = .active → r.value = some v →
      (safe → r.dirty = true → ∃ t : State, exec (.refreshExpiry i) s = .next t ∧ asked true t) ∧
      (¬ safe ∨ r.dirty = false → ∃ t : State, exec (.refreshExpiry i) s = .next t ∧ asked false t))) ∧
  (∀ (f : Fbc) (e : TxEntry),
    let inProtect : Prop := ∃ w ∈ f.txProtect, w.sameKey e = true
    let inOrdinary : Prop := ∃ w ∈ f.txOrdinary, w.sameKey e = true
    let updated (w : TxEntry) : TxEntry :=
      if w.sameKey e then { w with value := e.value, priority := e.priority, owner := e.owner } else w
    (inProtect → f.request false e = (.dropped, f, none) ∧
      f.request true e = (.coalesced, { f with txProtect := f.txProtect.map updated }, none)) ∧
    (¬ inProtect → inOrdinary →
      f.request false e = (.coalesced, { f with txOrdinary := f.txOrdinary.map updated }, none) ∧
      f.request true e = (.coalesced, { f with
        txOrdinary := f.txOrdinary.filter fun w => !w.sameKey e, txProtect := f.txProtect ++ [e] }, none)) ∧
    (¬ inProtect → ¬ inOrdinary → f.slots < 16 →
      f.request false e = (.taken, { f with txOrdinary := f.txOrdinary ++ [e] }, none) ∧
      f.request true e = (.taken, { f with txProtect := f.txProtect ++ [e] }, none)) ∧
    (¬ inProtect → ¬ inOrdinary → 16 ≤ f.slots →
      f.request false e = (.dropped, f, none) ∧
      (∀ q w, f.txOrdinary = q ++ [w] →
        f.request true e = (.taken, { f with txOrdinary := q, txProtect := f.txProtect ++ [e] }, some w)) ∧
      (f.txOrdinary = [] → f.request true e = (.dropped, f, none))))

/-! ### Clock, key and store -/

/-- A tick advances the clock by one second, wrapping to 0, and in RUN takes every entry then due, in table order: each is removed and
executed whole, with its PROGRAM notice, before the next (R150, R160 to R162). -/
def Obligations.TickAdvancesClock : Prop :=
  ∀ s : State, s.live = true →
    (s.scu.clock = 4294967295 → exec .tick s = .next { s with scu := { s.scu with clock := 0, elapsed := 0 } }) ∧
    (s.scu.clock ≠ 4294967295 →
      (s.phase ≠ .run ∨ s.stc.op = .load ∨ (∀ e ∈ s.scu.program, s.scu.clock + 1 < e.start) →
        exec .tick s = .next { s with scu := { s.scu with clock := s.scu.clock + 1, elapsed := 0 } }) ∧
      (s.phase = .run → s.stc.op ≠ .load → ProgramOrdered s →
        let take (u : State) (e : ProgramEntry) : State :=
          let rest : State := { u with scu := { u.scu with program := u.scu.program.filter fun x => x.id != e.id } }
          (rest.perform e.action).2.notice .program e.id (rest.perform e.action).1
        ∃ t : State, exec .tick s = .next t ∧
          t = (s.scu.program.filter fun e => decide (e.start ≤ s.scu.clock + 1)).foldl take
            { s with scu := { s.scu with clock := s.scu.clock + 1, elapsed := 0 } } ∧
          t.scu.clock = s.scu.clock + 1 ∧ t.scu.nextId = s.scu.nextId ∧
          t.scu.program = s.scu.program.filter (fun e => decide (s.scu.clock + 1 < e.start)) ∧
          t.cfg = s.cfg ∧ t.phase = .run ∧ LinkKept s t ∧ BusKept s t ∧ t.pru = s.pru ∧ t.ptb = s.ptb ∧ t.stc = s.stc ∧
          (∀ (e : ProgramEntry) (m : ArenaMode), s.scu.program.filter (fun e => decide (e.start ≤ s.scu.clock + 1)) = [e] →
            e.action = .mode m → t.scu.mode = m)))

/-- The egress key: a press starts the hold in RUN, or with the bypass raises KEY at once; in WAITING it only starts TIMING; the release
ends it; the end of the hold raises KEY, which trips while ARMED and is deferred while a LOAD runs (R168, R170, R171). -/
def Obligations.KeyEvents : Prop :=
  ∀ s : State, s.live = true →
    let down : State := { s with pins := { s.pins with egress := true } }
    let up : State := { s with pins := { s.pins with egress := false } }
    let spent (p : State) : State := { p with pru := { p.pru with key := .spent, keyTimer := 0 } }
    (s.pru.key ≠ .released → exec .keyPress s = .next down) ∧
    (s.pru.key = .released → s.phase = .waiting →
      exec .keyPress s = .next { down with pru := { s.pru with key := .timing, keyTimer := 0 } }) ∧
    (s.pru.key = .released → s.phase = .run → s.profile.keyBypass = false →
      exec .keyPress s = .next { down with pru := { s.pru with key := .timing, keyTimer := s.cfg.protect.keyHold * 100 } }) ∧
    (s.pru.key = .released → s.phase = .run → s.profile.keyBypass = true → s.stc.op ≠ .load → s.pru.state = .armed →
      ∃ t : State, exec .keyPress s = .next t ∧ Tripped [.key] (spent down) t) ∧
    (s.pru.key = .released → exec .keyRelease s = .next up) ∧
    (s.pru.key ≠ .released → exec .keyRelease s = .next { up with pru := { s.pru with key := .released, keyTimer := 0 } }) ∧
    (s.pru.key ≠ .timing ∨ s.pru.keyTimer = 0 → exec .keyHoldExpiry s = .next s) ∧
    (s.pru.key = .timing → s.pru.keyTimer ≠ 0 → s.phase = .run →
      (s.stc.op ≠ .load → s.pru.state = .armed →
        ∃ t : State, exec .keyHoldExpiry s = .next t ∧ Tripped [.key] (spent s) t) ∧
      (s.stc.op = .load → exec .keyHoldExpiry s = .next { s with pru := { s.pru with
        key := .spent, keyTimer := 0, deferred := insertTrigger .key s.pru.deferred } }))

/-- The end of a SAVE: the image is the configuration it wrote, good exactly when the check read back is the one computed, with the STORE
notice, and a waiting snapshot's write begins, to the lowest EMPTY slot or else the oldest; the end of a snapshot write; the end of a LOAD
with nothing deferred or held: a bad image changes nothing but the store operation, a good one becomes the configuration, with every point
restarted, sheets and zones settled on points without values, the lights' levels unchanged under their new targets, and every source code
current, with SHEET and ZONE notices of the states that changed and no POINT notice (R11, R65, R84, R134, R175, R177, R194 to R197). The model's
choices: the order of a LOAD's effects and notices (log entry 24), and that SAVE_COMPLETE carries
the check word that STC reads back behind the contents (log entry 37). -/
def Obligations.StoreCompletions : Prop :=
  ∀ s : State, s.live = true →
    let told (subject : Nat) (failed : Bool) (t : State) : Prop :=
      t.lnk = s.lnk.offer (s.cfg.notice.enables.get 10) ⟨.store, subject, if failed then 1 else 0, s.scu.clock, 0⟩
    (∀ (check : BitVec 16) (c : Configuration), s.stc.op = .save → s.stc.saving = some c →
      ∃ t : State, exec (.saveComplete check) s = .next t ∧ t = { s with stc := t.stc, lnk := t.lnk } ∧
        t.stc.image = some ⟨c, check⟩ ∧ t.stc.saving = none ∧ t.stc.snapshot = none ∧
        (crc16 (imageBytes c) % 65536 = check.toNat → t.stc.goodImage = some c ∧ told 0 false t) ∧
        (crc16 (imageBytes c) % 65536 ≠ check.toNat → t.stc.goodImage = none ∧ told 0 true t) ∧
        t.stc.nextSequence = s.stc.nextSequence ∧
        (s.stc.snapshot = none → t.stc.op = .none ∧ t.stc.slots = s.stc.slots ∧ t.stc.writing = s.stc.writing) ∧
        (∀ x, s.stc.snapshot = some x → t.stc.op = .snapshot ∧ t.stc.writing = some (s.stc.target, x) ∧
          t.stc.slots = s.stc.slots.set s.stc.target none)) ∧
    (∀ (good : Bool) i x, s.stc.op = .snapshot → s.stc.writing = some (i, x) →
      ∃ t : State, exec (.snapshotWriteComplete good) s = .next t ∧ t = { s with stc := t.stc, lnk := t.lnk } ∧
        told 2 (!good) t ∧
        t.stc = { s.stc with
          op := .none, writing := none, slots := if good then s.stc.slots.set i (some x) else s.stc.slots }) ∧
    (∀ receiving : Bool, s.stc.op = .load → s.pru.deferred = [] →
      s.phase ≠ .run ∨ (∀ e ∈ s.scu.program, s.scu.clock < e.start) →
      (s.stc.goodImage = none →
        ∃ t : State, exec (.loadComplete receiving) s = .next t ∧ told 1 true t ∧
          t = { s with stc := { s.stc with op := .none }, lnk := t.lnk }) ∧
      (∀ c, s.stc.goodImage = some c →
        ∃ t : State, exec (.loadComplete receiving) s = .next t ∧ t.cfg = c ∧ LinkKept s t ∧ t.pru = s.pru ∧ t.scu = s.scu ∧
          t.phase = s.phase ∧ t.pins = s.pins ∧ t.stc = { s.stc with op := .none } ∧
          Notified [.point, .limit] [] s t ∧ StatesNotified s t ∧ Notified [.store] [(.store, 1, 0)] s t ∧
          (∀ i, t.ptb.points.get i =
            ⟨none, 0, if (c.points.get i).binding = .none then .unbound else .noValue, 0, false⟩) ∧
          t.fbc.rxQueue = s.fbc.rxQueue ∧ t.fbc.txe = s.fbc.txe ∧ t.fbc.rxe = s.fbc.rxe ∧ t.fbc.handOver = s.fbc.handOver ∧
          (receiving = false → s.fbc.onLine = false → t.fbc.address = c.bus.ownAddress ∧ t.fbc.bitRate = c.bus.bitRate) ∧
          (∀ sh, let old := s.shm.get sh
            let r := t.shm.get sh
            r.tank = old.tank ∧
            ((c.sheets.get sh).enabled = true → old.state = .resurface ∨ old.state = .covered →
              r.state = old.state ∧ r.budget = old.budget ∧ r.frozen = old.frozen ∧ r.hold = old.hold) ∧
            ((c.sheets.get sh).enabled = true → old.state ≠ .resurface → old.state ≠ .covered →
              r.state = .blind ∧ r.temp = none ∧ r.source = .none ∧ r.budget = .watts 0 ∧ r.trigger = false) ∧
            ((c.sheets.get sh).enabled = false → r.state = .off ∧
              (old.state ≠ .off → r.budget = .unlimited ∧ r.frozen = none ∧ r.hold = 0))) ∧
          (∀ z, let d := c.zones.get z
            (d.enabled = false → t.cdm.get z = {}) ∧
            (d.enabled = true →
              let flood := match d.sheet with | some sh => (t.shm.get sh).state == .resurface | none => false
              t.cdm.get z = { state := .unknown, flood := flood
                              demand := zoneDemand d .unknown flood (c.profiles.get (modeIndex s.scu.mode)).baseDemand })) ∧
          (s.phase = .run → t.hra.timer = c.allocator.period) ∧
          (∀ i, (t.lsq.channels.get i).base = (s.lsq.channels.get i).base ∧
            (t.lsq.channels.get i).level = (s.lsq.channels.get i).level ∧
            (t.lsq.channels.get i).step = (c.channels.get i).step ∧ (t.lsq.channels.get i).period = (c.channels.get i).period ∧
            (s.pru.state = .armed → (t.lsq.channels.get i).target = t.effectiveTarget i)) ∧
          (∀ i, (t.ost.outputs.get i).fixed = (s.ost.outputs.get i).fixed ∧
            (t.ost.outputs.get i).source =
              t.sourceCode (c.outputs.get i).binding (c.outputs.get i).index (t.ost.outputs.get i).fixed)))

/-! ### What every step keeps -/

/-- The queues and counters keep to their capacities, and the transmit queue to one waiting entry per key. -/
def Obligations.QueuesFitKept : Prop := ∀ s t : State, QueuesFit s → step s = .next t → QueuesFit t

/-- The event program stays in order, with distinct ids, in its 48 places. -/
def Obligations.ProgramOrderedKept : Prop := ∀ s t : State, ProgramOrdered s → step s = .next t → ProgramOrdered t

/-- Every record of the running configuration, of the image and of the one being saved stays in its ranges, and no two BUS points of one
of them hold the same identity. -/
def Obligations.ConfigurationsValidKept : Prop :=
  ∀ s t : State, ConfigurationsValid s → step s = .next t → ConfigurationsValid t

/-- L_up, D and, while protect is ARMED, every effective target are current after every step. -/
def Obligations.LightingCurrentKept : Prop := ∀ s t : State, LightingCurrent s → step s = .next t → LightingCurrent t

/-- The heat hold stands exactly while protect is not ARMED, with every STANDS sink HELD at grant 0. -/
def Obligations.HeatHoldKeptByStep : Prop := ∀ s t : State, HeatHoldKept s → step s = .next t → HeatHoldKept t

/-- A sheet is in RESURFACE only while its hold runs, with its budget frozen. -/
def Obligations.ResurfaceKeptByStep : Prop :=
  ∀ s t : State, ConfigurationsValid s → ResurfaceKept s → step s = .next t → ResurfaceKept t

/-- The part after reset meets every invariant above. -/
def Obligations.ResetMeetsInvariants : Prop :=
  QueuesFit .reset ∧ ProgramOrdered .reset ∧ ConfigurationsValid .reset ∧ LightingCurrent .reset ∧ HeatHoldKept .reset ∧
    ResurfaceKept .reset

/-! ### Figures and wire formats -/

/-- The dew point is the temperature at which the vapour pressure of the air would saturate: the pressure by interpolation in the table at
the clamped air temperature, times the clamped humidity, and back by interpolation, -30 degrees with the floor flag below the table. It never
lies above the clamped air temperature or below -30 degrees, rises with either reading, and is the air temperature for saturated air at a node
of the table (R70 to R72). -/
def Obligations.DewPointBoundedMonotone : Prop :=
  (∀ t u h k : Int, t ≤ u → h ≤ k →
    -3000 ≤ (dewPoint t h).1 ∧ (dewPoint t h).1 ≤ max (-3000) (min 4000 t) ∧ (dewPoint t h).1 ≤ (dewPoint u k).1) ∧
  (∀ (t h : Int) (k : Nat), k < 14 →
    let es (k : Nat) : Nat := Config.saturation.getD k 0
    let node (k : Nat) : Int := 500 * k - 3000
    let ta := max (-3000) (min 4000 t)
    let pressure := es k + (es (k + 1) - es k) * (ta - node k).toNat / 500
    let e := pressure * (max 0 (min 1000 h)).toNat / 1000
    node k ≤ ta → ta ≤ node (k + 1) →
    (e < 51 → dewPoint t h = (-3000, true)) ∧ (7381 ≤ e → dewPoint t h = (4000, false)) ∧
    (∀ j, j < 14 → es j ≤ e → e < es (j + 1) →
      dewPoint t h = (node j + ((e - es j) * 500 / (es (j + 1) - es j) : Nat), false))) ∧
  (∀ k : Nat, k ≤ 14 → dewPoint (500 * k - 3000) 1000 = ((500 * k - 3000 : Int), false))

/-- A pass takes the enabled sinks class by class, PROTECTIVE to STORE, each class in index order from its rotation start, and gives each
the first row of R98 that applies, on the pool and the cap that the sinks before it have left; a class that was not fully served starts next
time after the first sink it took. It gives out exactly the pool; a sink is granted at most its request max; of a finite budget the
lighting keeps its reserve, and the allowance and the spills of its STANDS sinks make up the budget (R96 to R100, R102). That the spill of a
SHORT sink of class PROTECTIVE, which R98 grants what is left, counts too is the model's choice (log entry 39). The rows of R98: HELD, IDLE,
CAPPED, then SERVED or PARTIAL where the pool covers the minimum, else SHORT by class; no grant is above the pool or the effective max. -/
def Obligations.AllocationBounds : Prop :=
  (∀ (held : Bool) (pool : Nat) (k : SinkRun) (effective : Nat),
    let d := decideGrant held pool k effective
    d.1 ≤ pool ∧ d.1 ≤ effective ∧
    (held = true → d = (0, .held, 0)) ∧
    (held = false → k.reqMax = 0 → d = (0, .idle, 0)) ∧
    (held = false → k.reqMax ≠ 0 → effective < k.reqMin → d = (0, .capped, 0)) ∧
    (held = false → k.reqMax ≠ 0 → k.reqMin ≤ effective → k.reqMin ≤ pool →
      d = (min pool effective, if min pool effective = k.reqMax then .served else .partly, 0)) ∧
    (held = false → k.reqMax ≠ 0 → k.reqMin ≤ effective → pool < k.reqMin →
      (k.cls = .protective → d = (pool, .short, k.reqMin - pool)) ∧ (k.cls = .event → d = (0, .short, k.reqMin)) ∧
      (k.cls = .comfort ∨ k.cls = .store → d = (0, .short, 0)))) ∧
  (∀ s : State,
    let h := s.allocate.1
    let order := s.allocate.2
    let starts (cls : SinkClass) : Nat := s.hra.rotation.get (classIndex cls)
    let taken (cls : SinkClass) : List (Fin 12) :=
      ((List.finRange 12).filter (fun i => starts cls ≤ i.val) ++ (List.finRange 12).filter (fun i => i.val < starts cls)).filter
        fun i => (s.cfg.sinks.get i).enabled && (s.hra.sinks.get i).cls == cls
    let capped (sh : Fin 2) (i : Fin 12) : Bool := (s.cfg.sinks.get i).kind == .stands && (s.cfg.sinks.get i).sheet == some sh
    let spill (i : Fin 12) : Nat := ceilDiv ((h.sinks.get i).grant * (s.cfg.sinks.get i).spill) 10
    order = [SinkClass.protective, .event, .comfort, .store].flatMap taken ∧
    (∀ before i after, order = before ++ i :: after →
      let c := s.cfg.sinks.get i
      let k := s.hra.sinks.get i
      let pool := h.pool - (before.map fun j => (h.sinks.get j).grant).sum
      let effective : Nat :=
        match c.kind, c.sheet with
        | .stands, some sh =>
          (match (s.shm.get sh).budget with
          | .watts w =>
            let cap := w - min (s.lsq.sheets.get sh).lUp (w * s.profile.lightingShare / 1000)
            let left := cap - ((before.filter (capped sh)).map spill).sum
            if 0 < c.spill then min k.reqMax (left * 10 / c.spill) else k.reqMax
          | .unlimited => k.reqMax)
        | _, _ => k.reqMax
      ((h.sinks.get i).grant, (h.sinks.get i).status, (h.sinks.get i).shortfall) =
        decideGrant (s.hra.hold && c.kind == .stands) pool k effective) ∧
    (∀ i, (s.cfg.sinks.get i).enabled = false → (h.sinks.get i).grant = 0 ∧ (h.sinks.get i).shortfall = 0 ∧
      (h.sinks.get i).status = if s.hra.hold = true ∧ (s.cfg.sinks.get i).kind = .stands then .held else .idle) ∧
    (∀ cls, h.rotation.get (classIndex cls) =
      match taken cls with
      | [] => starts cls
      | first :: more =>
        if (first :: more).all (fun i => (h.sinks.get i).grant == (s.hra.sinks.get i).reqMax) then starts cls
        else (first.val + 1) % 12) ∧
    sumOver 12 (fun i => (h.sinks.get i).grant) + h.rejected = h.pool ∧
    (∀ i, (s.hra.sinks.get i).reqMin ≤ (s.hra.sinks.get i).reqMax → (h.sinks.get i).grant ≤ (s.hra.sinks.get i).reqMax) ∧
    (∀ sh w, (s.shm.get sh).budget = .watts w → s.profile.lightingShare ≤ 1000 →
      ∃ a, (h.sheets.get sh).allowance = .watts a ∧ min (s.lsq.sheets.get sh).lUp (w * s.profile.lightingShare / 1000) ≤ a ∧
        a + sumOver 12 (fun i => if (s.cfg.sinks.get i).kind = .stands ∧ (s.cfg.sinks.get i).sheet = some sh then
          spill i else 0) = w))

/-- While protect is ARMED the lights of a sheet with a finite allowance never aim above it by more than their egress floors, for no target
is above floor + base × D / 1000 and D × L_up never exceeds the allowance; a falling level stays above its target until it arrives (R126). -/
def Obligations.LightingWithinAllowance : Prop :=
  ∀ (s : State) (sh : Fin 2) (w : Nat), LightingCurrent s → s.pru.state = .armed →
    (s.lsq.sheets.get sh).allowance = .watts w →
    let onSheet (i : Fin 32) (v : Nat) : Nat :=
      if (s.cfg.channels.get i).sheet = some sh then (s.cfg.channels.get i).coefficient * v else 0
    sumOver 32 (fun i => onSheet i (match (s.lsq.channels.get i).effect with
        | some e => max (s.cfg.channels.get i).floor (e.high * (s.lsq.sheets.get sh).derate / 1000)
        | none => (s.lsq.channels.get i).target))
      ≤ 4095 * w + sumOver 32 (fun i => onSheet i (s.cfg.channels.get i).floor) ∧
    (∀ i, (s.cfg.channels.get i).sheet = some sh → (s.lsq.channels.get i).target * 1000 ≤
      (s.cfg.channels.get i).floor * 1000 + (s.lsq.channels.get i).base * (s.lsq.sheets.get sh).derate) ∧
    (s.lsq.sheets.get sh).derate * (s.lsq.sheets.get sh).lUp ≤ 1000 * w ∧
    (∀ r : ChannelRun, r.target < r.level → r.target ≤ r.stepFade.level)

/-- A receiver reads from the line the very frame a transmitter sends (R20). A transmitter whose arbitration fields are numerically above
those of a frame sent together with its own reads that frame and has lost arbitration (R21). -/
def Obligations.BusFrameRoundTrip : Prop :=
  let fits (f : BusFrame) : Prop :=
    f.priority ≤ 7 ∧ f.source ≤ 63 ∧ f.target ≤ 63 ∧ f.point ≤ 63 ∧ -32768 ≤ f.value ∧ f.value ≤ 32767
  let fields (f : BusFrame) : Nat :=
    (((f.priority * 4 + codeOf busKinds f.kind) * 64 + f.source) * 64 + f.target) * 64 + f.point
  (∀ f : BusFrame, fits f → receiveBits f.lineBits = some f) ∧
  (∀ f g : BusFrame, fits f → fits g → fields f < fields g → g.outcome f.lineBits = some .lost)

/-- A READ returns each record in its layout (10.5, R193): which records each table has; the configuration part as a WRITE of those bytes would
take it, so that every valid record reads back as itself with no field clamped; behind it the runtime part, or the status part alone, each field
as it stands: the BUS status (2.1), sheets (3.2), zones (4.2), sinks with the allocator's settings (R85) and status (5.1, 5.3), channels and the
lighting status of a sheet (6.1), outputs with the electrical value of a driven one (7.1, R136) and the stage settings, remote entries (7.5), the
protect status (9.1), the program (8.4), the counters and energies, and the snapshots, newest first (9.6, R178). The places of the fields follow
R193, and their widths are the model's deduction from the ranges (log entry 17). -/
def Obligations.RecordsReadBack : Prop :=
  (∀ (c : PointConfig) (r : PointRun), c.valid = true → parsePoint ((putPoint c r).take 16) = some (c, 0)) ∧
  (∀ c : WindowConfig, c.valid = true → parseWindow (putWindow c) = some (c, 0)) ∧
  (∀ c : BusSettings, c.valid = true → parseBus (putBus c) = some (c, 0)) ∧
  (∀ c : SheetConfig, c.valid = true → parseSheet (putSheetConfig c) = some (c, 0)) ∧
  (∀ c : ZoneConfig, c.valid = true → parseZone (putZoneConfig c) = some (c, 0)) ∧
  (∀ c : SinkConfig, c.valid = true → parseSink (putSinkConfig c) = some (c, 0)) ∧
  (∀ c : AllocatorSettings, c.valid = true → parseAllocator (putAllocator c) = some (c, 0)) ∧
  (∀ c : ChannelConfig, c.valid = true → parseChannel (putChannelConfig c) = some (c, 0)) ∧
  (∀ c : Scene, c.valid = true → parseScene (putScene c) = some (c, 0)) ∧
  (∀ c : OutputConfig, c.valid = true → parseOutput (putOutputConfig c) = some (c, 0)) ∧
  (∀ c : RemoteConfig, c.valid = true → parseRemote (putRemoteConfig c) = some (c, 0)) ∧
  (∀ p : Profile, p.valid = true → parseProfile (putProfile p) = some (p, 0)) ∧
  (∀ p : ProtectSettings, p.valid = true → parseProtect (putProtect p) = (p, 0)) ∧
  (∀ c : NoticeSettings, c.valid = true → parseNotice (putNoticeSettings c) = some (c, 0)) ∧
  (∀ s : State, within 1 30000 s.cfg.backupFull = true → ∃ bytes, s.record 9 16 = some bytes ∧ bytes.length = 2 ∧
    limited 1 30000 (u16At bytes 0) = (s.cfg.backupFull, 0)) ∧
  (∀ (s : State) (table i : Nat), (s.record table i).isSome = true ↔
    1 ≤ table ∧ i < [64, 4, 2, 2, 4, 14, 34, 24, 17, 32, 5, 2, 1, 48, 1, 1, 4].getD (table - 1) 0) ∧
  -- the configuration parts
  (∀ c : WindowConfig, putWindow c = layout [(1, c.enabled.toNat), (1, c.matchSource), (1, c.matchPoint), (1, c.sourceMask), (1, c.pointMask),
    (1, if c.accept then 0 else 1)]) ∧
  (∀ c : BusSettings, putBus c = layout [(1, c.ownAddress), (1, c.bitRate), (1, c.warning), (1, if c.accept then 0 else 1),
    (1, c.clearOnRead.toNat)]) ∧
  (∀ c : SheetConfig, putSheetConfig c = layout [(1, c.enabled.toNat), (1, c.surfaces.length)]
    ++ layout (c.surfaces.map fun p => (1, (p : Int))) ++ layout (present 1 (c.brine.map fun p => (p : Int)))
    ++ layout (present 1 (c.subsoil.map fun p => (p : Int)))
    ++ layout [(2, c.tSet), (2, c.tSoft), (2, c.tLimit), (1, c.hysteresis), (4, c.bMax), (2, c.fallback), (2, c.brineOffset),
      (2, c.resurfaceHold), (2, c.tankTime), (2, c.criticalHold), (2, c.subsoilMin), (2, c.heaveHysteresis)]) ∧
  (∀ c : ZoneConfig, putZoneConfig c = layout [(1, c.enabled.toNat), (1, c.airTemp), (1, c.airRh)]
    ++ layout (present 1 (c.nearIce.map fun p => (p : Int))) ++ layout (present 1 (c.ceiling.map fun p => (p : Int)))
    ++ layout [(1, codeOf sheetChoices c.sheet), (2, c.watch), (2, c.risk), (2, c.hysteresis), (2, c.flood), (2, c.fallback),
      (1, c.servedRegen.toNat), (1, c.servedCeiling.toNat)]) ∧
  (∀ c : SinkConfig, putSinkConfig c = layout [(1, c.enabled.toNat), (1, codeOf sinkKinds c.kind), (1, codeOf sinkClasses c.cls),
      (1, codeOf sheetChoices c.sheet), (2, c.min), (2, c.max), (2, c.fullOpen)]
    ++ layout (present 1 (c.occupancy.map fun p => (p : Int))) ++ layout [(2, c.occupancyFull), (2, c.spill)]) ∧
  (∀ c : AllocatorSettings, putAllocator c = layout (present 1 (c.heatPoint.map fun p => (p : Int)))
    ++ layout [(2, c.reserve), (1, c.period), (1, c.clearOnRead.toNat)]) ∧
  (∀ c : ChannelConfig, putChannelConfig c = layout [(1, codeOf sheetChoices c.sheet), (2, c.coefficient), (2, c.floor), (2, c.safe),
    (1, codeOf channelActions c.action), (2, c.step), (1, c.period)]) ∧
  (∀ c : Scene, putScene c = (List.finRange 32).flatMap (fun i => layout (present 2 ((c.levels.get i).map fun v => (v : Int))))
    ++ layout (present 2 (c.fade.map fun v => (v : Int)))) ∧
  (∀ c : OutputConfig, putOutputConfig c = layout [(1, codeOf outputKinds c.kind), (1, codeOf outputBindings c.binding), (1, c.index), (2, c.pwm),
    (2, c.step), (1, c.period), (1, codeOf outputActions c.action), (2, c.safe)]) ∧
  (∀ c : RemoteConfig, putRemoteConfig c = layout [(1, codeOf outputBindings c.binding), (1, c.index), (1, c.node), (1, c.point),
    (1, c.priority), (1, c.refresh), (1, codeOf remoteActions c.action), (2, c.safe)]) ∧
  (∀ p : Profile, putProfile p = layout [(1, p.standsPercent), (1, codeOf sinkClasses p.standsClass), (2, p.baseDemand), (2, p.lightingShare)]
    ++ layout (present 1 (p.entryScene.map fun k => (k : Int))) ++ layout [(1, p.keyBypass.toNat)]) ∧
  (∀ p : ProtectSettings, putProtect p = layout [(1, p.keyHold), (2, p.step), (1, p.period)]) ∧
  (∀ c : NoticeSettings, putNoticeSettings c = layout ((List.finRange 11).map fun k => (1, ((c.enables.get k).toNat : Int)))
    ++ layout [(1, c.threshold), (1, c.coalescing)]) ∧
  -- POINTS, WINDOWS, SCENES, PROFILES, PROTECT 0, NOTICE
  (∀ s : State,
    (∀ i : Fin 64, let c := s.cfg.points.get i
      let r := s.ptb.points.get i
      s.record 1 i = some (layout [(1, codeOf pointBindings c.binding), (1, c.node), (1, c.point), (1, codeOf pointKinds c.kind), (2, c.stale),
        (2, c.plausMin), (2, c.plausMax), (1, codeOf comparatorModes c.mode), (2, c.high), (2, c.low),
        (1, c.latch.toNat + 2 * c.trip.toNat + 4 * r.value.isSome.toNat), (2, r.value.getD 0), (2, r.age),
        (1, codeOf qualities r.quality), (1, r.suspect), (1, r.output.toNat)])) ∧
    (∀ i : Fin 4, s.record 2 i = some (putWindow (s.cfg.windows.get i))) ∧
    (∀ i : Fin 24, s.record 8 i = some (putScene (s.cfg.scenes.get i))) ∧
    (∀ i : Fin 5, s.record 11 i = some (putProfile (s.cfg.profiles.get i))) ∧
    s.record 12 0 = some (putProtect s.cfg.protect) ∧ s.record 13 0 = some (putNoticeSettings s.cfg.notice)) ∧
  -- BUS
  (∀ s : State, let f := s.fbc
    s.record 3 0 = some (putBus s.cfg.bus) ∧
    s.record 3 1 = some (layout [(1, codeOf busStates s.busState), (2, f.txe), (1, f.rxe), (1, f.idlePeriods), (1, codeOf handOvers f.handOver),
        (1, if f.hand then 0 else 1), (1, if f.linkRequest then 0 else 1), (1, codeOf testModes f.testMode), (1, f.inFlight.isSome.toNat),
        (1, f.rxQueue.length)]
      ++ layout (present 4 (f.rxQueue.head?.map fun e => (e.arrival : Int)))
      ++ layout [(1, f.txProtect.length + f.txOrdinary.length + f.inFlight.isSome.toNat)]
      ++ (let paused := (List.finRange 64).filter fun n => f.pauses.get n != 0
        layout [(1, paused.length)] ++ layout (paused.map fun n => (1, (n.val : Int))))
      ++ layout (match f.unbound with | some (node, point) => [(1, 1), (1, node), (1, point)] | none => [(1, 0), (1, 0), (1, 0)]))) ∧
  -- SHEETS and ZONES
  (∀ s : State,
    (∀ sh : Fin 2, let r := s.shm.get sh
      s.record 4 sh = some (putSheetConfig (s.cfg.sheets.get sh)
        ++ layout [(1, codeOf sheetStates r.state)] ++ layout (present 2 r.temp) ++ layout [(1, codeOf tempSources r.source), (4, r.budget.figure)]
        ++ layout (present 4 (r.atLastPass.map Power.figure)) ++ layout (present 4 (r.frozen.map fun w => (w : Int)))
        ++ layout [(2, r.hold), (2, r.tank), (2, r.criticalTime), (1, r.trigger.toNat), (1, if r.state = .covered then 1 else 0),
          (1, codeOf heaves r.heave)])) ∧
    (∀ z : Fin 4, let r := s.cdm.get z
      s.record 5 z = some (putZoneConfig (s.cfg.zones.get z)
        ++ layout [(1, codeOf zoneStates r.state)] ++ layout (present 2 r.dewPoint) ++ layout [(1, r.floorFlag.toNat)]
        ++ layout (present 4 r.fogMargin) ++ layout (present 4 r.dripMargin) ++ layout (present 4 r.margin)
        ++ layout (present 1 (r.limiting.map fun x => (codeOf surfaces x : Int))) ++ layout [(1, r.flood.toNat), (2, r.demand)]))) ∧
  -- SINKS
  (∀ s : State, let h := s.hra
    (∀ i : Fin 12, let r := h.sinks.get i
      s.record 6 i = some (putSinkConfig (s.cfg.sinks.get i) ++ layout [(2, r.reqMin), (2, r.reqMax), (1, codeOf sinkClasses r.cls), (2, r.grant),
        (1, codeOf sinkStatuses r.status), (2, r.shortfall), (4, r.energy)])) ∧
    s.record 6 12 = some (putAllocator s.cfg.allocator) ∧
    (let a := h.sheets.get 0
      let b := h.sheets.get 1
      let watts (x : Option Nat) : List Byte := layout (present 4 (x.map fun w => (w : Int)))
      let power (x : Option Power) : List Byte := layout (present 4 (x.map Power.figure))
      s.record 6 13 = some (layout (present 2 (h.heatUsed.map fun v => (v : Int)))
        ++ layout [(2, h.pool), (2, h.rejected), (4, h.backup), (1, h.hold.toNat)]
        ++ power a.budget ++ power b.budget ++ watts a.lUp ++ watts b.lUp ++ watts a.reserve ++ watts b.reserve ++ power a.cap ++ power b.cap
        ++ layout [(4, a.allowance.figure), (4, b.allowance.figure), (1, h.rotation.get 0), (1, h.rotation.get 1), (1, h.rotation.get 2),
          (1, h.rotation.get 3), (1, h.timer)]))) ∧
  -- CHANNELS
  (∀ s : State,
    (∀ i : Fin 32, let r := s.lsq.channels.get i
      let of (get : Effect → Option Nat) : List Byte := layout (present 2 ((r.effect.bind get).map fun v => (v : Int)))
      let effect : Nat := match r.effect with | some e => 1 + [Shape.triangle, .sawtooth, .sine, .pulse].idxOf e.shape | none => 0
      let status : Nat := if s.pru.state ≠ .armed then 3 else if r.effect ≠ none then 2
        else if s.phase = .run ∧ r.level ≠ r.target then 1 else 0
      s.record 7 i = some (putChannelConfig (s.cfg.channels.get i)
        ++ layout [(2, r.level), (2, r.base), (2, r.target), (2, r.step), (1, r.period), (1, effect)]
        ++ of (fun e => some e.low) ++ of (fun e => some e.high) ++ of (fun e => some e.period) ++ of (fun e => e.duty)
        ++ of (fun e => some e.phase) ++ layout [(1, status)])) ∧
    (∀ sh : Fin 2, let l := s.lsq.sheets.get sh
      s.record 7 (32 + sh) = some (layout [(4, l.allowance.figure), (4, l.lUp), (2, l.derate)]))) ∧
  -- OUTPUTS and REMOTES
  (∀ s : State,
    (∀ i : Fin 16, let o := s.ost.outputs.get i
      let shown : Nat := match (s.cfg.outputs.get i).kind with
        | .voltage => o.code * 10000 / 4095
        | .current => 4000 + o.code * 16000 / 4095
        | .switch => if 2048 ≤ o.code then 0 else 1
        | .pwm => o.code * 1000 / 4095
      let status : Nat := if o.driven = false then 0 else if s.pru.state ≠ .armed then 3 else if o.code ≠ o.target then 2 else 1
      s.record 9 i = some (putOutputConfig (s.cfg.outputs.get i)
        ++ layout [(2, o.source), (2, o.fixed), (2, o.target), (2, o.code), (1, if o.driven then 0 else 1)]
        ++ layout (present 2 (if o.driven then some (shown : Int) else none)) ++ layout [(1, status)])) ∧
    s.record 9 16 = some (layout [(2, s.cfg.backupFull)]) ∧
    (∀ i : Fin 32, let r := s.ost.remotes.get i
      s.record 10 i = some (putRemoteConfig (s.cfg.remotes.get i) ++ layout (present 2 r.value) ++ layout (present 2 r.last)
        ++ layout [(1, r.dirty.toNat), (1, r.timer)]))) ∧
  -- PROTECT 1 and PROGRAM
  (∀ s : State,
    (let p := s.pru
      let codes (ts : List Trigger) : List Byte :=
        layout [(1, ts.length)] ++ layout (ts.map fun t => (1, ([Trigger.pin, .key, .host, .sheetA, .sheetB, .point].idxOf t : Int)))
      let active : List Trigger := (if p.pin then [.pin] else []) ++ (if p.key = .spent then [.key] else [])
        ++ (if (s.shm.get 0).trigger then [.sheetA] else []) ++ (if (s.shm.get 1).trigger then [.sheetB] else [])
        ++ (if ∃ i, (s.ptb.points.get i).output = true ∧ (s.cfg.points.get i).trip = true then [.point] else [])
      let entries : Nat := s.fbc.txProtect.length + (match s.fbc.inFlight with | some x => x.protect.toNat | none => 0)
      s.record 12 1 = some (layout [(1, codeOf protectStates p.state)] ++ codes p.triggers ++ codes active
        ++ layout [(1, codeOf keyStates p.key), (2, p.keyTimer), (1, p.arrived.toNat), (1, entries), (1, codeOf storeOps s.stc.op),
          (1, s.stc.snapshot.isSome.toNat), (4, s.stc.nextSequence)])) ∧
    (∀ i : Fin 48, s.record 14 i = some (match s.scu.program[i.val]? with
      | none => layout [(1, 0)]
      | some e =>
        let fields (action mode scene : Int) (fade : Option Nat) (sheet cover : Int) : List Byte :=
          layout [(1, 1), (2, e.id), (4, e.start), (1, action), (1, mode), (1, scene)] ++ layout (present 2 (fade.map fun v => (v : Int)))
            ++ layout [(1, sheet), (1, cover)]
        match e.action with
        | .mode m => fields 0 (codeOf arenaModes m) 0 none 0 0
        | .scene k f => fields 1 0 k f 0 0
        | .resurface sh => fields 2 0 0 none sh 0
        | .cover sh on => fields 3 0 0 none sh (if on then 0 else 1)
        | .allocate => fields 4 0 0 none 0 0))) ∧
  -- COUNTERS and ENERGY
  (∀ s : State,
    s.record 15 0 = some (layout ((List.finRange 15).map fun i => (2, (s.fbc.counters.get i : Int)))) ∧
    s.record 16 0 = some (layout ((List.finRange 12).map fun i => (4, ((s.hra.sinks.get i).energy : Int)))
      ++ layout [(4, s.hra.rejectedEnergy.total), (4, s.hra.backupEnergy.total)])) ∧
  -- SNAPSHOTS: of the VALID slots, the one with `i` newer ones
  (∀ (s : State) (i : Fin 4),
    let newer (j : Fin 4) (x : Snapshot) (k : Fin 4) : Bool :=
      match s.stc.slots.get k with
      | some y => x.sequence < y.sequence || (x.sequence == y.sequence && j < k)
      | none => false
    (((List.finRange 4).countP fun j => (s.stc.slots.get j).isSome) ≤ i.val → s.record 17 i = some (layout [(1, 0)])) ∧
    (∀ j x, s.stc.slots.get j = some x → (List.finRange 4).countP (newer j x) = i.val →
      s.record 17 i = some (layout [(1, 1), (4, x.sequence), (4, x.clock),
          (1, (x.triggers.map fun t => 2 ^ [Trigger.pin, .key, .host, .sheetA, .sheetB, .point].idxOf t).sum), (1, codeOf arenaModes x.mode)]
        ++ (List.finRange 2).flatMap (fun sh => layout [(1, codeOf sheetStates (x.sheets.get sh).state)]
          ++ layout (present 2 (x.sheets.get sh).temp) ++ layout [(4, (x.sheets.get sh).budget.figure)])
        ++ (List.finRange 4).flatMap (fun z => layout [(1, codeOf zoneStates (x.zones.get z).state)]
          ++ layout (present 2 (x.zones.get z).dewPoint) ++ layout (present 4 (x.zones.get z).margin))
        ++ layout ((List.finRange 12).map fun k => (2, (x.grants.get k : Int)))
        ++ layout ((List.finRange 32).map fun k => (2, (x.levels.get k : Int)))
        ++ layout [(1, codeOf busStates x.busState), (2, x.txe), (1, x.rxe)])))
end

