-- ==== Sys2Proof/Laws/Tables.lean ====
section
/-! SUPPORT. Laws of tables, of loops over indices, and of clamps. -/

namespace Sys2Proof

variable {α β σ : Type} {n : Nat}

theorem Table.get_eq (t : Table α n) (i : Fin n) :
    t.get i = t.cells[i.val]'(t.size_ok.symm ▸ i.isLt) := rfl

@[simp] theorem Table.get_set_self (t : Table α n) (i : Fin n) (x : α) : (t.set i x).get i = x := by
  simp [Table.get_eq, Table.set]

theorem Table.get_set_ne (t : Table α n) {i j : Fin n} (h : i ≠ j) (x : α) : (t.set i x).get j = t.get j := by
  have : i.val ≠ j.val := fun e => h (Fin.ext e)
  simp [Table.get_eq, Table.set, this]

theorem Table.get_set (t : Table α n) (i j : Fin n) (x : α) :
    (t.set i x).get j = if i = j then x else t.get j := by
  by_cases h : i = j
  · subst h; simp
  · simp [h, Table.get_set_ne t h x]

@[simp] theorem Table.get_ofFn (f : Fin n → α) (i : Fin n) : (Table.ofFn f).get i = f i := by
  simp [Table.get_eq, Table.ofFn]

@[simp] theorem Table.get_mapIdx (f : Fin n → α → β) (t : Table α n) (i : Fin n) :
    (t.mapIdx f).get i = f i (t.get i) := by
  simp [Table.mapIdx]

@[simp] theorem Table.get_modify_self (t : Table α n) (i : Fin n) (f : α → α) :
    (t.modify i f).get i = f (t.get i) := by
  simp [Table.modify]

theorem Table.get_modify_ne (t : Table α n) {i j : Fin n} (h : i ≠ j) (f : α → α) :
    (t.modify i f).get j = t.get j := by
  simp [Table.modify, Table.get_set_ne t h]

@[simp] theorem Table.get_const (x : α) (i : Fin n) : (Table.const n x).get i = x := by
  simp [Table.get_eq, Table.const]

theorem Table.ext_get {s t : Table α n} (h : ∀ i, s.get i = t.get i) : s = t := by
  obtain ⟨a, ha⟩ := s
  obtain ⟨b, hb⟩ := t
  have : a = b := by
    apply List.ext_getElem (by rw [ha, hb])
    intro k h1 h2
    exact h ⟨k, ha ▸ h1⟩
  subst this; rfl

@[simp] theorem Table.set_set (t : Table α n) (i : Fin n) (x y : α) : (t.set i x).set i y = t.set i y := by
  apply Table.ext_get
  intro j
  simp only [Table.get_set]
  split <;> rfl

@[simp] theorem Table.set_get (t : Table α n) (i : Fin n) : t.set i (t.get i) = t := by
  apply Table.ext_get
  intro j
  rw [Table.get_set]
  split
  · rename_i h; rw [h]
  · rfl

theorem Table.all_iff (t : Table α n) (p : α → Bool) : t.all p = true ↔ ∀ i, p (t.get i) = true := by
  obtain ⟨a, ha⟩ := t
  constructor
  · intro h i
    exact List.all_eq_true.mp h _ (List.get_mem _ _)
  · intro h
    refine List.all_eq_true.mpr fun x hx => ?_
    obtain ⟨k, hk, rfl⟩ := List.getElem_of_mem hx
    exact h ⟨k, ha ▸ hk⟩

/-- What a loop preserves step by step, it preserves whole. -/
theorem forEach_induct {P : σ → Prop} (f : Fin n → σ → σ) (s : σ) (h0 : P s) (hs : ∀ i x, P x → P (f i x)) :
    P (forEach n f s) := by
  unfold forEach
  generalize List.finRange n = l
  induction l generalizing s with
  | nil => exact h0
  | cons i l ih => exact ih (f i s) (hs i s h0)

/-- The same for a fold over a list. -/
theorem foldl_induct {P : σ → Prop} (f : σ → α → σ) (l : List α) (s : σ) (h0 : P s) (hs : ∀ x a, P x → P (f x a)) :
    P (l.foldl f s) := by
  induction l generalizing s with
  | nil => exact h0
  | cons a l ih => exact ih (f s a) (hs s a h0)

theorem index_eq_some {k : Nat} {i : Fin n} : index n k = some i ↔ i.val = k := by
  unfold index
  split
  · simp [Fin.ext_iff, eq_comm]
  · constructor
    · simp
    · intro h; omega

theorem index_val (i : Fin n) : index n i.val = some i := index_eq_some.mpr rfl

theorem index_none {k : Nat} : index n k = none ↔ n ≤ k := by
  unfold index
  split <;> simp <;> omega

theorem clampNat_mem {lo hi : Nat} (h : lo ≤ hi) (v : Nat) : lo ≤ clampNat lo hi v ∧ clampNat lo hi v ≤ hi := by
  unfold clampNat; omega

theorem clampNat_id {lo hi v : Nat} (h : lo ≤ v ∧ v ≤ hi) : clampNat lo hi v = v := by
  unfold clampNat; omega

theorem clampInt_mem {lo hi : Int} (h : lo ≤ hi) (v : Int) : lo ≤ clampInt lo hi v ∧ clampInt lo hi v ≤ hi := by
  unfold clampInt; omega

theorem clampInt_id {lo hi v : Int} (h : lo ≤ v ∧ v ≤ hi) : clampInt lo hi v = v := by
  unfold clampInt; omega

/-- The rounded-up quotient is the least number whose product covers the dividend. -/
theorem ceilDiv_le_iff {a b c : Nat} (hb : 0 < b) : ceilDiv a b ≤ c ↔ a ≤ c * b := by
  unfold ceilDiv
  rw [Nat.div_le_iff_le_mul hb]
  constructor <;> intro h <;> omega

end Sys2Proof
end

