-- ==== Sys2Proof/Laws/Frames.lean ====
section
/-! SUPPORT. What each shared operation leaves alone: the frame relations are closed under sequence and loops, and every
operation of the blocks is proved to be an event of its kind once. -/

namespace Sys2Proof.Machine
open Sys2Proof

variable {s t u : State}

/-! ### The relations compose -/

theorem SetupKept.refl (s : State) : SetupKept s s := ⟨rfl, rfl, rfl, rfl, rfl, rfl, rfl, rfl⟩

theorem SetupKept.trans (h : SetupKept s t) (k : SetupKept t u) : SetupKept s u :=
  ⟨k.1.trans h.1, k.2.trans h.2, k.3.trans h.3, k.4.trans h.4, k.5.trans h.5, k.6.trans h.6, k.7.trans h.7,
    k.8.trans h.8⟩

theorem LinkKept.refl (s : State) : LinkKept s s := ⟨List.prefix_refl _, rfl, rfl, rfl, rfl, rfl, rfl, rfl, rfl⟩

theorem LinkKept.trans (h : LinkKept s t) (k : LinkKept t u) : LinkKept s u :=
  ⟨h.1.trans k.1, k.2.trans h.2, k.3.trans h.3, k.4.trans h.4, k.5.trans h.5, k.6.trans h.6, k.7.trans h.7,
    k.8.trans h.8, k.9.trans h.9⟩

theorem BusKept.refl (s : State) : BusKept s s :=
  ⟨fun _ _ => rfl, fun _ _ => rfl, rfl, rfl, rfl, rfl, rfl, rfl, rfl, rfl, rfl, rfl, rfl, rfl, rfl, rfl⟩

theorem BusKept.trans (h : BusKept s t) (k : BusKept t u) : BusKept s u :=
  ⟨fun i hi => (k.1 i hi).trans (h.1 i hi), fun i hi => (k.2 i hi).trans (h.2 i hi), k.3.trans h.3, k.4.trans h.4,
    k.5.trans h.5, k.6.trans h.6, k.7.trans h.7, k.8.trans h.8, k.9.trans h.9, k.10.trans h.10, k.11.trans h.11,
    k.12.trans h.12, k.13.trans h.13, k.14.trans h.14, k.15.trans h.15, k.16.trans h.16⟩

theorem LinkKept.of_eq (h : t.lnk = s.lnk) : LinkKept s t := by
  constructor <;> simp [h]

theorem BusKept.of_eq (h : t.fbc = s.fbc) : BusKept s t := by
  constructor <;> simp [h]

theorem Inner.refl (s : State) : Inner s s := ⟨SetupKept.refl s, LinkKept.refl s, BusKept.refl s⟩

theorem Inner.trans (h : Inner s t) (k : Inner t u) : Inner s u :=
  ⟨h.1.trans k.1, h.2.trans k.2, h.3.trans k.3⟩

theorem SheetsKept.refl (s : State) : SheetsKept s s := fun _ => rfl

theorem SheetsKept.of_eq (h : t.shm = s.shm) : SheetsKept s t := by
  intro sh; rw [h]

theorem SheetsKept.trans (h : SheetsKept s t) (k : SheetsKept t u) : SheetsKept s u := by
  intro sh
  have a := h sh
  have b := k sh
  rw [a] at b
  exact b

theorem Followed.refl (s : State) : Followed s s := ⟨fun _ => rfl, fun _ => rfl, fun _ => rfl, fun _ => rfl, fun _ => rfl⟩

theorem Followed.of_eq (h : t.ost = s.ost) : Followed s t := by
  constructor <;> intro i <;> rw [h]

theorem Followed.trans (h : Followed s t) (k : Followed t u) : Followed s u :=
  ⟨fun i => (k.1 i).trans (h.1 i), fun i => (k.2 i).trans (h.2 i), fun i => (k.3 i).trans (h.3 i),
    fun i => (k.4 i).trans (h.4 i), fun i => (k.5 i).trans (h.5 i)⟩

theorem LightsFollow.refl (s : State) : LightsFollow s s :=
  ⟨fun _ => rfl, fun _ => rfl, fun _ => rfl, fun _ => rfl, fun _ => rfl⟩

theorem LightsFollow.of_eq (h : t.lsq = s.lsq) : LightsFollow s t := by
  constructor <;> intro i <;> rw [h]

theorem LightsFollow.trans (h : LightsFollow s t) (k : LightsFollow t u) : LightsFollow s u :=
  ⟨fun i => (k.1 i).trans (h.1 i), fun i => (k.2 i).trans (h.2 i), fun i => (k.3 i).trans (h.3 i),
    fun i => (k.4 i).trans (h.4 i), fun i => (k.5 i).trans (h.5 i)⟩

theorem OutputEvent.refl (s : State) : OutputEvent s s := ⟨Inner.refl s, rfl, rfl, rfl, rfl, rfl, rfl, rfl⟩

theorem OutputEvent.trans (h : OutputEvent s t) (k : OutputEvent t u) : OutputEvent s u :=
  ⟨h.1.trans k.1, k.2.trans h.2, k.3.trans h.3, k.4.trans h.4, k.5.trans h.5, k.6.trans h.6, k.7.trans h.7,
    k.8.trans h.8⟩

theorem LightEvent.refl (s : State) : LightEvent s s := ⟨Inner.refl s, Followed.refl s, rfl, rfl, rfl, rfl, rfl, rfl⟩

theorem LightEvent.trans (h : LightEvent s t) (k : LightEvent t u) : LightEvent s u :=
  ⟨h.1.trans k.1, h.2.trans k.2, k.3.trans h.3, k.4.trans h.4, k.5.trans h.5, k.6.trans h.6, k.7.trans h.7,
    k.8.trans h.8⟩

theorem HeatEvent.refl (s : State) : HeatEvent s s :=
  ⟨Inner.refl s, Followed.refl s, LightsFollow.refl s, rfl, SheetsKept.refl s, rfl, rfl, rfl⟩

theorem HeatEvent.trans (h : HeatEvent s t) (k : HeatEvent t u) : HeatEvent s u :=
  ⟨h.1.trans k.1, h.2.trans k.2, h.3.trans k.3, k.4.trans h.4, h.5.trans k.5, k.6.trans h.6, k.7.trans h.7,
    k.8.trans h.8⟩

theorem ZoneEvent.refl (s : State) : ZoneEvent s s :=
  ⟨Inner.refl s, Followed.refl s, LightsFollow.refl s, rfl, SheetsKept.refl s, rfl, rfl⟩

theorem ZoneEvent.trans (h : ZoneEvent s t) (k : ZoneEvent t u) : ZoneEvent s u :=
  ⟨h.1.trans k.1, h.2.trans k.2, h.3.trans k.3, k.4.trans h.4, h.5.trans k.5, k.6.trans h.6, k.7.trans h.7⟩

theorem SheetEvent.refl (s : State) : SheetEvent s s :=
  ⟨Inner.refl s, Followed.refl s, LightsFollow.refl s, rfl, rfl, rfl⟩

theorem SheetEvent.trans (h : SheetEvent s t) (k : SheetEvent t u) : SheetEvent s u :=
  ⟨h.1.trans k.1, h.2.trans k.2, h.3.trans k.3, k.4.trans h.4, k.5.trans h.5, k.6.trans h.6⟩

theorem ProtectEvent.refl (s : State) : ProtectEvent s s := ⟨Inner.refl s, rfl, SheetsKept.refl s, rfl⟩

theorem ProtectEvent.trans (h : ProtectEvent s t) (k : ProtectEvent t u) : ProtectEvent s u :=
  ⟨h.1.trans k.1, k.2.trans h.2, h.3.trans k.3, k.4.trans h.4⟩

/-! ### One kind of event is another -/

theorem OutputEvent.light (h : OutputEvent s t) (f : Followed s t) : LightEvent s t :=
  ⟨h.inner, f, h.ptb, h.shm, h.cdm, h.hra, h.pru, h.stc⟩

theorem LightEvent.heat (h : LightEvent s t) (l : LightsFollow s t) : HeatEvent s t :=
  ⟨h.inner, h.followed, l, h.ptb, SheetsKept.of_eq h.shm, h.cdm, h.pru, h.stc⟩

theorem OutputEvent.heat (h : OutputEvent s t) (f : Followed s t) : HeatEvent s t :=
  (h.light f).heat (LightsFollow.of_eq h.lsq)

theorem HeatEvent.zone (h : HeatEvent s t) : ZoneEvent s t :=
  ⟨h.inner, h.followed, h.lights, h.ptb, h.shm, h.pru, h.stc⟩

theorem ZoneEvent.sheet (h : ZoneEvent s t) : SheetEvent s t :=
  ⟨h.inner, h.followed, h.lights, h.ptb, h.pru, h.stc⟩

theorem HeatEvent.protect (h : HeatEvent s t) : ProtectEvent s t := ⟨h.inner, h.ptb, h.shm, h.cdm⟩

theorem OutputEvent.protect (h : OutputEvent s t) : ProtectEvent s t :=
  ⟨h.inner, h.ptb, SheetsKept.of_eq h.shm, h.cdm⟩

/-! ### Notices and counters -/

theorem Lnk.offer_notices (l : Lnk) (e : Bool) (n : Notice) : l.notices <+: (l.offer e n).notices := by
  unfold Lnk.offer
  split
  · exact List.prefix_refl _
  · split
    · exact List.prefix_append _ _
    · exact List.prefix_refl _

theorem Lnk.offer_rest (l : Lnk) (e : Bool) (n : Notice) :
    (l.offer e n).locked = l.locked ∧ (l.offer e n).uartIntake = l.uartIntake ∧ (l.offer e n).spiIntake = l.spiIntake ∧
      (l.offer e n).requests = l.requests ∧ (l.offer e n).output = l.output ∧ (l.offer e n).clocked = l.clocked ∧
      (l.offer e n).assembly = l.assembly ∧ (l.offer e n).resetWait = l.resetWait := by
  unfold Lnk.offer
  split
  · simp
  · split <;> simp

/-- A change of the state's block figures alone, not of the link, bus or setup. -/
theorem Inner.of_eqs (h1 : SetupKept s t) (h2 : t.lnk = s.lnk) (h3 : t.fbc = s.fbc) : Inner s t := by
  exact ⟨h1, LinkKept.of_eq h2, BusKept.of_eq h3⟩

theorem notice_event (k : NoticeKind) (x : Nat) (v : Int) (s : State) : OutputEvent s (s.notice k x v) := by
  refine ⟨⟨⟨rfl, rfl, rfl, rfl, rfl, rfl, rfl, rfl⟩, ?_, BusKept.of_eq rfl⟩, rfl, rfl, rfl, rfl, rfl, rfl, rfl⟩
  obtain ⟨a, b, c, d, e, f, g, h⟩ := s.lnk.offer_rest (s.cfg.notice.enables.get (noticeIndex k)) ⟨k, x, v, s.scu.clock, 0⟩
  exact ⟨Lnk.offer_notices _ _ _, a, b, c, d, e, f, g, h⟩

theorem notice_ost (k : NoticeKind) (x : Nat) (v : Int) (s : State) : (s.notice k x v).ost = s.ost := rfl

theorem noticeIf_event (c : Bool) (k : NoticeKind) (x : Nat) (v : Int) (s : State) : OutputEvent s (s.noticeIf c k x v) := by
  unfold State.noticeIf
  split
  · exact notice_event ..
  · exact OutputEvent.refl s

theorem noticeIf_ost (c : Bool) (k : NoticeKind) (x : Nat) (v : Int) (s : State) : (s.noticeIf c k x v).ost = s.ost := by
  unfold State.noticeIf
  split <;> rfl

theorem noticeIf_heat (c : Bool) (k : NoticeKind) (x : Nat) (v : Int) (s : State) : HeatEvent s (s.noticeIf c k x v) :=
  (noticeIf_event ..).heat (Followed.of_eq (noticeIf_ost ..))

theorem notice_heat (k : NoticeKind) (x : Nat) (v : Int) (s : State) : HeatEvent s (s.notice k x v) :=
  (notice_event ..).heat (Followed.of_eq rfl)

theorem count_txDrop_event (s : State) : OutputEvent s (s.count .txDrop) := by
  refine ⟨⟨⟨rfl, rfl, rfl, rfl, rfl, rfl, rfl, rfl⟩, LinkKept.of_eq rfl, ?_⟩, rfl, rfl, rfl, rfl, rfl, rfl, rfl⟩
  constructor
  · intro i hi
    simp only [State.count, Fbc.count]
    split
    · rfl
    · exact Table.get_modify_ne _ (Ne.symm hi) _
  · intro i hi
    simp only [State.count, Fbc.count]
    split
    · exact Table.get_modify_ne _ (Ne.symm hi) _
    · rfl
  all_goals simp only [State.count, Fbc.count]; split <;> rfl

/-! ### The transmit queue and the Output Stage -/

/-- A change of the waiting entries alone is a bus-keeping change. -/
theorem Fbc.request_rest (f : Fbc) (p : Bool) (e : TxEntry) :
    ∃ a b, (f.request p e).2.1 = { f with txProtect := a, txOrdinary := b } := by
  unfold Fbc.request
  split
  · split
    · exact ⟨_, _, rfl⟩
    · exact ⟨_, _, rfl⟩
  · split
    · split
      · exact ⟨_, _, rfl⟩
      · exact ⟨_, _, rfl⟩
    · split
      · split
        · exact ⟨_, _, rfl⟩
        · exact ⟨_, _, rfl⟩
      · split
        · split
          · exact ⟨_, _, rfl⟩
          · exact ⟨_, _, rfl⟩
        · exact ⟨_, _, rfl⟩

theorem setFbcQueues_event (s : State) (a b : List TxEntry) :
    OutputEvent s { s with fbc := { s.fbc with txProtect := a, txOrdinary := b } } :=
  ⟨⟨⟨rfl, rfl, rfl, rfl, rfl, rfl, rfl, rfl⟩, LinkKept.of_eq rfl,
    ⟨fun _ _ => rfl, fun _ _ => rfl, rfl, rfl, rfl, rfl, rfl, rfl, rfl, rfl, rfl, rfl, rfl, rfl, rfl, rfl⟩⟩,
    rfl, rfl, rfl, rfl, rfl, rfl, rfl⟩

theorem setOst_event (s : State) (o : Ost) : OutputEvent s { s with ost := o } :=
  ⟨⟨⟨rfl, rfl, rfl, rfl, rfl, rfl, rfl, rfl⟩, LinkKept.of_eq rfl, BusKept.of_eq rfl⟩, rfl, rfl, rfl, rfl, rfl, rfl, rfl⟩

theorem reportDrop_followed (s : State) (w : TxEntry) : Followed s { s with ost := s.ost.reportDrop w } := by
  unfold Ost.reportDrop
  split
  · rename_i j _
    refine ⟨fun _ => rfl, fun _ => rfl, fun _ => rfl, ?_, ?_⟩ <;>
    · intro i
      by_cases h : j = i
      · subst h; simp
      · simp [Table.get_modify_ne _ h]
  · exact Followed.refl s

theorem count_ost (c : Counter) (s : State) : (s.count c).ost = s.ost := rfl

theorem enqueue_event (p : Bool) (e : TxEntry) (s : State) : OutputEvent s (s.enqueue p e).2 ∧ Followed s (s.enqueue p e).2 := by
  unfold State.enqueue
  obtain ⟨a, b, h⟩ := Fbc.request_rest s.fbc p e
  rcases hq : s.fbc.request p e with ⟨ans, f, d⟩
  rw [hq] at h
  simp only at h
  subst h
  have h1 := setFbcQueues_event s a b
  have h2 : OutputEvent s (if ans = .dropped then
      State.count .txDrop { s with fbc := { s.fbc with txProtect := a, txOrdinary := b } }
      else { s with fbc := { s.fbc with txProtect := a, txOrdinary := b } }) := by
    split
    · exact h1.trans (count_txDrop_event _)
    · exact h1
  have f2 : Followed s (if ans = .dropped then
      State.count .txDrop { s with fbc := { s.fbc with txProtect := a, txOrdinary := b } }
      else { s with fbc := { s.fbc with txProtect := a, txOrdinary := b } }) := by
    split
    · exact Followed.of_eq rfl
    · exact Followed.of_eq rfl
  dsimp only
  cases d with
  | none => exact ⟨h2, f2⟩
  | some w =>
    refine ⟨(h2.trans (count_txDrop_event _)).trans (setOst_event _ _), ?_⟩
    exact f2.trans ((Followed.of_eq (count_ost .txDrop _)).trans (reportDrop_followed _ w))

theorem setRemote_event (i : Fin 32) (r : RemoteRun) (s : State) : OutputEvent s (s.setRemote i r) := setOst_event _ _

theorem setOutput_event (i : Fin 16) (o : OutputRun) (s : State) : OutputEvent s (s.setOutput i o) := setOst_event _ _

theorem setRemote_followed (i : Fin 32) (r : RemoteRun) (s : State) (h1 : r.fixed = (s.ost.remotes.get i).fixed)
    (h2 : r.taken = (s.ost.remotes.get i).taken) : Followed s (s.setRemote i r) := by
  refine ⟨fun _ => rfl, fun _ => rfl, fun _ => rfl, ?_, ?_⟩ <;>
  · intro j
    simp only [State.setRemote, Table.get_set]
    split
    · rename_i h; subst h; simp [h1, h2]
    · rfl

theorem setOutput_followed (i : Fin 16) (o : OutputRun) (s : State) (h1 : o.fixed = (s.ost.outputs.get i).fixed)
    (h2 : o.driven = (s.ost.outputs.get i).driven) (h3 : o.taken = (s.ost.outputs.get i).taken) :
    Followed s (s.setOutput i o) := by
  refine ⟨?_, ?_, ?_, fun _ => rfl, fun _ => rfl⟩ <;>
  · intro j
    simp only [State.setOutput, Table.get_set]
    split
    · rename_i h; subst h; simp [h1, h2, h3]
    · rfl

theorem requestRemote_event (p : Bool) (i : Fin 32) (s : State) :
    OutputEvent s (s.requestRemote p i) ∧ Followed s (s.requestRemote p i) := by
  unfold State.requestRemote
  dsimp only
  split
  · exact ⟨OutputEvent.refl s, Followed.refl s⟩
  · rename_i v _
    obtain ⟨h, f⟩ := enqueue_event p ⟨.command, (s.remoteConfig i).node, (s.remoteConfig i).point, v,
      if p then 0 else (s.remoteConfig i).priority, some i⟩ s
    generalize s.enqueue p _ = q at h f ⊢
    obtain ⟨ans, s1⟩ := q
    dsimp only at h f ⊢
    split
    · exact ⟨h.trans (setRemote_event ..), f.trans (setRemote_followed _ _ _ rfl rfl)⟩
    · exact ⟨h.trans (setRemote_event ..), f.trans (setRemote_followed _ _ _ rfl rfl)⟩

theorem newRemoteValue_event (i : Fin 32) (v : Nat) (s : State) :
    OutputEvent s (s.newRemoteValue i v) ∧ Followed s (s.newRemoteValue i v) := by
  unfold State.newRemoteValue
  dsimp only
  split
  · exact ⟨OutputEvent.refl s, Followed.refl s⟩
  · have h := setRemote_event i { s.ost.remotes.get i with value := some (v : Int) } s
    have f := setRemote_followed i { s.ost.remotes.get i with value := some (v : Int) } s rfl rfl
    split
    · have q := requestRemote_event false i (s.setRemote i { s.ost.remotes.get i with value := some (v : Int) })
      exact ⟨h.trans q.1, f.trans q.2⟩
    · exact ⟨h, f⟩

theorem handRemote_event (i : Fin 32) (s : State) : OutputEvent s (s.handRemote i) ∧ Followed s (s.handRemote i) := by
  unfold State.handRemote
  split
  · split
    · exact ⟨OutputEvent.refl s, Followed.refl s⟩
    · exact newRemoteValue_event ..
  · split
    · split
      · exact newRemoteValue_event ..
      · exact ⟨OutputEvent.refl s, Followed.refl s⟩
    · exact ⟨OutputEvent.refl s, Followed.refl s⟩

theorem OutputRun.aim_kept (c : OutputConfig) (o : OutputRun) :
    (o.aim c).fixed = o.fixed ∧ (o.aim c).driven = o.driven ∧ (o.aim c).taken = o.taken ∧ (o.aim c).source = o.source ∧
      (o.aim c).target = o.target := by
  unfold OutputRun.aim
  split
  · simp
  · split <;> simp

theorem handOutput_event (i : Fin 16) (s : State) : OutputEvent s (s.handOutput i) ∧ Followed s (s.handOutput i) := by
  refine ⟨setOst_event _ _, ?_⟩
  unfold State.handOutput
  dsimp only
  split
  · exact setOutput_followed i _ s rfl rfl rfl
  · split
    · obtain ⟨a, b, c, _⟩ := OutputRun.aim_kept (s.cfg.outputs.get i)
        { s.ost.outputs.get i with source := s.outputSource i, target := s.outputSource i }
      exact setOutput_followed i _ s a b c
    · split
      · exact setOutput_followed i _ s rfl rfl rfl
      · exact setOutput_followed i _ s rfl rfl rfl

/-- Handing on moves local outputs and nothing else (R137). -/
theorem handOn_outputs (bs : List OutputBinding) (s : State) :
    s.handOn bs = { s with ost := { s.ost with outputs := (s.handOn bs).ost.outputs } } := by
  have key : ∃ t, s.handOn bs = { s with ost := { s.ost with outputs := t } } := by
    unfold State.handOn
    refine forEach_induct (P := fun x => ∃ t, x = { s with ost := { s.ost with outputs := t } }) _ s ⟨_, rfl⟩ ?_
    rintro i x ⟨t, rfl⟩
    split
    · exact ⟨_, rfl⟩
    · exact ⟨t, rfl⟩
  obtain ⟨t, h⟩ := key
  rw [h]

@[simp] theorem handOn_remotes (bs : List OutputBinding) (s : State) : (s.handOn bs).ost.remotes = s.ost.remotes := by
  rw [handOn_outputs]

@[simp] theorem handOn_fbc (bs : List OutputBinding) (s : State) : (s.handOn bs).fbc = s.fbc := by
  rw [handOn_outputs]

theorem handOn_event (bs : List OutputBinding) (s : State) : OutputEvent s (s.handOn bs) ∧ Followed s (s.handOn bs) := by
  unfold State.handOn
  refine forEach_induct (P := fun x => OutputEvent s x ∧ Followed s x) _ _ ⟨OutputEvent.refl s, Followed.refl s⟩ ?_
  intro i x h
  split
  · exact ⟨h.1.trans (handOutput_event i x).1, h.2.trans (handOutput_event i x).2⟩
  · exact h

/-- The entries' requests of an event (R144). -/
theorem handRemotes_event (s : State) : OutputEvent s s.handRemotes ∧ Followed s s.handRemotes := by
  unfold State.handRemotes
  refine forEach_induct (P := fun x => OutputEvent s x ∧ Followed s x) _ _ ⟨OutputEvent.refl s, Followed.refl s⟩ ?_
  intro i x h
  exact ⟨h.1.trans (handRemote_event i x).1, h.2.trans (handRemote_event i x).2⟩

/-- An entry whose value is its source code already makes no request (R144). -/
theorem handRemote_current (i : Fin 32) (s : State) (h : s.armed = true)
    (v : (s.ost.remotes.get i).value = some (s.remoteSource i : Int)) : s.handRemote i = s := by
  unfold State.handRemote
  rw [if_pos h]
  split
  · rfl
  · unfold State.newRemoteValue
    exact if_pos v

theorem settleRemote_event (b : Bool) (i : Fin 32) (s : State) :
    OutputEvent s (s.settleRemote b i) ∧ Followed s (s.settleRemote b i) := by
  unfold State.settleRemote
  split
  · exact requestRemote_event ..
  · exact handRemote_event ..

/-- The round of requests of an event that changed sources before its pass (R144). -/
theorem settleRemotes_event (m : Fin 32 → Bool) (s : State) :
    OutputEvent s (s.settleRemotes m) ∧ Followed s (s.settleRemotes m) := by
  unfold State.settleRemotes
  refine forEach_induct (P := fun x => OutputEvent s x ∧ Followed s x) _ _ ⟨OutputEvent.refl s, Followed.refl s⟩ ?_
  intro i x h
  exact ⟨h.1.trans (settleRemote_event _ i x).1, h.2.trans (settleRemote_event _ i x).2⟩

theorem settleRemotes_heat (m : Fin 32 → Bool) (s : State) : HeatEvent s (s.settleRemotes m) :=
  (settleRemotes_event m s).1.heat (settleRemotes_event m s).2

theorem handRemotes_heat (s : State) : HeatEvent s s.handRemotes :=
  (handRemotes_event s).1.heat (handRemotes_event s).2

theorem handRemotes_light (s : State) : LightEvent s s.handRemotes := (handRemotes_event s).1.light (handRemotes_event s).2

theorem handOn_heat (bs : List OutputBinding) (s : State) : HeatEvent s (s.handOn bs) :=
  (handOn_event bs s).1.heat (handOn_event bs s).2

theorem handLevels_heat (s : State) : HeatEvent s s.handLevels := handOn_heat _ s

theorem handLevels_light (s : State) : LightEvent s s.handLevels := (handOn_event _ s).1.light (handOn_event _ s).2

/-- The Output Stage at a trip, a clear, START and a LOAD changes the outputs and the transmit queue only. -/
theorem tripRemote_event (fresh : Bool) (i : Fin 32) (s : State) : OutputEvent s (s.tripRemote fresh i) := by
  unfold State.tripRemote
  dsimp only
  split
  · exact OutputEvent.refl s
  · split
    · exact (setRemote_event ..).trans (requestRemote_event ..).1
    · split
      · exact (setRemote_event ..).trans (newRemoteValue_event ..).1
      · split
        · exact ((setRemote_event ..).trans (setRemote_event ..)).trans (requestRemote_event ..).1
        · split
          · exact (setRemote_event ..).trans (setRemote_event ..)
          · exact setRemote_event ..

theorem tripOutput_event (i : Fin 16) (s : State) : OutputEvent s (s.tripOutput i) := by
  unfold State.tripOutput
  dsimp only
  split
  · exact OutputEvent.refl s
  · exact setOutput_event ..

/-- A loop of output events is one. -/
theorem forEach_output {n : Nat} (f : Fin n → State → State) (h : ∀ i x, OutputEvent x (f i x)) (s : State) :
    OutputEvent s (forEach n f s) :=
  forEach_induct (P := fun x => OutputEvent s x) f s (OutputEvent.refl s) fun i x hx => hx.trans (h i x)

theorem tripOutputs_event (s : State) : OutputEvent s s.tripOutputs :=
  (forEach_output _ tripOutput_event s).trans (forEach_output _ (tripRemote_event false) _)

theorem clearOutput_event (i : Fin 16) (s : State) : OutputEvent s (s.clearOutput i) := by
  unfold State.clearOutput
  dsimp only
  split <;> exact setOutput_event ..

theorem clearRemote_event (i : Fin 32) (s : State) : OutputEvent s (s.clearRemote i) := by
  unfold State.clearRemote
  dsimp only
  split
  · exact setRemote_event ..
  · exact (setRemote_event ..).trans (requestRemote_event ..).1

theorem clearOutputs_event (s : State) : OutputEvent s s.clearOutputs :=
  (forEach_output _ clearOutput_event s).trans (forEach_output _ clearRemote_event _)

theorem outputWritten_event (w : Bool) (i : Fin 16) (s : State) : OutputEvent s (s.outputWritten w i) := setOutput_event ..

theorem remoteWritten_event (w : Bool) (i : Fin 32) (s : State) : OutputEvent s (s.remoteWritten w i) := by
  unfold State.remoteWritten
  dsimp only
  split
  · exact setRemote_event ..
  · split
    · exact setRemote_event ..
    · split
      · exact (setRemote_event ..).trans (requestRemote_event ..).1
      · split
        · exact (setRemote_event ..).trans (tripRemote_event ..)
        · exact OutputEvent.refl s

theorem startOutputs_event (s : State) : OutputEvent s s.startOutputs := by
  unfold State.startOutputs
  dsimp only
  refine (forEach_output _ ?_ s).trans (forEach_output _ ?_ _)
  · intro i x
    split
    · exact OutputEvent.refl x
    · exact setOutput_event ..
  · intro i x
    split
    · exact OutputEvent.refl x
    · exact (setRemote_event ..).trans (requestRemote_event ..).1

theorem loadOutputs_event (s : State) : OutputEvent s s.loadOutputs := by
  unfold State.loadOutputs
  dsimp only
  refine (forEach_output _ (outputWritten_event false) s).trans (forEach_output _ ?_ _)
  intro i x
  split
  · exact setRemote_event ..
  · split
    · exact (setRemote_event ..).trans (requestRemote_event ..).1
    · exact setRemote_event ..

theorem refreshRemote_event (i : Fin 32) (s : State) :
    OutputEvent s (s.refreshRemote i) ∧ Followed s (s.refreshRemote i) := by
  unfold State.refreshRemote
  dsimp only
  have h := setRemote_event i { s.ost.remotes.get i with timer := (s.remoteConfig i).refresh } s
  have f := setRemote_followed i { s.ost.remotes.get i with timer := (s.remoteConfig i).refresh } s rfl rfl
  have q : ∀ p, OutputEvent s ((s.setRemote i { s.ost.remotes.get i with timer := (s.remoteConfig i).refresh }).requestRemote p i) ∧
      Followed s ((s.setRemote i { s.ost.remotes.get i with timer := (s.remoteConfig i).refresh }).requestRemote p i) :=
    fun p => ⟨h.trans (requestRemote_event ..).1, f.trans (requestRemote_event ..).2⟩
  split
  · exact ⟨OutputEvent.refl s, Followed.refl s⟩
  · split
    · split
      · exact q true
      · split
        · exact q false
        · exact ⟨h, f⟩
    · split
      · exact ⟨h, f⟩
      · exact q false

end Sys2Proof.Machine
end

