-- ==== Sys2Proof/Laws/BlockFrames.lean ====
section
/-! SUPPORT. Frames of the blocks above the Output Stage: lighting, heat, protect, zones, sheets, points. -/

namespace Sys2Proof.Machine
open Sys2Proof

variable {s t u : State}

/-! ### Lighting -/

theorem setLsq_light (s : State) (l : Lsq) : LightEvent s { s with lsq := l } :=
  ⟨Inner.of_eqs ⟨rfl, rfl, rfl, rfl, rfl, rfl, rfl, rfl⟩ rfl rfl, Followed.of_eq rfl, rfl, rfl, rfl, rfl, rfl, rfl⟩

/-- A change of channels that keeps base, effect, step, period and protect behaviour. -/
def ChannelsFollow (f : Fin 32 → ChannelRun → ChannelRun) : Prop :=
  ∀ i r, (f i r).base = r.base ∧ (f i r).effect = r.effect ∧ (f i r).step = r.step ∧ (f i r).period = r.period ∧
    (f i r).taken = r.taken

theorem mapChannels_follow {f : Fin 32 → ChannelRun → ChannelRun} (h : ChannelsFollow f) (s : State) :
    LightsFollow s (s.mapChannels f) := by
  constructor <;> intro i <;> simp [State.mapChannels, h i (s.lsq.channels.get i)]

theorem mapChannels_light (f : Fin 32 → ChannelRun → ChannelRun) (s : State) : LightEvent s (s.mapChannels f) :=
  setLsq_light _ _

theorem setChannel_light (i : Fin 32) (r : ChannelRun) (s : State) : LightEvent s (s.setChannel i r) := setLsq_light _ _

theorem mapChannels_heat {f : Fin 32 → ChannelRun → ChannelRun} (h : ChannelsFollow f) (s : State) :
    HeatEvent s (s.mapChannels f) := (mapChannels_light f s).heat (mapChannels_follow h s)

theorem ChannelRun.aim_kept (b j : Bool) (r : ChannelRun) :
    (r.aim b j).base = r.base ∧ (r.aim b j).effect = r.effect ∧ (r.aim b j).step = r.step ∧
      (r.aim b j).period = r.period ∧ (r.aim b j).taken = r.taken ∧ (r.aim b j).target = r.target := by
  unfold ChannelRun.aim
  split
  · simp
  · split
    · simp
    · split <;> simp

theorem relightSheet_heat (sh : Fin 2) (s : State) : HeatEvent s (s.relightSheet sh) := by
  unfold State.relightSheet
  dsimp only
  refine HeatEvent.trans ?_ (noticeIf_heat ..)
  exact (setLsq_light _ _).heat ⟨fun _ => rfl, fun _ => rfl, fun _ => rfl, fun _ => rfl, fun _ => rfl⟩

/-- A loop of heat events is one. -/
theorem forEach_heat {n : Nat} (f : Fin n → State → State) (h : ∀ i x, HeatEvent x (f i x)) (s : State) :
    HeatEvent s (forEach n f s) :=
  forEach_induct (P := fun x => HeatEvent s x) f s (HeatEvent.refl s) fun i x hx => hx.trans (h i x)

theorem relight_heat (shs : List (Fin 2)) (s : State) : HeatEvent s (s.relight shs) := by
  refine forEach_heat _ ?_ s
  intro i x
  split
  · exact relightSheet_heat ..
  · exact HeatEvent.refl x

theorem setTargets_heat (c : Fin 32 → Bool) (s : State) : HeatEvent s (s.setTargets c) := by
  unfold State.setTargets
  split
  · refine mapChannels_heat ?_ s
    intro i r
    dsimp only
    split <;> simp
  · exact HeatEvent.refl s

theorem aimChannels_heat (j : Bool) (c : Fin 32 → Bool) (s : State) : HeatEvent s (s.aimChannels j c) := by
  refine mapChannels_heat ?_ s
  intro i r
  dsimp only
  split
  · have h := ChannelRun.aim_kept (s.phase == .run) j r
    exact ⟨h.1, h.2.1, h.2.2.1, h.2.2.2.1, h.2.2.2.2.1⟩
  · simp

theorem relightAndAim_heat (j : Bool) (shs : List (Fin 2)) (c : Fin 32 → Bool) (s : State) :
    HeatEvent s (s.relightAndAim j shs c) := by
  unfold State.relightAndAim
  dsimp only
  split
  · exact ((relight_heat ..).trans (setTargets_heat ..)).trans (aimChannels_heat ..)
  · exact (relight_heat ..).trans (setTargets_heat ..)

/-- A heat event whose allocator and sheets stand is a lighting event. -/
theorem HeatEvent.light (h : HeatEvent s t) (h1 : t.hra = s.hra) (h2 : t.shm = s.shm) : LightEvent s t :=
  ⟨h.inner, h.followed, h.ptb, h2, h.cdm, h1, h.pru, h.stc⟩

theorem relightAndAim_light (j : Bool) (shs : List (Fin 2)) (c : Fin 32 → Bool) (s : State) :
    LightEvent s (s.relightAndAim j shs c) := by
  have hn : ∀ (b : Bool) k x v (s : State), (s.noticeIf b k x v).hra = s.hra ∧ (s.noticeIf b k x v).shm = s.shm := by
    intro b k x v s; exact ⟨(noticeIf_event b k x v s).hra, (noticeIf_event b k x v s).shm⟩
  have hr : (s.relight shs).hra = s.hra ∧ (s.relight shs).shm = s.shm := by
    refine forEach_induct (P := fun x => State.hra x = s.hra ∧ State.shm x = s.shm) _ s ⟨rfl, rfl⟩ ?_
    intro i x hx
    split
    · unfold State.relightSheet
      dsimp only
      exact ⟨((hn _ _ _ _ _).1).trans hx.1, ((hn _ _ _ _ _).2).trans hx.2⟩
    · exact hx
  refine (relightAndAim_heat j shs c s).light ?_ ?_ <;>
  · unfold State.relightAndAim State.setTargets
    dsimp only
    split <;> split <;> first | exact hr.1 | exact hr.2

theorem receiveAllowance_heat (j : Bool) (sh : Fin 2) (a : Power) (s : State) : HeatEvent s (s.receiveAllowance j sh a) := by
  unfold State.receiveAllowance
  dsimp only
  refine HeatEvent.trans (HeatEvent.trans ?_ (relightAndAim_heat ..)) (handLevels_heat _)
  exact (setLsq_light _ _).heat ⟨fun _ => rfl, fun _ => rfl, fun _ => rfl, fun _ => rfl, fun _ => rfl⟩

theorem setBase_light (i : Fin 32) (l : Nat) (s : State) : LightEvent s (s.setBase i l) :=
  (((setChannel_light ..).trans (relightAndAim_light ..)).trans (handLevels_light _)).trans (handRemotes_light _)

theorem relight_light (shs : List (Fin 2)) (s : State) : LightEvent s (s.relight shs) := by
  refine forEach_induct (P := fun x => LightEvent s x) _ s (LightEvent.refl s) ?_
  intro i x hx
  split
  · refine hx.trans ?_
    unfold State.relightSheet
    dsimp only
    exact (setLsq_light _ _).trans ((noticeIf_event ..).light (Followed.of_eq (noticeIf_ost ..)))
  · exact hx

theorem setTargets_light (c : Fin 32 → Bool) (s : State) : LightEvent s (s.setTargets c) := by
  unfold State.setTargets
  split
  · exact mapChannels_light ..
  · exact LightEvent.refl s

theorem aimChannels_light (j : Bool) (c : Fin 32 → Bool) (s : State) : LightEvent s (s.aimChannels j c) :=
  mapChannels_light ..

theorem recallLights_light (k : Fin 24) (f : Option Nat) (s : State) : LightEvent s (s.recallLights k f) := by
  unfold State.recallLights
  dsimp only
  exact ((((mapChannels_light ..).trans ((relight_light ..).trans (setTargets_light ..))).trans
    (mapChannels_light ..)).trans (aimChannels_light ..)).trans (handLevels_light _)

theorem recall_light (k : Fin 24) (f : Option Nat) (s : State) : LightEvent s (s.recall k f) :=
  (recallLights_light ..).trans (handRemotes_light _)

theorem takeSample_light (i : Fin 32) (s : State) : LightEvent s (s.takeSample i) := by
  unfold State.takeSample
  dsimp only
  split
  · exact setChannel_light ..
  · exact LightEvent.refl s

theorem startEffect_light (i : Fin 32) (e : Effect) (s : State) : LightEvent s (s.startEffect i e) := by
  unfold State.startEffect
  dsimp only
  refine LightEvent.trans ?_ (handRemotes_light _)
  have h := (setChannel_light i { s.lsq.channels.get i with effect := some e, timer := none } s).trans
    (relightAndAim_light true (s.sheetsOf i) (· == i) _)
  split
  · exact (h.trans (takeSample_light ..)).trans (handLevels_light _)
  · exact h.trans (handLevels_light _)

theorem nextSample_light (i : Fin 32) (s : State) : LightEvent s (s.nextSample i) := by
  unfold State.nextSample
  dsimp only
  split
  · exact (((setChannel_light ..).trans (takeSample_light ..)).trans (handLevels_light _)).trans (handRemotes_light _)
  · exact LightEvent.refl s

theorem channelWritten_light (o : Option (Fin 2)) (i : Fin 32) (s : State) : LightEvent s (s.channelWritten o i) := by
  unfold State.channelWritten
  dsimp only
  split
  · exact (((setChannel_light ..).trans (relightAndAim_light ..)).trans (handLevels_light _)).trans (handRemotes_light _)
  · exact relight_light ..

theorem clearChannels_light (s : State) : LightEvent s s.clearChannels := by
  unfold State.clearChannels
  exact (((mapChannels_light ..).trans (relight_light ..)).trans (setTargets_light ..)).trans (aimChannels_light ..)

theorem startChannels_light (s : State) : LightEvent s s.startChannels := by
  refine ((aimChannels_light true (fun _ => true) s).trans ?_).trans (handLevels_light _)
  exact forEach_induct (P := fun x => LightEvent (s.aimChannels true fun _ => true) x) _ _ (LightEvent.refl _)
    fun i x hx => hx.trans (takeSample_light i x)

theorem loadChannels_light (s : State) : LightEvent s s.loadChannels :=
  (((mapChannels_light ..).trans (relight_light ..)).trans (setTargets_light ..)).trans (aimChannels_light ..)

/-! ### Heat -/

theorem setHra_heat (s : State) (h : Hra) : HeatEvent s { s with hra := h } :=
  ⟨Inner.of_eqs ⟨rfl, rfl, rfl, rfl, rfl, rfl, rfl, rfl⟩ rfl rfl, Followed.of_eq rfl, LightsFollow.of_eq rfl, rfl,
    SheetsKept.of_eq rfl, rfl, rfl, rfl⟩

theorem recompute_heat (c : SinkConfig → Bool) (s : State) : HeatEvent s (s.recompute c) := setHra_heat _ _

theorem recomputeKinds_heat (ks : List SinkKind) (s : State) : HeatEvent s (s.recomputeKinds ks) := recompute_heat ..

theorem takeBudgets_heat (s : State) : HeatEvent s s.takeBudgets := by
  refine ⟨Inner.of_eqs ⟨rfl, rfl, rfl, rfl, rfl, rfl, rfl, rfl⟩ rfl rfl, Followed.of_eq rfl, LightsFollow.of_eq rfl, rfl,
    ?_, rfl, rfl, rfl⟩
  intro sh
  simp [State.takeBudgets]

/-- A loop that queues notices is a heat event. -/
theorem grantNotices_heat (b : Table SinkRun 12) (l : List (Fin 12)) (s : State) :
    HeatEvent s (l.foldl (State.grantNotice b) s) :=
  foldl_induct (P := fun x => HeatEvent s x) _ _ _ (HeatEvent.refl s) fun _ _ hx => hx.trans (noticeIf_heat ..)

theorem passWith_heat (j : Bool) (s : State) : HeatEvent s (s.passWith j) := by
  unfold State.passWith
  dsimp only
  generalize s.allocate = out
  have h1 : HeatEvent s { s.takeBudgets with hra := out.1 } := (takeBudgets_heat s).trans (setHra_heat _ _)
  generalize ({ s.takeBudgets with hra := out.1 } : State) = s1 at h1 ⊢
  have h2 := h1.trans (forEach_heat (fun sh st => State.receiveAllowance j sh (out.1.sheets.get sh).allowance st)
    (fun i x => receiveAllowance_heat j i _ x) s1)
  generalize forEach 2 (fun sh st => State.receiveAllowance j sh (out.1.sheets.get sh).allowance st) s1 = s2 at h2 ⊢
  have h3 := h2.trans (handOn_heat [.sink, .backup] s2)
  generalize s2.handOn [.sink, .backup] = s3 at h3 ⊢
  have h4 := h3.trans (grantNotices_heat s.hra.sinks (out.2 ++ disabledSinks s.cfg.sinks) s3)
  exact h4.trans (noticeIf_heat ..)

theorem pass_heat (s : State) : HeatEvent s s.pass := (passWith_heat true s).trans (handRemotes_heat _)

/-- So many passes one after the other are heat events (R94). -/
theorem passes_heat (j : Bool) (n : Nat) (s : State) : HeatEvent s (s.passes j n) := by
  induction n generalizing s with
  | zero => exact HeatEvent.refl s
  | succ n ih =>
    unfold State.passes
    split
    · exact ((passWith_heat j s).trans (handRemotes_heat _)).trans (ih _)
    · exact ih s

/-- In WAITING no pass runs (R94). -/
theorem passes_waiting (j : Bool) (n : Nat) (s : State) (h : s.phase ≠ .run) : s.passes j n = s := by
  induction n with
  | zero => rfl
  | succ n ih => simp [State.passes, h, ih]

/-- The end of an event is a heat event: its passes and its requests (R94, R144). -/
theorem Triggered.finish_heat (x : Triggered) : HeatEvent x.state x.finish :=
  (passes_heat ..).trans (handRemotes_heat _)

@[simp] theorem Triggered.and_state (x : Triggered) (f : State → Triggered) : (x.and f).state = (f x.state).state := rfl
@[simp] theorem Triggered.and_passes (x : Triggered) (f : State → Triggered) :
    (x.and f).passes = x.passes + (f x.state).passes := rfl
@[simp] theorem Triggered.andThen_state (x : Triggered) (f : State → State) : (x.andThen f).state = f x.state := rfl
@[simp] theorem Triggered.andThen_passes (x : Triggered) (f : State → State) : (x.andThen f).passes = x.passes := rfl
@[simp] theorem Triggered.triggerIf_state (b : Bool) (x : Triggered) : (x.triggerIf b).state = x.state := rfl
@[simp] theorem Triggered.triggerIf_passes (b : Bool) (x : Triggered) : (x.triggerIf b).passes = x.passes + b.toNat := rfl

/-- What every part of an event preserves, the event preserves. -/
theorem forEachTriggered_induct {P : State → Prop} {n : Nat} (f : Fin n → State → Triggered) (s : State) (h0 : P s)
    (hs : ∀ i x, P x → P (f i x).state) : P (forEachTriggered n f s).state :=
  forEach_induct (P := fun x : Triggered => P x.state) _ _ h0 fun i (x : Triggered) hx => hs i x.state hx

theorem passTrigger_heat (s : State) : HeatEvent s s.passTrigger := by
  unfold State.passTrigger
  split
  · exact passWith_heat true s
  · exact HeatEvent.refl s

theorem informTank_heat (sh : Fin 2) (b : Bool) (s : State) : HeatEvent s (s.informTank sh b) :=
  (setHra_heat _ _).trans (recomputeKinds_heat _ _)

theorem setHold_heat (b : Bool) (s : State) : HeatEvent s (s.setHold b) :=
  (setHra_heat _ _).trans (passTrigger_heat _)

/-! ### Protect -/

theorem setPru_protect (p : Pru) (s : State) : ProtectEvent s (s.setPru p) :=
  ⟨Inner.of_eqs ⟨rfl, rfl, rfl, rfl, rfl, rfl, rfl, rfl⟩ rfl rfl, rfl, SheetsKept.of_eq rfl, rfl⟩

theorem setStc_protect (s : State) (c : Stc) : ProtectEvent s { s with stc := c } :=
  ⟨Inner.of_eqs ⟨rfl, rfl, rfl, rfl, rfl, rfl, rfl, rfl⟩ rfl rfl, rfl, SheetsKept.of_eq rfl, rfl⟩

theorem LightEvent.protect (h : LightEvent s t) : ProtectEvent s t := ⟨h.inner, h.ptb, SheetsKept.of_eq h.shm, h.cdm⟩

theorem protectNotice_protect (x : Nat) (s : State) : ProtectEvent s (s.protectNotice x) := (notice_event ..).protect

theorem heldTest_protect (s : State) : ProtectEvent s s.heldTest := by
  unfold State.heldTest
  split
  · exact (setPru_protect ..).trans (protectNotice_protect ..)
  · exact ProtectEvent.refl s

theorem captureAtTrip_protect (ts : List Trigger) (s : State) : ProtectEvent s (s.captureAtTrip ts) := by
  unfold State.captureAtTrip
  split
  · exact ProtectEvent.refl s
  · exact setStc_protect _ _

theorem tripChannels_protect (s : State) : ProtectEvent s s.tripChannels := by
  unfold State.tripChannels
  dsimp only
  refine ProtectEvent.trans ?_ (setPru_protect _ _)
  exact (((mapChannels_light ..).trans (relight_light ..)).trans (mapChannels_light ..)).protect

theorem trip_protect (ts : List Trigger) (s : State) : ProtectEvent s (s.trip ts) := by
  unfold State.trip
  dsimp only
  refine ProtectEvent.trans (ProtectEvent.trans (ProtectEvent.trans (ProtectEvent.trans (ProtectEvent.trans ?_
    (captureAtTrip_protect ..)) (tripChannels_protect _)) (tripOutputs_event _).protect) (setHold_heat ..).protect)
    (heldTest_protect _)
  refine foldl_induct (P := fun x => ProtectEvent s x) _ _ _ (setPru_protect ..) ?_
  intro x t hx
  exact hx.trans (protectNotice_protect ..)

theorem raise_protect (x : Trigger) (s : State) : ProtectEvent s (s.raise x) := by
  unfold State.raise
  split
  · exact ProtectEvent.refl s
  · split
    · exact setPru_protect ..
    · split
      · exact trip_protect ..
      · split
        · exact ProtectEvent.refl s
        · exact (setPru_protect ..).trans (protectNotice_protect ..)

theorem pointsRaised_protect (n : Nat) (s : State) : ProtectEvent s (s.pointsRaised n) := by
  unfold State.pointsRaised
  split
  · exact raise_protect ..
  · exact ProtectEvent.refl s

theorem clearProtect_protect (s : State) : ProtectEvent s s.clearProtect := by
  unfold State.clearProtect
  exact (((((setPru_protect ..).trans (protectNotice_protect ..)).trans (clearChannels_light _).protect).trans
    (clearOutputs_event _).protect).trans (setHold_heat ..).protect).trans (handRemotes_heat _).protect

theorem keySpent_protect (s : State) : ProtectEvent s s.keySpent := (setPru_protect ..).trans (raise_protect ..)

theorem pressCounted_protect (s : State) : ProtectEvent s s.pressCounted := by
  unfold State.pressCounted
  split
  · exact keySpent_protect s
  · exact setPru_protect ..

theorem evaluateProtect_protect (s : State) : ProtectEvent s s.evaluateProtect := by
  unfold State.evaluateProtect
  dsimp only
  have h : ProtectEvent s (if s.activeTriggers.isEmpty then s else s.trip s.activeTriggers) := by
    split
    · exact ProtectEvent.refl s
    · exact trip_protect ..
  generalize (if s.activeTriggers.isEmpty then s else s.trip s.activeTriggers) = s1 at h ⊢
  split
  · exact h.trans (pressCounted_protect _)
  · exact h

/-! ### Zones -/

theorem setCdm_zone (s : State) (t : Table ZoneRun 4) : ZoneEvent s { s with cdm := t } :=
  ⟨Inner.of_eqs ⟨rfl, rfl, rfl, rfl, rfl, rfl, rfl, rfl⟩ rfl rfl, Followed.of_eq rfl, LightsFollow.of_eq rfl, rfl,
    SheetsKept.of_eq rfl, rfl, rfl⟩

theorem putZone_zone (z : Fin 4) (r : ZoneRun) (s : State) : ZoneEvent s (s.putZone z r) :=
  (setCdm_zone _ _).trans (noticeIf_heat ..).zone

theorem handZone_zone (b : Bool) (o : ZoneRun) (z : Fin 4) (s : State) : ZoneEvent s (s.handZone b o z) := by
  unfold State.handZone
  dsimp only
  have h1 : HeatEvent s (if (b || o.state != (s.cdm.get z).state || o.demand != (s.cdm.get z).demand ||
      o.limiting != (s.cdm.get z).limiting) = true then s.recomputeKinds [.regen, .ceiling] else s) := by
    split
    · exact recomputeKinds_heat ..
    · exact HeatEvent.refl s
  split
  · exact (h1.trans (handOn_heat ..)).zone
  · exact h1.zone

theorem replaceZone_zone (b : Bool) (z : Fin 4) (r : ZoneRun) (s : State) : ZoneEvent s (s.replaceZone b z r).state :=
  (putZone_zone ..).trans (handZone_zone ..)

theorem evaluateZone_zone (f : Bool) (z : Fin 4) (s : State) : ZoneEvent s (s.evaluateZone f z).state :=
  replaceZone_zone ..

theorem forEach_zone {n : Nat} (f : Fin n → State → State) (h : ∀ i x, ZoneEvent x (f i x)) (s : State) :
    ZoneEvent s (forEach n f s) :=
  forEach_induct (P := fun x => ZoneEvent s x) f s (ZoneEvent.refl s) fun i x hx => hx.trans (h i x)

theorem forEachTriggered_zone {n : Nat} (f : Fin n → State → Triggered) (h : ∀ i x, ZoneEvent x (f i x).state) (s : State) :
    ZoneEvent s (forEachTriggered n f s).state :=
  forEachTriggered_induct (P := fun x => ZoneEvent s x) f s (ZoneEvent.refl s) fun i x hx => hx.trans (h i x)

theorem informZones_zone (p : Nat) (s : State) : ZoneEvent s (s.informZones p).state := by
  refine forEachTriggered_zone _ ?_ s
  intro i x
  dsimp only
  split
  · exact evaluateZone_zone ..
  · exact ZoneEvent.refl x

theorem informFlood_zone (sh : Fin 2) (b : Bool) (s : State) : ZoneEvent s (s.informFlood sh b).state := by
  refine forEachTriggered_zone _ ?_ s
  intro i x
  dsimp only
  split
  · exact evaluateZone_zone ..
  · exact ZoneEvent.refl x

theorem recomputeDemands_zone (s : State) : ZoneEvent s s.recomputeDemands := by
  refine forEach_zone _ ?_ s
  intro i x
  dsimp only
  split
  · exact (setCdm_zone _ _).trans (handZone_zone ..)
  · exact ZoneEvent.refl x

theorem zoneWritten_zone (c : ZoneConfig) (z : Fin 4) (s : State) : ZoneEvent s (s.zoneWritten c z) :=
  (replaceZone_zone ..).trans (Triggered.finish_heat _).zone

theorem loadZones_zone (c : Configuration) (s : State) : ZoneEvent s (s.loadZones c) :=
  (forEach_zone _ (fun _ _ => putZone_zone ..) s).trans (recomputeKinds_heat _ _).zone

/-! ### Sheets -/

theorem HeatEvent.sheet (h : HeatEvent s t) : SheetEvent s t := h.zone.sheet

theorem SheetEvent.finish {x : Triggered} (h : SheetEvent s x.state) : SheetEvent s x.finish :=
  h.trans (Triggered.finish_heat x).sheet

theorem SheetEvent.and {x : Triggered} {f : State → Triggered} (h : SheetEvent s x.state) (k : SheetEvent x.state (f x.state).state) :
    SheetEvent s (x.and f).state := h.trans k

theorem setSheet_sheet (sh : Fin 2) (r : SheetRun) (s : State) : SheetEvent s (s.setSheet sh r) :=
  ⟨Inner.of_eqs ⟨rfl, rfl, rfl, rfl, rfl, rfl, rfl, rfl⟩ rfl rfl, Followed.of_eq rfl, LightsFollow.of_eq rfl, rfl, rfl, rfl⟩

theorem sheetNotice_heat (o : SheetState) (sh : Fin 2) (s : State) : HeatEvent s (s.sheetNotice o sh) := noticeIf_heat ..

theorem handAlarm_heat (o : SheetState) (sh : Fin 2) (s : State) : HeatEvent s (s.handAlarm o sh) := by
  unfold State.handAlarm
  split
  · exact handOn_heat ..
  · exact HeatEvent.refl s

theorem putSheet_sheet (b : Bool) (sh : Fin 2) (r : SheetRun) (s : State) : SheetEvent s (s.putSheet b sh r).state :=
  ((setSheet_sheet sh r s).trans (sheetNotice_heat (s.shm.get sh).state sh _).sheet).trans
    (handAlarm_heat (s.shm.get sh).state sh _).sheet

theorem evaluateSheet_sheet (sh : Fin 2) (s : State) : SheetEvent s (s.evaluateSheet sh).state := putSheet_sheet ..

theorem evaluateHeave_sheet (sh : Fin 2) (s : State) : SheetEvent s (s.evaluateHeave sh) := by
  unfold State.evaluateHeave
  dsimp only
  split
  · exact SheetEvent.refl s
  · exact (setSheet_sheet ..).trans (recomputeKinds_heat ..).sheet

theorem forEachTriggered_sheet {n : Nat} (f : Fin n → State → Triggered) (h : ∀ i x, SheetEvent x (f i x).state) (s : State) :
    SheetEvent s (forEachTriggered n f s).state :=
  forEachTriggered_induct (P := fun x => SheetEvent s x) f s (SheetEvent.refl s) fun i x hx => hx.trans (h i x)

theorem informSheets_sheet (p : Nat) (s : State) : SheetEvent s (s.informSheets p).state := by
  refine forEachTriggered_sheet _ ?_ s
  intro sh x
  dsimp only
  have h : SheetEvent x (if ((x.cfg.sheets.get sh).surfaces.contains p || (x.cfg.sheets.get sh).brine == some p) = true
      then x.evaluateSheet sh else ⟨x, 0⟩).state := by
    split
    · exact evaluateSheet_sheet ..
    · exact SheetEvent.refl x
  split
  · exact h.trans (evaluateHeave_sheet ..)
  · exact h

theorem setTank_sheet (sh : Fin 2) (n : Nat) (s : State) : SheetEvent s (s.setTank sh n) := by
  unfold State.setTank
  dsimp only
  split
  · exact setSheet_sheet ..
  · exact (setSheet_sheet ..).trans (informTank_heat ..).sheet

theorem resurface_sheet {sh : Fin 2} (h : s.resurface sh = some t) : SheetEvent s t := by
  unfold State.resurface at h
  dsimp only at h
  have key : ∀ (r : SheetRun) n, SheetEvent s (((s.setSheet sh r).setTank sh n).informFlood sh true).finish := fun r n =>
    (((setSheet_sheet ..).trans (setTank_sheet ..)).trans (informFlood_zone ..).sheet).finish
  split at h
  · cases h; exact (key ..).trans (sheetNotice_heat ..).sheet
  · cases h; exact (key ..).trans (sheetNotice_heat ..).sheet
  · cases h; exact (setSheet_sheet ..).trans (setTank_sheet ..)
  · cases h

theorem endResurface_sheet (sh : Fin 2) (s : State) : SheetEvent s (s.endResurface sh) := by
  unfold State.endResurface
  exact SheetEvent.finish (SheetEvent.and (informFlood_zone sh false s).sheet (putSheet_sheet true sh _ _))

theorem coverOn_sheet {sh : Fin 2} (h : s.coverOn sh = some t) : SheetEvent s t := by
  unfold State.coverOn at h
  dsimp only at h
  have key : ∀ (r : SheetRun) o, SheetEvent s ((Triggered.finish ⟨(s.setSheet sh r).handAlarm o sh, 1⟩).sheetNotice o sh) :=
    fun r o => (SheetEvent.finish (x := ⟨_, 1⟩) ((setSheet_sheet ..).trans (handAlarm_heat ..).sheet)).trans (sheetNotice_heat ..).sheet
  split at h <;> cases h
  all_goals first | exact key .. | exact SheetEvent.refl s

theorem coverOff_sheet {sh : Fin 2} (h : s.coverOff sh = some t) : SheetEvent s t := by
  unfold State.coverOff at h
  dsimp only at h
  split at h
  · cases h
    have h1 := (setSheet_sheet sh (s.freshSheet sh) s).trans (handAlarm_heat (s.shm.get sh).state sh _).sheet
    exact (SheetEvent.finish (x := Triggered.triggerIf _ ⟨_, 1⟩) h1).trans (sheetNotice_heat ..).sheet
  · cases h

theorem expireTank_sheet (sh : Fin 2) (s : State) : SheetEvent s (s.expireTank sh) := by
  unfold State.expireTank
  split
  · exact SheetEvent.refl s
  · exact setTank_sheet ..

theorem expireHold_sheet (sh : Fin 2) (s : State) : SheetEvent s (s.expireHold sh) := by
  unfold State.expireHold
  dsimp only
  split
  · exact endResurface_sheet ..
  · exact SheetEvent.refl s

/-! ### What every event inside the part leaves alone -/

theorem recheckTrigger_inner (sh : Fin 2) (s : State) : Inner s (s.recheckTrigger sh) ∧ (s.recheckTrigger sh).ptb = s.ptb := by
  unfold State.recheckTrigger
  dsimp only
  have h := setSheet_sheet sh { s.shm.get sh with trigger := (s.shm.get sh).state == .critical &&
    (s.cfg.sheets.get sh).criticalHold != 0 && decide ((s.cfg.sheets.get sh).criticalHold ≤ (s.shm.get sh).criticalTime) } s
  split
  · exact ⟨h.inner.trans (raise_protect ..).inner, (raise_protect ..).ptb.trans h.ptb⟩
  · exact ⟨h.inner, h.ptb⟩

theorem sheetWritten_inner (sh : Fin 2) (s : State) : Inner s (s.sheetWritten sh) ∧ (s.sheetWritten sh).ptb = s.ptb := by
  unfold State.sheetWritten
  dsimp only
  have h1 := putSheet_sheet false sh (s.rewrittenSheet sh) s
  generalize s.putSheet false sh (s.rewrittenSheet sh) = x at h1 ⊢
  have h2 : SheetEvent s (if ((s.rewrittenSheet sh).state == .off && (s.shm.get sh).state == .resurface) = true then
      x.and (State.informFlood sh false) else x).state := by
    split
    · exact h1.trans (informFlood_zone ..).sheet
    · exact h1
  generalize (if ((s.rewrittenSheet sh).state == .off && (s.shm.get sh).state == .resurface) = true then
      x.and (State.informFlood sh false) else x) = y at h2 ⊢
  have h3 := h2.trans (Triggered.finish_heat (y.triggerIf ((s.rewrittenSheet sh).state == .off &&
    (s.shm.get sh).state == .covered))).sheet
  generalize (y.triggerIf ((s.rewrittenSheet sh).state == .off && (s.shm.get sh).state == .covered)).finish = s3 at h3 ⊢
  have h4 := recheckTrigger_inner sh s3
  have h5 := evaluateHeave_sheet sh (s3.recheckTrigger sh)
  exact ⟨(h3.inner.trans h4.1).trans h5.inner, (h5.ptb.trans h4.2).trans h3.ptb⟩

theorem expireCritical_protect (sh : Fin 2) (s : State) :
    Inner s (s.expireCritical sh) ∧ (s.expireCritical sh).ptb = s.ptb ∧ (s.expireCritical sh).cdm = s.cdm := by
  unfold State.expireCritical
  dsimp only
  split
  · have h := setSheet_sheet sh { s.shm.get sh with criticalTime := (s.cfg.sheets.get sh).criticalHold, trigger := true } s
    have k := raise_protect (sheetTrigger sh) (s.setSheet sh { s.shm.get sh with
      criticalTime := (s.cfg.sheets.get sh).criticalHold, trigger := true })
    exact ⟨h.inner.trans k.inner, k.ptb.trans h.ptb, k.cdm⟩
  · exact ⟨Inner.refl s, rfl, rfl⟩

/-! ### Points -/

theorem informSinks_heat (p : Nat) (s : State) : HeatEvent s (s.informSinks p) := recompute_heat ..

theorem informPoint_sheet (p : Fin 64) (s : State) : SheetEvent s (s.informPoint p).state :=
  ((informSheets_sheet p.val s).and (informZones_zone ..).sheet).trans (informSinks_heat ..).sheet

theorem setPtb_inner (s : State) (p : Ptb) : Inner s { s with ptb := p } :=
  Inner.of_eqs ⟨rfl, rfl, rfl, rfl, rfl, rfl, rfl, rfl⟩ rfl rfl

theorem pointNotices_output (o : PointRun) (i : Fin 64) (s : State) : OutputEvent s (s.pointNotices o i) :=
  (noticeIf_event ..).trans (noticeIf_event ..)

/-- Completing a point's event changes, of the point table, that point's record only. -/
theorem completePoint_inner (n : Nat) (b : Bool) (i : Fin 64) (r : PointRun) (s : State) :
    Inner s (s.completePoint n b i r) ∧ (s.completePoint n b i r).ptb = { s.ptb with points := s.ptb.points.set i r } := by
  unfold State.completePoint
  dsimp only
  have h0 : Inner s (s.setPoint i r) := setPtb_inner _ _
  have h1 := (pointNotices_output (s.ptb.points.get i) i (s.setPoint i r))
  have h2 := pointsRaised_protect n ((s.setPoint i r).pointNotices (s.ptb.points.get i) i)
  have e2 : (((s.setPoint i r).pointNotices (s.ptb.points.get i) i).pointsRaised n).ptb =
      { s.ptb with points := s.ptb.points.set i r } := h2.ptb.trans h1.ptb
  have i2 := (h0.trans h1.inner).trans h2.inner
  split
  · have h3 := (informPoint_sheet i (((s.setPoint i r).pointNotices (s.ptb.points.get i) i).pointsRaised n)).finish
    exact ⟨i2.trans h3.inner, h3.ptb.trans e2⟩
  · exact ⟨i2, e2⟩

theorem updatePoint_inner (i : Fin 64) (v : Int) (s : State) :
    Inner s (s.updatePoint i v) ∧
      (s.updatePoint i v).ptb = { s.ptb with points := s.ptb.points.set i ((s.ptb.points.get i).update (s.cfg.points.get i) v) } :=
  completePoint_inner ..

end Sys2Proof.Machine
end

