-- ==== Sys2Proof/Laws/State.lean ====
section
/-! SUPPORT. What each named update of the state does to each field, each true by `rfl`. -/

namespace Sys2Proof.Machine
open Sys2Proof

variable (s : State)

/-! ### setCfg -/

@[simp] theorem State.setCfg_cfg (c : Configuration) : (s.setCfg c).cfg = c := rfl
@[simp] theorem State.setCfg_pending (c : Configuration) : (s.setCfg c).pending = s.pending := rfl
@[simp] theorem State.setCfg_choices (c : Configuration) : (s.setCfg c).choices = s.choices := rfl
@[simp] theorem State.setCfg_ms (c : Configuration) : (s.setCfg c).ms = s.ms := rfl
@[simp] theorem State.setCfg_phase (c : Configuration) : (s.setCfg c).phase = s.phase := rfl
@[simp] theorem State.setCfg_strap (c : Configuration) : (s.setCfg c).strap = s.strap := rfl
@[simp] theorem State.setCfg_pins (c : Configuration) : (s.setCfg c).pins = s.pins := rfl
@[simp] theorem State.setCfg_lnk (c : Configuration) : (s.setCfg c).lnk = s.lnk := rfl
@[simp] theorem State.setCfg_fbc (c : Configuration) : (s.setCfg c).fbc = s.fbc := rfl
@[simp] theorem State.setCfg_ptb (c : Configuration) : (s.setCfg c).ptb = s.ptb := rfl
@[simp] theorem State.setCfg_shm (c : Configuration) : (s.setCfg c).shm = s.shm := rfl
@[simp] theorem State.setCfg_cdm (c : Configuration) : (s.setCfg c).cdm = s.cdm := rfl
@[simp] theorem State.setCfg_hra (c : Configuration) : (s.setCfg c).hra = s.hra := rfl
@[simp] theorem State.setCfg_lsq (c : Configuration) : (s.setCfg c).lsq = s.lsq := rfl
@[simp] theorem State.setCfg_ost (c : Configuration) : (s.setCfg c).ost = s.ost := rfl
@[simp] theorem State.setCfg_scu (c : Configuration) : (s.setCfg c).scu = s.scu := rfl
@[simp] theorem State.setCfg_pru (c : Configuration) : (s.setCfg c).pru = s.pru := rfl
@[simp] theorem State.setCfg_stc (c : Configuration) : (s.setCfg c).stc = s.stc := rfl

/-! ### setScu -/

@[simp] theorem State.setScu_scu (x : Scu) : (s.setScu x).scu = x := rfl
@[simp] theorem State.setScu_pending (x : Scu) : (s.setScu x).pending = s.pending := rfl
@[simp] theorem State.setScu_choices (x : Scu) : (s.setScu x).choices = s.choices := rfl
@[simp] theorem State.setScu_ms (x : Scu) : (s.setScu x).ms = s.ms := rfl
@[simp] theorem State.setScu_phase (x : Scu) : (s.setScu x).phase = s.phase := rfl
@[simp] theorem State.setScu_strap (x : Scu) : (s.setScu x).strap = s.strap := rfl
@[simp] theorem State.setScu_pins (x : Scu) : (s.setScu x).pins = s.pins := rfl
@[simp] theorem State.setScu_cfg (x : Scu) : (s.setScu x).cfg = s.cfg := rfl
@[simp] theorem State.setScu_lnk (x : Scu) : (s.setScu x).lnk = s.lnk := rfl
@[simp] theorem State.setScu_fbc (x : Scu) : (s.setScu x).fbc = s.fbc := rfl
@[simp] theorem State.setScu_ptb (x : Scu) : (s.setScu x).ptb = s.ptb := rfl
@[simp] theorem State.setScu_shm (x : Scu) : (s.setScu x).shm = s.shm := rfl
@[simp] theorem State.setScu_cdm (x : Scu) : (s.setScu x).cdm = s.cdm := rfl
@[simp] theorem State.setScu_hra (x : Scu) : (s.setScu x).hra = s.hra := rfl
@[simp] theorem State.setScu_lsq (x : Scu) : (s.setScu x).lsq = s.lsq := rfl
@[simp] theorem State.setScu_ost (x : Scu) : (s.setScu x).ost = s.ost := rfl
@[simp] theorem State.setScu_pru (x : Scu) : (s.setScu x).pru = s.pru := rfl
@[simp] theorem State.setScu_stc (x : Scu) : (s.setScu x).stc = s.stc := rfl

/-! ### setPru -/

@[simp] theorem State.setPru_pru (p : Pru) : (s.setPru p).pru = p := rfl
@[simp] theorem State.setPru_pending (p : Pru) : (s.setPru p).pending = s.pending := rfl
@[simp] theorem State.setPru_choices (p : Pru) : (s.setPru p).choices = s.choices := rfl
@[simp] theorem State.setPru_ms (p : Pru) : (s.setPru p).ms = s.ms := rfl
@[simp] theorem State.setPru_phase (p : Pru) : (s.setPru p).phase = s.phase := rfl
@[simp] theorem State.setPru_strap (p : Pru) : (s.setPru p).strap = s.strap := rfl
@[simp] theorem State.setPru_pins (p : Pru) : (s.setPru p).pins = s.pins := rfl
@[simp] theorem State.setPru_cfg (p : Pru) : (s.setPru p).cfg = s.cfg := rfl
@[simp] theorem State.setPru_lnk (p : Pru) : (s.setPru p).lnk = s.lnk := rfl
@[simp] theorem State.setPru_fbc (p : Pru) : (s.setPru p).fbc = s.fbc := rfl
@[simp] theorem State.setPru_ptb (p : Pru) : (s.setPru p).ptb = s.ptb := rfl
@[simp] theorem State.setPru_shm (p : Pru) : (s.setPru p).shm = s.shm := rfl
@[simp] theorem State.setPru_cdm (p : Pru) : (s.setPru p).cdm = s.cdm := rfl
@[simp] theorem State.setPru_hra (p : Pru) : (s.setPru p).hra = s.hra := rfl
@[simp] theorem State.setPru_lsq (p : Pru) : (s.setPru p).lsq = s.lsq := rfl
@[simp] theorem State.setPru_ost (p : Pru) : (s.setPru p).ost = s.ost := rfl
@[simp] theorem State.setPru_scu (p : Pru) : (s.setPru p).scu = s.scu := rfl
@[simp] theorem State.setPru_stc (p : Pru) : (s.setPru p).stc = s.stc := rfl

/-! ### setStc -/

@[simp] theorem State.setStc_stc (c : Stc) : (s.setStc c).stc = c := rfl
@[simp] theorem State.setStc_pending (c : Stc) : (s.setStc c).pending = s.pending := rfl
@[simp] theorem State.setStc_choices (c : Stc) : (s.setStc c).choices = s.choices := rfl
@[simp] theorem State.setStc_ms (c : Stc) : (s.setStc c).ms = s.ms := rfl
@[simp] theorem State.setStc_phase (c : Stc) : (s.setStc c).phase = s.phase := rfl
@[simp] theorem State.setStc_strap (c : Stc) : (s.setStc c).strap = s.strap := rfl
@[simp] theorem State.setStc_pins (c : Stc) : (s.setStc c).pins = s.pins := rfl
@[simp] theorem State.setStc_cfg (c : Stc) : (s.setStc c).cfg = s.cfg := rfl
@[simp] theorem State.setStc_lnk (c : Stc) : (s.setStc c).lnk = s.lnk := rfl
@[simp] theorem State.setStc_fbc (c : Stc) : (s.setStc c).fbc = s.fbc := rfl
@[simp] theorem State.setStc_ptb (c : Stc) : (s.setStc c).ptb = s.ptb := rfl
@[simp] theorem State.setStc_shm (c : Stc) : (s.setStc c).shm = s.shm := rfl
@[simp] theorem State.setStc_cdm (c : Stc) : (s.setStc c).cdm = s.cdm := rfl
@[simp] theorem State.setStc_hra (c : Stc) : (s.setStc c).hra = s.hra := rfl
@[simp] theorem State.setStc_lsq (c : Stc) : (s.setStc c).lsq = s.lsq := rfl
@[simp] theorem State.setStc_ost (c : Stc) : (s.setStc c).ost = s.ost := rfl
@[simp] theorem State.setStc_scu (c : Stc) : (s.setStc c).scu = s.scu := rfl
@[simp] theorem State.setStc_pru (c : Stc) : (s.setStc c).pru = s.pru := rfl

/-! ### setPoint -/

@[simp] theorem State.setPoint_ptb (i : Fin 64) (r : PointRun) : (s.setPoint i r).ptb = { s.ptb with points := s.ptb.points.set i r } := rfl
@[simp] theorem State.setPoint_pending (i : Fin 64) (r : PointRun) : (s.setPoint i r).pending = s.pending := rfl
@[simp] theorem State.setPoint_choices (i : Fin 64) (r : PointRun) : (s.setPoint i r).choices = s.choices := rfl
@[simp] theorem State.setPoint_ms (i : Fin 64) (r : PointRun) : (s.setPoint i r).ms = s.ms := rfl
@[simp] theorem State.setPoint_phase (i : Fin 64) (r : PointRun) : (s.setPoint i r).phase = s.phase := rfl
@[simp] theorem State.setPoint_strap (i : Fin 64) (r : PointRun) : (s.setPoint i r).strap = s.strap := rfl
@[simp] theorem State.setPoint_pins (i : Fin 64) (r : PointRun) : (s.setPoint i r).pins = s.pins := rfl
@[simp] theorem State.setPoint_cfg (i : Fin 64) (r : PointRun) : (s.setPoint i r).cfg = s.cfg := rfl
@[simp] theorem State.setPoint_lnk (i : Fin 64) (r : PointRun) : (s.setPoint i r).lnk = s.lnk := rfl
@[simp] theorem State.setPoint_fbc (i : Fin 64) (r : PointRun) : (s.setPoint i r).fbc = s.fbc := rfl
@[simp] theorem State.setPoint_shm (i : Fin 64) (r : PointRun) : (s.setPoint i r).shm = s.shm := rfl
@[simp] theorem State.setPoint_cdm (i : Fin 64) (r : PointRun) : (s.setPoint i r).cdm = s.cdm := rfl
@[simp] theorem State.setPoint_hra (i : Fin 64) (r : PointRun) : (s.setPoint i r).hra = s.hra := rfl
@[simp] theorem State.setPoint_lsq (i : Fin 64) (r : PointRun) : (s.setPoint i r).lsq = s.lsq := rfl
@[simp] theorem State.setPoint_ost (i : Fin 64) (r : PointRun) : (s.setPoint i r).ost = s.ost := rfl
@[simp] theorem State.setPoint_scu (i : Fin 64) (r : PointRun) : (s.setPoint i r).scu = s.scu := rfl
@[simp] theorem State.setPoint_pru (i : Fin 64) (r : PointRun) : (s.setPoint i r).pru = s.pru := rfl
@[simp] theorem State.setPoint_stc (i : Fin 64) (r : PointRun) : (s.setPoint i r).stc = s.stc := rfl

/-! ### setSheet -/

@[simp] theorem State.setSheet_shm (sh : Fin 2) (r : SheetRun) : (s.setSheet sh r).shm = s.shm.set sh r := rfl
@[simp] theorem State.setSheet_pending (sh : Fin 2) (r : SheetRun) : (s.setSheet sh r).pending = s.pending := rfl
@[simp] theorem State.setSheet_choices (sh : Fin 2) (r : SheetRun) : (s.setSheet sh r).choices = s.choices := rfl
@[simp] theorem State.setSheet_ms (sh : Fin 2) (r : SheetRun) : (s.setSheet sh r).ms = s.ms := rfl
@[simp] theorem State.setSheet_phase (sh : Fin 2) (r : SheetRun) : (s.setSheet sh r).phase = s.phase := rfl
@[simp] theorem State.setSheet_strap (sh : Fin 2) (r : SheetRun) : (s.setSheet sh r).strap = s.strap := rfl
@[simp] theorem State.setSheet_pins (sh : Fin 2) (r : SheetRun) : (s.setSheet sh r).pins = s.pins := rfl
@[simp] theorem State.setSheet_cfg (sh : Fin 2) (r : SheetRun) : (s.setSheet sh r).cfg = s.cfg := rfl
@[simp] theorem State.setSheet_lnk (sh : Fin 2) (r : SheetRun) : (s.setSheet sh r).lnk = s.lnk := rfl
@[simp] theorem State.setSheet_fbc (sh : Fin 2) (r : SheetRun) : (s.setSheet sh r).fbc = s.fbc := rfl
@[simp] theorem State.setSheet_ptb (sh : Fin 2) (r : SheetRun) : (s.setSheet sh r).ptb = s.ptb := rfl
@[simp] theorem State.setSheet_cdm (sh : Fin 2) (r : SheetRun) : (s.setSheet sh r).cdm = s.cdm := rfl
@[simp] theorem State.setSheet_hra (sh : Fin 2) (r : SheetRun) : (s.setSheet sh r).hra = s.hra := rfl
@[simp] theorem State.setSheet_lsq (sh : Fin 2) (r : SheetRun) : (s.setSheet sh r).lsq = s.lsq := rfl
@[simp] theorem State.setSheet_ost (sh : Fin 2) (r : SheetRun) : (s.setSheet sh r).ost = s.ost := rfl
@[simp] theorem State.setSheet_scu (sh : Fin 2) (r : SheetRun) : (s.setSheet sh r).scu = s.scu := rfl
@[simp] theorem State.setSheet_pru (sh : Fin 2) (r : SheetRun) : (s.setSheet sh r).pru = s.pru := rfl
@[simp] theorem State.setSheet_stc (sh : Fin 2) (r : SheetRun) : (s.setSheet sh r).stc = s.stc := rfl

/-! ### setSinks -/

@[simp] theorem State.setSinks_hra (t : Table SinkRun 12) : (s.setSinks t).hra = { s.hra with sinks := t } := rfl
@[simp] theorem State.setSinks_pending (t : Table SinkRun 12) : (s.setSinks t).pending = s.pending := rfl
@[simp] theorem State.setSinks_choices (t : Table SinkRun 12) : (s.setSinks t).choices = s.choices := rfl
@[simp] theorem State.setSinks_ms (t : Table SinkRun 12) : (s.setSinks t).ms = s.ms := rfl
@[simp] theorem State.setSinks_phase (t : Table SinkRun 12) : (s.setSinks t).phase = s.phase := rfl
@[simp] theorem State.setSinks_strap (t : Table SinkRun 12) : (s.setSinks t).strap = s.strap := rfl
@[simp] theorem State.setSinks_pins (t : Table SinkRun 12) : (s.setSinks t).pins = s.pins := rfl
@[simp] theorem State.setSinks_cfg (t : Table SinkRun 12) : (s.setSinks t).cfg = s.cfg := rfl
@[simp] theorem State.setSinks_lnk (t : Table SinkRun 12) : (s.setSinks t).lnk = s.lnk := rfl
@[simp] theorem State.setSinks_fbc (t : Table SinkRun 12) : (s.setSinks t).fbc = s.fbc := rfl
@[simp] theorem State.setSinks_ptb (t : Table SinkRun 12) : (s.setSinks t).ptb = s.ptb := rfl
@[simp] theorem State.setSinks_shm (t : Table SinkRun 12) : (s.setSinks t).shm = s.shm := rfl
@[simp] theorem State.setSinks_cdm (t : Table SinkRun 12) : (s.setSinks t).cdm = s.cdm := rfl
@[simp] theorem State.setSinks_lsq (t : Table SinkRun 12) : (s.setSinks t).lsq = s.lsq := rfl
@[simp] theorem State.setSinks_ost (t : Table SinkRun 12) : (s.setSinks t).ost = s.ost := rfl
@[simp] theorem State.setSinks_scu (t : Table SinkRun 12) : (s.setSinks t).scu = s.scu := rfl
@[simp] theorem State.setSinks_pru (t : Table SinkRun 12) : (s.setSinks t).pru = s.pru := rfl
@[simp] theorem State.setSinks_stc (t : Table SinkRun 12) : (s.setSinks t).stc = s.stc := rfl

/-! ### setChannel -/

@[simp] theorem State.setChannel_lsq (i : Fin 32) (r : ChannelRun) : (s.setChannel i r).lsq = { s.lsq with channels := s.lsq.channels.set i r } := rfl
@[simp] theorem State.setChannel_pending (i : Fin 32) (r : ChannelRun) : (s.setChannel i r).pending = s.pending := rfl
@[simp] theorem State.setChannel_choices (i : Fin 32) (r : ChannelRun) : (s.setChannel i r).choices = s.choices := rfl
@[simp] theorem State.setChannel_ms (i : Fin 32) (r : ChannelRun) : (s.setChannel i r).ms = s.ms := rfl
@[simp] theorem State.setChannel_phase (i : Fin 32) (r : ChannelRun) : (s.setChannel i r).phase = s.phase := rfl
@[simp] theorem State.setChannel_strap (i : Fin 32) (r : ChannelRun) : (s.setChannel i r).strap = s.strap := rfl
@[simp] theorem State.setChannel_pins (i : Fin 32) (r : ChannelRun) : (s.setChannel i r).pins = s.pins := rfl
@[simp] theorem State.setChannel_cfg (i : Fin 32) (r : ChannelRun) : (s.setChannel i r).cfg = s.cfg := rfl
@[simp] theorem State.setChannel_lnk (i : Fin 32) (r : ChannelRun) : (s.setChannel i r).lnk = s.lnk := rfl
@[simp] theorem State.setChannel_fbc (i : Fin 32) (r : ChannelRun) : (s.setChannel i r).fbc = s.fbc := rfl
@[simp] theorem State.setChannel_ptb (i : Fin 32) (r : ChannelRun) : (s.setChannel i r).ptb = s.ptb := rfl
@[simp] theorem State.setChannel_shm (i : Fin 32) (r : ChannelRun) : (s.setChannel i r).shm = s.shm := rfl
@[simp] theorem State.setChannel_cdm (i : Fin 32) (r : ChannelRun) : (s.setChannel i r).cdm = s.cdm := rfl
@[simp] theorem State.setChannel_hra (i : Fin 32) (r : ChannelRun) : (s.setChannel i r).hra = s.hra := rfl
@[simp] theorem State.setChannel_ost (i : Fin 32) (r : ChannelRun) : (s.setChannel i r).ost = s.ost := rfl
@[simp] theorem State.setChannel_scu (i : Fin 32) (r : ChannelRun) : (s.setChannel i r).scu = s.scu := rfl
@[simp] theorem State.setChannel_pru (i : Fin 32) (r : ChannelRun) : (s.setChannel i r).pru = s.pru := rfl
@[simp] theorem State.setChannel_stc (i : Fin 32) (r : ChannelRun) : (s.setChannel i r).stc = s.stc := rfl

/-! ### mapChannels -/

@[simp] theorem State.mapChannels_lsq (f : Fin 32 → ChannelRun → ChannelRun) : (s.mapChannels f).lsq = { s.lsq with channels := s.lsq.channels.mapIdx f } := rfl
@[simp] theorem State.mapChannels_pending (f : Fin 32 → ChannelRun → ChannelRun) : (s.mapChannels f).pending = s.pending := rfl
@[simp] theorem State.mapChannels_choices (f : Fin 32 → ChannelRun → ChannelRun) : (s.mapChannels f).choices = s.choices := rfl
@[simp] theorem State.mapChannels_ms (f : Fin 32 → ChannelRun → ChannelRun) : (s.mapChannels f).ms = s.ms := rfl
@[simp] theorem State.mapChannels_phase (f : Fin 32 → ChannelRun → ChannelRun) : (s.mapChannels f).phase = s.phase := rfl
@[simp] theorem State.mapChannels_strap (f : Fin 32 → ChannelRun → ChannelRun) : (s.mapChannels f).strap = s.strap := rfl
@[simp] theorem State.mapChannels_pins (f : Fin 32 → ChannelRun → ChannelRun) : (s.mapChannels f).pins = s.pins := rfl
@[simp] theorem State.mapChannels_cfg (f : Fin 32 → ChannelRun → ChannelRun) : (s.mapChannels f).cfg = s.cfg := rfl
@[simp] theorem State.mapChannels_lnk (f : Fin 32 → ChannelRun → ChannelRun) : (s.mapChannels f).lnk = s.lnk := rfl
@[simp] theorem State.mapChannels_fbc (f : Fin 32 → ChannelRun → ChannelRun) : (s.mapChannels f).fbc = s.fbc := rfl
@[simp] theorem State.mapChannels_ptb (f : Fin 32 → ChannelRun → ChannelRun) : (s.mapChannels f).ptb = s.ptb := rfl
@[simp] theorem State.mapChannels_shm (f : Fin 32 → ChannelRun → ChannelRun) : (s.mapChannels f).shm = s.shm := rfl
@[simp] theorem State.mapChannels_cdm (f : Fin 32 → ChannelRun → ChannelRun) : (s.mapChannels f).cdm = s.cdm := rfl
@[simp] theorem State.mapChannels_hra (f : Fin 32 → ChannelRun → ChannelRun) : (s.mapChannels f).hra = s.hra := rfl
@[simp] theorem State.mapChannels_ost (f : Fin 32 → ChannelRun → ChannelRun) : (s.mapChannels f).ost = s.ost := rfl
@[simp] theorem State.mapChannels_scu (f : Fin 32 → ChannelRun → ChannelRun) : (s.mapChannels f).scu = s.scu := rfl
@[simp] theorem State.mapChannels_pru (f : Fin 32 → ChannelRun → ChannelRun) : (s.mapChannels f).pru = s.pru := rfl
@[simp] theorem State.mapChannels_stc (f : Fin 32 → ChannelRun → ChannelRun) : (s.mapChannels f).stc = s.stc := rfl

/-! ### setOutput -/

@[simp] theorem State.setOutput_ost (i : Fin 16) (o : OutputRun) : (s.setOutput i o).ost = { s.ost with outputs := s.ost.outputs.set i o } := rfl
@[simp] theorem State.setOutput_pending (i : Fin 16) (o : OutputRun) : (s.setOutput i o).pending = s.pending := rfl
@[simp] theorem State.setOutput_choices (i : Fin 16) (o : OutputRun) : (s.setOutput i o).choices = s.choices := rfl
@[simp] theorem State.setOutput_ms (i : Fin 16) (o : OutputRun) : (s.setOutput i o).ms = s.ms := rfl
@[simp] theorem State.setOutput_phase (i : Fin 16) (o : OutputRun) : (s.setOutput i o).phase = s.phase := rfl
@[simp] theorem State.setOutput_strap (i : Fin 16) (o : OutputRun) : (s.setOutput i o).strap = s.strap := rfl
@[simp] theorem State.setOutput_pins (i : Fin 16) (o : OutputRun) : (s.setOutput i o).pins = s.pins := rfl
@[simp] theorem State.setOutput_cfg (i : Fin 16) (o : OutputRun) : (s.setOutput i o).cfg = s.cfg := rfl
@[simp] theorem State.setOutput_lnk (i : Fin 16) (o : OutputRun) : (s.setOutput i o).lnk = s.lnk := rfl
@[simp] theorem State.setOutput_fbc (i : Fin 16) (o : OutputRun) : (s.setOutput i o).fbc = s.fbc := rfl
@[simp] theorem State.setOutput_ptb (i : Fin 16) (o : OutputRun) : (s.setOutput i o).ptb = s.ptb := rfl
@[simp] theorem State.setOutput_shm (i : Fin 16) (o : OutputRun) : (s.setOutput i o).shm = s.shm := rfl
@[simp] theorem State.setOutput_cdm (i : Fin 16) (o : OutputRun) : (s.setOutput i o).cdm = s.cdm := rfl
@[simp] theorem State.setOutput_hra (i : Fin 16) (o : OutputRun) : (s.setOutput i o).hra = s.hra := rfl
@[simp] theorem State.setOutput_lsq (i : Fin 16) (o : OutputRun) : (s.setOutput i o).lsq = s.lsq := rfl
@[simp] theorem State.setOutput_scu (i : Fin 16) (o : OutputRun) : (s.setOutput i o).scu = s.scu := rfl
@[simp] theorem State.setOutput_pru (i : Fin 16) (o : OutputRun) : (s.setOutput i o).pru = s.pru := rfl
@[simp] theorem State.setOutput_stc (i : Fin 16) (o : OutputRun) : (s.setOutput i o).stc = s.stc := rfl

/-! ### setRemote -/

@[simp] theorem State.setRemote_ost (i : Fin 32) (r : RemoteRun) : (s.setRemote i r).ost = { s.ost with remotes := s.ost.remotes.set i r } := rfl
@[simp] theorem State.setRemote_pending (i : Fin 32) (r : RemoteRun) : (s.setRemote i r).pending = s.pending := rfl
@[simp] theorem State.setRemote_choices (i : Fin 32) (r : RemoteRun) : (s.setRemote i r).choices = s.choices := rfl
@[simp] theorem State.setRemote_ms (i : Fin 32) (r : RemoteRun) : (s.setRemote i r).ms = s.ms := rfl
@[simp] theorem State.setRemote_phase (i : Fin 32) (r : RemoteRun) : (s.setRemote i r).phase = s.phase := rfl
@[simp] theorem State.setRemote_strap (i : Fin 32) (r : RemoteRun) : (s.setRemote i r).strap = s.strap := rfl
@[simp] theorem State.setRemote_pins (i : Fin 32) (r : RemoteRun) : (s.setRemote i r).pins = s.pins := rfl
@[simp] theorem State.setRemote_cfg (i : Fin 32) (r : RemoteRun) : (s.setRemote i r).cfg = s.cfg := rfl
@[simp] theorem State.setRemote_lnk (i : Fin 32) (r : RemoteRun) : (s.setRemote i r).lnk = s.lnk := rfl
@[simp] theorem State.setRemote_fbc (i : Fin 32) (r : RemoteRun) : (s.setRemote i r).fbc = s.fbc := rfl
@[simp] theorem State.setRemote_ptb (i : Fin 32) (r : RemoteRun) : (s.setRemote i r).ptb = s.ptb := rfl
@[simp] theorem State.setRemote_shm (i : Fin 32) (r : RemoteRun) : (s.setRemote i r).shm = s.shm := rfl
@[simp] theorem State.setRemote_cdm (i : Fin 32) (r : RemoteRun) : (s.setRemote i r).cdm = s.cdm := rfl
@[simp] theorem State.setRemote_hra (i : Fin 32) (r : RemoteRun) : (s.setRemote i r).hra = s.hra := rfl
@[simp] theorem State.setRemote_lsq (i : Fin 32) (r : RemoteRun) : (s.setRemote i r).lsq = s.lsq := rfl
@[simp] theorem State.setRemote_scu (i : Fin 32) (r : RemoteRun) : (s.setRemote i r).scu = s.scu := rfl
@[simp] theorem State.setRemote_pru (i : Fin 32) (r : RemoteRun) : (s.setRemote i r).pru = s.pru := rfl
@[simp] theorem State.setRemote_stc (i : Fin 32) (r : RemoteRun) : (s.setRemote i r).stc = s.stc := rfl

/-! ### notice -/

@[simp] theorem State.notice_lnk (k : NoticeKind) (n : Nat) (v : Int) : (s.notice k n v).lnk = s.lnk.offer (s.cfg.notice.enables.get (noticeIndex k)) ⟨k, n, v, s.scu.clock, 0⟩ := rfl
@[simp] theorem State.notice_pending (k : NoticeKind) (n : Nat) (v : Int) : (s.notice k n v).pending = s.pending := rfl
@[simp] theorem State.notice_choices (k : NoticeKind) (n : Nat) (v : Int) : (s.notice k n v).choices = s.choices := rfl
@[simp] theorem State.notice_ms (k : NoticeKind) (n : Nat) (v : Int) : (s.notice k n v).ms = s.ms := rfl
@[simp] theorem State.notice_phase (k : NoticeKind) (n : Nat) (v : Int) : (s.notice k n v).phase = s.phase := rfl
@[simp] theorem State.notice_strap (k : NoticeKind) (n : Nat) (v : Int) : (s.notice k n v).strap = s.strap := rfl
@[simp] theorem State.notice_pins (k : NoticeKind) (n : Nat) (v : Int) : (s.notice k n v).pins = s.pins := rfl
@[simp] theorem State.notice_cfg (k : NoticeKind) (n : Nat) (v : Int) : (s.notice k n v).cfg = s.cfg := rfl
@[simp] theorem State.notice_fbc (k : NoticeKind) (n : Nat) (v : Int) : (s.notice k n v).fbc = s.fbc := rfl
@[simp] theorem State.notice_ptb (k : NoticeKind) (n : Nat) (v : Int) : (s.notice k n v).ptb = s.ptb := rfl
@[simp] theorem State.notice_shm (k : NoticeKind) (n : Nat) (v : Int) : (s.notice k n v).shm = s.shm := rfl
@[simp] theorem State.notice_cdm (k : NoticeKind) (n : Nat) (v : Int) : (s.notice k n v).cdm = s.cdm := rfl
@[simp] theorem State.notice_hra (k : NoticeKind) (n : Nat) (v : Int) : (s.notice k n v).hra = s.hra := rfl
@[simp] theorem State.notice_lsq (k : NoticeKind) (n : Nat) (v : Int) : (s.notice k n v).lsq = s.lsq := rfl
@[simp] theorem State.notice_ost (k : NoticeKind) (n : Nat) (v : Int) : (s.notice k n v).ost = s.ost := rfl
@[simp] theorem State.notice_scu (k : NoticeKind) (n : Nat) (v : Int) : (s.notice k n v).scu = s.scu := rfl
@[simp] theorem State.notice_pru (k : NoticeKind) (n : Nat) (v : Int) : (s.notice k n v).pru = s.pru := rfl
@[simp] theorem State.notice_stc (k : NoticeKind) (n : Nat) (v : Int) : (s.notice k n v).stc = s.stc := rfl

/-! ### place -/

@[simp] theorem State.place_lnk (r : Reply) : (s.place r).lnk = { s.lnk with output := s.lnk.output ++ [r] } := rfl
@[simp] theorem State.place_pending (r : Reply) : (s.place r).pending = s.pending := rfl
@[simp] theorem State.place_choices (r : Reply) : (s.place r).choices = s.choices := rfl
@[simp] theorem State.place_ms (r : Reply) : (s.place r).ms = s.ms := rfl
@[simp] theorem State.place_phase (r : Reply) : (s.place r).phase = s.phase := rfl
@[simp] theorem State.place_strap (r : Reply) : (s.place r).strap = s.strap := rfl
@[simp] theorem State.place_pins (r : Reply) : (s.place r).pins = s.pins := rfl
@[simp] theorem State.place_cfg (r : Reply) : (s.place r).cfg = s.cfg := rfl
@[simp] theorem State.place_fbc (r : Reply) : (s.place r).fbc = s.fbc := rfl
@[simp] theorem State.place_ptb (r : Reply) : (s.place r).ptb = s.ptb := rfl
@[simp] theorem State.place_shm (r : Reply) : (s.place r).shm = s.shm := rfl
@[simp] theorem State.place_cdm (r : Reply) : (s.place r).cdm = s.cdm := rfl
@[simp] theorem State.place_hra (r : Reply) : (s.place r).hra = s.hra := rfl
@[simp] theorem State.place_lsq (r : Reply) : (s.place r).lsq = s.lsq := rfl
@[simp] theorem State.place_ost (r : Reply) : (s.place r).ost = s.ost := rfl
@[simp] theorem State.place_scu (r : Reply) : (s.place r).scu = s.scu := rfl
@[simp] theorem State.place_pru (r : Reply) : (s.place r).pru = s.pru := rfl
@[simp] theorem State.place_stc (r : Reply) : (s.place r).stc = s.stc := rfl

/-! ### dropRequest -/

@[simp] theorem State.dropRequest_lnk : (s.dropRequest).lnk = { s.lnk with requests := s.lnk.requests.tail } := rfl
@[simp] theorem State.dropRequest_pending : (s.dropRequest).pending = s.pending := rfl
@[simp] theorem State.dropRequest_choices : (s.dropRequest).choices = s.choices := rfl
@[simp] theorem State.dropRequest_ms : (s.dropRequest).ms = s.ms := rfl
@[simp] theorem State.dropRequest_phase : (s.dropRequest).phase = s.phase := rfl
@[simp] theorem State.dropRequest_strap : (s.dropRequest).strap = s.strap := rfl
@[simp] theorem State.dropRequest_pins : (s.dropRequest).pins = s.pins := rfl
@[simp] theorem State.dropRequest_cfg : (s.dropRequest).cfg = s.cfg := rfl
@[simp] theorem State.dropRequest_fbc : (s.dropRequest).fbc = s.fbc := rfl
@[simp] theorem State.dropRequest_ptb : (s.dropRequest).ptb = s.ptb := rfl
@[simp] theorem State.dropRequest_shm : (s.dropRequest).shm = s.shm := rfl
@[simp] theorem State.dropRequest_cdm : (s.dropRequest).cdm = s.cdm := rfl
@[simp] theorem State.dropRequest_hra : (s.dropRequest).hra = s.hra := rfl
@[simp] theorem State.dropRequest_lsq : (s.dropRequest).lsq = s.lsq := rfl
@[simp] theorem State.dropRequest_ost : (s.dropRequest).ost = s.ost := rfl
@[simp] theorem State.dropRequest_scu : (s.dropRequest).scu = s.scu := rfl
@[simp] theorem State.dropRequest_pru : (s.dropRequest).pru = s.pru := rfl
@[simp] theorem State.dropRequest_stc : (s.dropRequest).stc = s.stc := rfl

/-! ### setIntake -/

@[simp] theorem State.setIntake_lnk (p : Port) (b : List Byte) : (s.setIntake p b).lnk = s.lnk.setIntake p b := rfl
@[simp] theorem State.setIntake_pending (p : Port) (b : List Byte) : (s.setIntake p b).pending = s.pending := rfl
@[simp] theorem State.setIntake_choices (p : Port) (b : List Byte) : (s.setIntake p b).choices = s.choices := rfl
@[simp] theorem State.setIntake_ms (p : Port) (b : List Byte) : (s.setIntake p b).ms = s.ms := rfl
@[simp] theorem State.setIntake_phase (p : Port) (b : List Byte) : (s.setIntake p b).phase = s.phase := rfl
@[simp] theorem State.setIntake_strap (p : Port) (b : List Byte) : (s.setIntake p b).strap = s.strap := rfl
@[simp] theorem State.setIntake_pins (p : Port) (b : List Byte) : (s.setIntake p b).pins = s.pins := rfl
@[simp] theorem State.setIntake_cfg (p : Port) (b : List Byte) : (s.setIntake p b).cfg = s.cfg := rfl
@[simp] theorem State.setIntake_fbc (p : Port) (b : List Byte) : (s.setIntake p b).fbc = s.fbc := rfl
@[simp] theorem State.setIntake_ptb (p : Port) (b : List Byte) : (s.setIntake p b).ptb = s.ptb := rfl
@[simp] theorem State.setIntake_shm (p : Port) (b : List Byte) : (s.setIntake p b).shm = s.shm := rfl
@[simp] theorem State.setIntake_cdm (p : Port) (b : List Byte) : (s.setIntake p b).cdm = s.cdm := rfl
@[simp] theorem State.setIntake_hra (p : Port) (b : List Byte) : (s.setIntake p b).hra = s.hra := rfl
@[simp] theorem State.setIntake_lsq (p : Port) (b : List Byte) : (s.setIntake p b).lsq = s.lsq := rfl
@[simp] theorem State.setIntake_ost (p : Port) (b : List Byte) : (s.setIntake p b).ost = s.ost := rfl
@[simp] theorem State.setIntake_scu (p : Port) (b : List Byte) : (s.setIntake p b).scu = s.scu := rfl
@[simp] theorem State.setIntake_pru (p : Port) (b : List Byte) : (s.setIntake p b).pru = s.pru := rfl
@[simp] theorem State.setIntake_stc (p : Port) (b : List Byte) : (s.setIntake p b).stc = s.stc := rfl

/-! ### count -/

@[simp] theorem State.count_fbc (c : Counter) : (s.count c).fbc = s.fbc.count s.holdsCounts c := rfl
@[simp] theorem State.count_pending (c : Counter) : (s.count c).pending = s.pending := rfl
@[simp] theorem State.count_choices (c : Counter) : (s.count c).choices = s.choices := rfl
@[simp] theorem State.count_ms (c : Counter) : (s.count c).ms = s.ms := rfl
@[simp] theorem State.count_phase (c : Counter) : (s.count c).phase = s.phase := rfl
@[simp] theorem State.count_strap (c : Counter) : (s.count c).strap = s.strap := rfl
@[simp] theorem State.count_pins (c : Counter) : (s.count c).pins = s.pins := rfl
@[simp] theorem State.count_cfg (c : Counter) : (s.count c).cfg = s.cfg := rfl
@[simp] theorem State.count_lnk (c : Counter) : (s.count c).lnk = s.lnk := rfl
@[simp] theorem State.count_ptb (c : Counter) : (s.count c).ptb = s.ptb := rfl
@[simp] theorem State.count_shm (c : Counter) : (s.count c).shm = s.shm := rfl
@[simp] theorem State.count_cdm (c : Counter) : (s.count c).cdm = s.cdm := rfl
@[simp] theorem State.count_hra (c : Counter) : (s.count c).hra = s.hra := rfl
@[simp] theorem State.count_lsq (c : Counter) : (s.count c).lsq = s.lsq := rfl
@[simp] theorem State.count_ost (c : Counter) : (s.count c).ost = s.ost := rfl
@[simp] theorem State.count_scu (c : Counter) : (s.count c).scu = s.scu := rfl
@[simp] theorem State.count_pru (c : Counter) : (s.count c).pru = s.pru := rfl
@[simp] theorem State.count_stc (c : Counter) : (s.count c).stc = s.stc := rfl

/-! ### noFlight -/

@[simp] theorem State.noFlight_fbc : (s.noFlight).fbc = { s.fbc with inFlight := none } := rfl
@[simp] theorem State.noFlight_pending : (s.noFlight).pending = s.pending := rfl
@[simp] theorem State.noFlight_choices : (s.noFlight).choices = s.choices := rfl
@[simp] theorem State.noFlight_ms : (s.noFlight).ms = s.ms := rfl
@[simp] theorem State.noFlight_phase : (s.noFlight).phase = s.phase := rfl
@[simp] theorem State.noFlight_strap : (s.noFlight).strap = s.strap := rfl
@[simp] theorem State.noFlight_pins : (s.noFlight).pins = s.pins := rfl
@[simp] theorem State.noFlight_cfg : (s.noFlight).cfg = s.cfg := rfl
@[simp] theorem State.noFlight_lnk : (s.noFlight).lnk = s.lnk := rfl
@[simp] theorem State.noFlight_ptb : (s.noFlight).ptb = s.ptb := rfl
@[simp] theorem State.noFlight_shm : (s.noFlight).shm = s.shm := rfl
@[simp] theorem State.noFlight_cdm : (s.noFlight).cdm = s.cdm := rfl
@[simp] theorem State.noFlight_hra : (s.noFlight).hra = s.hra := rfl
@[simp] theorem State.noFlight_lsq : (s.noFlight).lsq = s.lsq := rfl
@[simp] theorem State.noFlight_ost : (s.noFlight).ost = s.ost := rfl
@[simp] theorem State.noFlight_scu : (s.noFlight).scu = s.scu := rfl
@[simp] theorem State.noFlight_pru : (s.noFlight).pru = s.pru := rfl
@[simp] theorem State.noFlight_stc : (s.noFlight).stc = s.stc := rfl

/-! ### frameEnded -/

@[simp] theorem State.frameEnded_fbc : (s.frameEnded).fbc = s.fbc.frameEnded := rfl
@[simp] theorem State.frameEnded_pending : (s.frameEnded).pending = s.pending := rfl
@[simp] theorem State.frameEnded_choices : (s.frameEnded).choices = s.choices := rfl
@[simp] theorem State.frameEnded_ms : (s.frameEnded).ms = s.ms := rfl
@[simp] theorem State.frameEnded_phase : (s.frameEnded).phase = s.phase := rfl
@[simp] theorem State.frameEnded_strap : (s.frameEnded).strap = s.strap := rfl
@[simp] theorem State.frameEnded_pins : (s.frameEnded).pins = s.pins := rfl
@[simp] theorem State.frameEnded_cfg : (s.frameEnded).cfg = s.cfg := rfl
@[simp] theorem State.frameEnded_lnk : (s.frameEnded).lnk = s.lnk := rfl
@[simp] theorem State.frameEnded_ptb : (s.frameEnded).ptb = s.ptb := rfl
@[simp] theorem State.frameEnded_shm : (s.frameEnded).shm = s.shm := rfl
@[simp] theorem State.frameEnded_cdm : (s.frameEnded).cdm = s.cdm := rfl
@[simp] theorem State.frameEnded_hra : (s.frameEnded).hra = s.hra := rfl
@[simp] theorem State.frameEnded_lsq : (s.frameEnded).lsq = s.lsq := rfl
@[simp] theorem State.frameEnded_ost : (s.frameEnded).ost = s.ost := rfl
@[simp] theorem State.frameEnded_scu : (s.frameEnded).scu = s.scu := rfl
@[simp] theorem State.frameEnded_pru : (s.frameEnded).pru = s.pru := rfl
@[simp] theorem State.frameEnded_stc : (s.frameEnded).stc = s.stc := rfl

/-! ### applyLine -/

@[simp] theorem State.applyLine_fbc : (s.applyLine).fbc = { s.fbc with address := s.cfg.bus.ownAddress, bitRate := s.cfg.bus.bitRate } := rfl
@[simp] theorem State.applyLine_pending : (s.applyLine).pending = s.pending := rfl
@[simp] theorem State.applyLine_choices : (s.applyLine).choices = s.choices := rfl
@[simp] theorem State.applyLine_ms : (s.applyLine).ms = s.ms := rfl
@[simp] theorem State.applyLine_phase : (s.applyLine).phase = s.phase := rfl
@[simp] theorem State.applyLine_strap : (s.applyLine).strap = s.strap := rfl
@[simp] theorem State.applyLine_pins : (s.applyLine).pins = s.pins := rfl
@[simp] theorem State.applyLine_cfg : (s.applyLine).cfg = s.cfg := rfl
@[simp] theorem State.applyLine_lnk : (s.applyLine).lnk = s.lnk := rfl
@[simp] theorem State.applyLine_ptb : (s.applyLine).ptb = s.ptb := rfl
@[simp] theorem State.applyLine_shm : (s.applyLine).shm = s.shm := rfl
@[simp] theorem State.applyLine_cdm : (s.applyLine).cdm = s.cdm := rfl
@[simp] theorem State.applyLine_hra : (s.applyLine).hra = s.hra := rfl
@[simp] theorem State.applyLine_lsq : (s.applyLine).lsq = s.lsq := rfl
@[simp] theorem State.applyLine_ost : (s.applyLine).ost = s.ost := rfl
@[simp] theorem State.applyLine_scu : (s.applyLine).scu = s.scu := rfl
@[simp] theorem State.applyLine_pru : (s.applyLine).pru = s.pru := rfl
@[simp] theorem State.applyLine_stc : (s.applyLine).stc = s.stc := rfl

/-! ### Answers -/

@[simp] theorem State.answered_output (tag : Byte) (k : ReplyKind) (body : List Byte) : (s.answered tag k body).lnk.output = s.lnk.output ++ [⟨tag, k, [body]⟩] := rfl
@[simp] theorem State.answered_clocked (tag : Byte) (k : ReplyKind) (body : List Byte) : (s.answered tag k body).lnk.clocked = s.lnk.clocked := rfl
@[simp] theorem State.answered_requests (tag : Byte) (k : ReplyKind) (body : List Byte) : (s.answered tag k body).lnk.requests = s.lnk.requests.tail := rfl
@[simp] theorem State.answered_locked (tag : Byte) (k : ReplyKind) (body : List Byte) : (s.answered tag k body).lnk.locked = s.lnk.locked := rfl
@[simp] theorem State.answered_uartIntake (tag : Byte) (k : ReplyKind) (body : List Byte) : (s.answered tag k body).lnk.uartIntake = s.lnk.uartIntake := rfl
@[simp] theorem State.answered_spiIntake (tag : Byte) (k : ReplyKind) (body : List Byte) : (s.answered tag k body).lnk.spiIntake = s.lnk.spiIntake := rfl
@[simp] theorem State.answered_assembly (tag : Byte) (k : ReplyKind) (body : List Byte) : (s.answered tag k body).lnk.assembly = s.lnk.assembly := rfl
@[simp] theorem State.answered_resetWait (tag : Byte) (k : ReplyKind) (body : List Byte) : (s.answered tag k body).lnk.resetWait = s.lnk.resetWait := rfl
@[simp] theorem State.answered_notices (tag : Byte) (k : ReplyKind) (body : List Byte) : (s.answered tag k body).lnk.notices = s.lnk.notices := rfl
@[simp] theorem State.answered_lost (tag : Byte) (k : ReplyKind) (body : List Byte) : (s.answered tag k body).lnk.lost = s.lnk.lost := rfl
@[simp] theorem State.answered_pending (tag : Byte) (k : ReplyKind) (body : List Byte) : (s.answered tag k body).pending = s.pending := rfl
@[simp] theorem State.answered_choices (tag : Byte) (k : ReplyKind) (body : List Byte) : (s.answered tag k body).choices = s.choices := rfl
@[simp] theorem State.answered_ms (tag : Byte) (k : ReplyKind) (body : List Byte) : (s.answered tag k body).ms = s.ms := rfl
@[simp] theorem State.answered_phase (tag : Byte) (k : ReplyKind) (body : List Byte) : (s.answered tag k body).phase = s.phase := rfl
@[simp] theorem State.answered_strap (tag : Byte) (k : ReplyKind) (body : List Byte) : (s.answered tag k body).strap = s.strap := rfl
@[simp] theorem State.answered_pins (tag : Byte) (k : ReplyKind) (body : List Byte) : (s.answered tag k body).pins = s.pins := rfl
@[simp] theorem State.answered_cfg (tag : Byte) (k : ReplyKind) (body : List Byte) : (s.answered tag k body).cfg = s.cfg := rfl
@[simp] theorem State.answered_fbc (tag : Byte) (k : ReplyKind) (body : List Byte) : (s.answered tag k body).fbc = s.fbc := rfl
@[simp] theorem State.answered_ptb (tag : Byte) (k : ReplyKind) (body : List Byte) : (s.answered tag k body).ptb = s.ptb := rfl
@[simp] theorem State.answered_shm (tag : Byte) (k : ReplyKind) (body : List Byte) : (s.answered tag k body).shm = s.shm := rfl
@[simp] theorem State.answered_cdm (tag : Byte) (k : ReplyKind) (body : List Byte) : (s.answered tag k body).cdm = s.cdm := rfl
@[simp] theorem State.answered_hra (tag : Byte) (k : ReplyKind) (body : List Byte) : (s.answered tag k body).hra = s.hra := rfl
@[simp] theorem State.answered_lsq (tag : Byte) (k : ReplyKind) (body : List Byte) : (s.answered tag k body).lsq = s.lsq := rfl
@[simp] theorem State.answered_ost (tag : Byte) (k : ReplyKind) (body : List Byte) : (s.answered tag k body).ost = s.ost := rfl
@[simp] theorem State.answered_scu (tag : Byte) (k : ReplyKind) (body : List Byte) : (s.answered tag k body).scu = s.scu := rfl
@[simp] theorem State.answered_pru (tag : Byte) (k : ReplyKind) (body : List Byte) : (s.answered tag k body).pru = s.pru := rfl
@[simp] theorem State.answered_stc (tag : Byte) (k : ReplyKind) (body : List Byte) : (s.answered tag k body).stc = s.stc := rfl

end Sys2Proof.Machine
end

