-- ==== Sys2Proof/Laws/Bus.lean ====
section
/-! SUPPORT. What the Field Bus Controller's shared operations and the HELD test can do. -/

namespace Sys2Proof.Machine
open Sys2Proof

variable {s t u : State}

theorem BusEvent.refl (s : State) : BusEvent s s :=
  ⟨SetupKept.refl s, LinkKept.refl s, rfl, rfl, rfl, rfl, rfl, rfl, rfl, rfl⟩

theorem BusEvent.trans (h : BusEvent s t) (k : BusEvent t u) : BusEvent s u :=
  ⟨h.setup.trans k.setup, h.link.trans k.link, k.ptb.trans h.ptb, k.shm.trans h.shm, k.cdm.trans h.cdm,
    k.hra.trans h.hra, k.lsq.trans h.lsq, k.ost.trans h.ost, k.pru.trans h.pru, k.stc.trans h.stc⟩

/-- A change of the controller's own figures alone. -/
theorem setFbcFields_bus (s : State) (f : Fbc) : BusEvent s { s with fbc := f } :=
  ⟨⟨rfl, rfl, rfl, rfl, rfl, rfl, rfl, rfl⟩, LinkKept.of_eq rfl, rfl, rfl, rfl, rfl, rfl, rfl, rfl, rfl⟩

theorem notice_bus (k : NoticeKind) (x : Nat) (v : Int) (s : State) : BusEvent s (s.notice k x v) :=
  have h := notice_event k x v s
  ⟨h.inner.setup, h.inner.link, rfl, rfl, rfl, rfl, rfl, rfl, rfl, rfl⟩

theorem noticeIf_bus (c : Bool) (k : NoticeKind) (x : Nat) (v : Int) (s : State) : BusEvent s (s.noticeIf c k x v) := by
  unfold State.noticeIf
  split
  · exact notice_bus ..
  · exact BusEvent.refl s

theorem noticeIf_fbc (c : Bool) (k : NoticeKind) (x : Nat) (v : Int) (s : State) : (s.noticeIf c k x v).fbc = s.fbc := by
  unfold State.noticeIf
  split <;> rfl

theorem count_bus (c : Counter) (s : State) : BusEvent s (s.count c) := setFbcFields_bus _ _

/-- A change of the error counters touches them, the idle-period count, and the notices (R33 to R36). -/
theorem setErrors_bus (a b : Nat) (s : State) : BusEvent s (s.setErrors a b) :=
  ((setFbcFields_bus s _).trans (noticeIf_bus ..)).trans ((noticeIf_bus ..).trans (noticeIf_bus ..))

theorem setErrors_fbc (a b : Nat) (s : State) :
    (s.setErrors a b).fbc = { s.fbc with
      txe := a, rxe := b, idlePeriods := if s.busState = busStateOf a b then s.fbc.idlePeriods else 0 } := by
  simp only [State.setErrors, noticeIf_fbc]

theorem recover_bus (s : State) : BusEvent s s.recover := (setFbcFields_bus s _).trans (notice_bus ..)

theorem counterIndex_inj {a b : Counter} (h : counterIndex a = counterIndex b) : a = b := by
  cases a <;> cases b <;> first | rfl | exact absurd h (by decide)

/-- One count goes to its counter, or to its held tally while a COUNTERS reply is assembled (R42, R43). -/
theorem count_counted (c : Counter) (s : State) : Counted [c] s (s.count c) := by
  intro d
  by_cases h : d = c
  · subst h
    cases hh : s.holdsCounts <;> simp [State.count, Fbc.count, saturate16, hh, Table.get_modify_self]
  · have hne : counterIndex c ≠ counterIndex d := fun e => h (counterIndex_inj e).symm
    cases hh : s.holdsCounts <;> simp [State.count, Fbc.count, hh, h, Table.get_modify_ne _ hne]

/-- The HELD test (R172). -/
theorem heldTest_tested (u : State) : HeldTested u u.heldTest := by
  constructor
  · intro h1 h2 h3 h4 h5
    have hc : u.pru.state = .tripped ∧ u.pru.arrived = true ∧ u.protectEntries = 0 ∧ u.busState ≠ .isolated ∧
        u.fbc.handOver ≠ .released := ⟨h1, h2, h3, h4, h5⟩
    have he : u.heldTest = (u.setPru { u.pru with state := .held }).protectNotice noTrigger := if_pos hc
    exact he
  · intro h
    refine if_neg ?_
    rintro ⟨h1, h2, h3, h4, h5⟩
    rcases h with h | h | h | h | h
    · exact h h1
    · rw [h] at h2; cases h2
    · exact h h3
    · exact h4 h
    · exact h5 h

/-- A change of the requesters: the HELD test follows where RELEASED ends (R37, R172). -/
theorem setFbc_released (f : Fbc) (h1 : s.fbc.handOver = .released) (h2 : f.handOver ≠ .released) :
    HeldTested { s with fbc := f } (s.setFbc f) := by
  have he : s.setFbc f = State.heldTest { s with fbc := f } := if_pos ⟨h1, h2⟩
  rw [he]
  exact heldTest_tested _

theorem setFbc_kept (f : Fbc) (h : s.fbc.handOver ≠ .released ∨ f.handOver = .released) :
    s.setFbc f = { s with fbc := f } := by
  refine if_neg ?_
  rintro ⟨h1, h2⟩
  rcases h with h | h
  · exact h h1
  · exact h2 h

/-- Levels that agree so far are judged by those behind them (R21). -/
theorem judgeLevels_common (span : Nat) (p x y : List Bool) :
    judgeLevels span (p ++ x) (p ++ y) = judgeLevels (span - p.length) x y := by
  induction p generalizing span with
  | nil => simp
  | cons e p ih =>
    simp only [List.cons_append, judgeLevels, if_true, ih, List.length_cons]
    congr 1
    omega

/-- The first level read back other than expected: arbitration is lost by a dominant level under a recessive one among the first `span`
levels, and any other is a transmit error (R21). -/
theorem judgeLevels_differs (span : Nat) (p x y : List Bool) (e r : Bool) (h : r ≠ e) :
    judgeLevels span (p ++ e :: x) (p ++ r :: y) = some (if e = true ∧ p.length < span then .lost else .error) := by
  have : (0 < span - p.length) ↔ p.length < span := by omega
  rw [judgeLevels_common]
  simp only [judgeLevels, h, if_false, this]
  split <;> simp_all

/-- Every level read back as expected: the frame is done (R21). -/
theorem judgeLevels_prefix (span : Nat) (p y : List Bool) : judgeLevels span p (p ++ y) = some .done := by
  have := judgeLevels_common span p [] y
  rwa [List.append_nil] at this

/-- The frame goes on while levels are to come and those read back are as expected (R21). -/
theorem judgeLevels_going (span : Nat) (p x : List Bool) (h : x ≠ []) : judgeLevels span (p ++ x) p = none := by
  have := judgeLevels_common span p x []
  rw [List.append_nil] at this
  cases x with
  | nil => exact absurd rfl h
  | cons => simpa [judgeLevels] using this

end Sys2Proof.Machine
end

