-- ==== Sys2Proof/Laws/Entries.lean ====
section
/-! SUPPORT. What the remote entries' requests of one event do: the transmit queue's answer to an ordinary request, one entry's request,
and all of an event's in entry index order. -/

namespace Sys2Proof.Machine
open Sys2Proof

variable {s t : State}

/-- An ordinary request displaces no entry (R28a). -/
theorem request_false_displaced (f : Fbc) (e : TxEntry) : (f.request false e).2.2 = none := by
  unfold Fbc.request
  split
  · rfl
  · split
    · rfl
    · split <;> rfl

/-- A dropped ordinary request leaves the queue as it was (R28, R28a). -/
theorem request_false_dropped (f : Fbc) (e : TxEntry) (h : (f.request false e).1 = .dropped) : (f.request false e).2.1 = f := by
  unfold Fbc.request at h ⊢
  split
  · rfl
  · split
    · rename_i h1 h2
      simp [h1, h2] at h
    · split
      · rename_i h1 h2 h3
        simp [h1, h2, h3] at h
      · rfl

/-- An ordinary request: the answer is the queue's, and the state after it holds the bus as asked (R28, R28a). -/
theorem enqueue_false (e : TxEntry) (s : State) :
    s.enqueue false e = ((s.fbc.request false e).1, { s with fbc := s.fbc.asked s.holdsCounts e }) := by
  have hd := request_false_displaced s.fbc e
  have hq := request_false_dropped s.fbc e
  unfold State.enqueue Fbc.asked
  rcases hr : s.fbc.request false e with ⟨a, f, d⟩
  rw [hr] at hd hq
  dsimp only at hd hq ⊢
  subst hd
  by_cases h : a = .dropped
  · simp only [h, if_true, State.count]
    rw [hq h]
  · simp only [h, if_false]

/-- The entry `i` after its request to a bus `f` (R144). -/
def State.entryRequested (s : State) (f : Fbc) (i : Fin 32) : RemoteRun :=
  let v : Int := s.remoteSource i
  if (f.request false (s.entryCommand i)).1 = .dropped then { s.ost.remotes.get i with value := some v, dirty := true }
  else { s.ost.remotes.get i with value := some v, last := some v, dirty := false, timer := (s.cfg.remotes.get i).refresh }

/-- A new value in RUN of an entry outside protect behaviour: kept, requested, and answered (R144). -/
theorem request_newValue (i : Fin 32) (s : State) (ht : (s.ost.remotes.get i).taken = none) :
    (s.setRemote i { s.ost.remotes.get i with value := some (s.remoteSource i : Int) }).requestRemote false i =
      { s with
        fbc := s.fbc.asked s.holdsCounts (s.entryCommand i)
        ost := { s.ost with remotes := s.ost.remotes.set i (s.entryRequested s.fbc i) } } := by
  have hc : (s.setRemote i { s.ost.remotes.get i with value := some (s.remoteSource i : Int) }).remoteConfig i =
      s.cfg.remotes.get i := by
    simp [State.remoteConfig, State.setRemote, ht]
  unfold State.requestRemote
  rw [hc]
  simp only [State.setRemote, Table.get_set_self, enqueue_false, Bool.false_eq_true, if_false]
  unfold State.entryRequested State.entryCommand
  dsimp only
  split <;> simp [State.holdsCounts]

/-- One entry takes up its figure in RUN while ARMED: nothing where its value is its source code, else its request (R144). -/
theorem handRemote_request (i : Fin 32) (s : State) (ha : s.armed = true) (hp : s.phase = .run)
    (ht : (s.ost.remotes.get i).taken = none) :
    s.handRemote i =
      if s.entryBehind i then
        { s with
          fbc := s.fbc.asked s.holdsCounts (s.entryCommand i)
          ost := { s.ost with remotes := s.ost.remotes.set i (s.entryRequested s.fbc i) } }
      else s := by
  by_cases hb : (s.cfg.remotes.get i).binding = .none
  · simp [State.handRemote, State.entryBehind, ha, hb]
  · by_cases hv : (s.ost.remotes.get i).value = some (s.remoteSource i : Int)
    · rw [handRemote_current i s ha hv]
      simp [State.entryBehind, hv]
    · have h := request_newValue i s ht
      have e : s.handRemote i =
          (s.setRemote i { s.ost.remotes.get i with value := some (s.remoteSource i : Int) }).requestRemote false i := by
        simp [State.handRemote, State.newRemoteValue, ha, hb, hv, hp]
      rw [e, h]
      simp [State.entryBehind, hb, hv]

/-- One entry at the end of an event, whose source moved in it or not: its request when it moved or its value is not its source code
(R144). -/
theorem settleRemote_request (moved : Bool) (i : Fin 32) (s : State) (ha : s.armed = true) (hp : s.phase = .run)
    (ht : (s.ost.remotes.get i).taken = none) (hm : moved = true → (s.cfg.remotes.get i).binding ≠ .none) :
    s.settleRemote moved i =
      if s.entryBehind i || moved then
        { s with
          fbc := s.fbc.asked s.holdsCounts (s.entryCommand i)
          ost := { s.ost with remotes := s.ost.remotes.set i (s.entryRequested s.fbc i) } }
      else s := by
  have h0 := handRemote_request i s ha hp ht
  unfold State.settleRemote
  by_cases hv : (s.ost.remotes.get i).value = some (s.remoteSource i : Int)
  · cases moved
    · simpa [hv] using h0
    · have h := request_newValue i s ht
      have e : ({ s.ost.remotes.get i with value := some (s.remoteSource i : Int) } : RemoteRun) = s.ost.remotes.get i := by
        rw [← hv]
      have e' : s.setRemote i (s.ost.remotes.get i) = s := by simp [State.setRemote]
      rw [e, e'] at h
      rw [if_pos (by simp [hv, ha, hp]), if_pos (by simp), h]
  · have hb : moved = true → s.entryBehind i = true := fun h => by simp [State.entryBehind, hm h, hv]
    have he : (s.entryBehind i || moved) = s.entryBehind i := by
      cases moved
      · simp
      · simp [hb rfl]
    rw [he, ← h0]
    simp [hv]

/-- `s` after the requests of those of its first `n` entries that `asks` picks, in index order. -/
def State.entriesDone (s : State) (asks : Fin 32 → Bool) (n : Nat) : State :=
  { s with
    fbc := s.busAfter asks n
    ost := { s.ost with remotes := s.ost.remotes.mapIdx fun i r =>
      if i.val < n ∧ asks i = true then s.entryRequested (s.busAfter asks i) i else r } }

theorem busAfter_succ (s : State) (asks : Fin 32 → Bool) (i : Fin 32) :
    s.busAfter asks (i.val + 1) =
      if asks i then (s.busAfter asks i).asked s.holdsCounts (s.entryCommand i) else s.busAfter asks i := by
  have h : (List.finRange 32)[i.val]? = some i := by simp
  unfold State.busAfter
  rw [List.take_add_one, h, List.foldl_append]
  rfl

theorem entriesDone_succ (s : State) (moved : Fin 32 → Bool) (ha : s.armed = true) (hp : s.phase = .run)
    (ht : ∀ i, (s.ost.remotes.get i).taken = none) (hm : ∀ i, moved i = true → (s.cfg.remotes.get i).binding ≠ .none) (i : Fin 32) :
    let asks := fun j => s.entryBehind j || moved j
    (s.entriesDone asks i.val).settleRemote (moved i) i = s.entriesDone asks (i.val + 1) := by
  intro asks
  have hr : (s.entriesDone asks i.val).ost.remotes.get i = s.ost.remotes.get i := by
    simp [State.entriesDone]
  have hs : (s.entriesDone asks i.val).remoteSource i = s.remoteSource i := by
    unfold State.remoteSource
    rw [hr]
    rfl
  have hb : (s.entriesDone asks i.val).entryBehind i = s.entryBehind i := by
    unfold State.entryBehind
    rw [hr, hs]
    rfl
  have hc : (s.entriesDone asks i.val).entryCommand i = s.entryCommand i := by
    unfold State.entryCommand
    rw [hs]
    rfl
  rw [settleRemote_request (moved i) i (s.entriesDone asks i.val) ha hp (by rw [hr]; exact ht i) (hm i), hb, hc]
  have hq : ∀ f, (s.entriesDone asks i.val).entryRequested f i = s.entryRequested f i := by
    intro f
    unfold State.entryRequested
    rw [hr, hs, hc]
    rfl
  have hn := busAfter_succ s asks i
  change (if asks i = true then _ else _) = _
  split
  · rename_i h
    rw [if_pos h] at hn
    have hset : (s.entriesDone asks i.val).ost.remotes.set i
        ((s.entriesDone asks i.val).entryRequested (s.entriesDone asks i.val).fbc i) =
        (s.entriesDone asks (i.val + 1)).ost.remotes := by
      apply Table.ext_get
      intro j
      rw [Table.get_set]
      by_cases hj : i = j
      · subst hj
        rw [hq]
        simp [State.entriesDone, h]
      · have hlt : j ≤ i ↔ j < i := by
          have : i.val ≠ j.val := fun e => hj (Fin.ext e)
          omega
        simp [State.entriesDone, hj, hlt]
    rw [hset]
    unfold State.entriesDone
    simp only [hn]
    rfl
  · rename_i h
    rw [if_neg h] at hn
    have hset : (s.entriesDone asks i.val).ost.remotes = (s.entriesDone asks (i.val + 1)).ost.remotes := by
      apply Table.ext_get
      intro j
      by_cases hj : i = j
      · subst hj
        simp [State.entriesDone, h]
      · have hlt : j ≤ i ↔ j < i := by
          have : i.val ≠ j.val := fun e => hj (Fin.ext e)
          omega
        simp [State.entriesDone, hlt]
    have ho : (s.entriesDone asks (i.val + 1)).ost = (s.entriesDone asks i.val).ost := by
      unfold State.entriesDone at hset ⊢
      simp only at hset ⊢
      rw [hset]
    have : s.entriesDone asks (i.val + 1) =
        { s with fbc := s.busAfter asks (i.val + 1), ost := (s.entriesDone asks (i.val + 1)).ost } := rfl
    rw [this, hn, ho]
    rfl

/-- The requests of an event, in RUN while ARMED: of every entry that it left behind its source, and of every bound entry whose source
moved in it, in entry index order (R144). -/
theorem settleRemotes_requests (s : State) (moved : Fin 32 → Bool) (ha : s.armed = true) (hp : s.phase = .run)
    (ht : ∀ i, (s.ost.remotes.get i).taken = none) (hm : ∀ i, moved i = true → (s.cfg.remotes.get i).binding ≠ .none) :
    EntriesRequest (fun i => s.entryBehind i || moved i) s (s.settleRemotes moved) := by
  have key : ∀ n, n ≤ 32 → ((List.finRange 32).take n).foldl (fun st i => State.settleRemote (moved i) i st) s =
      s.entriesDone (fun i => s.entryBehind i || moved i) n := by
    intro n
    induction n with
    | zero =>
      intro _
      have hz : s.ost.remotes.mapIdx (fun i r =>
          if i.val < 0 ∧ (s.entryBehind i || moved i) = true then
            s.entryRequested (s.busAfter (fun i => s.entryBehind i || moved i) i) i
          else r) = s.ost.remotes := Table.ext_get fun i => by simp
      unfold State.entriesDone
      rw [hz]
      rfl
    | succ n ih =>
      intro h
      have hi : (List.finRange 32)[n]? = some ⟨n, h⟩ := by simp [show n < 32 from h]
      rw [List.take_add_one, hi, List.foldl_append, ih (by omega)]
      exact entriesDone_succ s moved ha hp ht hm ⟨n, h⟩
  have h32 : s.settleRemotes moved = s.entriesDone (fun i => s.entryBehind i || moved i) 32 := by
    have := key 32 (Nat.le_refl _)
    rwa [List.take_of_length_le (by simp)] at this
  rw [h32]
  generalize (fun i => s.entryBehind i || moved i) = asks
  refine ⟨rfl, rfl, ?_, ?_, ?_⟩
  · intro i h
    simp [State.entriesDone, h]
  · intro i h hd
    simp [State.entriesDone, h, State.entryRequested, hd]
  · intro i h hd
    simp [State.entriesDone, h, State.entryRequested, hd]

/-- An event with nothing moved before its end is settled by handing on alone (R144). -/
theorem settleRemotes_none (s : State) : s.settleRemotes (fun _ => false) = s.handRemotes := by
  have h : State.settleRemote false = State.handRemote := by
    funext i t
    simp [State.settleRemote]
  simp [State.settleRemotes, State.handRemotes, h]

/-- The requests of an event that runs no pass before them, in RUN while ARMED: of every entry it changed, in entry index order (R144). -/
theorem handRemotes_requests (s : State) (ha : s.armed = true) (hp : s.phase = .run)
    (ht : ∀ i, (s.ost.remotes.get i).taken = none) : EntriesRequest s.entryBehind s s.handRemotes := by
  have h := settleRemotes_requests s (fun _ => false) ha hp ht (by simp)
  simpa [settleRemotes_none] using h

end Sys2Proof.Machine
end

