-- ==== Sys2Proof/Laws/Link.lean ====
section
/-! SUPPORT. What clocking the reply output does, and when the image is good. -/

namespace Sys2Proof.Machine
open Sys2Proof

/-! ### The reply output (R182) -/

theorem Lnk.deliver_rest (l : Lnk) :
    l.deliver.locked = l.locked ∧ l.deliver.uartIntake = l.uartIntake ∧ l.deliver.spiIntake = l.spiIntake ∧
      l.deliver.requests = l.requests ∧ l.deliver.assembly = l.assembly ∧ l.deliver.notices = l.notices ∧
      l.deliver.lost = l.lost ∧ l.deliver.output = l.output.tail := by
  unfold Lnk.deliver
  split <;> simp_all

/-- Clocking moves the reply output alone, and takes whole replies from its front. -/
theorem Lnk.clockOut_rest (n : Nat) (l : Lnk) :
    (l.clockOut n).locked = l.locked ∧ (l.clockOut n).uartIntake = l.uartIntake ∧
      (l.clockOut n).spiIntake = l.spiIntake ∧ (l.clockOut n).requests = l.requests ∧
      (l.clockOut n).assembly = l.assembly ∧ (l.clockOut n).notices = l.notices ∧ (l.clockOut n).lost = l.lost ∧
      (l.clockOut n).output <:+ l.output := by
  induction n generalizing l with
  | zero => simp [Lnk.clockOut]
  | succ n ih =>
    unfold Lnk.clockOut
    split
    · simp
    · split
      · exact ih _
      · obtain ⟨a1, a2, a3, a4, a5, a6, a7, a8⟩ := ih l.deliver
        obtain ⟨b1, b2, b3, b4, b5, b6, b7, b8⟩ := l.deliver_rest
        exact ⟨a1.trans b1, a2.trans b2, a3.trans b3, a4.trans b4, a5.trans b5, a6.trans b6, a7.trans b7,
          a8.trans (b8 ▸ List.tail_suffix _)⟩

/-- Clocking `n` bytes sends the next `n` reply bytes, where the oldest reply still has a byte to send. -/
theorem Lnk.clockOut_waiting (n : Nat) (l : Lnk) (h : ∀ r ∈ l.output, 0 < r.bytes.length)
    (hc : ∀ r ∈ l.output.head?, l.clocked < r.bytes.length) :
    (l.clockOut n).waitingBytes = l.waitingBytes.drop n := by
  induction n generalizing l with
  | zero => simp [Lnk.clockOut]
  | succ n ih =>
    unfold Lnk.clockOut
    split
    · next ho => simp [Lnk.waitingBytes, ho]
    · next r rest ho =>
      simp only [ho, List.head?_cons, Option.mem_def, Option.some.injEq, forall_eq'] at hc
      split
      · next hl =>
        rw [ih _ (by simpa using h) (by simpa [ho] using hl)]
        simp only [Lnk.waitingBytes, List.drop_drop]
        congr 1
        omega
      · next hl =>
        have hr : ∀ x ∈ rest, 0 < x.bytes.length := fun x hx => h x (by simp [ho, hx])
        rw [ih _ (by simpa [Lnk.deliver, ho] using hr) (by
          intro x hx
          simp only [Lnk.deliver, ho] at hx ⊢
          exact hr x (List.mem_of_mem_head? hx))]
        have e : l.clocked + 1 = r.bytes.length := by omega
        simp only [Lnk.waitingBytes, Lnk.deliver, ho, List.flatMap_cons, List.drop_drop, Nat.zero_add]
        rw [show l.clocked + (n + 1) = r.bytes.length + n by omega, List.drop_append]
        simp

theorem Reply.bytes_pos (r : Reply) (h : r.bodies ≠ []) : 0 < r.bytes.length := by
  obtain ⟨t, k, bs⟩ := r
  cases bs with
  | nil => exact absurd rfl h
  | cons b bs => simp [Reply.bytes, hostFrame]

/-! ### The image (R194) -/

/-- The image that a SAVE leaves is good exactly when the check read back is the one computed over the configuration it took. -/
theorem Stc.goodImage_afterSave (check : BitVec 16) (c : Stc) {contents : Configuration} (h : c.saving = some contents) :
    (c.afterSave check).goodImage = if imageCheck contents = check then some contents else none := by
  simp [Stc.afterSave, Stc.goodImage, StoredImage.good, h]

theorem Stc.goodImage_eq {c : Stc} {contents : Configuration} (h : c.image = some ⟨contents, imageCheck contents⟩) :
    c.goodImage = some contents := by
  simp [Stc.goodImage, StoredImage.good, h]

theorem Stc.goodImage_valid {s : State} (h : ConfigurationsValid s) {c : Configuration} (hc : s.stc.goodImage = some c) :
    c.Valid := by
  unfold Stc.goodImage at hc
  split at hc
  · next x hx =>
    split at hc
    · exact Option.some.inj hc ▸ h.image x hx
    · cases hc
  · cases hc

end Sys2Proof.Machine
end

