-- ==== Sys2Proof/Laws/PerInstr.lean ====
section
/-! SUPPORT. One lemma per constructor of `Instr`: no row of the table is shut out by well-formedness. -/

namespace Sys2Proof.Laws.Shape
open Sys2Proof

/-- Some command of the same row is well-formed. -/
def Statement (i : Instr) : Prop := ∃ j : Instr, j.wellFormed = true ∧ j.ctorIdx = i.ctorIdx

theorem powerOn (strap : Strap) : Statement (.powerOn strap) := ⟨.powerOn strap, rfl, rfl⟩
theorem pinReset (strap : Strap) : Statement (.pinReset strap) := ⟨.pinReset strap, rfl, rfl⟩
theorem settleEnd : Statement .settleEnd := ⟨.settleEnd, rfl, rfl⟩
theorem hostFrame (p : Port) (bytes : List Byte) : Statement (.hostFrame p bytes) := ⟨.hostFrame p bytes, rfl, rfl⟩
theorem gapTimeout (bytes : List Byte) : Statement (.gapTimeout bytes) := ⟨.gapTimeout bytes, rfl, rfl⟩
theorem replyDelivered : Statement .replyDelivered := ⟨.replyDelivered, rfl, rfl⟩
theorem unknownKindRequest (tag kind : Byte) (body : List Byte) : Statement (.unknownKindRequest tag kind body) := ⟨.unknownKindRequest 0 0 [], rfl, rfl⟩
theorem readPoints (tag : Byte) (rest : List Byte) (lasts : Bool) : Statement (.readPoints tag rest lasts) := ⟨.readPoints tag rest lasts, rfl, rfl⟩
theorem readCounters (tag : Byte) (rest : List Byte) (lasts : Bool) : Statement (.readCounters tag rest lasts) := ⟨.readCounters tag rest lasts, rfl, rfl⟩
theorem readEnergy (tag : Byte) (rest : List Byte) (lasts : Bool) : Statement (.readEnergy tag rest lasts) := ⟨.readEnergy tag rest lasts, rfl, rfl⟩
theorem writePointsConfig (tag : Byte) (rest : List Byte) : Statement (.writePointsConfig tag rest) := ⟨.writePointsConfig 0 [], rfl, rfl⟩
theorem writePointValue (tag : Byte) (rest : List Byte) : Statement (.writePointValue tag rest) := ⟨.writePointValue 0 [0, 0, 0], rfl, rfl⟩
theorem writeBusSettings (tag : Byte) (rest : List Byte) (receiving : Bool) : Statement (.writeBusSettings tag rest receiving) := ⟨.writeBusSettings tag rest receiving, rfl, rfl⟩
theorem writeWindows (tag : Byte) (rest : List Byte) : Statement (.writeWindows tag rest) := ⟨.writeWindows tag rest, rfl, rfl⟩
theorem writeSheets (tag : Byte) (rest : List Byte) : Statement (.writeSheets tag rest) := ⟨.writeSheets tag rest, rfl, rfl⟩
theorem writeZones (tag : Byte) (rest : List Byte) : Statement (.writeZones tag rest) := ⟨.writeZones tag rest, rfl, rfl⟩
theorem writeSinks (tag : Byte) (rest : List Byte) : Statement (.writeSinks tag rest) := ⟨.writeSinks 0 [], rfl, rfl⟩
theorem writeAllocatorSettings (tag : Byte) (record : List Byte) : Statement (.writeAllocatorSettings tag record) := ⟨.writeAllocatorSettings tag record, rfl, rfl⟩
theorem writeChannels (tag : Byte) (rest : List Byte) : Statement (.writeChannels tag rest) := ⟨.writeChannels tag rest, rfl, rfl⟩
theorem writeScenes (tag : Byte) (rest : List Byte) : Statement (.writeScenes tag rest) := ⟨.writeScenes tag rest, rfl, rfl⟩
theorem writeOutputs (tag : Byte) (rest : List Byte) : Statement (.writeOutputs tag rest) := ⟨.writeOutputs 0 [], rfl, rfl⟩
theorem writeStageSettings (tag : Byte) (record : List Byte) : Statement (.writeStageSettings tag record) := ⟨.writeStageSettings tag record, rfl, rfl⟩
theorem writeRemotes (tag : Byte) (rest : List Byte) : Statement (.writeRemotes tag rest) := ⟨.writeRemotes tag rest, rfl, rfl⟩
theorem writeProfiles (tag : Byte) (rest : List Byte) : Statement (.writeProfiles tag rest) := ⟨.writeProfiles tag rest, rfl, rfl⟩
theorem writeProtectSettings (tag : Byte) (rest : List Byte) : Statement (.writeProtectSettings tag rest) := ⟨.writeProtectSettings tag rest, rfl, rfl⟩
theorem writeNoticeSettings (tag : Byte) (rest : List Byte) : Statement (.writeNoticeSettings tag rest) := ⟨.writeNoticeSettings tag rest, rfl, rfl⟩
theorem write (tag : Byte) (body : List Byte) : Statement (.write tag body) := ⟨.write 0 [], rfl, rfl⟩
theorem fetch (tag : Byte) (body : List Byte) : Statement (.fetch tag body) := ⟨.fetch tag body, rfl, rfl⟩
theorem status (tag : Byte) (body : List Byte) : Statement (.status tag body) := ⟨.status tag body, rfl, rfl⟩
theorem sceneRecall (tag : Byte) (fields : List Byte) : Statement (.sceneRecall tag fields) := ⟨.sceneRecall tag fields, rfl, rfl⟩
theorem channelSet (tag : Byte) (fields : List Byte) : Statement (.channelSet tag fields) := ⟨.channelSet tag fields, rfl, rfl⟩
theorem effectStart (tag : Byte) (fields : List Byte) : Statement (.effectStart tag fields) := ⟨.effectStart tag fields, rfl, rfl⟩
theorem effectStop (tag : Byte) (fields : List Byte) : Statement (.effectStop tag fields) := ⟨.effectStop tag fields, rfl, rfl⟩
theorem outputSet (tag : Byte) (fields : List Byte) : Statement (.outputSet tag fields) := ⟨.outputSet tag fields, rfl, rfl⟩
theorem modeSet (tag : Byte) (fields : List Byte) : Statement (.modeSet tag fields) := ⟨.modeSet tag fields, rfl, rfl⟩
theorem resurfaceStart (tag : Byte) (fields : List Byte) : Statement (.resurfaceStart tag fields) := ⟨.resurfaceStart tag fields, rfl, rfl⟩
theorem resurfaceEnd (tag : Byte) (fields : List Byte) : Statement (.resurfaceEnd tag fields) := ⟨.resurfaceEnd tag fields, rfl, rfl⟩
theorem coverOn (tag : Byte) (fields : List Byte) : Statement (.coverOn tag fields) := ⟨.coverOn 0 [0, 0], rfl, rfl⟩
theorem coverOff (tag : Byte) (fields : List Byte) : Statement (.coverOff tag fields) := ⟨.coverOff 0 [0, 1], rfl, rfl⟩
theorem protectTrip (tag : Byte) (fields : List Byte) : Statement (.protectTrip tag fields) := ⟨.protectTrip tag fields, rfl, rfl⟩
theorem protectClear (tag : Byte) (fields : List Byte) : Statement (.protectClear tag fields) := ⟨.protectClear tag fields, rfl, rfl⟩
theorem latchClear (tag : Byte) (fields : List Byte) : Statement (.latchClear tag fields) := ⟨.latchClear tag fields, rfl, rfl⟩
theorem busRelease (tag : Byte) (fields : List Byte) : Statement (.busRelease tag fields) := ⟨.busRelease tag fields, rfl, rfl⟩
theorem busReclaim (tag : Byte) (fields : List Byte) : Statement (.busReclaim tag fields) := ⟨.busReclaim tag fields, rfl, rfl⟩
theorem busTest (tag : Byte) (fields : List Byte) : Statement (.busTest tag fields) := ⟨.busTest tag fields, rfl, rfl⟩
theorem allocateNow (tag : Byte) (fields : List Byte) : Statement (.allocateNow tag fields) := ⟨.allocateNow tag fields, rfl, rfl⟩
theorem snapshotTake (tag : Byte) (fields : List Byte) : Statement (.snapshotTake tag fields) := ⟨.snapshotTake tag fields, rfl, rfl⟩
theorem storeSave (tag : Byte) (fields : List Byte) : Statement (.storeSave tag fields) := ⟨.storeSave tag fields, rfl, rfl⟩
theorem storeLoad (tag : Byte) (fields : List Byte) : Statement (.storeLoad tag fields) := ⟨.storeLoad tag fields, rfl, rfl⟩
theorem clockSet (tag : Byte) (fields : List Byte) : Statement (.clockSet tag fields) := ⟨.clockSet tag fields, rfl, rfl⟩
theorem programAdd (tag : Byte) (fields : List Byte) : Statement (.programAdd tag fields) := ⟨.programAdd tag fields, rfl, rfl⟩
theorem programDelete (tag : Byte) (fields : List Byte) : Statement (.programDelete tag fields) := ⟨.programDelete tag fields, rfl, rfl⟩
theorem start (tag : Byte) (fields : List Byte) : Statement (.start tag fields) := ⟨.start tag fields, rfl, rfl⟩
theorem reset (tag : Byte) (fields : List Byte) : Statement (.reset tag fields) := ⟨.reset tag fields, rfl, rfl⟩
theorem softReset (strap : Strap) : Statement (.softReset strap) := ⟨.softReset strap, rfl, rfl⟩
theorem noticeWaitExpiry : Statement .noticeWaitExpiry := ⟨.noticeWaitExpiry, rfl, rfl⟩
theorem frameReceived (bits : List Bool) : Statement (.frameReceived bits) := ⟨.frameReceived bits, rfl, rfl⟩
theorem frameStart : Statement .frameStart := ⟨.frameStart, rfl, rfl⟩
theorem ownFrameDone : Statement .ownFrameDone := ⟨.ownFrameDone, rfl, rfl⟩
theorem arbitrationLost : Statement .arbitrationLost := ⟨.arbitrationLost, rfl, rfl⟩
theorem transmitError : Statement .transmitError := ⟨.transmitError, rfl, rfl⟩
theorem isolatedRecovery : Statement .isolatedRecovery := ⟨.isolatedRecovery, rfl, rfl⟩
theorem pauseTimerExpiry (node : Nat) : Statement (.pauseTimerExpiry node) := ⟨.pauseTimerExpiry 63, rfl, rfl⟩
theorem handAsserted : Statement .handAsserted := ⟨.handAsserted, rfl, rfl⟩
theorem handDeasserted : Statement .handDeasserted := ⟨.handDeasserted, rfl, rfl⟩
theorem receiveEntryTaken : Statement .receiveEntryTaken := ⟨.receiveEntryTaken, rfl, rfl⟩
theorem agingExpiry : Statement .agingExpiry := ⟨.agingExpiry, rfl, rfl⟩
theorem holdExpiry (sheet : Nat) : Statement (.holdExpiry sheet) := ⟨.holdExpiry 1, rfl, rfl⟩
theorem tankReheatExpiry (sheet : Nat) : Statement (.tankReheatExpiry sheet) := ⟨.tankReheatExpiry 1, rfl, rfl⟩
theorem criticalHoldExpiry (sheet : Nat) : Statement (.criticalHoldExpiry sheet) := ⟨.criticalHoldExpiry 1, rfl, rfl⟩
theorem periodTimerExpiry : Statement .periodTimerExpiry := ⟨.periodTimerExpiry, rfl, rfl⟩
theorem stepTimerExpiry (channel : Nat) : Statement (.stepTimerExpiry channel) := ⟨.stepTimerExpiry 31, rfl, rfl⟩
theorem effectSample (channel : Nat) : Statement (.effectSample channel) := ⟨.effectSample 31, rfl, rfl⟩
theorem slewStep (output : Nat) : Statement (.slewStep output) := ⟨.slewStep 15, rfl, rfl⟩
theorem refreshExpiry (entry : Nat) : Statement (.refreshExpiry entry) := ⟨.refreshExpiry 31, rfl, rfl⟩
theorem tick : Statement .tick := ⟨.tick, rfl, rfl⟩
theorem protectAsserted : Statement .protectAsserted := ⟨.protectAsserted, rfl, rfl⟩
theorem protectDeasserted : Statement .protectDeasserted := ⟨.protectDeasserted, rfl, rfl⟩
theorem keyPress : Statement .keyPress := ⟨.keyPress, rfl, rfl⟩
theorem keyRelease : Statement .keyRelease := ⟨.keyRelease, rfl, rfl⟩
theorem keyHoldExpiry : Statement .keyHoldExpiry := ⟨.keyHoldExpiry, rfl, rfl⟩
theorem saveComplete (check : BitVec 16) : Statement (.saveComplete check) := ⟨.saveComplete check, rfl, rfl⟩
theorem loadComplete (receiving : Bool) : Statement (.loadComplete receiving) := ⟨.loadComplete receiving, rfl, rfl⟩
theorem snapshotWriteComplete (good : Bool) : Statement (.snapshotWriteComplete good) := ⟨.snapshotWriteComplete good, rfl, rfl⟩
theorem idlePeriod : Statement .idlePeriod := ⟨.idlePeriod, rfl, rfl⟩
theorem lengthAbove200 (p : Port) (length : Byte) : Statement (.lengthAbove200 p length) := ⟨.lengthAbove200 p 201, rfl, rfl⟩
theorem unknownActCode (tag code : Byte) (fields : List Byte) : Statement (.unknownActCode tag code fields) := ⟨.unknownActCode 0 25 [], rfl, rfl⟩

end Sys2Proof.Laws.Shape
end

