-- ==== Sys2Proof/Laws/Requests.lean ====
section
/-! SUPPORT. How a ready request is taken and answered, once for every request command, and how an event of a block acts. -/

namespace Sys2Proof.Machine
open Sys2Proof

variable {s : State}

/-- A ready part takes the request at the head of the buffer, and nothing happens before its own rule (R183). -/
theorem takeRequest_ready {r : Request} (h : Ready r s) (f : State → State) : s.takeRequest r f = f s := by
  obtain ⟨h1, h2, h3, h4⟩ := h
  have hl : s.live = true := by simp [State.live, h1, h2]
  have he : s.endAssembly = s := by simp [State.endAssembly, h3]
  cases hq : s.lnk.requests with
  | nil => simp [hq] at h4
  | cons q rest =>
    have hqr : q = r := by simpa [hq] using h4
    simp [State.takeRequest, hl, he, hq, hqr]

theorem serve_ready {tag kind : Byte} {body : List Byte} (h : Ready ⟨tag, kind, body⟩ s) (d : State → Decision) :
    s.serve tag kind body d = s.conclude tag (d s) := takeRequest_ready h _

theorem serveAct_ready {tag : Byte} {code : Nat} {fields : List Byte}
    (h : Ready ⟨tag, kindAct, BitVec.ofNat 8 code :: fields⟩ s) (d : State → Decision) :
    s.serveAct tag code fields d = s.conclude tag (d s) := serve_ready h d

/-- An accepted request is answered DONE on the state its rule leaves. -/
theorem conclude_done (tag : Byte) (body : List Byte) (t : State) :
    s.conclude tag (.ok (body, t)) = t.answered tag .done body := rfl

/-- A refused request changes nothing but the buffer and the reply output (R183). -/
theorem conclude_refused (tag : Byte) (e : Reason) : s.conclude tag (.error e) = s.refusedFor tag e := rfl

/-- Past the checks every act shares, its own rule decides (R186). -/
theorem act_ready {tag : Byte} {code : Nat} {fields : List Byte} (h : ActReady tag code fields s) (n : Nat)
    (f : State → Decision) :
    s.act n fields f = if fields.length ≠ n then .error .badLength else f s := by
  simp [State.act, h.load]

/-- An act with a body of its length is decided by its own rule. -/
theorem serveAct_act {tag : Byte} {code n : Nat} {fields : List Byte} (h : ActReady tag code fields s)
    (hn : fields.length = n) (f : State → Decision) :
    (s.serveAct tag code fields fun st => st.act n fields f) = s.conclude tag (f s) := by
  rw [serveAct_ready h.ready, act_ready h]
  simp [hn]

/-- A WRITE of record `i` with its own length is decided by its own rule (R184). -/
theorem write_ready {tag : Byte} {table n : Nat} {i : Byte} {record : List Byte} {k : Fin n}
    (h : WriteReady tag table (i :: record) s) {ok : List Byte → Bool} (hk : index n i.toNat = some k)
    (hr : ok record = true) (f : Fin n → List Byte → State → Decision) :
    s.write n (i :: record) ok f = f k record s := by
  have hb : s.storeBusy = false := by simp [State.storeBusy, h.store.1, h.store.2]
  simp [State.write, hk, hr, hb]

/-- An event of a block acts while the part is live, and is nothing else. -/
theorem event_live (h : s.live = true) (f : State → State) : s.event f = f s := by simp [State.event, h]

theorem event_dead (h : s.live = false) (f : State → State) : s.event f = s := by simp [State.event, h]

end Sys2Proof.Machine
end

