-- ==== Sys2Proof/Tests/Slice0.lean ====
section
/-! SUPPORT. Tests of the part: reset, well-formedness, the manual's worked examples, and for each obligation with hypotheses a
concrete state and operands that meet them, clause by clause. -/

namespace Sys2Proof.Tests
open Sys2Proof Sys2Proof.Machine

/-! ### Small states -/

/-- A state with one held request, of tag 1. -/
def asked (kind : Byte) (body : List Byte) (s : State) : State := { s with lnk := { s.lnk with requests := [⟨1, kind, body⟩] } }

def acted (code : Nat) (fields : List Byte) (s : State) : State := asked kindAct (BitVec.ofNat 8 code :: fields) s

def wrote (table : Nat) (rest : List Byte) (s : State) : State := asked kindWrite (BitVec.ofNat 8 table :: rest) s

/-- The part after START, with nothing configured. -/
def run0 : State := { phase := .run, hra := { timer := 10 } }

/-- The part after a trip. -/
def tripped0 : State := { run0 with pru := { state := .tripped }, hra := { run0.hra with hold := true } }

def loading0 : State := { stc := { op := .load } }

def saving0 : State := { stc := { op := .save } }

theorem asked_ok {kind : Byte} {body : List Byte} {s : State}
    (h : s.phase ≠ .settle ∧ s.lnk.resetWait = none ∧ s.lnk.assembly = none) : Ready ⟨1, kind, body⟩ (asked kind body s) :=
  ⟨h.1, h.2.1, h.2.2, rfl⟩

theorem acted_ok {code : Nat} {fields : List Byte} {s : State}
    (h : (s.phase ≠ .settle ∧ s.lnk.resetWait = none ∧ s.lnk.assembly = none) ∧ s.stc.op ≠ .load) :
    ActReady 1 code fields (acted code fields s) :=
  ⟨asked_ok h.1, h.2⟩

theorem wrote_ok {table : Nat} {rest : List Byte} {s : State}
    (h : (s.phase ≠ .settle ∧ s.lnk.resetWait = none ∧ s.lnk.assembly = none) ∧ s.stc.op ≠ .save ∧ s.stc.op ≠ .load) :
    WriteReady 1 table rest (wrote table rest s) :=
  ⟨asked_ok h.1, h.2⟩

/-! ### Reset -/

/-- State.reset is what an ATTENDED power-on and the end of its SETTLE leave (R197, R198, R200). -/
theorem test_reset_is_power_on :
    exec .settleEnd { State.reset with phase := .settle } = .next State.reset := by rfl

theorem test_reset_values :
    State.reset.phase = .waiting ∧ State.reset.fbc.txe = 0 ∧ State.reset.scu.clock = 0 ∧ State.reset.pru.state = .armed ∧
      State.reset.attn = false ∧ State.reset.grant = false ∧ State.reset.cfg.bus.bitRate = 125 ∧
      (State.reset.cfg.profiles.get 3).lightingShare = 600 := by decide

/-! ### Commands that are not of their row -/

theorem test_illformed_unknownKind : exec (.unknownKindRequest 1 5 []) .reset = .fault .illFormed := by rfl
theorem test_illformed_pointsConfig : exec (.writePointsConfig 1 [0, 0, 0]) .reset = .fault .illFormed := by rfl
theorem test_illformed_pointValue : exec (.writePointValue 1 [0, 0]) .reset = .fault .illFormed := by rfl
theorem test_illformed_sinks : exec (.writeSinks 1 [12]) .reset = .fault .illFormed := by rfl
theorem test_illformed_outputs : exec (.writeOutputs 1 [16]) .reset = .fault .illFormed := by rfl
theorem test_illformed_write : exec (.write 1 [1, 63]) .reset = .fault .illFormed := by rfl
theorem test_illformed_coverOn : exec (.coverOn 1 [0, 1]) .reset = .fault .illFormed := by rfl
theorem test_illformed_coverOff : exec (.coverOff 1 [0, 0]) .reset = .fault .illFormed := by rfl
theorem test_illformed_pause : exec (.pauseTimerExpiry 64) .reset = .fault .illFormed := by rfl
theorem test_illformed_hold : exec (.holdExpiry 2) .reset = .fault .illFormed := by rfl
theorem test_illformed_tank : exec (.tankReheatExpiry 2) .reset = .fault .illFormed := by rfl
theorem test_illformed_critical : exec (.criticalHoldExpiry 2) .reset = .fault .illFormed := by rfl
theorem test_illformed_stepTimer : exec (.stepTimerExpiry 32) .reset = .fault .illFormed := by rfl
theorem test_illformed_effect : exec (.effectSample 32) .reset = .fault .illFormed := by rfl
theorem test_illformed_slew : exec (.slewStep 16) .reset = .fault .illFormed := by rfl
theorem test_illformed_refresh : exec (.refreshExpiry 32) .reset = .fault .illFormed := by rfl
theorem test_illformed_length : exec (.lengthAbove200 .uart 200) .reset = .fault .illFormed := by rfl
theorem test_illformed_actCode : exec (.unknownActCode 1 24 []) .reset = .fault .illFormed := by rfl

/-! ### The manual's worked examples -/

/-- The worked dew points of 04, 4.3, the limit cases with their floor flags. -/
theorem test_dew_points :
    [dewPoint 1200 650, dewPoint (-430) 800, dewPoint 1500 0, dewPoint (-3000) 999, dewPoint (-3000) 1000,
      dewPoint 5200 1000, dewPoint 3999 1000, dewPoint 2000 1100] =
    [(568, false), (-738, false), (-3000, true), (-3000, true), (-3000, false), (4000, false), (3998, false),
      (2000, false)] := by decide +kernel

/-- The worked effect samples of 06, 6.4. -/
theorem test_effect_samples :
    [shapeLevel .sawtooth 2000 0 500 3500 300, shapeLevel .triangle 2000 0 500 3500 300,
      shapeLevel .triangle 2000 0 500 3500 1620, shapeLevel .pulse 2000 250 500 3500 300,
      shapeLevel .pulse 2000 250 500 3500 1000, shapeLevel .sine 2000 0 500 3500 300,
      shapeLevel .sine 2000 0 500 3500 1620, shapeLevel .sine 2000 0 400 2100 300] =
    [950, 1400, 1640, 3500, 500, 1118, 1448, 750] := by decide +kernel

/-- The worked derate and recall steps of 06, 6.5. -/
theorem test_derate_and_recall_step :
    derateOf (.watts 18000) 30000 = 600 ∧
      recallStep { step := 64, period := 20 } (some 20) 3695 = (37, 20) ∧
      recallStep { step := 32, period := 50 } (some 20) 930 = (24, 50) := by decide +kernel

/-- The worked heat pass of a game night (05): the grants and the rotation starts. -/
theorem test_game_night_pass :
    let sinks : List SinkConfig := [⟨true, .heave, .protective, some 0, 100, 400, 1000, none, 1000, 0⟩,
      ⟨true, .heave, .protective, some 1, 100, 400, 1000, none, 1000, 0⟩, ⟨true, .tank, .comfort, none, 250, 800, 1000, none, 1000, 0⟩,
      ⟨true, .regen, .comfort, none, 300, 1500, 1000, none, 1000, 0⟩, ⟨true, .ceiling, .comfort, none, 200, 600, 1000, none, 1000, 0⟩,
      ⟨true, .stands, .comfort, some 0, 200, 1200, 1000, none, 1000, 80⟩,
      ⟨true, .stands, .comfort, some 0, 200, 900, 1000, none, 1000, 120⟩]
    let s : State := { run0 with
      cfg := {
        sinks := Table.ofFn fun i => sinks.getD i.val {}
        allocator := { heatPoint := some 9 }
        points := (Table.const 64 {}).set 9 { kind := .heatFlow, binding := .link }
        profiles := defaultProfiles.modify 3 fun p => { p with lightingShare := 500 }
        zones := (Table.const 4 {}).set 0 { enabled := true } }
      scu := { mode := .event }
      ptb := { points := (Table.const 64 {}).set 9 { value := some 4200, quality := .good } }
      cdm := (Table.const 4 {}).set 0 { state := .risk, limiting := some .nearIce, demand := 1000 }
      shm := (Table.const 2 { state := .normal, budget := .watts 36000 }).set 1 { state := .normal, budget := .watts 60000 }
      hra := { sheets := (Table.const 2 {}).set 0 { tankRunning := true } }
      lsq := { sheets := (Table.const 2 { lUp := 30000 }).set 1 { lUp := 8000 } } }
    let h := (s.recompute fun _ => true).allocate.1
    h.sinks.cells.map (·.grant) = [100, 100, 400, 1500, 0, 1200, 700, 0, 0, 0, 0, 0] ∧
      h.rotation.cells = [0, 6, 3, 0] ∧ h.rejected = 0 ∧ (h.sheets.get 0).allowance = .watts 18000 := by decide +kernel

/-- R190: two notices of one event have waited the coalescing time together, so ATTN stays when a FETCH takes the first. -/
theorem test_wait_expiry_ages_together :
    let s : State := { run0 with
      cfg := { notice := { threshold := 8, coalescing := 5 } }
      lnk := { notices := [⟨.point, 3, 0, 100, 2⟩, ⟨.limit, 3, 1, 100, 2⟩, ⟨.bus, 0, 1, 101, 1⟩] } }
    let t : State := { s with lnk := s.lnk.waitOver 5 }
    let fetched (u : State) : State := { u with lnk := { u.lnk with notices := u.lnk.notices.drop 1 } }
    (s.attn, t.attn, (fetched t).attn, (fetched (fetched t)).attn, t.lnk.notices.map (·.waited)) =
      (false, true, true, false, [5, 5, 4]) := by decide +kernel

/-- R94, R100, R144: a COVER off runs two passes, whose rotation gives the pool to sink 0 at the first and to sink 1 at the second. Entry 0
goes up and back to 0; its request waits with the last figure. -/
theorem test_cover_off_requests_each_pass :
    let s : State := { run0 with
      cfg := {
        sinks := Table.ofFn fun i => if i.val < 2 then { enabled := true, kind := .fixed, cls := .store, max := 100, fullOpen := 100 } else {}
        allocator := { heatPoint := some 9, reserve := 0 }
        points := (Table.const 64 {}).set 9 { kind := .heatFlow, binding := .link }
        sheets := Table.const 2 { enabled := true }
        remotes := Table.ofFn fun i => if i.val < 2 then { binding := .sink, index := i.val, node := 7, point := i.val } else {} }
      ptb := { points := (Table.const 64 {}).set 9 { value := some 100, quality := .good } }
      shm := (Table.const 2 {}).set 0 { state := .covered, budget := .unlimited, atLastPass := some .unlimited }
      hra := { sinks := Table.ofFn fun i => if i.val < 2 then
        { reqMax := 100, cls := .store, grant := if i.val = 1 then 100 else 0 } else {} }
      ost := { remotes := Table.ofFn fun i =>
        if i.val < 2 then { value := some (if i.val = 1 then 4095 else 0), last := some (if i.val = 1 then 4095 else 0) } else {} } }
    ((s.coverOff 0).map fun t => (t.fbc.txOrdinary.map fun e => (e.point, e.value), t.hra.sinks.cells.map (·.grant))) =
      some ([(0, 0), (1, 4095)], [0, 100, 0, 0, 0, 0, 0, 0, 0, 0, 0, 0]) := by decide +kernel

/-- R144, R154: the entry scene raises channel 0 at once, and the mode's pass, which gives sheet A nothing, takes it back. Its entry requests
the last figure. -/
theorem test_mode_set_requests_last_figure :
    let s : State := { run0 with
      cfg := {
        channels := (Table.const 32 {}).set 0 { sheet := some 0, coefficient := 1000, period := 0 }
        scenes := (Table.const 24 {}).set 0 { levels := (Table.const 32 none).set 0 (some 4095) }
        profiles := defaultProfiles.modify 3 fun p => { p with entryScene := some 0 }
        remotes := (Table.const 32 {}).set 0 { binding := .light, node := 7 } }
      shm := Table.const 2 { state := .critical, budget := .watts 0 }
      lsq := { sheets := Table.const 2 { allowance := .unlimited } }
      ost := { remotes := (Table.const 32 {}).set 0 { value := some 0, last := some 0 } } }
    let t := s.changeMode .event
    ((s.takeMode .event).remoteSource 0, t.remoteSource 0, t.fbc.txOrdinary.map fun e => (e.target, e.value)) =
      (4095, 0, [(7, 0)]) := by decide +kernel

/-- The outcomes of R21: arbitration lost to a lower priority, a frame read back as sent and acknowledged, an acknowledge slot that reads
recessive, a wrong level in the value field, and a frame still under way. -/
theorem test_own_frame_outcomes :
    let f : BusFrame := ⟨2, .command, 5, 9, 3, 0⟩
    let g : BusFrame := ⟨3, .poll, 1, 1, 0, 0⟩
    [g.outcome f.lineBits, f.outcome (acknowledged f.lineBits), f.outcome f.lineBits, f.outcome ({ f with value := 1 } : BusFrame).lineBits,
      f.outcome (f.lineBits.take 20)] = [some .lost, some .done, some .error, some .error, none] := by decide +kernel

/-- One mode change alters two demands; the entries, bound to the zones in falling order, request in entry index order (R144). -/
theorem test_requests_in_index_order :
    let s : State := asked kindAct [6, 4] { run0 with
      cfg := {
        zones := Table.const 4 { enabled := true }
        remotes := ((Table.const 32 {}).set 0 { binding := .zoneDemand, index := 1 }).set 1 { binding := .zoneDemand, index := 0, point := 1 } } }
    (match exec (.modeSet 1 [4]) s with
      | .next t => t.fbc.txOrdinary.map (·.owner)
      | _ => []) = [some 0, some 1] := by decide +kernel

/-! ### Hypotheses met: one witness per clause, at the clause's boundary values -/

theorem imageCheck_toNat (c : Configuration) : crc16 (imageBytes c) % 65536 = (imageCheck c).toNat :=
  (BitVec.toNat_ofNat _ 16).symm

theorem imageCheck_next (c : Configuration) : crc16 (imageBytes c) % 65536 ≠ (imageCheck c + 1).toNat := by
  rw [imageCheck_toNat]
  generalize imageCheck c = x
  bv_omega

theorem witness_CommandsComplete : (Instr.pauseTimerExpiry 63).wellFormed = true ∧ (Instr.pauseTimerExpiry 64).wellFormed = false := by
  decide

theorem witness_EmptyQueueTurn :
    (∃ s : State, s.pending = [] ∧ s.live = true ∧ s.lnk.assembly = none ∧
        (∀ r, s.lnk.requests.head? = some r → r.rowless = false) ∧ (s.ms + 1) % 1000 ≠ 0 ∧ s.phase ≠ .run) ∧
    (∃ s : State, s.pending = [] ∧ s.live = true ∧ s.lnk.assembly = none ∧ s.lnk.requests.head? = some ⟨1, kindStatus, []⟩ ∧
        Request.rowless ⟨1, kindStatus, []⟩ = false ∧ (s.ms + 1) % 1000 = 0 ∧ s.phase = .run ∧ (s.shm.get 1).state = .critical ∧
        (s.cfg.sheets.get 1).criticalHold = 11 ∧ min 65535 ((s.shm.get 1).criticalTime + 1) = 10) ∧
    (∃ s : State, s.pending = [] ∧ s.live = false) :=
  ⟨⟨{}, rfl, rfl, rfl, fun _ h => (by cases h), by decide, by decide⟩,
    ⟨asked kindStatus [] { run0 with ms := 999, cfg := { sheets := Table.const 2 { criticalHold := 11 } }, shm := Table.const 2 { state := .critical, criticalTime := 9 } },
        rfl, rfl, rfl, rfl, rfl, rfl, rfl, rfl, rfl, by decide⟩,
    ⟨{ phase := .settle }, rfl, rfl⟩⟩

theorem witness_ResetsBeginSettle :
    (∃ s : State, s.lnk.resetWait = some 0) ∧
    (∃ s : State, ActReady 1 24 [] s) ∧
    (∃ s : State, s.phase ≠ .settle ∧ s.lnk.output = ⟨1, .done, [[0]]⟩ :: []) ∧
    (∃ s : State, s.stc.slots.get 3 ≠ none) ∧
    (∃ s : State, (∀ i, s.stc.slots.get i = none)) :=
  ⟨⟨{ lnk := { resetWait := some 0 } }, rfl⟩,
    ⟨acted 24 [] {}, acted_ok (by decide)⟩,
    ⟨{ lnk := { output := [⟨1, .done, [[0]]⟩], resetWait := some 1 } }, by decide, rfl⟩,
    ⟨{ stc := { slots := (Table.const 4 none).set 3 (some (State.snapshotNow [] {})) } }, by decide⟩,
    ⟨{}, by decide⟩⟩

theorem witness_SettleEndsWaiting :
    (∃ s : State, s.phase = .settle ∧ s.strap = .attended) ∧
    (∃ s : State, s.phase = .settle ∧ s.stc.goodImage = none) :=
  ⟨⟨{ phase := .settle }, rfl, rfl⟩,
    ⟨{ phase := .settle, strap := .standalone }, rfl, rfl⟩⟩

theorem witness_SettleEndsRunning :
    (∃ s : State, s.phase = .settle ∧ s.strap = .standalone ∧ s.stc.goodImage = some {} ∧ s.pins.protect = true) ∧
    (∃ s : State, s.phase = .settle ∧ s.strap = .standalone ∧ s.stc.goodImage = some {} ∧ s.pins.protect = false ∧
        s.pins.egress = false) :=
  ⟨⟨{ phase := .settle, strap := .standalone, pins := { protect := true }, stc := { image := some ⟨{}, imageCheck {}⟩ } }, rfl,
      rfl, Stc.goodImage_eq rfl, rfl⟩,
    ⟨{ phase := .settle, strap := .standalone, stc := { image := some ⟨{}, imageCheck {}⟩ } }, rfl, rfl, Stc.goodImage_eq rfl, rfl, rfl⟩⟩

theorem witness_StartRunsArena :
    (∃ s : State, ActReady 1 23 [] s ∧ s.phase = .waiting ∧ s.pru.state = .armed ∧ s.activeTriggers ≠ []) ∧
    (∃ s : State, ActReady 1 23 [] s ∧ s.phase = .waiting ∧ s.pru.state = .armed ∧ s.activeTriggers = [] ∧ s.pru.key ≠ .timing ∧
        s.dueEntries = []) :=
  ⟨⟨acted 23 [] { pru := { pin := true } }, acted_ok (by decide), rfl, rfl, by decide⟩,
    ⟨acted 23 [] {}, acted_ok (by decide), rfl, rfl, rfl, by decide, rfl⟩⟩

theorem witness_HostFrameTaken :
    (∃ s : State, (List.replicate 200 (0 : Byte)).length ≤ 200 ∧ s.phase ≠ .settle ∧ s.ignores .spi = false ∧ s.lnk.intake .spi = [] ∧
        s.lnk.requests.length < 2) ∧
    (∃ s : State, s.phase ≠ .settle ∧ s.ignores .uart = false ∧ s.lnk.intake .uart = [] ∧ s.lnk.requests.length = 2) ∧
    (∃ s : State, s.phase ≠ .settle ∧ s.ignores .uart = false ∧ scan (s.lnk.uartIntake ++ [0]) = ([], [syncByte, 0])) ∧
    (∃ s : State, 200 < (201 : Byte).toNat ∧ s.phase ≠ .settle ∧ s.ignores .spi = false ∧ s.lnk.intake .spi = []) ∧
    (∃ s : State, s.ignores .spi = false ∧ s.lnk.intake .spi = [syncByte]) ∧
    (∃ s : State, s.lnk.locked = .spi ∧ (∀ r ∈ s.lnk.output, r.bodies ≠ []) ∧
        (∀ r, s.lnk.output.head? = some r → s.lnk.clocked < r.bytes.length)) ∧
    (∃ s : State, s.lnk.locked = .none) ∧
    (∃ s : State, s.lnk.locked = .uart) :=
  ⟨⟨{ lnk := { requests := [⟨1, kindStatus, []⟩] } }, by rw [List.length_replicate], by decide, rfl, rfl, by decide⟩,
    ⟨{ lnk := { requests := [⟨1, kindStatus, []⟩, ⟨2, kindStatus, []⟩] } }, by decide, rfl, rfl, by decide +kernel⟩,
    ⟨{ lnk := { uartIntake := [syncByte] } }, by decide, rfl, by decide +kernel⟩,
    ⟨{}, by decide, by decide, rfl, rfl⟩,
    ⟨{ lnk := { spiIntake := [syncByte] } }, rfl, rfl⟩,
    ⟨{ lnk := { locked := .spi, output := [⟨1, .done, [[0]]⟩], clocked := 6 } }, rfl, by decide, fun r h => (by cases h; decide +kernel)⟩,
    ⟨{}, rfl⟩,
    ⟨{ lnk := { locked := .uart } }, rfl⟩⟩

theorem witness_UnknownRequestsRefused :
    (∃ s : State, Ready ⟨1, 0, []⟩ s) ∧
    (∃ s : State, 5 < (6 : Byte).toNat ∧ Ready ⟨1, 6, []⟩ s) ∧
    (∃ s : State, Ready ⟨1, kindAct, 0 :: []⟩ s) ∧
    (∃ s : State, 24 < (25 : Byte).toNat ∧ Ready ⟨1, kindAct, 25 :: []⟩ s) ∧
    (∃ s : State, 17 < (18 : Byte).toNat ∧ Ready ⟨1, kindWrite, 18 :: []⟩ s) ∧
    (∃ s : State, writableCount 17 ≤ (0 : Byte).toNat ∧ Ready ⟨1, kindWrite, 17 :: 0 :: []⟩ s) ∧
    (∃ s : State, writableCount 1 ≤ (64 : Byte).toNat ∧ Ready ⟨1, kindWrite, 1 :: 64 :: []⟩ s) ∧
    (∃ s : State, Ready ⟨1, kindWrite, [17]⟩ s) ∧
    (∃ s : State, (Instr.writeWindows 1 (4 :: putWindow {})).wellFormed = true ∧ Ready ⟨1, kindWrite, 2 :: 4 :: putWindow {}⟩ s ∧
        4 ≤ (4 : Byte).toNat) ∧
    (∃ s : State, (Instr.writeNoticeSettings 1 [0]).wellFormed = true ∧ Ready ⟨1, kindWrite, 13 :: 0 :: []⟩ s) ∧
    (∃ s : State, (Instr.writeWindows 1 (3 :: putWindow {})).wellFormed = true ∧ Ready ⟨1, kindWrite, 2 :: 3 :: putWindow {}⟩ s ∧
        (3 : Byte).toNat < 4 ∧ (putWindow {}).length = 6 ∧ s.stc.op = .save) ∧
    (∃ s : State, (Instr.writePointValue 1 (63 :: [0, 0])).wellFormed = true ∧ Ready ⟨1, kindWrite, 1 :: 63 :: [0, 0]⟩ s ∧
        (63 : Byte).toNat < 64 ∧ s.stc.op = .load) ∧
    (∃ s : State, Ready ⟨1, kindWrite, 6 :: 12 :: putAllocator {}⟩ s ∧ (putAllocator {}).length = 6 ∧ s.stc.op = .save) ∧
    (∃ s : State, Ready ⟨1, kindWrite, 9 :: 16 :: [0]⟩ s ∧ ([0] : List Byte).length ≠ 2) ∧
    (∃ s : State, (Instr.writeWindows 1 (3 :: [2, 0, 0, 0, 0, 0])).wellFormed = true ∧
        Ready ⟨1, kindWrite, 2 :: 3 :: [2, 0, 0, 0, 0, 0]⟩ s ∧ s.stc.op ≠ .save ∧ s.stc.op ≠ .load ∧
        (parseWindow [2, 0, 0, 0, 0, 0]).isSome = false) ∧
    (∃ s : State, Ready ⟨1, kindWrite, 6 :: 12 :: [0, 0, 0, 0, 0, 2]⟩ s ∧ s.stc.op ≠ .save ∧ s.stc.op ≠ .load ∧
        (parseAllocator [0, 0, 0, 0, 0, 2]).isSome = false) :=
  ⟨⟨asked 0 [] {}, asked_ok (by decide)⟩,
    ⟨asked 6 [] {}, by decide, asked_ok (by decide)⟩,
    ⟨asked kindAct [0] {}, asked_ok (by decide)⟩,
    ⟨asked kindAct [25] {}, by decide, asked_ok (by decide)⟩,
    ⟨asked kindWrite [18] {}, by decide, asked_ok (by decide)⟩,
    ⟨asked kindWrite [17, 0] {}, by decide, asked_ok (by decide)⟩,
    ⟨asked kindWrite [1, 64] {}, by decide, asked_ok (by decide)⟩,
    ⟨asked kindWrite [17] {}, asked_ok (by decide)⟩,
    ⟨asked kindWrite (2 :: 4 :: putWindow {}) saving0, by rfl, asked_ok (by decide), by decide⟩,
    ⟨asked kindWrite [13, 0] saving0, by rfl, asked_ok (by decide)⟩,
    ⟨asked kindWrite (2 :: 3 :: putWindow {}) saving0, by rfl, asked_ok (by decide), by decide, by decide +kernel, rfl⟩,
    ⟨asked kindWrite (1 :: 63 :: [0, 0]) loading0, by rfl, asked_ok (by decide), by decide, rfl⟩,
    ⟨asked kindWrite (6 :: 12 :: putAllocator {}) saving0, asked_ok (by decide), by decide +kernel, rfl⟩,
    ⟨asked kindWrite [9, 16, 0] {}, asked_ok (by decide), by decide⟩,
    ⟨asked kindWrite (2 :: 3 :: [2, 0, 0, 0, 0, 0]) {}, by rfl, asked_ok (by decide), by decide, by decide, by decide +kernel⟩,
    ⟨asked kindWrite (6 :: 12 :: [0, 0, 0, 0, 0, 2]) {}, asked_ok (by decide), by decide, by decide, by decide +kernel⟩⟩

/-- One code outside its list in a record of each table that has codes; the codes at the ends of their lists are taken. -/
theorem test_codes_outside_lists :
    (parsePoint [0, 0, 0, 10, 0, 0, 0, 0, 0, 0, 0, 0, 0, 0, 0, 0] = none ∧
      (parsePoint [2, 0, 0, 9, 0, 0, 0, 0, 0, 0, 3, 0, 0, 0, 0, 0]).isSome = true) ∧
    parseBus [0, 0, 0, 2, 0] = none ∧
    parseSheet ([0, 0, 2] ++ List.replicate 28 0) = none ∧
    (parseZone ([0, 0, 0, 0, 0, 0, 0, 3] ++ List.replicate 12 0) = none ∧
      (parseZone ([1, 0, 0, 1, 0, 1, 0, 2] ++ List.replicate 12 0)).isSome = true) ∧
    (parseSink ([0, 0, 4] ++ List.replicate 13 0) = none ∧ (parseSink ([1, 5, 3, 2] ++ List.replicate 12 0)).isSome = true) ∧
    parseChannel ([3] ++ List.replicate 10 0) = none ∧
    parseScene (List.replicate 96 0 ++ [2, 0, 0]) = none ∧
    (parseOutput ([4] ++ List.replicate 10 0) = none ∧ (parseOutput ([3, 7] ++ List.replicate 9 0)).isSome = true) ∧
    parseRemote ([8] ++ List.replicate 8 0) = none ∧
    parseProfile (List.replicate 8 0 ++ [2]) = none ∧
    parseNotice (List.replicate 10 0 ++ [2, 0, 0]) = none := by decide +kernel

/-- Fields beyond their ranges go to the nearest value, each counted once (1.1, 2.1, 2.5, 9.1, 10.4): window matches and masks to 0 to 63, own
address to 0 to 62, the bit rate to the nearer of 125 and 250, the key hold to 5 to 50, and the periods to the nearest listed one. -/
theorem test_clamped_fields :
    parseWindow [1, 64, 63, 255, 0, 1] = some (⟨true, 63, 63, 63, 0, false⟩, 2) ∧
    parseBus [63, 188, 0, 0, 1] = some (⟨62, 250, 1, true, true⟩, 3) ∧
    parseProtect [4, 0, 0, 6] = (⟨5, 1, 5⟩, 3) ∧
    (parseNotice (List.replicate 11 1 ++ [33, 61])).map (fun x => (x.1.threshold, x.1.coalescing, x.2)) = some (32, 60, 2) := by decide +kernel

theorem witness_StatusAndFetch :
    (∃ s : State, Ready ⟨1, kindStatus, []⟩ s) ∧
    (∃ s : State, Ready ⟨1, kindFetch, [18]⟩ s) ∧
    (∃ s : State, Ready ⟨1, kindFetch, []⟩ s ∧ ([] : List Byte).length ≠ 1) ∧
    (∃ s : State, s.live = true ∧ s.cfg.notice.coalescing ≠ 0 ∧
        s.lnk.notices = ⟨.bus, 0, 1, 0, 0⟩ :: [⟨.bus, 0, 2, 0, 0⟩]) ∧
    (∃ l : Lnk, l.notices.length = 31) ∧
    (∃ l : Lnk, l.notices.length = 32 ∧ l.lost = 255) :=
  ⟨⟨asked kindStatus [] {}, asked_ok (by decide)⟩,
    ⟨asked kindFetch [18] {}, asked_ok (by decide)⟩,
    ⟨asked kindFetch [] {}, asked_ok (by decide), by decide⟩,
    ⟨{ cfg := { notice := { coalescing := 1 } }, lnk := { notices := [⟨.bus, 0, 1, 0, 0⟩, ⟨.bus, 0, 2, 0, 0⟩] } }, rfl, by decide, rfl⟩,
    ⟨{ notices := List.replicate 31 ⟨.bus, 0, 0, 0, 0⟩ }, rfl⟩,
    ⟨{ notices := List.replicate 32 ⟨.bus, 0, 0, 0, 0⟩, lost := 255 }, rfl, rfl⟩⟩

theorem witness_ReadsAnswered :
    (∃ s : State, 48 + 16 ≤ 64 ∧ s.ptb.heldAging = 0 ∧ Ready ⟨1, kindRead, [1, 48, 16]⟩ s) ∧
    (∃ s : State, Ready ⟨1, kindRead, [15, 0, 1]⟩ s) ∧
    (∃ s : State, Ready ⟨1, kindRead, [16, 0, 1]⟩ s ∧ s.cfg.allocator.clearOnRead = false) ∧
    (∃ s : State, Ready ⟨1, kindRead, [16, 0, 1]⟩ s ∧ s.cfg.allocator.clearOnRead = true) ∧
    (∃ s : State, Ready ⟨1, kindRead, 1 :: 49 :: [16]⟩ s ∧ 64 < 49 + 16) ∧
    (∃ s : State, Ready ⟨1, kindRead, 1 :: 47 :: [17]⟩ s ∧ 47 + 17 ≤ 64 ∧ 16 < 17) ∧
    (∃ s : State, Ready ⟨1, kindRead, 1 :: 63 :: [0]⟩ s ∧ 63 + 1 ≤ 64) ∧
    (∃ s : State, Ready ⟨1, kindRead, 1 :: 63 :: []⟩ s ∧ ([] : List Byte).length ≠ 1) ∧
    (∃ s : State, Ready ⟨1, kindRead, 15 :: 1 :: [1]⟩ s ∧ (1 : Byte) ≠ 0) ∧
    (∃ s : State, Ready ⟨1, kindRead, 16 :: 0 :: [2]⟩ s ∧ ([2] : List Byte) ≠ [1]) ∧
    (∃ s : State, s.pending = [] ∧ 17 < (18 : Byte).toNat ∧ Ready ⟨1, kindRead, [18, 0, 1]⟩ s) ∧
    (∃ s : State, s.pending = [] ∧ (17 : Byte).toNat ∉ [1, 15, 16] ∧ Ready ⟨1, kindRead, [17, 4, 1]⟩ s ∧
        s.record (17 : Byte).toNat (4 : Byte).toNat = none) ∧
    (∃ s : State, s.pending = [] ∧ (9 : Byte).toNat ∉ [1, 15, 16] ∧ Ready ⟨1, kindRead, [9, 16, 1]⟩ s ∧
        s.record (9 : Byte).toNat (16 : Byte).toNat = some (u16 1000)) ∧
    (∃ s : State, s.pending = [] ∧ (2 : Byte).toNat ∉ [1, 15, 16] ∧ Ready ⟨1, kindRead, [2, 3, 2]⟩ s ∧
        s.record (2 : Byte).toNat (3 : Byte).toNat = some (putWindow {}) ∧ (2 : Byte) ≠ 1) :=
  ⟨⟨asked kindRead [1, 48, 16] {}, by decide, rfl, asked_ok (by decide)⟩,
    ⟨asked kindRead [15, 0, 1] {}, asked_ok (by decide)⟩,
    ⟨asked kindRead [16, 0, 1] {}, asked_ok (by decide), rfl⟩,
    ⟨asked kindRead [16, 0, 1] { cfg := { allocator := { clearOnRead := true } } }, asked_ok (by decide), rfl⟩,
    ⟨asked kindRead [1, 49, 16] {}, asked_ok (by decide), by decide⟩,
    ⟨asked kindRead [1, 47, 17] {}, asked_ok (by decide), by decide, by decide⟩,
    ⟨asked kindRead [1, 63, 0] {}, asked_ok (by decide), by decide⟩,
    ⟨asked kindRead [1, 63] {}, asked_ok (by decide), by decide⟩,
    ⟨asked kindRead [15, 1, 1] {}, asked_ok (by decide), by decide⟩,
    ⟨asked kindRead [16, 0, 2] {}, asked_ok (by decide), by decide⟩,
    ⟨asked kindRead [18, 0, 1] {}, rfl, by decide, asked_ok (by decide)⟩,
    ⟨asked kindRead [17, 4, 1] {}, rfl, by decide, asked_ok (by decide), rfl⟩,
    ⟨asked kindRead [9, 16, 1] {}, rfl, by decide, asked_ok (by decide), rfl⟩,
    ⟨asked kindRead [2, 3, 2] {}, rfl, by decide, asked_ok (by decide), rfl, by decide⟩⟩

theorem witness_AssemblyHolds :
    (∃ s : State, 63 + 1 ≤ 64 ∧ Ready ⟨1, kindRead, [1, 63, 1]⟩ s) ∧
    (∃ s : State, Ready ⟨1, kindRead, [15, 0, 1]⟩ s ∧ s.cfg.bus.clearOnRead = true) ∧
    (∃ s : State, Ready ⟨1, kindRead, [16, 0, 1]⟩ s ∧ s.cfg.allocator.clearOnRead = false) ∧
    (∃ s : State, s.live = true ∧ s.pending = [] ∧ s.lnk.assembly = some ⟨.points, ⟨1, .done, [[0]]⟩⟩) ∧
    (∃ s : State, s.live = true ∧ s.pending = [] ∧ s.lnk.assembly = some ⟨.counters, ⟨1, .done, [[0]]⟩⟩) ∧
    (∃ s : State, s.live = true ∧ s.pending = [] ∧ s.lnk.assembly = some ⟨.energy, ⟨1, .done, [[0]]⟩⟩) ∧
    (∃ s : State, s.live = true ∧ s.readsPoints = true) ∧
    (∃ s : State, s.holdsCounts = true) :=
  ⟨⟨asked kindRead [1, 63, 1] {}, by decide, asked_ok (by decide)⟩,
    ⟨asked kindRead [15, 0, 1] { cfg := { bus := { clearOnRead := true } } }, asked_ok (by decide), rfl⟩,
    ⟨asked kindRead [16, 0, 1] {}, asked_ok (by decide), rfl⟩,
    ⟨{ lnk := { assembly := some ⟨.points, ⟨1, .done, [[0]]⟩⟩ }, ptb := { heldAging := 2 } }, rfl, rfl, rfl⟩,
    ⟨{ lnk := { assembly := some ⟨.counters, ⟨1, .done, [[0]]⟩⟩ } }, rfl, rfl, rfl⟩,
    ⟨{ lnk := { assembly := some ⟨.energy, ⟨1, .done, [[0]]⟩⟩ } }, rfl, rfl, rfl⟩,
    ⟨{ lnk := { assembly := some ⟨.points, ⟨1, .done, [[]]⟩⟩ } }, rfl, rfl⟩,
    ⟨{ lnk := { assembly := some ⟨.counters, ⟨1, .done, [[]]⟩⟩ } }, rfl⟩⟩

theorem witness_StoringWritesReplaceRecord :
    (∃ s : State, WriteReady 1 2 (BitVec.ofNat 8 (3 : Fin 4) :: putWindow {}) s ∧ (putWindow {}).length = 6 ∧
        parseWindow (putWindow {}) = some ({}, 0)) ∧
    (∃ s : State, WriteReady 1 6 (12 :: putAllocator {}) s ∧ (putAllocator {}).length = 6 ∧
        parseAllocator (putAllocator {}) = some ({}, 0)) ∧
    (∃ s : State, WriteReady 1 8 (BitVec.ofNat 8 (23 : Fin 24) :: putScene {}) s ∧ (putScene {}).length = 99 ∧
        parseScene (putScene {}) = some ({}, 0)) ∧
    (∃ s : State, WriteReady 1 12 (0 :: [0, 0, 0, 0]) s ∧ ([0, 0, 0, 0] : List Byte).length = 4) ∧
    (∃ s : State, WriteReady 1 13 (0 :: putNoticeSettings {}) s ∧ (putNoticeSettings {}).length = 13 ∧
        parseNotice (putNoticeSettings {}) = some ({}, 0)) ∧
    (∃ s : State, WriteReady 1 3 (0 :: putBus {}) s ∧ (putBus {}).length = 5 ∧ parseBus (putBus {}) = some ({}, 0) ∧
        s.fbc.onLine = false) ∧
    (∃ s : State, WriteReady 1 3 (0 :: putBus {}) s ∧ s.fbc.onLine = true) :=
  ⟨⟨wrote 2 (BitVec.ofNat 8 (3 : Fin 4) :: putWindow {}) {}, wrote_ok (by decide), by decide +kernel, by decide +kernel⟩,
    ⟨wrote 6 (12 :: putAllocator {}) {}, wrote_ok (by decide), by decide +kernel, by decide +kernel⟩,
    ⟨wrote 8 (BitVec.ofNat 8 (23 : Fin 24) :: putScene {}) {}, wrote_ok (by decide), by decide +kernel, by decide +kernel⟩,
    ⟨wrote 12 (0 :: [0, 0, 0, 0]) {}, wrote_ok (by decide), by decide +kernel⟩,
    ⟨wrote 13 (0 :: putNoticeSettings {}) {}, wrote_ok (by decide), by decide +kernel, by decide +kernel⟩,
    ⟨wrote 3 (0 :: putBus {}) {}, wrote_ok (by decide), by decide +kernel, by decide +kernel, rfl⟩,
    ⟨wrote 3 (0 :: putBus {}) { fbc := { inFlight := some ⟨⟨.poll, 0, 0, 0, 0, none⟩, false, false⟩ } }, wrote_ok (by decide), rfl⟩⟩

theorem witness_PointWriteRestartsOrKeeps :
    (∃ s : State, WriteReady 1 1 (BitVec.ofNat 8 (63 : Fin 64) :: ((putPoint { mode := .window, high := 0, low := 0 } {}).take 16)) s ∧
        ((putPoint { mode := .window, high := 0, low := 0 } {}).take 16).length = 16 ∧
        parsePoint ((putPoint { mode := .window, high := 0, low := 0 } {}).take 16) = some ({ mode := .window, high := 0, low := 0 }, 0) ∧
        PointConfig.thresholdsBad { mode := .window, high := 0, low := 0 } = true) ∧
    (∃ s : State, WriteReady 1 1 (BitVec.ofNat 8 (63 : Fin 64) :: ((putPoint { binding := .bus, node := 5, point := 6 } {}).take 16)) s ∧
        ((putPoint { binding := .bus, node := 5, point := 6 } {}).take 16).length = 16 ∧
        parsePoint ((putPoint { binding := .bus, node := 5, point := 6 } {}).take 16) = some ({ binding := .bus, node := 5, point := 6 }, 0) ∧
        s.identityTaken 63 { binding := .bus, node := 5, point := 6 } = true) ∧
    (∃ s : State, WriteReady 1 1 (BitVec.ofNat 8 (63 : Fin 64) :: ((putPoint { binding := .bus, node := 5, point := 6 } {}).take 16)) s ∧
        ((putPoint { binding := .bus, node := 5, point := 6 } {}).take 16).length = 16 ∧
        parsePoint ((putPoint { binding := .bus, node := 5, point := 6 } {}).take 16) = some ({ binding := .bus, node := 5, point := 6 }, 0) ∧
        PointConfig.thresholdsBad { binding := .bus, node := 5, point := 6 } = false ∧
        s.identityTaken 63 { binding := .bus, node := 5, point := 6 } = false ∧
        (s.cfg.points.get 63).sameSource { binding := .bus, node := 5, point := 6 } = false) ∧
    (∃ s : State, WriteReady 1 1 (BitVec.ofNat 8 (63 : Fin 64) :: ((putPoint { latch := false } {}).take 16)) s ∧
        ((putPoint { latch := false } {}).take 16).length = 16 ∧
        parsePoint ((putPoint { latch := false } {}).take 16) = some ({ latch := false }, 0) ∧ s.identityTaken 63 {} = false ∧
        (s.cfg.points.get 63).sameSource {} = true ∧ (s.cfg.points.get 63).sameComparator {} = true) ∧
    (∃ s : State, WriteReady 1 1 (BitVec.ofNat 8 (63 : Fin 64) :: ((putPoint {} {}).take 16)) s ∧ ((putPoint {} {}).take 16).length = 16 ∧
        parsePoint ((putPoint {} {}).take 16) = some ({}, 0) ∧ (s.cfg.points.get 63).sameSource {} = true ∧
        (s.cfg.points.get 63).sameComparator {} = false ∧ ({} : PointConfig).mode = .none) ∧
    (∃ s : State, WriteReady 1 1 (BitVec.ofNat 8 (63 : Fin 64) :: ((putPoint { mode := .above, high := 5 } {}).take 16)) s ∧
        ((putPoint { mode := .above, high := 5 } {}).take 16).length = 16 ∧
        parsePoint ((putPoint { mode := .above, high := 5 } {}).take 16) = some ({ mode := .above, high := 5 }, 0) ∧
        PointConfig.thresholdsBad { mode := .above, high := 5 } = false ∧ s.identityTaken 63 { mode := .above, high := 5 } = false ∧
        (s.cfg.points.get 63).sameSource { mode := .above, high := 5 } = true ∧
        (s.cfg.points.get 63).sameComparator { mode := .above, high := 5 } = false ∧ (s.ptb.points.get 63).value = none) ∧
    (∃ s : State, WriteReady 1 1 (BitVec.ofNat 8 (63 : Fin 64) :: ((putPoint { mode := .above, high := 5 } {}).take 16)) s ∧
        ((putPoint { mode := .above, high := 5 } {}).take 16).length = 16 ∧
        parsePoint ((putPoint { mode := .above, high := 5 } {}).take 16) = some ({ mode := .above, high := 5 }, 0) ∧
        (s.cfg.points.get 63).sameSource { mode := .above, high := 5 } = true ∧
        (s.cfg.points.get 63).sameComparator { mode := .above, high := 5 } = false ∧ (s.ptb.points.get 63).value = some 5) :=
  ⟨⟨wrote 1 (BitVec.ofNat 8 (63 : Fin 64) :: ((putPoint { mode := .window, high := 0, low := 0 } {}).take 16)) {}, wrote_ok (by decide),
      by decide +kernel, by decide +kernel, rfl⟩,
    ⟨wrote 1 (BitVec.ofNat 8 (63 : Fin 64) :: ((putPoint { binding := .bus, node := 5, point := 6 } {}).take 16)) { cfg := { points := (Table.const 64 {}).set 0 { binding := .bus, node := 5, point := 6 } } },
        wrote_ok (by decide), by decide +kernel, by decide +kernel, by decide +kernel⟩,
    ⟨wrote 1 (BitVec.ofNat 8 (63 : Fin 64) :: ((putPoint { binding := .bus, node := 5, point := 6 } {}).take 16)) {},
        wrote_ok (by decide), by decide +kernel, by decide +kernel, rfl, by decide +kernel, rfl⟩,
    ⟨wrote 1 (BitVec.ofNat 8 (63 : Fin 64) :: ((putPoint { latch := false } {}).take 16)) {}, wrote_ok (by decide), by decide +kernel,
        by decide +kernel, by decide +kernel, rfl, rfl⟩,
    ⟨wrote 1 (BitVec.ofNat 8 (63 : Fin 64) :: ((putPoint {} {}).take 16)) { cfg := { points := (Table.const 64 { mode := .above, high := 5 }) } },
        wrote_ok (by decide), by decide +kernel, by decide +kernel, rfl, rfl, rfl⟩,
    ⟨wrote 1 (BitVec.ofNat 8 (63 : Fin 64) :: ((putPoint { mode := .above, high := 5 } {}).take 16)) {}, wrote_ok (by decide),
        by decide +kernel, by decide +kernel, rfl, by decide +kernel, rfl, rfl, rfl⟩,
    ⟨wrote 1 (BitVec.ofNat 8 (63 : Fin 64) :: ((putPoint { mode := .above, high := 5 } {}).take 16)) { ptb := { points := Table.const 64 { value := some 5 } } },
        wrote_ok (by decide), by decide +kernel, by decide +kernel, rfl, rfl, rfl⟩⟩

theorem witness_PointValueWriteUpdates :
    (∃ s : State, WriteReady 1 1 (BitVec.ofNat 8 (63 : Fin 64) :: s16 (7 : BitVec 16).toInt) s ∧ (s.cfg.points.get 63).binding ≠ .link) ∧
    (∃ s : State, WriteReady 1 1 (BitVec.ofNat 8 (63 : Fin 64) :: s16 (10000 : BitVec 16).toInt) s ∧
        (s.cfg.points.get 63).binding = .link ∧ (s.cfg.points.get 63).plausMin ≤ (10000 : BitVec 16).toInt ∧
        (10000 : BitVec 16).toInt ≤ (s.cfg.points.get 63).plausMax) ∧
    (∃ s : State, WriteReady 1 1 (BitVec.ofNat 8 (63 : Fin 64) :: s16 (10001 : BitVec 16).toInt) s ∧
        (s.cfg.points.get 63).binding = .link ∧ (s.cfg.points.get 63).plausMax < (10001 : BitVec 16).toInt) :=
  ⟨⟨wrote 1 (BitVec.ofNat 8 (63 : Fin 64) :: s16 (7 : BitVec 16).toInt) {}, wrote_ok (by decide), by decide⟩,
    ⟨wrote 1 (BitVec.ofNat 8 (63 : Fin 64) :: s16 (10000 : BitVec 16).toInt) { cfg := { points := Table.const 64 { binding := .link } } },
        wrote_ok (by decide), rfl, by decide, by decide⟩,
    ⟨wrote 1 (BitVec.ofNat 8 (63 : Fin 64) :: s16 (10001 : BitVec 16).toInt) { cfg := { points := Table.const 64 { binding := .link } } },
        wrote_ok (by decide), rfl, by decide⟩⟩

/-- A first value above the threshold queues the POINT notice of GOOD and behind it the LIMIT notice (1.5, 1.6), with room left for them. -/
theorem test_point_notices :
    let s : State := wrote 1 (BitVec.ofNat 8 (9 : Fin 64) :: s16 (7 : BitVec 16).toInt) {
      cfg := { points := Table.const 64 { binding := .link, mode := .above, high := 5 }, notice := { enables := Table.const 11 true } }
      ptb := { points := Table.const 64 { quality := .noValue } } }
    (match exec (.writePointValue 1 (BitVec.ofNat 8 (9 : Fin 64) :: s16 (7 : BitVec 16).toInt)) s with
      | .next t => t.lnk.notices == [⟨.point, 9, codeOf qualities .good, 0, 0⟩, ⟨.limit, 9, 1, 0, 0⟩]
      | _ => false) = true := by decide +kernel

theorem witness_SheetWriteTakesEffect :
    (∃ s : State, WriteReady 1 4 (BitVec.ofNat 8 (1 : Fin 2) :: (putSheetConfig { tSoft := -550 })) s ∧
        sheetLengthOk (putSheetConfig { tSoft := -550 }) = true ∧
        parseSheet (putSheetConfig { tSoft := -550 }) = some ({ tSoft := -550 }, 0) ∧
        ({ tSoft := -550 } : SheetConfig).tSoft ≤ ({ tSoft := -550 } : SheetConfig).tSet) ∧
    (∃ s : State, WriteReady 1 4 (BitVec.ofNat 8 (1 : Fin 2) :: (putSheetConfig {})) s ∧ sheetLengthOk (putSheetConfig {}) = true ∧
        parseSheet (putSheetConfig {}) = some ({}, 0) ∧ ({} : SheetConfig).enabled = false ∧ (s.shm.get 1).state ≠ .off) ∧
    (∃ s : State, WriteReady 1 4 (BitVec.ofNat 8 (1 : Fin 2) :: (putSheetConfig { enabled := true })) s ∧
        sheetLengthOk (putSheetConfig { enabled := true }) = true ∧
        parseSheet (putSheetConfig { enabled := true }) = some ({ enabled := true }, 0) ∧ (s.shm.get 1).state = .off) ∧
    (∃ s : State, WriteReady 1 4 (BitVec.ofNat 8 (1 : Fin 2) :: (putSheetConfig { enabled := true })) s ∧
        sheetLengthOk (putSheetConfig { enabled := true }) = true ∧
        parseSheet (putSheetConfig { enabled := true }) = some ({ enabled := true }, 0) ∧ (s.shm.get 1).state = .blind) ∧
    (∃ s : State, WriteReady 1 4 (BitVec.ofNat 8 (1 : Fin 2) :: (putSheetConfig { enabled := true })) s ∧
        sheetLengthOk (putSheetConfig { enabled := true }) = true ∧
        parseSheet (putSheetConfig { enabled := true }) = some ({ enabled := true }, 0) ∧ (s.shm.get 1).state = .soft) ∧
    (∃ s : State, WriteReady 1 4 (BitVec.ofNat 8 (1 : Fin 2) :: (putSheetConfig { enabled := true })) s ∧
        sheetLengthOk (putSheetConfig { enabled := true }) = true ∧
        parseSheet (putSheetConfig { enabled := true }) = some ({ enabled := true }, 0) ∧ (s.shm.get 1).state = .resurface) ∧
    (∃ s : State, WriteReady 1 4 (BitVec.ofNat 8 (1 : Fin 2) :: (putSheetConfig { enabled := true })) s ∧
        sheetLengthOk (putSheetConfig { enabled := true }) = true ∧
        parseSheet (putSheetConfig { enabled := true }) = some ({ enabled := true }, 0) ∧ (s.shm.get 1).state = .covered) :=
  ⟨⟨wrote 4 (BitVec.ofNat 8 (1 : Fin 2) :: (putSheetConfig { tSoft := -550 })) {}, wrote_ok (by decide), by decide +kernel,
      by decide +kernel, by decide⟩,
    ⟨wrote 4 (BitVec.ofNat 8 (1 : Fin 2) :: (putSheetConfig {})) { shm := Table.const 2 { state := .normal } }, wrote_ok (by decide),
        by decide +kernel, by decide +kernel, rfl, by decide⟩,
    ⟨wrote 4 (BitVec.ofNat 8 (1 : Fin 2) :: (putSheetConfig { enabled := true })) {}, wrote_ok (by decide), by decide +kernel,
        by decide +kernel, rfl⟩,
    ⟨wrote 4 (BitVec.ofNat 8 (1 : Fin 2) :: (putSheetConfig { enabled := true })) { shm := Table.const 2 { state := .blind } },
        wrote_ok (by decide), by decide +kernel, by decide +kernel, rfl⟩,
    ⟨wrote 4 (BitVec.ofNat 8 (1 : Fin 2) :: (putSheetConfig { enabled := true })) { shm := Table.const 2 { state := .soft } },
        wrote_ok (by decide), by decide +kernel, by decide +kernel, rfl⟩,
    ⟨wrote 4 (BitVec.ofNat 8 (1 : Fin 2) :: (putSheetConfig { enabled := true })) { shm := Table.const 2 { state := .resurface } },
        wrote_ok (by decide), by decide +kernel, by decide +kernel, rfl⟩,
    ⟨wrote 4 (BitVec.ofNat 8 (1 : Fin 2) :: (putSheetConfig { enabled := true })) { shm := Table.const 2 { state := .covered } },
        wrote_ok (by decide), by decide +kernel, by decide +kernel, rfl⟩⟩

theorem witness_ZoneWriteTakesEffect :
    (∃ s : State, WriteReady 1 5 (BitVec.ofNat 8 (3 : Fin 4) :: (putZoneConfig { watch := 150 })) s ∧
        (putZoneConfig { watch := 150 }).length = 20 ∧ parseZone (putZoneConfig { watch := 150 }) = some ({ watch := 150 }, 0) ∧
        ({ watch := 150 } : ZoneConfig).watch ≤ ({ watch := 150 } : ZoneConfig).risk) ∧
    (∃ s : State, WriteReady 1 5 (BitVec.ofNat 8 (3 : Fin 4) :: (putZoneConfig {})) s ∧ (putZoneConfig {}).length = 20 ∧
        parseZone (putZoneConfig {}) = some ({}, 0) ∧ ({} : ZoneConfig).risk < ({} : ZoneConfig).watch ∧
        ({} : ZoneConfig).enabled = false) ∧
    (∃ s : State, WriteReady 1 5 (BitVec.ofNat 8 (3 : Fin 4) :: (putZoneConfig { enabled := true })) s ∧
        (putZoneConfig { enabled := true }).length = 20 ∧ parseZone (putZoneConfig { enabled := true }) = some ({ enabled := true }, 0) ∧
        ({ enabled := true } : ZoneConfig).enabled = true ∧ s.zoneDew { enabled := true } = none) ∧
    (∃ s : State, WriteReady 1 5 (BitVec.ofNat 8 (3 : Fin 4) :: (putZoneConfig { enabled := true, sheet := some 1, risk := 299 })) s ∧
        (putZoneConfig { enabled := true, sheet := some 1, risk := 299 }).length = 20 ∧
        parseZone (putZoneConfig { enabled := true, sheet := some 1, risk := 299 }) = some ({ enabled := true, sheet := some 1, risk := 299 }, 0) ∧
        ({ enabled := true, sheet := some 1, risk := 299 } : ZoneConfig).enabled = true ∧
        s.zoneDew { enabled := true, sheet := some 1, risk := 299 } = some (568, false) ∧ (s.shm.get 1).state = .resurface) :=
  ⟨⟨wrote 5 (BitVec.ofNat 8 (3 : Fin 4) :: (putZoneConfig { watch := 150 })) {}, wrote_ok (by decide), by decide +kernel,
      by decide +kernel, by decide⟩,
    ⟨wrote 5 (BitVec.ofNat 8 (3 : Fin 4) :: (putZoneConfig {})) {}, wrote_ok (by decide), by decide +kernel, by decide +kernel, by decide,
        rfl⟩,
    ⟨wrote 5 (BitVec.ofNat 8 (3 : Fin 4) :: (putZoneConfig { enabled := true })) {}, wrote_ok (by decide), by decide +kernel,
        by decide +kernel, rfl, rfl⟩,
    ⟨wrote 5 (BitVec.ofNat 8 (3 : Fin 4) :: (putZoneConfig { enabled := true, sheet := some 1, risk := 299 })) { ptb := { points := ((Table.const 64 {}).set 0 { value := some 1200, quality := .good }).set 1 { value := some 650, quality := .good } }, cfg := { points := ((Table.const 64 {}).set 0 { kind := .airTemp }).set 1 { kind := .airRh } }, shm := Table.const 2 { state := .resurface } },
        wrote_ok (by decide), by decide +kernel, by decide +kernel, rfl, by decide +kernel, rfl⟩⟩

theorem witness_SinkWriteRecomputes :
    (∃ s : State, WriteReady 1 6 (BitVec.ofNat 8 (11 : Fin 12) :: (putSinkConfig { min := 1 })) s ∧
        (putSinkConfig { min := 1 }).length = 16 ∧ parseSink (putSinkConfig { min := 1 }) = some ({ min := 1 }, 0) ∧
        ({ min := 1 } : SinkConfig).max < ({ min := 1 } : SinkConfig).min) ∧
    (∃ s : State, WriteReady 1 6 (BitVec.ofNat 8 (11 : Fin 12) :: (putSinkConfig {})) s ∧ (putSinkConfig {}).length = 16 ∧
        parseSink (putSinkConfig {}) = some ({}, 0) ∧ s.phase = .run) ∧
    (∃ s : State, WriteReady 1 6 (BitVec.ofNat 8 (11 : Fin 12) :: (putSinkConfig {})) s ∧ (putSinkConfig {}).length = 16 ∧
        parseSink (putSinkConfig {}) = some ({}, 0) ∧ s.phase ≠ .run) :=
  ⟨⟨wrote 6 (BitVec.ofNat 8 (11 : Fin 12) :: (putSinkConfig { min := 1 })) {}, wrote_ok (by decide), by decide +kernel, by decide +kernel,
      by decide⟩,
    ⟨wrote 6 (BitVec.ofNat 8 (11 : Fin 12) :: (putSinkConfig {})) run0, wrote_ok (by decide), by decide +kernel, by decide +kernel, rfl⟩,
    ⟨wrote 6 (BitVec.ofNat 8 (11 : Fin 12) :: (putSinkConfig {})) {}, wrote_ok (by decide), by decide +kernel, by decide +kernel,
        by decide⟩⟩

theorem witness_ChannelWriteTakesEffect :
    (∃ s : State, WriteReady 1 7 (BitVec.ofNat 8 (31 : Fin 32) :: (putChannelConfig { sheet := some 1, coefficient := 20000 })) s ∧
        (putChannelConfig { sheet := some 1, coefficient := 20000 }).length = 11 ∧
        parseChannel (putChannelConfig { sheet := some 1, coefficient := 20000 }) = some ({ sheet := some 1, coefficient := 20000 }, 0) ∧
        s.pru.state = .armed ∧ ({ sheet := some 1, coefficient := 20000 } : ChannelConfig).sheet = some 1) ∧
    (∃ s : State, WriteReady 1 7 (BitVec.ofNat 8 (31 : Fin 32) :: (putChannelConfig { sheet := some 1, coefficient := 20000 })) s ∧
        (putChannelConfig { sheet := some 1, coefficient := 20000 }).length = 11 ∧
        parseChannel (putChannelConfig { sheet := some 1, coefficient := 20000 }) = some ({ sheet := some 1, coefficient := 20000 }, 0) ∧
        s.pru.state ≠ .armed) :=
  ⟨⟨wrote 7 (BitVec.ofNat 8 (31 : Fin 32) :: (putChannelConfig { sheet := some 1, coefficient := 20000 })) run0, wrote_ok (by decide),
      by decide +kernel, by decide +kernel, rfl, rfl⟩,
    ⟨wrote 7 (BitVec.ofNat 8 (31 : Fin 32) :: (putChannelConfig { sheet := some 1, coefficient := 20000 })) tripped0,
        wrote_ok (by decide), by decide +kernel, by decide +kernel, by decide⟩⟩

theorem witness_OutputWritesTakeEffect :
    (∃ s : State, WriteReady 1 9 (BitVec.ofNat 8 (15 : Fin 16) :: (putOutputConfig {})) s ∧ (putOutputConfig {}).length = 11 ∧
        parseOutput (putOutputConfig {}) = some ({}, 0) ∧ ({} : OutputConfig).binding = .none) ∧
    (∃ s : State, WriteReady 1 9 (BitVec.ofNat 8 (15 : Fin 16) :: (putOutputConfig { binding := .fixed })) s ∧
        (putOutputConfig { binding := .fixed }).length = 11 ∧
        parseOutput (putOutputConfig { binding := .fixed }) = some ({ binding := .fixed }, 0) ∧ s.phase = .run ∧ s.pru.state = .armed ∧
        ({ binding := .fixed } : OutputConfig).period = 0) ∧
    (∃ s : State, WriteReady 1 9 (BitVec.ofNat 8 (15 : Fin 16) :: (putOutputConfig { binding := .light, index := 31, period := 20 })) s ∧
        (putOutputConfig { binding := .light, index := 31, period := 20 }).length = 11 ∧
        parseOutput (putOutputConfig { binding := .light, index := 31, period := 20 }) = some ({ binding := .light, index := 31, period := 20 }, 0) ∧
        s.phase = .run ∧ s.pru.state = .armed ∧ ({ binding := .light, index := 31, period := 20 } : OutputConfig).binding = .light) ∧
    (∃ s : State, WriteReady 1 9 (BitVec.ofNat 8 (15 : Fin 16) :: (putOutputConfig { binding := .fixed })) s ∧
        (putOutputConfig { binding := .fixed }).length = 11 ∧
        parseOutput (putOutputConfig { binding := .fixed }) = some ({ binding := .fixed }, 0) ∧ s.phase ≠ .run) ∧
    (∃ s : State, WriteReady 1 9 (BitVec.ofNat 8 (15 : Fin 16) :: (putOutputConfig { binding := .fixed, action := .hiz })) s ∧
        (putOutputConfig { binding := .fixed, action := .hiz }).length = 11 ∧
        parseOutput (putOutputConfig { binding := .fixed, action := .hiz }) = some ({ binding := .fixed, action := .hiz }, 0) ∧
        s.phase = .run ∧ s.pru.state ≠ .armed ∧ (s.cfg.outputs.get 15).binding = .none) ∧
    (∃ s : State, WriteReady 1 9 (BitVec.ofNat 8 (15 : Fin 16) :: (putOutputConfig { binding := .light, index := 31 })) s ∧
        (putOutputConfig { binding := .light, index := 31 }).length = 11 ∧
        parseOutput (putOutputConfig { binding := .light, index := 31 }) = some ({ binding := .light, index := 31 }, 0) ∧ s.phase = .run ∧
        s.pru.state ≠ .armed ∧ (s.cfg.outputs.get 15).binding = .none) ∧
    (∃ s : State, WriteReady 1 9 (BitVec.ofNat 8 (15 : Fin 16) :: (putOutputConfig { binding := .fixed })) s ∧
        (putOutputConfig { binding := .fixed }).length = 11 ∧
        parseOutput (putOutputConfig { binding := .fixed }) = some ({ binding := .fixed }, 0) ∧ s.phase = .run ∧ s.pru.state ≠ .armed ∧
        (s.cfg.outputs.get 15).binding ≠ .none) ∧
    (∃ s : State, WriteReady 1 9 (BitVec.ofNat 8 (15 : Fin 16) :: (putOutputConfig { binding := .fixed })) s ∧
        (putOutputConfig { binding := .fixed }).length = 11 ∧
        parseOutput (putOutputConfig { binding := .fixed }) = some ({ binding := .fixed }, 0) ∧ s.phase = .run ∧ s.pru.state = .armed ∧
        ({ binding := .fixed } : OutputConfig).period = 0 ∧ (s.ost.outputs.get 15).timer ≠ none) ∧
    (∃ s : State, WriteReady 1 9 (16 :: u16 (30001 : BitVec 16).toNat) s ∧ (s.cfg.outputs.get 15).binding = .backup) ∧
    (∃ s : State, WriteReady 1 10 (BitVec.ofNat 8 (31 : Fin 32) :: (putRemoteConfig {})) s ∧ (putRemoteConfig {}).length = 9 ∧
        parseRemote (putRemoteConfig {}) = some ({}, 0) ∧ ({} : RemoteConfig).binding = .none) ∧
    (∃ s : State, WriteReady 1 10 (BitVec.ofNat 8 (31 : Fin 32) :: (putRemoteConfig { binding := .fixed })) s ∧
        (putRemoteConfig { binding := .fixed }).length = 9 ∧
        parseRemote (putRemoteConfig { binding := .fixed }) = some ({ binding := .fixed }, 0) ∧ s.phase ≠ .run) ∧
    (∃ s : State, WriteReady 1 10 (BitVec.ofNat 8 (31 : Fin 32) :: (putRemoteConfig { binding := .fixed })) s ∧
        (putRemoteConfig { binding := .fixed }).length = 9 ∧
        parseRemote (putRemoteConfig { binding := .fixed }) = some ({ binding := .fixed }, 0) ∧ s.phase = .run ∧ s.pru.state = .armed ∧
        (s.ost.remotes.get 31).taken = none ∧ (s.fbc.request false ⟨.command, 0, 0, 0, 3, some 31⟩).1 ≠ .dropped) ∧
    (∃ s : State, WriteReady 1 10 (BitVec.ofNat 8 (31 : Fin 32) :: (putRemoteConfig { binding := .fixed })) s ∧
        (putRemoteConfig { binding := .fixed }).length = 9 ∧
        parseRemote (putRemoteConfig { binding := .fixed }) = some ({ binding := .fixed }, 0) ∧ s.phase = .run ∧ s.pru.state = .armed ∧
        (s.ost.remotes.get 31).taken = none ∧ (s.fbc.request false ⟨.command, 0, 0, 0, 3, some 31⟩).1 = .dropped) ∧
    (∃ s : State, WriteReady 1 10 (BitVec.ofNat 8 (31 : Fin 32) :: (putRemoteConfig { binding := .fixed })) s ∧
        (putRemoteConfig { binding := .fixed }).length = 9 ∧
        parseRemote (putRemoteConfig { binding := .fixed }) = some ({ binding := .fixed }, 0) ∧ s.phase = .run ∧ s.pru.state ≠ .armed ∧
        (s.cfg.remotes.get 31).binding ≠ .none) ∧
    (∃ s : State, WriteReady 1 10 (BitVec.ofNat 8 (31 : Fin 32) :: (putRemoteConfig { binding := .fixed, action := .safe, safe := -1 })) s ∧
        (putRemoteConfig { binding := .fixed, action := .safe, safe := -1 }).length = 9 ∧
        parseRemote (putRemoteConfig { binding := .fixed, action := .safe, safe := -1 }) = some ({ binding := .fixed, action := .safe, safe := -1 }, 0) ∧
        s.phase = .run ∧ s.pru.state ≠ .armed ∧ (s.cfg.remotes.get 31).binding = .none ∧
        (s.fbc.request true ⟨.command, 0, 0, -1, 0, some 31⟩).1 ≠ .dropped) ∧
    (∃ s : State, WriteReady 1 10 (BitVec.ofNat 8 (31 : Fin 32) :: (putRemoteConfig { binding := .fixed, action := .safe, safe := -1 })) s ∧
        (putRemoteConfig { binding := .fixed, action := .safe, safe := -1 }).length = 9 ∧
        parseRemote (putRemoteConfig { binding := .fixed, action := .safe, safe := -1 }) = some ({ binding := .fixed, action := .safe, safe := -1 }, 0) ∧
        s.phase = .run ∧ s.pru.state ≠ .armed ∧ (s.cfg.remotes.get 31).binding = .none ∧
        (s.fbc.request true ⟨.command, 0, 0, -1, 0, some 31⟩).1 = .dropped) ∧
    (∃ s : State, WriteReady 1 10 (BitVec.ofNat 8 (31 : Fin 32) :: (putRemoteConfig { binding := .fixed })) s ∧
        (putRemoteConfig { binding := .fixed }).length = 9 ∧
        parseRemote (putRemoteConfig { binding := .fixed }) = some ({ binding := .fixed }, 0) ∧ s.phase = .run ∧ s.pru.state ≠ .armed ∧
        (s.cfg.remotes.get 31).binding = .none ∧ (s.fbc.request false ⟨.command, 0, 0, 0, 3, some 31⟩).1 ≠ .dropped) ∧
    (∃ s : State, WriteReady 1 10 (BitVec.ofNat 8 (31 : Fin 32) :: (putRemoteConfig { binding := .fixed })) s ∧
        (putRemoteConfig { binding := .fixed }).length = 9 ∧
        parseRemote (putRemoteConfig { binding := .fixed }) = some ({ binding := .fixed }, 0) ∧ s.phase = .run ∧ s.pru.state ≠ .armed ∧
        (s.cfg.remotes.get 31).binding = .none ∧ (s.fbc.request false ⟨.command, 0, 0, 0, 3, some 31⟩).1 = .dropped) :=
  ⟨⟨wrote 9 (BitVec.ofNat 8 (15 : Fin 16) :: (putOutputConfig {})) {}, wrote_ok (by decide), by decide +kernel, by decide +kernel, rfl⟩,
    ⟨wrote 9 (BitVec.ofNat 8 (15 : Fin 16) :: (putOutputConfig { binding := .fixed })) run0, wrote_ok (by decide), by decide +kernel,
        by decide +kernel, rfl, rfl, rfl⟩,
    ⟨wrote 9 (BitVec.ofNat 8 (15 : Fin 16) :: (putOutputConfig { binding := .light, index := 31, period := 20 })) run0,
        wrote_ok (by decide), by decide +kernel, by decide +kernel, rfl, rfl, rfl⟩,
    ⟨wrote 9 (BitVec.ofNat 8 (15 : Fin 16) :: (putOutputConfig { binding := .fixed })) {}, wrote_ok (by decide), by decide +kernel,
        by decide +kernel, by decide⟩,
    ⟨wrote 9 (BitVec.ofNat 8 (15 : Fin 16) :: (putOutputConfig { binding := .fixed, action := .hiz })) tripped0, wrote_ok (by decide),
        by decide +kernel, by decide +kernel, rfl, by decide, rfl⟩,
    ⟨wrote 9 (BitVec.ofNat 8 (15 : Fin 16) :: (putOutputConfig { binding := .light, index := 31 })) tripped0, wrote_ok (by decide),
        by decide +kernel, by decide +kernel, rfl, by decide, rfl⟩,
    ⟨wrote 9 (BitVec.ofNat 8 (15 : Fin 16) :: (putOutputConfig { binding := .fixed })) { tripped0 with cfg := { outputs := Table.const 16 { binding := .fixed } } },
        wrote_ok (by decide), by decide +kernel, by decide +kernel, rfl, by decide, by decide⟩,
    ⟨wrote 9 (BitVec.ofNat 8 (15 : Fin 16) :: (putOutputConfig { binding := .fixed })) { run0 with ost := { outputs := Table.const 16 { driven := true, target := 4095, timer := some 1 } } },
        wrote_ok (by decide), by decide +kernel, by decide +kernel, rfl, rfl, rfl, by decide⟩,
    ⟨wrote 9 (16 :: u16 (30001 : BitVec 16).toNat) { cfg := { outputs := Table.const 16 { binding := .backup } } }, wrote_ok (by decide),
        rfl⟩,
    ⟨wrote 10 (BitVec.ofNat 8 (31 : Fin 32) :: (putRemoteConfig {})) run0, wrote_ok (by decide), by decide +kernel, by decide +kernel,
        rfl⟩,
    ⟨wrote 10 (BitVec.ofNat 8 (31 : Fin 32) :: (putRemoteConfig { binding := .fixed })) {}, wrote_ok (by decide), by decide +kernel,
        by decide +kernel, by decide⟩,
    ⟨wrote 10 (BitVec.ofNat 8 (31 : Fin 32) :: (putRemoteConfig { binding := .fixed })) run0, wrote_ok (by decide), by decide +kernel,
        by decide +kernel, rfl, rfl, rfl, by decide⟩,
    ⟨wrote 10 (BitVec.ofNat 8 (31 : Fin 32) :: (putRemoteConfig { binding := .fixed })) { run0 with fbc := { txProtect := [⟨.command, 0, 0, 9, 0, some 5⟩] } },
        wrote_ok (by decide), by decide +kernel, by decide +kernel, rfl, rfl, rfl, rfl⟩,
    ⟨wrote 10 (BitVec.ofNat 8 (31 : Fin 32) :: (putRemoteConfig { binding := .fixed })) { tripped0 with cfg := { remotes := Table.const 32 { binding := .fixed } } },
        wrote_ok (by decide), by decide +kernel, by decide +kernel, rfl, by decide, by decide⟩,
    ⟨wrote 10 (BitVec.ofNat 8 (31 : Fin 32) :: (putRemoteConfig { binding := .fixed, action := .safe, safe := -1 })) tripped0,
        wrote_ok (by decide), by decide +kernel, by decide +kernel, rfl, by decide, rfl, by decide⟩,
    ⟨wrote 10 (BitVec.ofNat 8 (31 : Fin 32) :: (putRemoteConfig { binding := .fixed, action := .safe, safe := -1 })) { tripped0 with fbc := { txProtect := List.replicate 16 ⟨.command, 1, 1, 0, 0, none⟩ } },
        wrote_ok (by decide), by decide +kernel, by decide +kernel, rfl, by decide, rfl, rfl⟩,
    ⟨wrote 10 (BitVec.ofNat 8 (31 : Fin 32) :: (putRemoteConfig { binding := .fixed })) tripped0, wrote_ok (by decide), by decide +kernel,
        by decide +kernel, rfl, by decide, rfl, by decide⟩,
    ⟨wrote 10 (BitVec.ofNat 8 (31 : Fin 32) :: (putRemoteConfig { binding := .fixed })) { tripped0 with fbc := { txProtect := [⟨.command, 0, 0, 9, 0, some 5⟩] } },
        wrote_ok (by decide), by decide +kernel, by decide +kernel, rfl, by decide, rfl, rfl⟩⟩

theorem witness_ProfileWriteTakesEffect :
    (∃ s : State, WriteReady 1 11 (BitVec.ofNat 8 (4 : Fin 5) :: (putProfile ⟨100, .event, 1000, 1000, some 23, false⟩)) s ∧
        (putProfile ⟨100, .event, 1000, 1000, some 23, false⟩).length = 9 ∧
        parseProfile (putProfile ⟨100, .event, 1000, 1000, some 23, false⟩) = some (⟨100, .event, 1000, 1000, some 23, false⟩, 0) ∧
        (4 : Fin 5) ≠ modeIndex s.scu.mode) ∧
    (∃ s : State, WriteReady 1 11 (BitVec.ofNat 8 (0 : Fin 5) :: (putProfile ⟨100, .event, 1000, 1000, some 23, false⟩)) s ∧
        (putProfile ⟨100, .event, 1000, 1000, some 23, false⟩).length = 9 ∧
        parseProfile (putProfile ⟨100, .event, 1000, 1000, some 23, false⟩) = some (⟨100, .event, 1000, 1000, some 23, false⟩, 0) ∧
        (0 : Fin 5) = modeIndex s.scu.mode ∧ (s.cfg.zones.get 3).enabled = true ∧ s.profile.baseDemand ≠ 1000 ∧
        (s.cfg.sinks.get 11).kind = .stands ∧ s.profile.standsPercent ≠ 100) :=
  ⟨⟨wrote 11 (BitVec.ofNat 8 (4 : Fin 5) :: (putProfile ⟨100, .event, 1000, 1000, some 23, false⟩)) {}, wrote_ok (by decide),
      by decide +kernel, by decide +kernel, by decide⟩,
    ⟨wrote 11 (BitVec.ofNat 8 (0 : Fin 5) :: (putProfile ⟨100, .event, 1000, 1000, some 23, false⟩)) { run0 with cfg := { zones := Table.const 4 { enabled := true }, sinks := Table.const 12 { kind := .stands } } },
        wrote_ok (by decide), by decide +kernel, by decide +kernel, rfl, rfl, by decide, rfl, by decide⟩⟩

theorem witness_ChannelActsSetBase :
    (∃ s : State, ActReady 1 2 (u8 (31 : Fin 32) ++ u16 (4096 : BitVec 16).toNat) s ∧ s.pru.state ≠ .armed) ∧
    (∃ s : State, ActReady 1 2 (u8 (31 : Fin 32) ++ u16 (4096 : BitVec 16).toNat) s ∧ s.pru.state = .armed) ∧
    (∃ s : State, ActReady 1 4 (u8 (31 : Fin 32)) s ∧ (s.lsq.channels.get 31).effect = none) ∧
    (∃ s : State, ActReady 1 4 (u8 (31 : Fin 32)) s ∧ (s.lsq.channels.get 31).effect ≠ none ∧ s.pru.state = .armed) :=
  ⟨⟨acted 2 (u8 (31 : Fin 32) ++ u16 (4096 : BitVec 16).toNat) tripped0, acted_ok (by decide), by decide⟩,
    ⟨acted 2 (u8 (31 : Fin 32) ++ u16 (4096 : BitVec 16).toNat) run0, acted_ok (by decide), rfl⟩,
    ⟨acted 4 (u8 (31 : Fin 32)) {}, acted_ok (by decide), rfl⟩,
    ⟨acted 4 (u8 (31 : Fin 32)) { run0 with lsq := { channels := Table.const 32 { effect := some ⟨.sine, 0, 4095, 600, none, 0, 20⟩ } } },
        acted_ok (by decide), by decide, rfl⟩⟩

theorem witness_EffectStartRunsEffect :
    (∃ s : State, s.pru.state = .armed ∧
        ActReady 1 3 (u8 (31 : Fin 32) ++ u8 (codeOf shapes .pulse) ++ u16 4095 ++ u16 4095 ++ u16 600 ++ u16 1000) s ∧ s.phase = .run) ∧
    (∃ s : State, s.pru.state = .armed ∧
        ActReady 1 3 (u8 (31 : Fin 32) ++ u8 (codeOf shapes .pulse) ++ u16 4095 ++ u16 4095 ++ u16 600 ++ u16 1000) s ∧ s.phase ≠ .run) :=
  ⟨⟨acted 3 (u8 (31 : Fin 32) ++ u8 (codeOf shapes .pulse) ++ u16 4095 ++ u16 4095 ++ u16 600 ++ u16 1000) run0, rfl,
      acted_ok (by decide), rfl⟩,
    ⟨acted 3 (u8 (31 : Fin 32) ++ u8 (codeOf shapes .pulse) ++ u16 4095 ++ u16 4095 ++ u16 600 ++ u16 1000) {}, rfl, acted_ok (by decide),
        by decide⟩⟩

theorem witness_SceneRecallSetsTargets :
    (∃ s : State, ActReady 1 1 (u8 (23 : Fin 24) ++ optional u16 0 (some 600)) s ∧ s.pru.state ≠ .armed) ∧
    (∃ s : State, ActReady 1 1 (u8 (23 : Fin 24) ++ optional u16 0 (some 600)) s ∧ s.pru.state = .armed ∧
        (s.cfg.scenes.get 23).levels.get 31 = some 4095 ∧ (s.cfg.scenes.get 23).levels.get 0 = none) ∧
    (∃ s : State, ActReady 1 1 (u8 (23 : Fin 24) ++ optional u16 0 none) s ∧ s.pru.state = .armed ∧ s.phase ≠ .run) :=
  ⟨⟨acted 1 (u8 (23 : Fin 24) ++ optional u16 0 (some 600)) tripped0, acted_ok (by decide), by decide⟩,
    ⟨acted 1 (u8 (23 : Fin 24) ++ optional u16 0 (some 600)) { run0 with cfg := { scenes := Table.const 24 { levels := (Table.const 32 none).set 31 (some 4095) } } },
        acted_ok (by decide), rfl, rfl, rfl⟩,
    ⟨acted 1 (u8 (23 : Fin 24) ++ optional u16 0 none) {}, acted_ok (by decide), rfl, by decide⟩⟩

theorem witness_OutputSetFixesCode :
    (∃ s : State, ActReady 1 5 (u8 0 ++ u8 (15 : Fin 16) ++ u16 (4095 : BitVec 16).toNat) s ∧ (s.cfg.outputs.get 15).binding ≠ .fixed) ∧
    (∃ s : State, ActReady 1 5 (u8 0 ++ u8 (15 : Fin 16) ++ u16 (4095 : BitVec 16).toNat) s ∧ (s.cfg.outputs.get 15).binding = .fixed ∧
        s.pru.state ≠ .armed) ∧
    (∃ s : State, ActReady 1 5 (u8 0 ++ u8 (15 : Fin 16) ++ u16 (4095 : BitVec 16).toNat) s ∧ (s.cfg.outputs.get 15).binding = .fixed ∧
        s.pru.state = .armed ∧ (s.ost.outputs.get 15).driven = true) ∧
    (∃ s : State, ActReady 1 5 (u8 0 ++ u8 (15 : Fin 16) ++ u16 (4095 : BitVec 16).toNat) s ∧ (s.cfg.outputs.get 15).binding = .fixed ∧
        s.pru.state = .armed ∧ (s.ost.outputs.get 15).driven = false) ∧
    (∃ s : State, ActReady 1 5 (u8 1 ++ u8 (31 : Fin 32) ++ u16 (4096 : BitVec 16).toNat) s ∧ (s.cfg.remotes.get 31).binding ≠ .fixed) ∧
    (∃ s : State, ActReady 1 5 (u8 1 ++ u8 (31 : Fin 32) ++ u16 (4096 : BitVec 16).toNat) s ∧ (s.cfg.remotes.get 31).binding = .fixed ∧
        s.pru.state ≠ .armed) ∧
    (∃ s : State, ActReady 1 5 (u8 1 ++ u8 (31 : Fin 32) ++ u16 (4096 : BitVec 16).toNat) s ∧ (s.cfg.remotes.get 31).binding = .fixed ∧
        s.phase = .run ∧ s.pru.state = .armed ∧ (s.ost.remotes.get 31).value ≠ some 4095 ∧ (s.ost.remotes.get 31).taken = none ∧
        (s.fbc.request false ⟨.command, 0, 0, 4095, 3, some 31⟩).1 ≠ .dropped) ∧
    (∃ s : State, ActReady 1 5 (u8 1 ++ u8 (31 : Fin 32) ++ u16 (4096 : BitVec 16).toNat) s ∧ (s.cfg.remotes.get 31).binding = .fixed ∧
        s.phase = .run ∧ s.pru.state = .armed ∧ (s.ost.remotes.get 31).value ≠ some 4095 ∧ (s.ost.remotes.get 31).taken = none ∧
        (s.fbc.request false ⟨.command, 0, 0, 4095, 3, some 31⟩).1 = .dropped) ∧
    (∃ s : State, ActReady 1 5 (u8 1 ++ u8 (31 : Fin 32) ++ u16 (4096 : BitVec 16).toNat) s ∧ (s.cfg.remotes.get 31).binding = .fixed ∧
        s.pru.state = .armed ∧ (s.ost.remotes.get 31).value = some 4095) ∧
    (∃ s : State, ActReady 1 5 (u8 1 ++ u8 (31 : Fin 32) ++ u16 (4096 : BitVec 16).toNat) s ∧ (s.cfg.remotes.get 31).binding = .fixed ∧
        s.pru.state = .armed ∧ s.phase ≠ .run) :=
  ⟨⟨acted 5 (u8 0 ++ u8 (15 : Fin 16) ++ u16 (4095 : BitVec 16).toNat) {}, acted_ok (by decide), by decide⟩,
    ⟨acted 5 (u8 0 ++ u8 (15 : Fin 16) ++ u16 (4095 : BitVec 16).toNat) { tripped0 with cfg := { outputs := Table.const 16 { binding := .fixed }, remotes := Table.const 32 { binding := .fixed } } },
        acted_ok (by decide), rfl, by decide⟩,
    ⟨acted 5 (u8 0 ++ u8 (15 : Fin 16) ++ u16 (4095 : BitVec 16).toNat) { run0 with cfg := { outputs := Table.const 16 { binding := .fixed }, remotes := Table.const 32 { binding := .fixed } }, ost := { outputs := Table.const 16 { driven := true } } },
        acted_ok (by decide), rfl, rfl, rfl⟩,
    ⟨acted 5 (u8 0 ++ u8 (15 : Fin 16) ++ u16 (4095 : BitVec 16).toNat) { cfg := { outputs := Table.const 16 { binding := .fixed }, remotes := Table.const 32 { binding := .fixed } } },
        acted_ok (by decide), rfl, rfl, rfl⟩,
    ⟨acted 5 (u8 1 ++ u8 (31 : Fin 32) ++ u16 (4096 : BitVec 16).toNat) {}, acted_ok (by decide), by decide⟩,
    ⟨acted 5 (u8 1 ++ u8 (31 : Fin 32) ++ u16 (4096 : BitVec 16).toNat) { tripped0 with cfg := { outputs := Table.const 16 { binding := .fixed }, remotes := Table.const 32 { binding := .fixed } } },
        acted_ok (by decide), rfl, by decide⟩,
    ⟨acted 5 (u8 1 ++ u8 (31 : Fin 32) ++ u16 (4096 : BitVec 16).toNat) { run0 with cfg := { outputs := Table.const 16 { binding := .fixed }, remotes := Table.const 32 { binding := .fixed } } },
        acted_ok (by decide), rfl, rfl, rfl, by decide, rfl, by decide⟩,
    ⟨acted 5 (u8 1 ++ u8 (31 : Fin 32) ++ u16 (4096 : BitVec 16).toNat) { run0 with cfg := { outputs := Table.const 16 { binding := .fixed }, remotes := Table.const 32 { binding := .fixed } }, fbc := { txProtect := [⟨.command, 0, 0, 9, 0, some 5⟩] } },
        acted_ok (by decide), rfl, rfl, rfl, by decide, rfl, rfl⟩,
    ⟨acted 5 (u8 1 ++ u8 (31 : Fin 32) ++ u16 (4096 : BitVec 16).toNat) { run0 with cfg := { outputs := Table.const 16 { binding := .fixed }, remotes := Table.const 32 { binding := .fixed } }, ost := { remotes := Table.const 32 { value := some 4095 } } },
        acted_ok (by decide), rfl, rfl, rfl⟩,
    ⟨acted 5 (u8 1 ++ u8 (31 : Fin 32) ++ u16 (4096 : BitVec 16).toNat) { cfg := { outputs := Table.const 16 { binding := .fixed }, remotes := Table.const 32 { binding := .fixed } } },
        acted_ok (by decide), rfl, rfl, by decide⟩⟩

theorem witness_ModeSetChangesMode :
    (∃ s : State, ActReady 1 6 (u8 (codeOf arenaModes .changeover)) s ∧ s.phase = .run ∧ (s.cfg.zones.get 3).enabled = true ∧
        (s.cfg.sinks.get 11).enabled = true ∧ (s.cfg.sinks.get 11).kind = .stands ∧
        (s.cfg.profiles.get (modeIndex .changeover)).entryScene = none ∧ s.cfg.notice.enables.get 9 = true) ∧
    (∃ s : State, ActReady 1 6 (u8 (codeOf arenaModes .changeover)) s ∧
        (s.cfg.profiles.get (modeIndex .changeover)).entryScene.bind (index 24) = some 23 ∧ s.pru.state = .armed ∧
        (s.cfg.scenes.get 23).levels.get 31 = some 4095 ∧ s.phase ≠ .run) :=
  ⟨⟨acted 6 (u8 (codeOf arenaModes .changeover)) { run0 with cfg := { zones := Table.const 4 { enabled := true }, sinks := Table.const 12 { enabled := true, kind := .stands } } },
      acted_ok (by decide), rfl, rfl, rfl, rfl, rfl, rfl⟩,
    ⟨acted 6 (u8 (codeOf arenaModes .changeover)) { cfg := { profiles := Table.const 5 ⟨0, .store, 0, 0, some 23, false⟩, scenes := Table.const 24 { levels := Table.const 32 (some 4095) } } },
        acted_ok (by decide), rfl, rfl, rfl, by decide⟩⟩

theorem witness_ResurfaceActs :
    (∃ s : State, ActReady 1 7 (u8 (1 : Fin 2)) s ∧ (s.shm.get 1).state = .soft ∧ (s.shm.get 1).budget = .watts 0 ∧
        (s.hra.sheets.get 1).tankRunning = ((s.shm.get 1).tank != 0)) ∧
    (∃ s : State, ActReady 1 7 (u8 (1 : Fin 2)) s ∧ (s.shm.get 1).state = .resurface ∧
        (¬ ((s.shm.get 1).tank = 0 ↔ (s.cfg.sheets.get 1).tankTime = 0))) ∧
    (∃ s : State, ActReady 1 7 (u8 (1 : Fin 2)) s ∧ (s.shm.get 1).state = .resurface ∧
        ((s.shm.get 1).tank = 0 ↔ (s.cfg.sheets.get 1).tankTime = 0)) ∧
    (∃ s : State, ActReady 1 7 (u8 (1 : Fin 2)) s ∧ (s.shm.get 1).state = .blind) ∧
    (∃ s : State, ActReady 1 8 (u8 (1 : Fin 2)) s ∧ (s.shm.get 1).state = .resurface) ∧
    (∃ s : State, ActReady 1 8 (u8 (1 : Fin 2)) s ∧ (s.shm.get 1).state ≠ .resurface) :=
  ⟨⟨acted 7 (u8 (1 : Fin 2)) { run0 with shm := Table.const 2 { state := .soft, budget := .watts 0 } }, acted_ok (by decide), rfl, rfl,
      rfl⟩,
    ⟨acted 7 (u8 (1 : Fin 2)) { run0 with shm := Table.const 2 { state := .resurface, budget := .watts 5, frozen := some 5, hold := 1 } },
        acted_ok (by decide), rfl, by decide⟩,
    ⟨acted 7 (u8 (1 : Fin 2)) { run0 with shm := Table.const 2 { state := .resurface, budget := .watts 5, frozen := some 5, hold := 1, tank := 1 } },
        acted_ok (by decide), rfl, by decide⟩,
    ⟨acted 7 (u8 (1 : Fin 2)) { run0 with shm := Table.const 2 { state := .blind } }, acted_ok (by decide), rfl⟩,
    ⟨acted 8 (u8 (1 : Fin 2)) { run0 with shm := Table.const 2 { state := .resurface, budget := .watts 5, frozen := some 5, hold := 1 } },
        acted_ok (by decide), rfl⟩,
    ⟨acted 8 (u8 (1 : Fin 2)) {}, acted_ok (by decide), by decide⟩⟩

theorem witness_CoverActs :
    (∃ s : State, ActReady 1 9 (u8 (1 : Fin 2) ++ [0]) s ∧ (s.shm.get 1).state = .critical ∧ s.phase = .run) ∧
    (∃ s : State, ActReady 1 9 (u8 (1 : Fin 2) ++ [0]) s ∧ (s.shm.get 1).state = .covered) ∧
    (∃ s : State, ActReady 1 9 (u8 (1 : Fin 2) ++ [0]) s ∧ (s.shm.get 1).state = .off) ∧
    (∃ s : State, ActReady 1 9 (u8 (1 : Fin 2) ++ [1]) s ∧ (s.shm.get 1).state = .covered ∧ s.phase = .run) ∧
    (∃ s : State, ActReady 1 9 (u8 (1 : Fin 2) ++ [1]) s ∧ (s.shm.get 1).state ≠ .covered) :=
  ⟨⟨acted 9 (u8 (1 : Fin 2) ++ [0]) { run0 with shm := Table.const 2 { state := .critical } }, acted_ok (by decide), rfl, rfl⟩,
    ⟨acted 9 (u8 (1 : Fin 2) ++ [0]) { run0 with shm := Table.const 2 { state := .covered } }, acted_ok (by decide), rfl⟩,
    ⟨acted 9 (u8 (1 : Fin 2) ++ [0]) {}, acted_ok (by decide), rfl⟩,
    ⟨acted 9 (u8 (1 : Fin 2) ++ [1]) { run0 with shm := Table.const 2 { state := .covered } }, acted_ok (by decide), rfl, rfl⟩,
    ⟨acted 9 (u8 (1 : Fin 2) ++ [1]) {}, acted_ok (by decide), by decide⟩⟩

theorem witness_TriggersTrip :
    (∃ s : State, ActReady 1 10 [] s ∧ s.phase = .run ∧ s.pru.state = .armed) ∧
    (∃ s : State, ActReady 1 10 [] s ∧ s.phase = .run ∧ s.pru.state ≠ .armed ∧ s.pru.triggers.contains .host = true) ∧
    (∃ s : State, ActReady 1 10 [] s ∧ s.phase = .run ∧ s.pru.state ≠ .armed ∧ s.pru.triggers.contains .host = false) ∧
    (∃ s : State, ActReady 1 10 [] s ∧ s.phase = .waiting) ∧
    (∃ s : State, Ready ⟨1, kindAct, 10 :: [0]⟩ s ∧ s.stc.op = .load) ∧
    (∃ s : State, Ready ⟨1, kindAct, 10 :: [0]⟩ s ∧ s.stc.op ≠ .load ∧ ([0] : List Byte) ≠ []) ∧
    (∃ s : State, s.live = true ∧ s.phase = .run ∧ s.pru.pin = false ∧ s.stc.op ≠ .load ∧ s.pru.state = .armed) ∧
    (∃ s : State, s.live = true ∧ s.phase = .run ∧ s.pru.pin = false ∧ s.stc.op = .load) ∧
    (∃ s : State, s.live = true ∧ s.phase = .run ∧ s.pru.pin = false ∧ s.stc.op ≠ .load ∧ s.pru.state ≠ .armed ∧
        s.pru.triggers.contains .pin = false) ∧
    (∃ s : State, s.live = true ∧ s.phase = .run ∧ s.pru.pin = false ∧ s.stc.op ≠ .load ∧ s.pru.state ≠ .armed ∧
        s.pru.triggers.contains .pin = true) ∧
    (∃ s : State, s.live = true ∧ s.phase = .waiting) ∧
    (∃ s : State, s.live = true ∧ s.pru.pin = true) :=
  ⟨⟨acted 10 [] run0, acted_ok (by decide), rfl, rfl⟩,
    ⟨acted 10 [] { tripped0 with pru := { state := .held, triggers := [.host] } }, acted_ok (by decide), rfl, by decide, rfl⟩,
    ⟨acted 10 [] tripped0, acted_ok (by decide), rfl, by decide, rfl⟩,
    ⟨acted 10 [] {}, acted_ok (by decide), rfl⟩,
    ⟨acted 10 [0] loading0, asked_ok (by decide), rfl⟩,
    ⟨acted 10 [0] {}, asked_ok (by decide), by decide, by decide⟩,
    ⟨run0, rfl, rfl, rfl, by decide, rfl⟩,
    ⟨{ run0 with stc := { op := .load } }, rfl, rfl, rfl, rfl⟩,
    ⟨tripped0, rfl, rfl, rfl, by decide, by decide, rfl⟩,
    ⟨{ tripped0 with pru := { state := .held, triggers := [.pin] } }, rfl, rfl, rfl, by decide, by decide, rfl⟩,
    ⟨{}, rfl, rfl⟩,
    ⟨{ run0 with pru := { pin := true } }, rfl, rfl⟩⟩

theorem witness_ProtectClearResumes :
    (∃ s : State, ActReady 1 11 [] s ∧ s.pru.state = .armed) ∧
    (∃ s : State, ActReady 1 11 [] s ∧ s.pru.key = .timing) ∧
    (∃ s : State, ActReady 1 11 [] s ∧ s.activeTriggers ≠ []) ∧
    (∃ s : State, ActReady 1 11 [] s ∧ s.pru.state ≠ .armed ∧ s.activeTriggers = [] ∧ s.pru.key ≠ .timing ∧ s.phase = .run ∧
        (s.cfg.outputs.get 15).binding ≠ .none) ∧
    (∃ s : State, ActReady 1 11 [] s ∧ s.pru.state ≠ .armed ∧ s.activeTriggers = [] ∧ s.pru.key ≠ .timing ∧ s.phase = .run ∧
        (s.cfg.remotes.get 31).binding ≠ .none ∧ (s.fbc.request false ⟨.command, 0, 0, 0, 3, some 0⟩).1 = .dropped) :=
  ⟨⟨acted 11 [] {}, acted_ok (by decide), rfl⟩,
    ⟨acted 11 [] { tripped0 with pru := { state := .held, key := .timing } }, acted_ok (by decide), rfl⟩,
    ⟨acted 11 [] { tripped0 with pru := { state := .held, key := .spent } }, acted_ok (by decide), by decide⟩,
    ⟨acted 11 [] { tripped0 with cfg := { outputs := Table.const 16 { binding := .fixed } } }, acted_ok (by decide), by decide, rfl,
        by decide, rfl, by decide⟩,
    ⟨acted 11 [] { tripped0 with cfg := { remotes := Table.const 32 { binding := .fixed } }, fbc := { txProtect := [⟨.command, 0, 0, 9, 0, some 5⟩] } },
        acted_ok (by decide), by decide, rfl, by decide, rfl, by decide, rfl⟩⟩

theorem witness_LatchClearClearsOutput :
    (∃ s : State, Ready ⟨1, kindAct, [12, 0]⟩ s ∧ s.stc.op = .load) ∧
    (∃ s : State, Ready ⟨1, kindAct, [12, 64]⟩ s ∧ s.stc.op ≠ .load ∧ 64 ≤ (64 : Byte).toNat) ∧
    (∃ s : State, ActReady 1 12 (u8 (63 : Fin 64)) s ∧ (s.ptb.points.get 63).value = some 8 ∧ (s.ptb.points.get 63).output = true ∧
        (s.cfg.points.get 63).mode = .above) ∧
    (∃ s : State, ActReady 1 12 (u8 (63 : Fin 64)) s ∧ (s.ptb.points.get 63).value = some 3 ∧ (s.ptb.points.get 63).output = true ∧
        (s.cfg.points.get 63).mode = .hysteresis) ∧
    (∃ s : State, ActReady 1 12 (u8 (63 : Fin 64)) s ∧ (s.ptb.points.get 63).value = some 9 ∧ (s.ptb.points.get 63).output = true ∧
        (s.cfg.points.get 63).mode = .window) ∧
    (∃ s : State, ActReady 1 12 (u8 (63 : Fin 64)) s ∧ (s.ptb.points.get 63).value = some 0 ∧ (s.ptb.points.get 63).output = false ∧
        (s.cfg.points.get 63).mode = .none) ∧
    (∃ s : State, ActReady 1 12 (u8 (63 : Fin 64)) s ∧ (s.ptb.points.get 63).value = some 9 ∧
        (¬ (9 : Int) < (s.cfg.points.get 63).high)) ∧
    (∃ s : State, ActReady 1 12 (u8 (63 : Fin 64)) s ∧ (s.ptb.points.get 63).value = none) :=
  ⟨⟨acted 12 [0] loading0, asked_ok (by decide), rfl⟩,
    ⟨acted 12 [64] {}, asked_ok (by decide), by decide, by decide⟩,
    ⟨acted 12 (u8 (63 : Fin 64)) { cfg := { points := Table.const 64 { mode := .above, high := 9, low := 3, latch := true } }, ptb := { points := Table.const 64 { value := some 8, output := true } } },
        acted_ok (by decide), rfl, rfl, rfl⟩,
    ⟨acted 12 (u8 (63 : Fin 64)) { cfg := { points := Table.const 64 { mode := .hysteresis, high := 9, low := 3, latch := true } }, ptb := { points := Table.const 64 { value := some 3, output := true } } },
        acted_ok (by decide), rfl, rfl, rfl⟩,
    ⟨acted 12 (u8 (63 : Fin 64)) { cfg := { points := Table.const 64 { mode := .window, high := 9, low := 3, latch := true } }, ptb := { points := Table.const 64 { value := some 9, output := true } } },
        acted_ok (by decide), rfl, rfl, rfl⟩,
    ⟨acted 12 (u8 (63 : Fin 64)) { cfg := { points := Table.const 64 { mode := .none, high := 9, low := 3, latch := true } }, ptb := { points := Table.const 64 { value := some 0, output := false } } },
        acted_ok (by decide), rfl, rfl, rfl⟩,
    ⟨acted 12 (u8 (63 : Fin 64)) { cfg := { points := Table.const 64 { mode := .above, high := 9, low := 3, latch := true } }, ptb := { points := Table.const 64 { value := some 9, output := true } } },
        acted_ok (by decide), rfl, by decide⟩,
    ⟨acted 12 (u8 (63 : Fin 64)) {}, acted_ok (by decide), rfl⟩⟩

theorem witness_PassRuns :
    (∃ s : State, ActReady 1 16 [] s ∧ s.phase = .run) ∧
    (∃ s : State, ActReady 1 16 [] s ∧ s.phase = .waiting) ∧
    (∃ s : State, s.live = true ∧ s.phase = .run ∧ s.hra.timer ≠ 0) :=
  ⟨⟨acted 16 [] run0, acted_ok (by decide), rfl⟩,
    ⟨acted 16 [] {}, acted_ok (by decide), rfl⟩,
    ⟨run0, rfl, rfl, by decide⟩⟩

theorem witness_StoreActs :
    (∃ s : State, Ready ⟨1, kindAct, 17 :: [0]⟩ s ∧ s.stc.op = .load) ∧
    (∃ s : State, Ready ⟨1, kindAct, 17 :: [0]⟩ s ∧ s.stc.op ≠ .load ∧ ([0] : List Byte) ≠ []) ∧
    (∃ s : State, ActReady 1 17 [] s ∧ s.stc.holdsSnapshot = true) ∧
    (∃ s : State, ActReady 1 17 [] s ∧ s.stc.holdsSnapshot = false ∧ s.stc.op ≠ .none) ∧
    (∃ s : State, ActReady 1 17 [] s ∧ s.stc.holdsSnapshot = false ∧ s.stc.op = .none) ∧
    (∃ s : State, ActReady 1 18 [] s ∧ s.stc.op ≠ .none) ∧
    (∃ s : State, ActReady 1 18 [] s ∧ s.stc.op = .none) ∧
    (∃ s : State, ActReady 1 19 [] s ∧ s.stc.op ≠ .none) ∧
    (∃ s : State, ActReady 1 19 [] s ∧ s.stc.op = .none ∧ s.pru.state ≠ .armed) ∧
    (∃ s : State, ActReady 1 19 [] s ∧ s.stc.op = .none ∧ s.pru.state = .armed) ∧
    (∃ s : State, s.stc.slots.get 1 = none ∧ (∀ j, j < (1 : Fin 4) → s.stc.slots.get j ≠ none)) ∧
    (∃ s : State, s.stc.slots.get 0 = some (State.snapshotNow [] {}) ∧ (∀ j, ∃ y, s.stc.slots.get j = some y ∧
        (State.snapshotNow [] {}).sequence ≤ y.sequence ∧ ((State.snapshotNow [] {}).sequence = y.sequence → (0 : Fin 4) ≤ j))) :=
  ⟨⟨acted 17 [0] loading0, asked_ok (by decide), rfl⟩,
    ⟨acted 17 [0] {}, asked_ok (by decide), by decide, by decide⟩,
    ⟨acted 17 [] { stc := { op := .snapshot, writing := some (3, State.snapshotNow [] {}) } }, acted_ok (by decide), rfl⟩,
    ⟨acted 17 [] { stc := { op := .save } }, acted_ok (by decide), rfl, by decide⟩,
    ⟨acted 17 [] {}, acted_ok (by decide), rfl, rfl⟩,
    ⟨acted 18 [] { stc := { op := .save } }, acted_ok (by decide), by decide⟩,
    ⟨acted 18 [] {}, acted_ok (by decide), rfl⟩,
    ⟨acted 19 [] { stc := { op := .save } }, acted_ok (by decide), by decide⟩,
    ⟨acted 19 [] tripped0, acted_ok (by decide), rfl, by decide⟩,
    ⟨acted 19 [] {}, acted_ok (by decide), rfl, rfl⟩,
    ⟨{ stc := { slots := (Table.const 4 none).set 0 (some (State.snapshotNow [] {})) } }, rfl, by decide⟩,
    ⟨{ stc := { slots := Table.const 4 (some (State.snapshotNow [] {})) } }, rfl, fun j => ⟨State.snapshotNow [] {},
        by revert j; decide, Nat.le_refl _, fun _ => Fin.zero_le j⟩⟩⟩

theorem witness_ProgramActs :
    (∃ s : State, ActReady 1 20 (u32 (7 : BitVec 32).toNat) s ∧ s.phase ≠ .run) ∧
    (∃ s : State, ActReady 1 20 (u32 (0 : BitVec 32).toNat) s ∧ (0 : BitVec 32).toNat ≤ s.scu.clock) ∧
    (∃ s : State, ActReady 1 20 (u32 (4294967295 : BitVec 32).toNat) s ∧ s.phase = .run ∧ s.scu.clock < (4294967295 : BitVec 32).toNat ∧
        ProgramOrdered s) ∧
    (∃ s : State, ActReady 1 21 (u32 (9 : BitVec 32).toNat ++ u8 0 ++ u8 5) s ∧
        nameAt actionCodes (u32 (9 : BitVec 32).toNat ++ u8 0 ++ u8 5) 4 = some .mode ∧
        (u32 (9 : BitVec 32).toNat ++ u8 0 ++ u8 5).length = actionLength .mode ∧
        parseAction .mode (u32 (9 : BitVec 32).toNat ++ u8 0 ++ u8 5) = .error .badValue) ∧
    (∃ s : State, ActReady 1 21 (u32 (9 : BitVec 32).toNat ++ u8 1 ++ u8 24 ++ optional u16 0 none) s ∧
        nameAt actionCodes (u32 (9 : BitVec 32).toNat ++ u8 1 ++ u8 24 ++ optional u16 0 none) 4 = some .scene ∧
        (u32 (9 : BitVec 32).toNat ++ u8 1 ++ u8 24 ++ optional u16 0 none).length = actionLength .scene ∧
        parseAction .scene (u32 (9 : BitVec 32).toNat ++ u8 1 ++ u8 24 ++ optional u16 0 none) = .error .badIndex) ∧
    (∃ s : State, ActReady 1 21 (u32 (9 : BitVec 32).toNat ++ u8 2 ++ u8 2) s ∧
        nameAt actionCodes (u32 (9 : BitVec 32).toNat ++ u8 2 ++ u8 2) 4 = some .resurface ∧
        (u32 (9 : BitVec 32).toNat ++ u8 2 ++ u8 2).length = actionLength .resurface ∧
        parseAction .resurface (u32 (9 : BitVec 32).toNat ++ u8 2 ++ u8 2) = .error .badIndex) ∧
    (∃ s : State, ActReady 1 21 (u32 (9 : BitVec 32).toNat ++ u8 3 ++ u8 0 ++ u8 2) s ∧
        nameAt actionCodes (u32 (9 : BitVec 32).toNat ++ u8 3 ++ u8 0 ++ u8 2) 4 = some .cover ∧
        (u32 (9 : BitVec 32).toNat ++ u8 3 ++ u8 0 ++ u8 2).length = actionLength .cover ∧
        parseAction .cover (u32 (9 : BitVec 32).toNat ++ u8 3 ++ u8 0 ++ u8 2) = .error .badValue) ∧
    (∃ s : State, ActReady 1 21 (u32 (0 : BitVec 32).toNat ++ u8 0 ++ u8 (codeOf arenaModes .event)) s ∧
        nameAt actionCodes (u32 (0 : BitVec 32).toNat ++ u8 0 ++ u8 (codeOf arenaModes .event)) 4 = some .mode ∧
        (u32 (0 : BitVec 32).toNat ++ u8 0 ++ u8 (codeOf arenaModes .event)).length = actionLength .mode ∧
        parseAction .mode (u32 (0 : BitVec 32).toNat ++ u8 0 ++ u8 (codeOf arenaModes .event)) = .ok (.mode .event, 0) ∧
        48 ≤ s.scu.program.length) ∧
    (∃ s : State, ActReady 1 21 (u32 (0 : BitVec 32).toNat ++ u8 1 ++ u8 (23 : Fin 24) ++ optional u16 0 none) s ∧
        nameAt actionCodes (u32 (0 : BitVec 32).toNat ++ u8 1 ++ u8 (23 : Fin 24) ++ optional u16 0 none) 4 = some .scene ∧
        (u32 (0 : BitVec 32).toNat ++ u8 1 ++ u8 (23 : Fin 24) ++ optional u16 0 none).length = actionLength .scene ∧
        parseAction .scene (u32 (0 : BitVec 32).toNat ++ u8 1 ++ u8 (23 : Fin 24) ++ optional u16 0 none) = .ok (.scene 23 none, 0) ∧
        s.scu.program.length < 48 ∧ 0 + 60 < s.scu.clock) ∧
    (∃ s : State, ActReady 1 21 (u32 (0 : BitVec 32).toNat ++ u8 0 ++ u8 (codeOf arenaModes .event)) s ∧
        nameAt actionCodes (u32 (0 : BitVec 32).toNat ++ u8 0 ++ u8 (codeOf arenaModes .event)) 4 = some .mode ∧
        (u32 (0 : BitVec 32).toNat ++ u8 0 ++ u8 (codeOf arenaModes .event)).length = actionLength .mode ∧
        parseAction .mode (u32 (0 : BitVec 32).toNat ++ u8 0 ++ u8 (codeOf arenaModes .event)) = .ok (.mode .event, 0) ∧
        s.scu.program.length < 48 ∧ s.scu.clock ≤ 0 + 60 ∧ s.phase ≠ .run ∧ s.scu.nextId ≤ 65534) ∧
    (∃ s : State, ActReady 1 21 (u32 (9 : BitVec 32).toNat ++ u8 3 ++ u8 (1 : Fin 2) ++ u8 1) s ∧
        nameAt actionCodes (u32 (9 : BitVec 32).toNat ++ u8 3 ++ u8 (1 : Fin 2) ++ u8 1) 4 = some .cover ∧
        (u32 (9 : BitVec 32).toNat ++ u8 3 ++ u8 (1 : Fin 2) ++ u8 1).length = actionLength .cover ∧
        parseAction .cover (u32 (9 : BitVec 32).toNat ++ u8 3 ++ u8 (1 : Fin 2) ++ u8 1) = .ok (.cover 1 false, 0) ∧ s.phase = .run ∧
        s.scu.clock < 9 ∧ s.scu.nextId ≤ 65534 ∧ (∀ e ∈ s.scu.program, e.id ≠ s.scu.nextId)) ∧
    (∃ s : State, ActReady 1 21 (u32 (0 : BitVec 32).toNat ++ u8 4) s ∧
        nameAt actionCodes (u32 (0 : BitVec 32).toNat ++ u8 4) 4 = some .allocate ∧
        (u32 (0 : BitVec 32).toNat ++ u8 4).length = actionLength .allocate ∧
        parseAction .allocate (u32 (0 : BitVec 32).toNat ++ u8 4) = .ok (.allocate, 0) ∧ s.phase = .run ∧ 0 ≤ s.scu.clock ∧
        s.scu.clock ≤ 0 + 60 ∧ s.scu.nextId ≤ 65534) ∧
    (∃ s : State, s.pru.state = .armed ∧ s.phase = .run) ∧
    (∃ s : State, s.pru.state ≠ .armed) ∧
    (∃ s : State, (∃ t, s.resurface 1 = some t) ∧ (∃ t, s.coverOn 1 = some t) ∧ (s.shm.get 1).state ≠ .covered) ∧
    (∃ s : State, (∃ t, s.coverOff 1 = some t) ∧ (s.shm.get 1).state ≠ .normal ∧ (s.shm.get 1).state ≠ .soft ∧
        (s.shm.get 1).state ≠ .resurface) ∧
    (∃ s : State, (s.shm.get 1).state = .resurface) ∧
    (∃ s : State, Ready ⟨1, kindAct, 21 :: [0, 0, 0, 9, 5]⟩ s ∧ nameAt actionCodes ([0, 0, 0, 9, 5] : List Byte) 4 = none) ∧
    (∃ s : State, Ready ⟨1, kindAct, 21 :: [0, 0, 0, 9, 4, 0]⟩ s ∧
        nameAt actionCodes ([0, 0, 0, 9, 4, 0] : List Byte) 4 = some .allocate ∧
        ([0, 0, 0, 9, 4, 0] : List Byte).length ≠ actionLength .allocate) ∧
    (∃ s : State, Ready ⟨1, kindAct, 21 :: [0, 0, 0, 9, 4]⟩ s ∧ nameAt actionCodes ([0, 0, 0, 9, 4] : List Byte) 4 = some .allocate ∧
        ([0, 0, 0, 9, 4] : List Byte).length = actionLength .allocate ∧ s.stc.op = .load) :=
  ⟨⟨acted 20 (u32 (7 : BitVec 32).toNat) {}, acted_ok (by decide), by decide⟩,
    ⟨acted 20 (u32 (0 : BitVec 32).toNat) run0, acted_ok (by decide), by decide⟩,
    ⟨acted 20 (u32 (4294967295 : BitVec 32).toNat) { run0 with scu := { program := [⟨0, 7, .allocate⟩], nextId := 1 } },
        acted_ok (by decide), rfl, by decide, ⟨by decide, by decide, by decide, by decide, by decide⟩⟩,
    ⟨acted 21 (u32 (9 : BitVec 32).toNat ++ u8 0 ++ u8 5) {}, acted_ok (by decide), rfl, by decide +kernel, by rfl⟩,
    ⟨acted 21 (u32 (9 : BitVec 32).toNat ++ u8 1 ++ u8 24 ++ optional u16 0 none) {}, acted_ok (by decide), rfl, by decide +kernel,
        by rfl⟩,
    ⟨acted 21 (u32 (9 : BitVec 32).toNat ++ u8 2 ++ u8 2) {}, acted_ok (by decide), rfl, by decide +kernel, by rfl⟩,
    ⟨acted 21 (u32 (9 : BitVec 32).toNat ++ u8 3 ++ u8 0 ++ u8 2) {}, acted_ok (by decide), rfl, by decide +kernel, by rfl⟩,
    ⟨acted 21 (u32 (0 : BitVec 32).toNat ++ u8 0 ++ u8 (codeOf arenaModes .event)) { scu := { program := List.replicate 48 ⟨0, 0, .allocate⟩ } },
        acted_ok (by decide), rfl, by decide +kernel, by rfl, by decide⟩,
    ⟨acted 21 (u32 (0 : BitVec 32).toNat ++ u8 1 ++ u8 (23 : Fin 24) ++ optional u16 0 none) { run0 with scu := { clock := 61 } },
        acted_ok (by decide), rfl, by decide +kernel, by rfl, by decide, by decide⟩,
    ⟨acted 21 (u32 (0 : BitVec 32).toNat ++ u8 0 ++ u8 (codeOf arenaModes .event)) { scu := { clock := 60, nextId := 65534, program := [⟨65534, 0, .allocate⟩] } },
        acted_ok (by decide), rfl, by decide +kernel, by rfl, by decide, by decide, by decide, by decide⟩,
    ⟨acted 21 (u32 (9 : BitVec 32).toNat ++ u8 3 ++ u8 (1 : Fin 2) ++ u8 1) { run0 with scu := { clock := 8, nextId := 3 } },
        acted_ok (by decide), rfl, by decide +kernel, by rfl, rfl, by decide, by decide, by decide⟩,
    ⟨acted 21 (u32 (0 : BitVec 32).toNat ++ u8 4) { run0 with scu := { clock := 60 } }, acted_ok (by decide), rfl, by decide +kernel,
        by rfl, rfl, by decide, by decide, by decide⟩,
    ⟨run0, rfl, rfl⟩,
    ⟨tripped0, by decide⟩,
    ⟨{ run0 with shm := Table.const 2 { state := .soft, budget := .watts 0 } }, ⟨_, rfl⟩, ⟨_, rfl⟩, by decide⟩,
    ⟨{ run0 with shm := Table.const 2 { state := .covered } }, ⟨_, rfl⟩, by decide, by decide, by decide⟩,
    ⟨{ run0 with shm := Table.const 2 { state := .resurface, budget := .watts 5, frozen := some 5, hold := 1 } }, rfl⟩,
    ⟨acted 21 [0, 0, 0, 9, 5] loading0, asked_ok (by decide), by rfl⟩,
    ⟨acted 21 [0, 0, 0, 9, 4, 0] loading0, asked_ok (by decide), by rfl, by decide⟩,
    ⟨acted 21 [0, 0, 0, 9, 4] loading0, asked_ok (by decide), by rfl, by decide +kernel, rfl⟩⟩

theorem witness_ProgramDelete :
    (∃ s : State, Ready ⟨1, kindAct, 22 :: u16 (0 : BitVec 16).toNat⟩ s ∧ s.stc.op = .load) ∧
    (∃ s : State, Ready ⟨1, kindAct, 22 :: u16 (65534 : BitVec 16).toNat⟩ s ∧ s.stc.op ≠ .load ∧
        (∀ e ∈ s.scu.program, e.id ≠ (65534 : BitVec 16).toNat)) ∧
    (∃ s : State, Ready ⟨1, kindAct, 22 :: u16 (65534 : BitVec 16).toNat⟩ s ∧ s.stc.op ≠ .load ∧
        (∃ e ∈ s.scu.program, e.id = (65534 : BitVec 16).toNat)) ∧
    (∃ s : State, Ready ⟨1, kindAct, 22 :: u16 (65535 : BitVec 16).toNat⟩ s ∧ (∀ e ∈ s.scu.program, e.id ≤ 65534) ∧ s.stc.op ≠ .load ∧
        (65535 : BitVec 16).toNat = 65535) :=
  ⟨⟨acted 22 (u16 (0 : BitVec 16).toNat) loading0, asked_ok (by decide), rfl⟩,
    ⟨acted 22 (u16 (65534 : BitVec 16).toNat) {}, asked_ok (by decide), by decide, by decide⟩,
    ⟨acted 22 (u16 (65534 : BitVec 16).toNat) { scu := { program := [⟨65534, 0, .allocate⟩] } }, asked_ok (by decide), by decide,
        by decide⟩,
    ⟨acted 22 (u16 (65535 : BitVec 16).toNat) { scu := { program := [⟨65534, 0, .allocate⟩] } }, asked_ok (by decide), by decide,
        by decide, rfl⟩⟩

theorem witness_BusHandOver :
    (∃ s : State, ActReady 1 13 [] s ∧ s.fbc.linkRequest = true) ∧
    (∃ s : State, ActReady 1 13 [] s ∧ s.fbc.linkRequest = false) ∧
    (∃ s : State, ActReady 1 14 [] s ∧ s.fbc.linkRequest = false) ∧
    (∃ s : State, ActReady 1 14 [] s ∧ s.fbc.linkRequest = true ∧ s.fbc.hand = true) ∧
    (∃ s : State, ActReady 1 14 [] s ∧ s.fbc.linkRequest = true ∧ s.fbc.handOver = .released ∧ s.fbc.hand = false) ∧
    (∃ s : State, ActReady 1 15 (u8 (codeOf testModes .loop)) s) ∧
    (∃ s : State, s.live = true ∧ s.fbc.hand = false) ∧
    (∃ s : State, s.live = true ∧ s.fbc.hand = true ∧ s.fbc.handOver ≠ .released) ∧
    (∃ s : State, s.live = true ∧ s.fbc.hand = true ∧ s.fbc.handOver = .released ∧ s.fbc.linkRequest = false) :=
  ⟨⟨acted 13 [] { fbc := { linkRequest := true } }, acted_ok (by decide), rfl⟩,
    ⟨acted 13 [] {}, acted_ok (by decide), rfl⟩,
    ⟨acted 14 [] {}, acted_ok (by decide), rfl⟩,
    ⟨acted 14 [] { fbc := { linkRequest := true, handOver := .released, hand := true } }, acted_ok (by decide), rfl, rfl⟩,
    ⟨acted 14 [] { fbc := { linkRequest := true, handOver := .released } }, acted_ok (by decide), rfl, rfl, rfl⟩,
    ⟨acted 15 (u8 (codeOf testModes .loop)) {}, acted_ok (by decide)⟩,
    ⟨{}, rfl, rfl⟩,
    ⟨{ fbc := { hand := true, handOver := .releasePending } }, rfl, rfl, by decide⟩,
    ⟨{ fbc := { hand := true, handOver := .released } }, rfl, rfl, rfl, rfl⟩⟩

theorem witness_FrameReceived :
    (∃ s : State, s.live = true ∧ (∀ x, s.fbc.inFlight = some x → x.looped = true) ∧ receiveBits [] = none) ∧
    (∃ s : State, s.live = true ∧ s.fbc.inFlight ≠ none ∧ ∀ x, s.fbc.inFlight = some x → x.looped = true) ∧
    (∃ s : State, s.live = true ∧
        receiveBits (⟨7, .reading, 62, 0, 63, -32768⟩ : BusFrame).lineBits = some (⟨7, .reading, 62, 0, 63, -32768⟩ : BusFrame) ∧
        (⟨7, .reading, 62, 0, 63, -32768⟩ : BusFrame).target = s.fbc.address ∧ s.accepts 62 63 = true ∧ s.fbc.rxQueue.length < 8) ∧
    (∃ s : State, s.accepts 62 63 = true ∧ 8 ≤ s.fbc.rxQueue.length) ∧
    (∃ s : State, s.accepts 62 63 = false) ∧
    (∃ s : State, s.live = true ∧ receiveBits (⟨0, .pause, 63, 63, 0, 32767⟩ : BusFrame).lineBits = some ⟨0, .pause, 63, 63, 0, 32767⟩) ∧
    (∃ s : State, receiveBits (⟨0, .command, 5, 9, 0, 0⟩ : BusFrame).lineBits = some ⟨0, .command, 5, 9, 0, 0⟩ ∧ 9 ≠ s.fbc.address) :=
  ⟨⟨run0, rfl, fun _ h => (by cases h), by decide +kernel⟩,
    ⟨{ run0 with fbc := { inFlight := some ⟨⟨.poll, 1, 1, 0, 4, none⟩, false, true⟩ } }, rfl, by decide, fun _ h => (by cases h; rfl)⟩,
    ⟨run0, rfl, by decide +kernel, rfl, rfl, by decide⟩,
    ⟨{ run0 with fbc := { rxQueue := List.replicate 8 ⟨1, 1, .reading, 0, 0⟩ } }, rfl, by decide⟩,
    ⟨{ run0 with cfg := { bus := { accept := false } } }, rfl⟩,
    ⟨run0, rfl, by decide +kernel⟩,
    ⟨run0, by decide +kernel, by decide⟩⟩

theorem witness_FrameStart :
    (∃ s : State, s.live = true ∧ (¬ s.phase = .run)) ∧
    (∃ s : State, s.live = true ∧ (∀ e ∈ s.fbc.txProtect ++ s.fbc.txOrdinary, ∃ n : Fin 64, n.val = e.target ∧ s.fbc.pauses.get n ≠ 0)) ∧
    (∃ s : State, s.live = true ∧ s.phase = .run ∧ s.busState ≠ .isolated ∧ s.fbc.handOver = .owned ∧ s.fbc.testMode ≠ .listen ∧
        s.fbc.inFlight = none ∧ s.fbc.txProtect = [] ++ ⟨.command, 63, 0, 0, 7, none⟩ :: [] ∧ s.fbc.pauses.get 63 = 0) ∧
    (∃ s : State, s.live = true ∧ s.phase = .run ∧ s.busState ≠ .isolated ∧ (∀ e ∈ s.fbc.txProtect, ∃ n : Fin 64, n.val = e.target ∧
        s.fbc.pauses.get n ≠ 0) ∧ s.fbc.txOrdinary = [] ++ ⟨.poll, 0, 0, 0, 3, none⟩ :: [] ∧ s.fbc.pauses.get 0 = 0) :=
  ⟨⟨{}, rfl, by decide⟩,
    ⟨{ run0 with fbc := { txOrdinary := [⟨.command, 63, 0, 0, 7, none⟩], pauses := (Table.const 64 0).set 63 1 } }, rfl, by decide⟩,
    ⟨{ run0 with fbc := { txProtect := [⟨.command, 63, 0, 0, 7, none⟩], txOrdinary := [] } }, rfl, rfl, by decide, rfl, by decide, rfl,
        rfl, rfl⟩,
    ⟨{ run0 with fbc := { txProtect := [⟨.command, 63, 0, 0, 7, none⟩], txOrdinary := [⟨.poll, 0, 0, 0, 3, none⟩], pauses := (Table.const 64 0).set 63 1 } },
        rfl, rfl, by decide, by decide, rfl, rfl⟩⟩

theorem witness_OwnFrameDone :
    (∃ s : State, s.live = true ∧ s.fbc.inFlight = some ⟨⟨.command, 63, 0, 0, 7, none⟩, true, false⟩ ∧ s.protectEntries ≠ 0) ∧
    (∃ s : State, s.live = true ∧ s.fbc.inFlight = some ⟨⟨.command, 63, 0, 0, 7, none⟩, false, true⟩ ∧ s.protectEntries = 0) :=
  ⟨⟨{ tripped0 with fbc := { inFlight := some ⟨⟨.command, 63, 0, 0, 7, none⟩, true, false⟩ } }, rfl, rfl, by decide⟩,
    ⟨{ run0 with fbc := { inFlight := some ⟨⟨.command, 63, 0, 0, 7, none⟩, false, true⟩, handOver := .releasePending, hand := true } },
        rfl, rfl, rfl⟩⟩

theorem witness_OwnFrameFails :
    (∃ s : State, s.live = true ∧ s.fbc.inFlight = some ⟨⟨.command, 63, 0, 0, 7, none⟩, true, false⟩ ∧
        (¬ ∃ w ∈ s.fbc.txProtect, w.sameKey ⟨.command, 63, 0, 0, 7, none⟩ = true) ∧
        (¬ ∃ w ∈ s.fbc.txOrdinary, w.sameKey ⟨.command, 63, 0, 0, 7, none⟩ = true)) ∧
    (∃ s : State, s.live = true ∧ (∃ w ∈ s.fbc.txOrdinary, w.sameKey ⟨.command, 63, 0, 0, 7, none⟩ = true)) ∧
    (∃ s : State, s.live = true ∧ s.fbc.inFlight = some ⟨⟨.command, 63, 0, 0, 7, none⟩, true, false⟩ ∧
        (¬ ∃ w ∈ s.fbc.txProtect, w.sameKey ⟨.command, 63, 0, 0, 7, none⟩ = true) ∧
        (∃ w ∈ s.fbc.txOrdinary, w.sameKey ⟨.command, 63, 0, 0, 7, none⟩ = true)) :=
  ⟨⟨{ run0 with fbc := { inFlight := some ⟨⟨.command, 63, 0, 0, 7, none⟩, true, false⟩ } }, rfl, rfl, by decide, by decide⟩,
    ⟨{ run0 with fbc := { inFlight := some ⟨⟨.command, 63, 0, 0, 7, none⟩, false, false⟩, txOrdinary := [⟨.command, 63, 0, 0, 7, none⟩] } },
        rfl, by decide⟩,
    ⟨{ run0 with fbc := { inFlight := some ⟨⟨.command, 63, 0, 0, 7, none⟩, true, false⟩, txOrdinary := [⟨.command, 63, 0, 0, 7, none⟩] } },
        rfl, rfl, by decide, by decide⟩⟩

theorem witness_BusRecovery :
    (∃ s : State, s.live = true ∧ s.fbc.txe ≠ 256) ∧
    (∃ s : State, s.live = true ∧ s.fbc.txe = 256 ∧ s.fbc.idlePeriods < 63) ∧
    (∃ s : State, s.live = true ∧ s.fbc.txe = 256 ∧ 63 ≤ s.fbc.idlePeriods) :=
  ⟨⟨{ fbc := { txe := 255 } }, rfl, by decide⟩,
    ⟨{ fbc := { txe := 256, idlePeriods := 62 } }, rfl, rfl, by decide⟩,
    ⟨{ fbc := { txe := 256, idlePeriods := 63 } }, rfl, rfl, by decide⟩⟩

theorem witness_PointEvents :
    (∃ s : State, s.live = true ∧ s.readsPoints = false ∧ s.fbc.rxQueue = ⟨62, 63, .reading, 10000, 0⟩ :: [] ∧
        (s.cfg.points.get 63).binding = .bus ∧ (∀ j, (s.cfg.points.get j).binding = .bus ∧ (s.cfg.points.get j).node = 62 ∧
        (s.cfg.points.get j).point = 63 → j = 63) ∧ 10000 ≤ (s.cfg.points.get 63).plausMax) ∧
    (∃ s : State, s.live = true ∧ s.readsPoints = false ∧ s.fbc.rxQueue = ⟨62, 63, .reading, (-5001), 0⟩ :: [] ∧
        (s.cfg.points.get 63).binding = .bus ∧ (∀ j, (s.cfg.points.get j).binding = .bus ∧ (s.cfg.points.get j).node = 62 ∧
        (s.cfg.points.get j).point = 63 → j = 63) ∧ -5001 < (s.cfg.points.get 63).plausMin) ∧
    (∃ s : State, s.live = true ∧ s.readsPoints = false ∧ s.fbc.rxQueue = ⟨62, 63, .reading, 10000, 0⟩ :: [] ∧
        (∀ j, (s.cfg.points.get j).binding = .bus ∧ (s.cfg.points.get j).node = 62 ∧ (s.cfg.points.get j).point = 63 → j = 63) ∧
        63 ∈ (s.cfg.sheets.get 1).surfaces ∧ (s.cfg.sheets.get 1).subsoil = some 63 ∧ (s.cfg.zones.get 3).enabled = true ∧
        (s.cfg.zones.get 3).names 63 = true) ∧
    (∃ s : State, s.live = true ∧ s.readsPoints = false ∧ (∀ i, ¬ (s.cfg.points.get i).binding = .bus)) ∧
    (∃ s : State, s.live = true ∧ s.readsPoints = false ∧ (s.ptb.points.get 63).quality ≠ .noValue ∧
        (s.ptb.points.get 63).quality ≠ .unbound) ∧
    (∃ s : State, s.live = true ∧ s.readsPoints = false ∧ (s.cfg.points.get 63).binding = .bus ∧ (s.ptb.points.get 63).quality = .good ∧
        (s.ptb.points.get 63).age + 1 = (s.cfg.points.get 63).stale ∧ s.fbc.slots + 1 ≤ 16) ∧
    (∃ s : State, s.live = true ∧ s.readsPoints = false ∧ (s.cfg.points.get 63).binding = .bus ∧ (s.ptb.points.get 63).quality = .stale ∧
        ((s.ptb.points.get 63).age + 1) % (s.cfg.points.get 63).stale = 0) :=
  ⟨⟨{ cfg := { points := (Table.const 64 {}).set 63 { binding := .bus, node := 62, point := 63 } }, fbc := { rxQueue := [⟨62, 63, .reading, 10000, 0⟩] } },
      rfl, rfl, rfl, rfl, by decide, by decide⟩,
    ⟨{ cfg := { points := (Table.const 64 {}).set 63 { binding := .bus, node := 62, point := 63 } }, fbc := { rxQueue := [⟨62, 63, .reading, (-5001), 0⟩] } },
        rfl, rfl, rfl, rfl, by decide, by decide⟩,
    ⟨{ cfg := { points := (Table.const 64 {}).set 63 { binding := .bus, node := 62, point := 63 }, sheets := Table.const 2 { enabled := true, surfaces := [63], brine := some 62, subsoil := some 63 }, zones := Table.const 4 { enabled := true, airTemp := 63 } }, fbc := { rxQueue := [⟨62, 63, .reading, 10000, 0⟩] } },
        rfl, rfl, rfl, by decide, by decide, rfl, rfl, rfl⟩,
    ⟨{ fbc := { rxQueue := [⟨62, 63, .reading, 0, 0⟩] } }, rfl, rfl, by decide⟩,
    ⟨{ ptb := { points := Table.const 64 { value := some 0, age := 65535, quality := .good } } }, rfl, rfl, by decide, by decide⟩,
    ⟨{ cfg := { points := (Table.const 64 {}).set 63 { binding := .bus, node := 62, point := 63 } }, ptb := { points := (Table.const 64 {}).set 63 { value := some 0, age := 29, quality := .good } } },
        rfl, rfl, rfl, rfl, rfl, by decide⟩,
    ⟨{ cfg := { points := (Table.const 64 {}).set 63 { binding := .bus, node := 62, point := 63 } }, ptb := { points := (Table.const 64 {}).set 63 { value := some 0, age := 59, quality := .stale } } },
        rfl, rfl, rfl, rfl, rfl⟩⟩

theorem witness_SheetTimers :
    (∃ s : State, s.live = true ∧ (s.shm.get 1).state ≠ .resurface ∧ (s.shm.get 1).tank = 0) ∧
    (∃ s : State, s.live = true ∧ (s.shm.get 1).state = .resurface ∧ (s.shm.get 1).hold ≠ 0) ∧
    (∃ s : State, s.live = true ∧ (s.shm.get 1).tank ≠ 0) ∧
    (∃ s : State, s.live = true ∧ (s.cfg.sheets.get 1).criticalHold = 0) ∧
    (∃ s : State, s.live = true ∧ (s.shm.get 1).state = .critical ∧ (s.cfg.sheets.get 1).criticalHold ≠ 0 ∧
        (s.shm.get 1).trigger = false ∧ s.phase = .waiting) ∧
    (∃ s : State, s.live = true ∧ (s.shm.get 1).state = .critical ∧ (s.cfg.sheets.get 1).criticalHold ≠ 0 ∧
        (s.shm.get 1).trigger = false ∧ s.phase = .run ∧ s.stc.op = .load) ∧
    (∃ s : State, s.live = true ∧ (s.shm.get 1).state = .critical ∧ (s.cfg.sheets.get 1).criticalHold ≠ 0 ∧
        (s.shm.get 1).trigger = false ∧ s.phase = .run ∧ s.stc.op ≠ .load ∧ s.pru.state = .armed) :=
  ⟨⟨{}, rfl, by decide, rfl⟩,
    ⟨{ run0 with shm := Table.const 2 { state := .resurface, budget := .watts 5, frozen := some 5, hold := 1 } }, rfl, rfl, by decide⟩,
    ⟨{ run0 with shm := Table.const 2 { tank := 1 } }, rfl, by decide⟩,
    ⟨{ run0 with shm := Table.const 2 { state := .critical } }, rfl, rfl⟩,
    ⟨{ cfg := { sheets := Table.const 2 { criticalHold := 10 } }, shm := Table.const 2 { state := .critical } }, rfl, rfl, by decide, rfl,
        rfl⟩,
    ⟨{ run0 with cfg := { sheets := Table.const 2 { criticalHold := 10 } }, shm := Table.const 2 { state := .critical }, stc := { op := .load } },
        rfl, rfl, by decide, rfl, rfl, rfl⟩,
    ⟨{ run0 with cfg := { sheets := Table.const 2 { criticalHold := 10 } }, shm := Table.const 2 { state := .critical } }, rfl, rfl,
        by decide, rfl, rfl, by decide, rfl⟩⟩

theorem witness_LevelTimers :
    (∃ s : State, s.live = true ∧ s.phase ≠ .run) ∧
    (∃ s : State, s.live = true ∧ s.phase = .run ∧ (s.lsq.channels.get 31).timer ≠ none ∧ s.pru.state = .armed) ∧
    (∃ s : State, s.live = true ∧ s.phase = .run ∧ (s.lsq.channels.get 31).timer ≠ none ∧ s.pru.state ≠ .armed ∧ s.pru.arrived = false) ∧
    (∃ s : State, s.live = true ∧ (s.lsq.channels.get 31).effect = some ⟨.sine, 0, 4095, 5, none, 480, 20⟩ ∧ s.phase = .run) ∧
    (∃ s : State, s.live = true ∧ (s.ost.outputs.get 15).driven = false) ∧
    (∃ s : State, s.live = true ∧ (s.ost.outputs.get 15).driven = true ∧ (s.ost.outputs.get 15).timer ≠ none) :=
  ⟨⟨{}, rfl, by decide⟩,
    ⟨{ run0 with lsq := { channels := Table.const 32 { level := 0, target := 4095, step := 64, timer := some 1 } } }, rfl, rfl, by decide,
        rfl⟩,
    ⟨{ tripped0 with lsq := { channels := (Table.const 32 {}).set 31 { target := 5, taken := some .egress, timer := some 1 } } }, rfl,
        rfl, by decide, by decide, rfl⟩,
    ⟨{ run0 with lsq := { channels := Table.const 32 { effect := some ⟨.sine, 0, 4095, 5, none, 480, 20⟩ } } }, rfl, rfl, rfl⟩,
    ⟨{}, rfl, rfl⟩,
    ⟨{ ost := { outputs := Table.const 16 { driven := true, target := 4095, timer := some 1 } } }, rfl, rfl, by decide⟩⟩

theorem witness_RefreshExpiry :
    (∃ s : State, s.live = true ∧ s.phase ≠ .run) ∧
    (∃ s : State, s.live = true ∧ s.phase = .run ∧ (s.ost.remotes.get 31).timer ≠ 0 ∧ (s.ost.remotes.get 31).dirty = false ∧
        s.busState ≠ .active) ∧
    (∃ s : State, s.live = true ∧ s.phase = .run ∧ (s.ost.remotes.get 31).timer ≠ 0 ∧ (s.ost.remotes.get 31).taken = none ∧
        (s.ost.remotes.get 31).dirty = true ∧ (s.ost.remotes.get 31).value = some 0) ∧
    (∃ s : State, s.live = true ∧ s.phase = .run ∧ s.busState = .active ∧ (s.ost.remotes.get 31).value = some 0 ∧
        (s.ost.remotes.get 31).dirty = false) ∧
    (∃ s : State, s.live = true ∧ s.phase = .run ∧ (s.ost.remotes.get 31).timer ≠ 0 ∧ (s.ost.remotes.get 31).taken = some ⟨true, {}⟩ ∧
        (s.ost.remotes.get 31).dirty = true ∧ (s.ost.remotes.get 31).value = some 0) ∧
    (∃ s : State, (∃ w ∈ s.fbc.txProtect, w.sameKey ⟨.command, 0, 0, 0, 3, some 31⟩ = true)) ∧
    (∃ s : State, (¬ ∃ w ∈ s.fbc.txProtect, w.sameKey ⟨.command, 0, 0, 0, 3, some 31⟩ = true) ∧
        (∃ w ∈ s.fbc.txOrdinary, w.sameKey ⟨.command, 0, 0, 0, 3, some 31⟩ = true)) ∧
    (∃ s : State, (¬ ∃ w ∈ s.fbc.txProtect, w.sameKey ⟨.command, 0, 0, 0, 3, some 31⟩ = true) ∧
        (¬ ∃ w ∈ s.fbc.txOrdinary, w.sameKey ⟨.command, 0, 0, 0, 3, some 31⟩ = true) ∧ s.fbc.slots < 16) ∧
    (∃ s : State, (¬ ∃ w ∈ s.fbc.txProtect, w.sameKey ⟨.command, 0, 0, 0, 3, some 31⟩ = true) ∧ 16 ≤ s.fbc.slots ∧
        s.fbc.txOrdinary = []) ∧
    (∃ s : State, (¬ ∃ w ∈ s.fbc.txProtect, w.sameKey ⟨.command, 0, 0, 0, 3, some 31⟩ = true) ∧
        (¬ ∃ w ∈ s.fbc.txOrdinary, w.sameKey ⟨.command, 0, 0, 0, 3, some 31⟩ = true) ∧ 16 ≤ s.fbc.slots ∧
        s.fbc.txOrdinary = [] ++ [⟨.poll, 0, 0, 0, 4, none⟩]) :=
  ⟨⟨{}, rfl, by decide⟩,
    ⟨{ run0 with ost := { remotes := Table.const 32 { value := some 0, timer := 1 } }, fbc := { txe := 96 } }, rfl, rfl, by decide, rfl,
        by decide⟩,
    ⟨{ run0 with ost := { remotes := Table.const 32 { value := some 0, timer := 1, dirty := true } }, fbc := { txe := 256 } }, rfl, rfl,
        by decide, rfl, rfl, rfl⟩,
    ⟨{ run0 with ost := { remotes := Table.const 32 { value := some 0, timer := 1 } } }, rfl, rfl, rfl, rfl, rfl⟩,
    ⟨{ tripped0 with ost := { remotes := Table.const 32 { value := some 0, timer := 1, dirty := true, taken := some ⟨true, {}⟩ } } }, rfl,
        rfl, by decide, rfl, rfl, rfl⟩,
    ⟨{ fbc := { txProtect := [⟨.command, 0, 0, 0, 3, some 31⟩] } }, by decide⟩,
    ⟨{ fbc := { txOrdinary := [⟨.command, 0, 0, 0, 3, some 31⟩] } }, by decide, by decide⟩,
    ⟨{ fbc := { txProtect := List.replicate 15 ⟨.command, 1, 1, 0, 0, none⟩ } }, by decide, by decide, by decide⟩,
    ⟨{ fbc := { txProtect := List.replicate 16 ⟨.command, 1, 1, 0, 0, none⟩ } }, by decide, by decide, rfl⟩,
    ⟨{ fbc := { txProtect := List.replicate 15 ⟨.command, 1, 1, 0, 0, none⟩, txOrdinary := [⟨.poll, 0, 0, 0, 4, none⟩] } }, by decide,
        by decide, by decide, rfl⟩⟩

theorem witness_TickAdvancesClock :
    (∃ s : State, s.live = true ∧ s.scu.clock = 4294967295) ∧
    (∃ s : State, s.live = true ∧ s.scu.clock ≠ 4294967295 ∧ s.phase ≠ .run) ∧
    (∃ s : State, s.live = true ∧ s.scu.clock ≠ 4294967295 ∧ s.stc.op = .load) ∧
    (∃ s : State, s.live = true ∧ s.scu.clock ≠ 4294967295 ∧ s.phase = .run ∧ s.stc.op ≠ .load ∧ ProgramOrdered s ∧
        s.scu.program.filter (fun e => decide (e.start ≤ s.scu.clock + 1)) = [⟨0, 4294967295, .mode .event⟩]) :=
  ⟨⟨{ scu := { clock := 4294967295 } }, rfl, rfl⟩,
    ⟨{}, rfl, by decide, by decide⟩,
    ⟨loading0, rfl, by decide, rfl⟩,
    ⟨{ run0 with scu := { clock := 4294967294, nextId := 1, program := [⟨0, 4294967295, .mode .event⟩] } }, rfl, by decide, rfl,
        by decide, ⟨by decide, by decide, by decide, by decide, by decide⟩, by decide⟩⟩

theorem witness_KeyEvents :
    (∃ s : State, s.live = true ∧ s.pru.key = .released ∧ s.phase = .waiting) ∧
    (∃ s : State, s.live = true ∧ s.pru.key = .released ∧ s.phase = .run ∧ s.profile.keyBypass = false) ∧
    (∃ s : State, s.live = true ∧ s.pru.key = .released ∧ s.phase = .run ∧ s.profile.keyBypass = true ∧ s.stc.op ≠ .load ∧
        s.pru.state = .armed) ∧
    (∃ s : State, s.live = true ∧ s.pru.key = .timing ∧ s.pru.keyTimer ≠ 0 ∧ s.phase = .run ∧ s.stc.op ≠ .load ∧ s.pru.state = .armed) ∧
    (∃ s : State, s.live = true ∧ s.pru.key = .timing ∧ s.pru.keyTimer ≠ 0 ∧ s.phase = .run ∧ s.stc.op = .load) :=
  ⟨⟨{}, rfl, rfl, rfl⟩,
    ⟨{ run0 with scu := { mode := .event } }, rfl, rfl, rfl, rfl⟩,
    ⟨run0, rfl, rfl, rfl, rfl, by decide, rfl⟩,
    ⟨{ run0 with pru := { key := .timing, keyTimer := 1 } }, rfl, rfl, by decide, rfl, by decide, rfl⟩,
    ⟨{ run0 with stc := { op := .load }, pru := { key := .timing, keyTimer := 1 } }, rfl, rfl, by decide, rfl, rfl⟩⟩

theorem witness_StoreCompletions :
    (∃ s : State, s.live = true ∧ s.stc.op = .save ∧ s.stc.saving = some {} ∧ s.stc.snapshot = none ∧
        crc16 (imageBytes {}) % 65536 = (imageCheck {}).toNat) ∧
    (∃ s : State, s.live = true ∧ s.stc.op = .save ∧ s.stc.saving = some {} ∧ s.stc.snapshot = some (State.snapshotNow [] {}) ∧
        crc16 (imageBytes {}) % 65536 ≠ (imageCheck {} + 1).toNat) ∧
    (∃ s : State, s.live = true ∧ s.stc.op = .snapshot ∧ s.stc.writing = some (3, State.snapshotNow [] {})) ∧
    (∃ s : State, s.live = true ∧ s.stc.op = .load ∧ s.pru.deferred = [] ∧ s.phase ≠ .run ∧ s.stc.goodImage = none) ∧
    (∃ s : State, s.live = true ∧ s.stc.op = .load ∧ s.pru.deferred = [] ∧ (∀ e ∈ s.scu.program, s.scu.clock < e.start) ∧
        s.stc.goodImage = some {} ∧ s.phase = .run ∧ s.fbc.onLine = false) ∧
    (∃ s : State, s.live = true ∧ s.stc.op = .load ∧ s.pru.deferred = [] ∧ s.phase ≠ .run ∧
        s.stc.goodImage = some { sheets := Table.const 2 { enabled := true }, zones := Table.const 4 { enabled := true } }) :=
  ⟨⟨{ stc := { op := .save, saving := some {} } }, rfl, rfl, rfl, rfl, imageCheck_toNat _⟩,
    ⟨{ stc := { op := .save, saving := some {}, snapshot := some (State.snapshotNow [] {}) } }, rfl, rfl, rfl, rfl, imageCheck_next _⟩,
    ⟨{ stc := { op := .snapshot, writing := some (3, State.snapshotNow [] {}) } }, rfl, rfl, rfl⟩,
    ⟨loading0, rfl, rfl, rfl, by decide, rfl⟩,
    ⟨{ run0 with scu := { program := [⟨0, 1, .allocate⟩] }, stc := { op := .load, image := some ⟨{}, imageCheck {}⟩ } }, rfl, rfl, rfl,
        by decide, Stc.goodImage_eq rfl, rfl, rfl⟩,
    ⟨{ stc := { op := .load, image := some ⟨{ sheets := Table.const 2 { enabled := true }, zones := Table.const 4 { enabled := true } }, imageCheck { sheets := Table.const 2 { enabled := true }, zones := Table.const 4 { enabled := true } }⟩ } },
        rfl, rfl, rfl, by decide, Stc.goodImage_eq rfl⟩⟩

theorem witness_AllocationBounds :
    (∃ s : State, (s.hra.sinks.get 11).reqMin ≤ (s.hra.sinks.get 11).reqMax ∧ (s.shm.get 1).budget = .watts 0 ∧
        s.profile.lightingShare ≤ 1000 ∧ (s.cfg.sinks.get 11).enabled = false) ∧
    (∃ s : State, s.allocate.2 = [] ++ 11 :: []) :=
  ⟨⟨{ shm := Table.const 2 { budget := .watts 0 } }, by decide, rfl, by decide, rfl⟩,
    ⟨{ cfg := { sinks := (Table.const 12 {}).set 11 { enabled := true, kind := .stands, sheet := some 1 } } }, by decide +kernel⟩⟩

/-- The grants of R98, row by row: held, nothing asked for, capped, covered, and short. -/
theorem witness_AllocationBounds_rows :
    (∃ k : SinkRun, k.reqMax = 0) ∧ (∃ k : SinkRun, k.reqMax ≠ 0 ∧ 199 < k.reqMin) ∧
    (∃ k : SinkRun, k.reqMax ≠ 0 ∧ k.reqMin ≤ 200 ∧ k.reqMin ≤ 200) ∧
    (∃ k : SinkRun, k.reqMax ≠ 0 ∧ k.reqMin ≤ 200 ∧ 199 < k.reqMin ∧ k.cls = .protective) ∧
    (∃ k : SinkRun, k.reqMax ≠ 0 ∧ k.reqMin ≤ 200 ∧ 199 < k.reqMin ∧ k.cls = .event) ∧
    (∃ k : SinkRun, k.reqMax ≠ 0 ∧ k.reqMin ≤ 200 ∧ 199 < k.reqMin ∧ k.cls = .store) :=
  ⟨⟨{}, rfl⟩, ⟨{ reqMin := 200, reqMax := 300 }, by decide⟩, ⟨{ reqMin := 200, reqMax := 300 }, by decide⟩,
    ⟨{ reqMin := 200, reqMax := 300, cls := .protective }, by decide⟩, ⟨{ reqMin := 200, reqMax := 300, cls := .event }, by decide⟩,
    ⟨{ reqMin := 200, reqMax := 300, cls := .store }, by decide⟩⟩

/-- T of a sheet: the warmer of two usable surfaces, the brine estimate, and none. -/
theorem witness_SheetWriteTakesEffect_temp :
    let s : State := {
      cfg := { points := ((Table.const 64 { kind := .iceSurface }).set 9 { kind := .brineReturn }) }
      ptb := { points := ((Table.const 64 { value := some (-440), quality := .good }).set 1 { value := some (-420), quality := .stale }).set 2 {} } }
    (s.usableValue .iceSurface 0 = some (-440) ∧ s.usableValue .iceSurface 1 = some (-420)) ∧
      (s.usableValue .iceSurface 2 = none ∧ s.usableValue .brineReturn 9 = some (-440)) ∧ s.usableValue .brineReturn 2 = none := by
  decide +kernel

/-- The temperatures at the bounds of R49 to R52, with the default thresholds and a hysteresis of 30. -/
theorem witness_SheetWriteTakesEffect_states :
    let c : SheetConfig := { hysteresis := 30 }
    c.tSet < c.tSoft ∧ c.tSoft < c.tLimit ∧ TempSource.estimate ≠ .surface ∧ c.tLimit ≤ -250 ∧
      (c.tSoft < -251 ∧ c.tLimit - c.hysteresis < -251 ∧ -251 < c.tLimit) ∧
      (c.tSoft - c.hysteresis < -280 ∧ -280 ≤ c.tLimit - c.hysteresis) ∧ -350 ≤ c.tSoft ∧
      (-380 ≤ c.tSoft - c.hysteresis ∧ -380 ≤ c.tLimit - c.hysteresis) ∧ -550 ≤ c.tSet ∧ (c.tSet < -549 ∧ -549 < c.tLimit) := by decide

/-- Margins at the bounds of R76, with the default thresholds, without and with a flood. -/
theorem witness_ZoneWriteTakesEffect_levels :
    let c : ZoneConfig := {}
    c.risk < c.watch ∧ (0 : Int) ≤ 0 ∧ ((0 : Int) < 150 ∧ (150 : Int) ≤ c.risk + 0 + 0) ∧
      ((c.risk : Int) + c.flood + c.hysteresis < 301 ∧ (c.hysteresis : Int) < 301 ∧ (301 : Int) ≤ c.watch + c.flood + c.hysteresis) ∧
      (c.watch : Int) + c.flood + 0 < 401 := by decide

/-- A recall's fade at its bounds: one step, and one above the range. -/
theorem witness_SceneRecallSetsTargets_steps :
    (1 ≤ 600 ∧ 0 * 20 ≤ 4095 * (600 * 100)) ∧ (4095 ≤ 4095 ∧ 4095 * (1 * 100) < 4095 * 200) ∧
      (recallStep { step := 64, period := 20 } (some 20) 3695).1 = 37 := by decide +kernel

/-- Sinks of each kind with the inputs their requests follow, at both ends. -/
theorem witness_SinkWriteRecomputes_requests :
    let s : State := {
      cfg := {
        zones := (Table.const 4 { enabled := true }).set 3 { enabled := true, servedRegen := false, servedCeiling := false }
        points := (Table.const 64 {}).set 9 { kind := .occupancy } }
      cdm := (Table.const 4 { state := .fog, limiting := some .ceiling, demand := 1000 }).set 3 { state := .clear, demand := 300 }
      ptb := { points := (Table.const 64 {}).set 9 { value := some 3100, quality := .good } }
      hra := { sheets := (Table.const 2 {}).set 1 { tankRunning := true } } }
    (s.cfg.zones.get 0).enabled = true ∧ (s.cdm.get 0).state = .fog ∧ (s.cfg.zones.get 0).servedRegen = true ∧
      (∀ y, (s.cdm.get y).demand ≤ (s.cdm.get 0).demand) ∧
      ((s.cfg.zones.get 0).servedCeiling = true ∧ (s.cdm.get 0).limiting = some .ceiling) ∧
      s.usableValue .occupancy 9 = some 3100 ∧ s.usableValue .occupancy 0 = none ∧ (s.hra.sheets.get 1).tankRunning = true ∧
      (∀ z, (State.reset.cfg.zones.get z).enabled = false) ∧ ({ kind := .heave } : SinkConfig).sheet = none := by decide +kernel

/-- Phases at the bounds of R120 and R121: the start, the middle, and one short of the end of the shortest period. -/
theorem witness_LevelTimers_phases :
    1 ≤ 5 ∧ 0 < 5 * 100 ∧ 499 < 5 * 100 ∧ 0 < 500 / 2 ∧ 500 / 2 ≤ 250 ∧ 15 < 16 ∧ 15 * 250 ≤ 16 * 249 ∧ 16 * 249 < (15 + 1) * 250 ∧
      500 - 251 = 249 := by decide

/-- Levels read back of an own POLL: a winner's dominant bit, a wrong level, and one to come (R21). -/
theorem witness_OwnFrameFails_levels :
    let f : BusFrame := (⟨.poll, 63, 63, 0, 4, none⟩ : TxEntry).frame 0
    let expected := f.lineBits.set (f.lineBits.length - 8) false
    let arbitration := 1 + (insertBits false 1 (f.bits.take 23)).length
    (expected = expected.take 1 ++ true :: expected.drop 2 ∧ (expected.take 1).length < arbitration) ∧
      expected = [] ++ false :: expected.drop 1 ∧
      (expected = expected.take (expected.length - 1) ++ true :: [] ∧ arbitration ≤ (expected.take (expected.length - 1)).length) := by
  decide +kernel

/-- A trip with no snapshot held, with the slots free and with a SAVE writing. -/
theorem witness_TriggersTrip_captured :
    (run0.live = true ∧ run0.phase = .run ∧ run0.pru.state = .armed ∧ run0.stc.holdsSnapshot = false ∧ run0.stc.op = .none) ∧
      (let s : State := { run0 with stc := { op := .save, saving := some {} } };
        s.live = true ∧ s.pru.state = .armed ∧ s.stc.holdsSnapshot = false ∧ s.stc.op ≠ .none ∧ s.stc.op ≠ .load) := by decide

theorem witness_PassRuns_requests :
    run0.phase = .run ∧ run0.pru.state = .armed ∧ (∀ i, (run0.ost.remotes.get i).taken = none) := by decide

/-- COVER off with a decrease (no pass yet; below UNLIMITED) and without (no lower than the last pass took), in RUN while ARMED. -/
theorem witness_CoverActs_requests :
    ∀ b ∈ [none, some Power.unlimited, some (Power.watts 0)],
      let s : State := { run0 with shm := Table.const 2 { state := .covered, budget := .unlimited, atLastPass := b } }
      ActReady 1 9 (u8 (1 : Fin 2) ++ [1]) (acted 9 (u8 (1 : Fin 2) ++ [1]) s) ∧ s.phase = .run ∧ s.pru.state = .armed ∧
        (∀ i, (s.ost.remotes.get i).taken = none) ∧ (s.shm.get 1).state = .covered ∧
        (s.freshSheet 1).budget = .watts 0 :=
  fun _ _ => ⟨acted_ok (⟨⟨by decide, rfl, rfl⟩, by decide⟩ : (run0.phase ≠ .settle ∧ _) ∧ run0.stc.op ≠ .load), rfl, rfl, (by decide : ∀ i, (run0.ost.remotes.get i).taken = none), rfl, rfl⟩

/-- A sink WRITE and a mode change in RUN while ARMED. -/
theorem witness_SinkWrite_ModeSet_requests :
    (∃ s : State, WriteReady 1 6 (BitVec.ofNat 8 (11 : Fin 12) :: (putSinkConfig {})) s ∧ s.phase = .run ∧ s.pru.state = .armed ∧
      (∀ j, (s.ost.remotes.get j).taken = none)) ∧
    (∃ s : State, ActReady 1 6 (u8 (codeOf arenaModes .changeover)) s ∧ s.phase = .run ∧ s.pru.state = .armed ∧
      (∀ i, (s.ost.remotes.get i).taken = none)) :=
  ⟨⟨wrote 6 (BitVec.ofNat 8 (11 : Fin 12) :: (putSinkConfig {})) run0, wrote_ok (by decide), rfl, rfl, by decide⟩,
    ⟨acted 6 (u8 (codeOf arenaModes .changeover)) run0, acted_ok (by decide), rfl, rfl, by decide⟩⟩

theorem witness_EffectStartRunsEffect_ranges : (4095 : Nat) ≤ 4095 ∧ 5 ≤ 600 ∧ 600 ≤ 600 ∧ 1000 ≤ 1000 := by decide

/-- A state other than reset from which a step leads on, for the statements about every step. -/
def ticking : State := { pending := [.tick] }

theorem witness_step_answers : ∃ t, step ticking = .next t := ⟨_, rfl⟩

theorem witness_QueuesFitKept : QueuesFit ticking := by
  constructor <;> decide

theorem witness_ProgramOrderedKept : ProgramOrdered ticking := by
  constructor <;> decide

theorem witness_default_valid : Configuration.Valid {} := by
  constructor
  · decide +kernel
  · have h : ∀ i, (({} : Configuration).points.get i).binding ≠ .bus := by decide
    intro i j _ hi
    exact absurd hi (h i)

theorem witness_ConfigurationsValidKept : ConfigurationsValid ticking :=
  ⟨witness_default_valid, fun _ h => (by cases h), fun _ h => (by cases h)⟩

theorem witness_LightingCurrentKept : LightingCurrent ticking :=
  ⟨by decide +kernel, by decide +kernel, fun _ => by decide +kernel⟩

theorem witness_HeatHoldKeptByStep : HeatHoldKept ticking :=
  ⟨by decide, by decide, by decide, by decide, by decide, by decide⟩

theorem witness_ResurfaceKeptByStep : ResurfaceKept { ticking with shm := Table.const 2 ⟨.resurface, none, .none, .watts 5, none, some 5, 1, 0, 0, false, .min⟩ } := by
  intro sh
  have h : (Table.const 2 (⟨.resurface, none, .none, .watts 5, none, some 5, 1, 0, 0, false, .min⟩ : SheetRun)).get sh =
      ⟨.resurface, none, .none, .watts 5, none, some 5, 1, 0, 0, false, .min⟩ := by revert sh; decide
  show SheetRun.ResurfaceKept (Table.get _ sh)
  rw [h]
  exact ⟨fun _ => ⟨by decide, 5, rfl, rfl⟩, fun h => absurd rfl h, fun h => (by rcases h with h | h <;> cases h)⟩

theorem witness_DewPointBoundedMonotone :
    (-3000 : Int) ≤ 4000 ∧ (999 : Int) ≤ 1000 ∧ (500 * (13 : Nat) - 3000 : Int) ≤ max (-3000) (min 4000 5200) ∧
      max (-3000) (min 4000 5200) ≤ (500 * ((13 : Nat) + 1) - 3000 : Int) ∧
      Config.saturation.getD 7 0 ≤ 921 ∧ 921 < Config.saturation.getD 8 0 := by decide

/-- One light at its derated target: an allowance of 600 W against a demand of 1000 W. -/
def derated : State := { run0 with
  cfg := { channels := (Table.const 32 {}).set 0 { sheet := some 0, coefficient := 1000 } }
  lsq := {
    channels := (Table.const 32 {}).set 0 { base := 4095, target := 2457 }
    sheets := (Table.const 2 {}).set 0 { allowance := .watts 600, lUp := 1000, derate := 600 } } }

theorem witness_LightingWithinAllowance :
    LightingCurrent derated ∧ derated.pru.state = .armed ∧ (derated.lsq.sheets.get 0).allowance = .watts 600 :=
  ⟨⟨by decide +kernel, by decide +kernel, fun _ => by decide +kernel⟩, rfl, by decide⟩

theorem witness_BusFrameRoundTrip :
    let f : BusFrame := ⟨7, .poll, 63, 63, 63, 32767⟩
    f.priority ≤ 7 ∧ f.source ≤ 63 ∧ f.target ≤ 63 ∧ f.point ≤ 63 ∧ -32768 ≤ f.value ∧ f.value ≤ 32767 := by decide

theorem witness_BusFrameRoundTrip_fields :
    ((((3 * 4 + codeOf busKinds .poll) * 64 + 63) * 64 + 63) * 64 + 62) < (((3 * 4 + codeOf busKinds .poll) * 64 + 63) * 64 + 63) * 64 + 63 := by
  decide

theorem witness_RecordsReadBack :
    PointConfig.valid {} = true ∧ WindowConfig.valid {} = true ∧ BusSettings.valid {} = true ∧ SheetConfig.valid {} = true ∧
      ZoneConfig.valid {} = true ∧ SinkConfig.valid {} = true ∧ AllocatorSettings.valid {} = true ∧
      ChannelConfig.valid {} = true ∧ Scene.valid {} = true ∧ OutputConfig.valid {} = true ∧ RemoteConfig.valid {} = true ∧
      Profile.valid ⟨0, .comfort, 300, 1000, none, true⟩ = true ∧ ProtectSettings.valid {} = true ∧
      NoticeSettings.valid {} = true ∧ within 1 30000 (30000 : Nat) = true := by decide +kernel

/-- The slots 0, 2 and 3 hold 7, 9 and 7: of two equal sequence numbers the higher slot is the newer (R178), and record 3 is empty. -/
theorem witness_RecordsReadBack_snapshots :
    let of (q : Nat) : Snapshot := { State.snapshotNow [] {} with sequence := q }
    let s : State := { stc := { slots := (((Table.const 4 none).set 0 (some (of 7))).set 2 (some (of 9))).set 3 (some (of 7)) } }
    let newer (j : Fin 4) (x : Snapshot) (k : Fin 4) : Bool :=
      match s.stc.slots.get k with
      | some y => x.sequence < y.sequence || (x.sequence == y.sequence && j < k)
      | none => false
    (((List.finRange 4).countP fun j => (s.stc.slots.get j).isSome) ≤ (3 : Fin 4).val ∧
      (s.stc.slots.get 2 = some (of 9) ∧ (List.finRange 4).countP (newer 2 (of 9)) = 0) ∧
      (s.stc.slots.get 3 = some (of 7) ∧ (List.finRange 4).countP (newer 3 (of 7)) = 1) ∧
      (s.stc.slots.get 0 = some (of 7) ∧ (List.finRange 4).countP (newer 0 (of 7)) = 2)) := by decide +kernel

end Sys2Proof.Tests
end

section
/-! PROOF. LATCH_CLEAR (R14): what each of its checks answers, and that a cleared output only ever withdraws a trigger. -/

namespace Sys2Proof.Machine
open Sys2Proof

section Act

variable {s : State} {tag : Byte} {i : Fin 64} {v : Int}

theorem sumOver_mono {n : Nat} {f g : Fin n → Nat} (h : ∀ j, f j ≤ g j) : sumOver n f ≤ sumOver n g :=
  List.sum_le_sum fun j _ => h j

theorem u8At_u8 {n : Nat} (h : n < 256) : u8At (u8 n) 0 = n := by
  simp [u8At, u8, Nat.mod_eq_of_lt h]

/-- A field byte written from an index names that index. -/
theorem index_u8 (i : Fin 64) : index 64 (u8At (u8 i) 0) = some i := by
  rw [u8At_u8 (by omega), index_val]

/-! ### The point's record -/

/-- `r` with its comparator output CLEAR. -/
def PointRun.cleared (r : PointRun) : PointRun := { r with output := false }

theorem PointRun.cleared_of_clear {r : PointRun} (h : r.output = false) : r.cleared = r := by
  simp [PointRun.cleared, ← h]

theorem State.setPoint_get_self (s : State) (i : Fin 64) : s.setPoint i (s.ptb.points.get i) = s := by
  simp [State.setPoint]

/-- The record's notices when only the output may have changed, and it is CLEAR now: LIMIT where it was SET (R11). -/
theorem pointNotices_cleared (s : State) (i : Fin 64) (old : PointRun) :
    (s.setPoint i old.cleared).pointNotices old i = (s.setPoint i old.cleared).noticeIf old.output .limit i.val 0 := by
  simp [State.pointNotices, PointRun.cleared, State.noticeIf]

/-! ### The trigger -/

theorem pointTrigger_cleared (s : State) (i : Fin 64) (r : PointRun) : (s.setPoint i r.cleared).pointTrigger i = false := by
  simp [State.pointTrigger, PointRun.cleared]

/-- Clearing one output makes no point an active trigger that was none. -/
theorem pointTriggers_cleared_le (s : State) (i : Fin 64) (r : PointRun) :
    (s.setPoint i r.cleared).pointTriggers ≤ s.pointTriggers := by
  refine sumOver_mono fun j => ?_
  by_cases hij : i = j
  · subst hij
    simp [pointTrigger_cleared]
  · simp [State.pointTrigger, Table.get_set_ne _ hij]

/-- The point triggers raise POINT only where their number has left 0 (R16). -/
theorem pointsRaised_of_le {n : Nat} (h : s.pointTriggers ≤ n) : s.pointsRaised n = s :=
  if_neg fun ⟨hn, ht⟩ => ht (by omega)

theorem noticeIf_pointTriggers (c : Bool) (k : NoticeKind) (x : Nat) (v : Int) (s : State) :
    (s.noticeIf c k x v).pointTriggers = s.pointTriggers := by
  cases c <;> rfl

/-- A point's event that stores no value and leaves the quality informs no block (R11). -/
theorem completePoint_quiet (s : State) (n : Nat) {r : PointRun} (h : r.quality = (s.ptb.points.get i).quality) :
    s.completePoint n false i r = ((s.setPoint i r).pointNotices (s.ptb.points.get i) i).pointsRaised n :=
  if_neg (by simp [h])

/-- A cleared output is notified and nothing else: no trigger is raised, and no block is informed (R11, R14). -/
theorem completePoint_cleared (s : State) (i : Fin 64) :
    let r := s.ptb.points.get i
    s.completePoint s.pointTriggers false i r.cleared = (s.setPoint i r.cleared).noticeIf r.output .limit i.val 0 := by
  intro r
  calc s.completePoint s.pointTriggers false i r.cleared
      = ((s.setPoint i r.cleared).pointNotices r i).pointsRaised s.pointTriggers := completePoint_quiet s _ rfl
    _ = ((s.setPoint i r.cleared).noticeIf r.output .limit i.val 0).pointsRaised s.pointTriggers := by
        rw [pointNotices_cleared]
    _ = (s.setPoint i r.cleared).noticeIf r.output .limit i.val 0 :=
        pointsRaised_of_le ((noticeIf_pointTriggers ..).trans_le (pointTriggers_cleared_le s i r))

/-! ### The act's decision (R14) -/

/-- The present value leaves the output CLEAR, mode by mode (R14). -/
def PointConfig.Clears (c : PointConfig) (output : Bool) (v : Int) : Prop :=
  match c.mode with
  | .none => output = false
  | .above => v < c.high
  | .hysteresis => v ≤ c.low
  | .window => c.low ≤ v ∧ v ≤ c.high

theorem leavesClear_iff (c : PointConfig) (output : Bool) (v : Int) :
    leavesClear c output v = true ↔ c.Clears output v := by
  unfold leavesClear PointConfig.Clears
  cases c.mode <;> simp

theorem actLatchClear_loading (h : s.stc.op = .load) (fields : List Byte) :
    actLatchClear fields s = .error .storeBusy := by
  simp [actLatchClear, State.act, h]

theorem actLatchClear_badIndex (h : s.stc.op ≠ .load) {n : Byte} (hn : 64 ≤ n.toNat) :
    actLatchClear [n] s = .error .badIndex := by
  simp [actLatchClear, State.act, h, u8At, index_none.mpr hn]

theorem actLatchClear_noValue (h : s.stc.op ≠ .load) (hv : (s.ptb.points.get i).value = none) :
    actLatchClear (u8 i) s = .error .notNow := by
  have hlen : (u8 i).length = 1 := rfl
  simp [actLatchClear, State.act, h, hlen, index_u8, hv]

/-- Of a point with a value, the value decides. -/
theorem actLatchClear_value (h : s.stc.op ≠ .load) (hv : (s.ptb.points.get i).value = some v) :
    let r := s.ptb.points.get i
    actLatchClear (u8 i) s =
      if leavesClear (s.cfg.points.get i) r.output v then
        done 0 ((s.setPoint i r.cleared).noticeIf r.output .limit i.val 0)
      else .error .notNow := by
  intro r
  have hlen : (u8 i).length = 1 := rfl
  rw [← completePoint_cleared]
  simp [actLatchClear, State.act, h, hlen, index_u8, hv, r, PointRun.cleared]

theorem exec_latchClear {fields : List Byte} (h : Ready ⟨tag, kindAct, 12 :: fields⟩ s) :
    exec (.latchClear tag fields) s = .next (s.conclude tag (actLatchClear fields s)) :=
  congrArg Host.Outcome.next (serveAct_ready h _)

/-! ### The command -/

theorem exec_latchClear_clears (h : ActReady tag 12 (u8 i) s) (hv : (s.ptb.points.get i).value = some v)
    (hc : (s.cfg.points.get i).Clears (s.ptb.points.get i).output v) :
    let r := s.ptb.points.get i
    exec (.latchClear tag (u8 i)) s =
      .next (((s.setPoint i r.cleared).noticeIf r.output .limit i.val 0).answered tag .done [0]) := by
  intro r
  rw [exec_latchClear h.ready, actLatchClear_value h.load hv, if_pos ((leavesClear_iff ..).mpr hc)]
  rfl

theorem exec_latchClear_keeps (h : ActReady tag 12 (u8 i) s) (hv : (s.ptb.points.get i).value = some v)
    (hc : ¬ (s.cfg.points.get i).Clears (s.ptb.points.get i).output v) :
    exec (.latchClear tag (u8 i)) s = .next (s.refusedFor tag .notNow) := by
  rw [exec_latchClear h.ready, actLatchClear_value h.load hv, if_neg (mt (leavesClear_iff ..).mp hc), conclude_refused]

theorem exec_latchClear_noValue (h : ActReady tag 12 (u8 i) s) (hv : (s.ptb.points.get i).value = none) :
    exec (.latchClear tag (u8 i)) s = .next (s.refusedFor tag .notNow) := by
  rw [exec_latchClear h.ready, actLatchClear_noValue h.load hv, conclude_refused]

end Act

/-- Settles O31: the act's checks in order, and then the present value's two answers, each split by the output where it clears. -/
theorem latchClearClearsOutput : Obligations.LatchClearClearsOutput := by
  refine ⟨fun tag n s h => ⟨fun hload => ?busy, fun hload hn => ?index⟩, fun tag i s h => ?point⟩
  case busy => rw [exec_latchClear h, actLatchClear_loading hload, conclude_refused]
  case index => rw [exec_latchClear h, actLatchClear_badIndex hload hn, conclude_refused]
  case point =>
    intro c r clears
    refine ⟨fun v hv hc => ⟨fun hset => ?set, fun hclear => ?clear⟩, fun v hv hc => exec_latchClear_keeps h hv hc,
      fun hv => exec_latchClear_noValue h hv⟩
    case set =>
      refine ⟨(s.setPoint i r.cleared).notice .limit i.val 0, ?_, rfl, pointTrigger_cleared s i r⟩
      rw [exec_latchClear_clears h hv hc]
      simp [r, hset, State.noticeIf]
    case clear =>
      rw [exec_latchClear_clears h hv hc, PointRun.cleared_of_clear hclear, State.setPoint_get_self]
      simp [r, hclear, State.noticeIf]

end Sys2Proof.Machine
end

section
/-! PROOF. What an event reports of the states of sheets and zones (R63, R81, R187): the offers of those two kinds that it makes, in order,
whatever else it reports, and that they stand in the queue where it had room. -/

namespace Sys2Proof.Machine
open Sys2Proof

variable {s t u : State} {ns ms : List Offer}

/-! ### The link after several offers -/

theorem offered_append (hcfg : t.cfg = s.cfg) (hscu : t.scu = s.scu) (hlnk : t.lnk = s.offered ns) :
    t.offered ms = s.offered (ns ++ ms) := by
  simp [State.offered, hcfg, hscu, hlnk, List.foldl_append]

/-- With room in the queue, an offer enters it when it is enabled (R187). -/
theorem Lnk.offer_notices_of_room {l : Lnk} (h : l.notices.length < 32) (e : Bool) (n : Notice) :
    (l.offer e n).notices = l.notices ++ if e then [n] else [] := by
  cases e <;> simp [Lnk.offer, h]

/-- Where the queue still has room, every enabled offer stands in it, in order (R187). -/
theorem offered_notices (s : State) (ns : List Offer) (h : (s.offered ns).notices.length < 32) :
    (s.offered ns).notices = s.lnk.notices ++
      (ns.filter fun n => s.cfg.notice.enables.get (noticeIndex n.1)).map fun n => ⟨n.1, n.2.1, n.2.2, s.scu.clock, 0⟩ := by
  induction ns using List.reverseRecOn with
  | nil => simp [State.offered]
  | append_singleton ns n ih =>
    have hlast : s.offered (ns ++ [n]) =
        (s.offered ns).offer (s.cfg.notice.enables.get (noticeIndex n.1)) ⟨n.1, n.2.1, n.2.2, s.scu.clock, 0⟩ := by
      simp [State.offered]
    rw [hlast] at h ⊢
    have hroom : (s.offered ns).notices.length < 32 := Nat.lt_of_le_of_lt (Lnk.offer_notices ..).length_le h
    rw [Lnk.offer_notices_of_room hroom, ih hroom]
    cases he : s.cfg.notice.enables.get (noticeIndex n.1) <;> simp [he]

theorem noticeIf_lnk (c : Bool) (k : NoticeKind) (x : Nat) (v : Int) (s : State) :
    (s.noticeIf c k x v).lnk = s.offered (Offer.when (c = true) k x v) := by
  cases c <;> rfl

/-! ### The offers of sheet and zone states -/

theorem kind_of_mem_when {c : Prop} [Decidable c] {k : NoticeKind} {x : Nat} {v : Int} {n : Offer} (h : n ∈ Offer.when c k x v) :
    n.1 = k := by
  unfold Offer.when at h
  split at h <;> simp_all

/-- Whether an offer reports the state of a sheet or a zone. -/
def Offer.ofState (n : Offer) : Bool := n.1 == .sheet || n.1 == .zone

/-- From `s` to `t` blocks offered notices, and those of sheet and zone states among them are `ns`, in order. -/
structure Announced (ns : List Offer) (s t : State) : Prop where
  cfg : t.cfg = s.cfg
  scu : t.scu = s.scu
  offers : ∃ all : List Offer, t.lnk = s.offered all ∧ all.filter Offer.ofState = ns

/-- A step that leaves the link alone reports nothing. -/
theorem Announced.of_lnk (hcfg : t.cfg = s.cfg) (hscu : t.scu = s.scu) (hlnk : t.lnk = s.lnk) : Announced [] s t :=
  ⟨hcfg, hscu, [], hlnk, rfl⟩

theorem Announced.refl (s : State) : Announced [] s s := .of_lnk rfl rfl rfl

theorem Announced.trans (h : Announced ns s t) (k : Announced ms t u) : Announced (ns ++ ms) s u := by
  obtain ⟨all, hall, rfl⟩ := h.offers
  obtain ⟨more, hmore, rfl⟩ := k.offers
  exact ⟨k.cfg.trans h.cfg, k.scu.trans h.scu, all ++ more, hmore.trans (offered_append h.cfg h.scu hall), List.filter_append ..⟩

/-- Steps that report no such state, one after the other. -/
theorem Announced.quiet (h : Announced [] s t) (k : Announced [] t u) : Announced [] s u := h.trans k

theorem noticeIf_announced (c : Bool) (k : NoticeKind) (x : Nat) (v : Int) (s : State) :
    Announced ((Offer.when (c = true) k x v).filter Offer.ofState) s (s.noticeIf c k x v) :=
  ⟨(noticeIf_event ..).inner.setup.cfg, (noticeIf_event ..).inner.setup.scu, _, noticeIf_lnk .., rfl⟩

/-- A notice of another kind reports no state. -/
theorem noticeIf_quiet {k : NoticeKind} (hk : k ≠ .sheet ∧ k ≠ .zone) (c : Bool) (x : Nat) (v : Int) (s : State) :
    Announced [] s (s.noticeIf c k x v) := by
  have h := noticeIf_announced c k x v s
  rwa [List.filter_eq_nil_iff.mpr fun n hn => by simp [Offer.ofState, kind_of_mem_when hn, hk]] at h

/-- A notice of such a state is reported when its condition holds. -/
theorem noticeIf_ofState {k : NoticeKind} (hk : k = .sheet ∨ k = .zone) (c : Bool) (x : Nat) (v : Int) (s : State) :
    Announced (Offer.when (c = true) k x v) s (s.noticeIf c k x v) := by
  have h := noticeIf_announced c k x v s
  rwa [List.filter_eq_self.mpr fun n hn => by simp [Offer.ofState, kind_of_mem_when hn, hk]] at h

/-! ### The notices of changed states -/

/-- The ZONE notice of one zone, if its state changed (R81). -/
def zoneChange (s t : State) (z : Fin 4) : List Offer :=
  Offer.when ((s.cdm.get z).state ≠ (t.cdm.get z).state) .zone z (codeOf zoneStates (t.cdm.get z).state)

/-- The SHEET notice of one sheet, if its state changed (R63). -/
def sheetChange (s t : State) (sh : Fin 2) : List Offer :=
  Offer.when ((s.shm.get sh).state ≠ (t.shm.get sh).state) .sheet sh (codeOf sheetStates (t.shm.get sh).state)

theorem zoneChanges_eq (s t : State) : zoneChanges s t = (List.finRange 4).flatMap (zoneChange s t) := rfl

theorem zoneChange_of_eq {z : Fin 4} (h : t.cdm.get z = s.cdm.get z) : zoneChange s t z = [] := by
  simp [zoneChange, Offer.when, h]

/-- Where only one sheet may have changed its state, its notice is the only one. -/
theorem sheetChanges_of_others {sh : Fin 2} (h : ∀ j, j ≠ sh → (t.shm.get j).state = (s.shm.get j).state) :
    sheetChanges s t = sheetChange s t sh := by
  have hnone : ∀ j, j ≠ sh → sheetChange s t j = [] := fun j hj => by simp [sheetChange, Offer.when, h j hj]
  have hboth : sheetChanges s t = sheetChange s t 0 ++ sheetChange s t 1 := by
    simp [sheetChanges, sheetChange, List.finRange_succ]
  rw [hboth]
  match sh with
  | 0 => simp [hnone 1 (by decide)]
  | 1 => simp [hnone 0 (by decide)]

theorem kind_of_mem_zoneChanges {n : Offer} (h : n ∈ zoneChanges s t) : n.1 = .zone :=
  have ⟨_, _, hz⟩ := List.mem_flatMap.mp h
  kind_of_mem_when hz

theorem kind_of_mem_sheetChanges {n : Offer} (h : n ∈ sheetChanges s t) : n.1 = .sheet :=
  have ⟨_, _, hs⟩ := List.mem_flatMap.mp h
  kind_of_mem_when hs

/-- The reported states of some kinds stand in the queue, where it had room (R187). -/
theorem Announced.notified (h : Announced ns s t) {kinds : List NoticeKind}
    (hk : ∀ n : Offer, kinds.contains n.1 = true → n.ofState = true) :
    Notified kinds (ns.filter fun n => kinds.contains n.1) s t := by
  intro hroom
  obtain ⟨all, hall, rfl⟩ := h.offers
  have hboth : ∀ n : Offer, (kinds.contains n.1 && n.ofState) = kinds.contains n.1 := fun n => by
    rw [Bool.and_eq_left_iff_imp]
    exact hk n
  rw [hall] at hroom ⊢
  rw [offered_notices s all hroom, List.drop_left, List.filter_map, h.cfg]
  simp only [List.filter_filter, hboth, Function.comp_def]
  congr 2
  funext n
  exact Bool.and_comm ..

/-- An event that reported the zones' changes and then the sheets' has queued the notices of both (R63, R81). -/
theorem Announced.statesNotified (h : Announced (zoneChanges s t ++ sheetChanges s t) s t) : StatesNotified s t := by
  constructor
  case sheets =>
    have hs := h.notified (kinds := [.sheet]) fun n hn => by simp_all [Offer.ofState]
    rwa [List.filter_append, List.filter_eq_nil_iff.mpr fun n hn => by simp [kind_of_mem_zoneChanges hn],
      List.filter_eq_self.mpr fun n hn => by simp [kind_of_mem_sheetChanges hn]] at hs
  case zones =>
    have hz := h.notified (kinds := [.zone]) fun n hn => by simp_all [Offer.ofState]
    rwa [List.filter_append, List.filter_eq_self.mpr fun n hn => by simp [kind_of_mem_zoneChanges hn],
      List.filter_eq_nil_iff.mpr fun n hn => by simp [kind_of_mem_sheetChanges hn], List.append_nil] at hz

end Sys2Proof.Machine
end

section
/-! PROOF. What the passes and requests at the end of an event leave alone beyond their frame: they report no state of a sheet or zone,
and the Heat Allocator keeps what it was last told of the tank timers. -/

namespace Sys2Proof.Machine
open Sys2Proof

variable {s t u : State}

/-! ### Steps that report no state -/

/-- A loop of steps that report no state reports none. -/
theorem forEach_quiet {n : Nat} (f : Fin n → State → State) (h : ∀ i x, Announced [] x (f i x)) (s : State) :
    Announced [] s (forEach n f s) :=
  forEach_induct (P := fun x => Announced [] s x) f s (.refl s) fun i x hx => hx.quiet (h i x)

theorem enqueue_false_lnk (e : TxEntry) (s : State) : (s.enqueue false e).2.lnk = s.lnk := by rw [enqueue_false]

theorem requestRemote_false_lnk (i : Fin 32) (s : State) : (s.requestRemote false i).lnk = s.lnk := by
  unfold State.requestRemote
  dsimp only
  split
  · rfl
  · simp only [Bool.false_eq_true, if_false]
    split <;> exact enqueue_false_lnk ..

theorem newRemoteValue_lnk (i : Fin 32) (v : Nat) (s : State) : (s.newRemoteValue i v).lnk = s.lnk := by
  unfold State.newRemoteValue
  dsimp only
  split
  · rfl
  · split
    · exact requestRemote_false_lnk ..
    · rfl

theorem handRemote_lnk (i : Fin 32) (s : State) : (s.handRemote i).lnk = s.lnk := by
  unfold State.handRemote
  split
  · split
    · rfl
    · exact newRemoteValue_lnk ..
  · split
    · split
      · exact newRemoteValue_lnk ..
      · rfl
    · rfl

theorem handRemotes_quiet (s : State) : Announced [] s s.handRemotes :=
  forEach_quiet _ (fun i x => .of_lnk (handRemote_event i x).1.inner.setup.cfg (handRemote_event i x).1.inner.setup.scu
    (handRemote_lnk i x)) s

theorem handOn_quiet (bs : List OutputBinding) (s : State) : Announced [] s (s.handOn bs) := by
  rw [handOn_outputs]
  exact .of_lnk rfl rfl rfl

theorem relightSheet_quiet (sh : Fin 2) (s : State) : Announced [] s (s.relightSheet sh) := by
  unfold State.relightSheet
  refine Announced.quiet ?_ (noticeIf_quiet (by decide) ..)
  exact .of_lnk rfl rfl rfl

theorem relight_quiet (shs : List (Fin 2)) (s : State) : Announced [] s (s.relight shs) := by
  refine forEach_quiet _ (fun sh x => ?_) s
  split
  · exact relightSheet_quiet ..
  · exact .refl x

theorem relightAndAim_quiet (jumps : Bool) (shs : List (Fin 2)) (also : Fin 32 → Bool) (s : State) :
    Announced [] s (s.relightAndAim jumps shs also) := by
  refine (relight_quiet shs s).quiet ?_
  unfold State.relightAndAim State.setTargets
  dsimp only
  split <;> split <;> exact .of_lnk rfl rfl rfl

theorem receiveAllowance_quiet (jumps : Bool) (sh : Fin 2) (a : Power) (s : State) :
    Announced [] s (s.receiveAllowance jumps sh a) := by
  unfold State.receiveAllowance
  dsimp only
  refine Announced.quiet (Announced.quiet ?_ (relightAndAim_quiet ..)) (handOn_quiet ..)
  exact .of_lnk rfl rfl rfl

theorem grantNotices_quiet (before : Table SinkRun 12) (l : List (Fin 12)) (s : State) :
    Announced [] s (l.foldl (State.grantNotice before) s) :=
  foldl_induct (P := fun x => Announced [] s x) _ l s (.refl s) fun _ _ hx => hx.quiet (noticeIf_quiet (k := .grantShort) (by decide) ..)

/-- The notices of a pass are of other kinds (R102, R103, R127). -/
theorem passWith_quiet (jumps : Bool) (s : State) : Announced [] s (s.passWith jumps) := by
  unfold State.passWith
  dsimp only
  generalize s.allocate = out
  have htaken : Announced [] s { s.takeBudgets with hra := out.1 } := .of_lnk rfl rfl rfl
  generalize ({ s.takeBudgets with hra := out.1 } : State) = taken at htaken ⊢
  have hlit := htaken.quiet (forEach_quiet (fun sh st => State.receiveAllowance jumps sh (out.1.sheets.get sh).allowance st)
    (fun sh st => receiveAllowance_quiet jumps sh _ st) taken)
  generalize forEach 2 (fun sh st => State.receiveAllowance jumps sh (out.1.sheets.get sh).allowance st) taken = lit at hlit ⊢
  have hnoticed := (hlit.quiet (handOn_quiet [.sink, .backup] lit)).quiet
    (grantNotices_quiet s.hra.sinks (out.2 ++ disabledSinks s.cfg.sinks) _)
  exact hnoticed.quiet (noticeIf_quiet (by decide) ..)

theorem passes_quiet (jumps : Bool) (n : Nat) (s : State) : Announced [] s (s.passes jumps n) := by
  induction n generalizing s with
  | zero => exact .refl s
  | succ n ih =>
    refine Announced.quiet ?_ (ih _)
    split
    · exact (passWith_quiet jumps s).quiet (handRemotes_quiet _)
    · exact .refl s

theorem Triggered.finish_quiet (x : Triggered) : Announced [] x.state x.finish :=
  (passes_quiet ..).quiet (handRemotes_quiet _)

/-! ### The tank timers as the Heat Allocator knows them (R90) -/

/-- The Heat Allocator knows the same tank timers as running. -/
structure TanksKept (s t : State) : Prop where
  running : ∀ sh, (t.hra.sheets.get sh).tankRunning = (s.hra.sheets.get sh).tankRunning

theorem TanksKept.of_sheets (h : t.hra.sheets = s.hra.sheets) : TanksKept s t := ⟨fun sh => by rw [h]⟩

theorem TanksKept.of_hra (h : t.hra = s.hra) : TanksKept s t := .of_sheets (by rw [h])

theorem TanksKept.trans (h : TanksKept s t) (k : TanksKept t u) : TanksKept s u :=
  ⟨fun sh => (k.running sh).trans (h.running sh)⟩

theorem sheetFigures_tankRunning (b : Power) (lUp share : Nat) (h : SheetHeat) :
    (sheetFigures b lUp share h).tankRunning = h.tankRunning := by
  cases b <;> rfl

theorem allocate_tankRunning (s : State) (sh : Fin 2) :
    (s.allocate.1.sheets.get sh).tankRunning = (s.hra.sheets.get sh).tankRunning := by
  simp [State.allocate, sheetFigures_tankRunning, Hra.credit]

theorem receiveAllowance_hra (jumps : Bool) (sh : Fin 2) (a : Power) (s : State) : (s.receiveAllowance jumps sh a).hra = s.hra :=
  (handLevels_light _).hra.trans (relightAndAim_light ..).hra

theorem grantNotices_hra (before : Table SinkRun 12) (l : List (Fin 12)) (s : State) :
    (l.foldl (State.grantNotice before) s).hra = s.hra :=
  foldl_induct (P := fun x => State.hra x = s.hra) _ l s rfl fun _ _ hx => (noticeIf_event ..).hra.trans hx

/-- After its pass the allocator stands as the allocation left it: the hand-overs and notices leave it alone. -/
theorem passWith_hra (jumps : Bool) (s : State) : (s.passWith jumps).hra = s.allocate.1 := by
  unfold State.passWith
  dsimp only
  rw [(noticeIf_event ..).hra, grantNotices_hra, (handOn_event ..).1.hra]
  exact forEach_induct (P := fun x => State.hra x = s.allocate.1) _ _ rfl fun _ _ hx => (receiveAllowance_hra ..).trans hx

theorem passWith_tanks (jumps : Bool) (s : State) : TanksKept s (s.passWith jumps) :=
  ⟨fun sh => by rw [passWith_hra, allocate_tankRunning]⟩

theorem passes_tanks (jumps : Bool) (n : Nat) (s : State) : TanksKept s (s.passes jumps n) := by
  induction n generalizing s with
  | zero => exact .of_hra rfl
  | succ n ih =>
    refine TanksKept.trans ?_ (ih _)
    split
    · exact (passWith_tanks jumps s).trans (.of_hra (handRemotes_event _).1.hra)
    · exact .of_hra rfl

theorem Triggered.finish_tanks (x : Triggered) : TanksKept x.state x.finish :=
  (passes_tanks ..).trans (.of_hra (handRemotes_event _).1.hra)

end Sys2Proof.Machine
end

section
/-! PROOF. The zones linked to a sheet at the start and end of its resurfacing (R74): one invariant of the loop over the zones. -/

namespace Sys2Proof.Machine
open Sys2Proof

variable {s t u : State} {sh : Fin 2} {on : Bool} {zs : List (Fin 4)} {z : Fin 4}

/-- The zone is enabled and linked to the sheet (R74). -/
def ZoneConfig.LinkedTo (c : ZoneConfig) (sh : Fin 2) : Prop := c.enabled = true ∧ c.sheet = some sh

theorem ZoneConfig.linkedTo_iff (c : ZoneConfig) : c.LinkedTo sh ↔ (c.enabled && c.sheet == some sh) = true := by
  simp [ZoneConfig.LinkedTo]

/-! ### One zone -/

theorem handZone_cdm (config : Bool) (old : ZoneRun) (z : Fin 4) (s : State) : (s.handZone config old z).cdm = s.cdm := by
  unfold State.handZone
  dsimp only
  split <;> split <;> simp [(handOn_event ..).1.cdm, (recomputeKinds_heat ..).cdm]

theorem handZone_shm (config : Bool) (old : ZoneRun) (z : Fin 4) (s : State) : (s.handZone config old z).shm = s.shm := by
  unfold State.handZone
  dsimp only
  split <;> split <;> simp [(handOn_event ..).1.shm, State.recomputeKinds, State.recompute]

theorem handZone_tanks (config : Bool) (old : ZoneRun) (z : Fin 4) (s : State) : TanksKept s (s.handZone config old z) := by
  refine .of_sheets ?_
  unfold State.handZone
  dsimp only
  split <;> split <;> simp [(handOn_event ..).1.hra, State.recomputeKinds, State.recompute]

theorem recomputeKinds_quiet (ks : List SinkKind) (s : State) : Announced [] s (s.recomputeKinds ks) := .of_lnk rfl rfl rfl

theorem handZone_quiet (config : Bool) (old : ZoneRun) (z : Fin 4) (s : State) : Announced [] s (s.handZone config old z) := by
  have hheat : Announced [] s (if config || old.state != (s.cdm.get z).state || old.demand != (s.cdm.get z).demand ||
      old.limiting != (s.cdm.get z).limiting then s.recomputeKinds [.regen, .ceiling] else s) := by
    split
    · exact recomputeKinds_quiet ..
    · exact .refl s
  unfold State.handZone
  dsimp only
  split
  · exact hheat.quiet (handOn_quiet ..)
  · exact hheat

theorem putZone_cdm (z : Fin 4) (r : ZoneRun) (s : State) : (s.putZone z r).cdm = s.cdm.set z r := (noticeIf_event ..).cdm

/-- A record that takes its place is reported if it changed the zone's state (R81). -/
theorem putZone_announced (z : Fin 4) (r : ZoneRun) (s : State) :
    Announced (Offer.when ((s.cdm.get z).state ≠ r.state) .zone z (codeOf zoneStates r.state)) s (s.putZone z r) := by
  have hset : Announced [] s { s with cdm := s.cdm.set z r } := .of_lnk rfl rfl rfl
  have hput : Announced _ s (s.putZone z r) := hset.trans (noticeIf_ofState (.inr rfl) ..)
  simpa using hput

theorem evaluateZone_cdm (on : Bool) (z : Fin 4) (s : State) :
    (s.evaluateZone on z).state.cdm =
      s.cdm.set z (s.evaluatedZone (s.cfg.zones.get z) on (s.cdm.get z).state) :=
  (handZone_cdm ..).trans (putZone_cdm ..)

theorem evaluateZone_shm (on : Bool) (z : Fin 4) (s : State) : (s.evaluateZone on z).state.shm = s.shm :=
  (handZone_shm ..).trans (noticeIf_event ..).shm

theorem evaluateZone_tanks (on : Bool) (z : Fin 4) (s : State) : TanksKept s (s.evaluateZone on z).state :=
  TanksKept.trans (t := s.putZone z _) (.of_hra (noticeIf_event ..).hra) (handZone_tanks ..)

/-- An evaluation reports the zone's state if it changed (R81). -/
theorem evaluateZone_announced (on : Bool) (z : Fin 4) (s : State) :
    Announced (zoneChange s (s.evaluateZone on z).state z) s (s.evaluateZone on z).state := by
  have hall : Announced _ s (s.evaluateZone on z).state := (putZone_announced z _ s).trans (handZone_quiet ..)
  simpa [zoneChange, evaluateZone_cdm] using hall

/-! ### The loop over the zones -/

/-- The zones `zs` have been informed that the sheet's resurfacing is `on`. -/
structure Flooded (sh : Fin 2) (on : Bool) (zs : List (Fin 4)) (s t : State) : Prop where
  event : ZoneEvent s t
  shm : t.shm = s.shm
  tanks : TanksKept s t
  announced : Announced (zs.flatMap (zoneChange s t)) s t
  flood : ∀ z ∈ zs, (s.cfg.zones.get z).LinkedTo sh → (t.cdm.get z).flood = on
  kept : ∀ z, z ∉ zs ∨ ¬ (s.cfg.zones.get z).LinkedTo sh → t.cdm.get z = s.cdm.get z

theorem Flooded.nil (s : State) : Flooded sh on [] s s :=
  ⟨.refl s, rfl, .of_hra rfl, .refl s, by simp, fun _ _ => rfl⟩

/-- A zone that is not linked is passed over. -/
theorem Flooded.skip (h : ¬ (s.cfg.zones.get z).LinkedTo sh) : Flooded sh on [z] s s :=
  ⟨.refl s, rfl, .of_hra rfl, by simpa [zoneChange_of_eq] using Announced.refl s, by simp [h], fun _ _ => rfl⟩

theorem Flooded.evaluate (h : (s.cfg.zones.get z).LinkedTo sh) : Flooded sh on [z] s (s.evaluateZone on z).state where
  event := evaluateZone_zone ..
  shm := evaluateZone_shm ..
  tanks := evaluateZone_tanks ..
  announced := by simpa using evaluateZone_announced on z s
  flood := by simp [evaluateZone_cdm, State.evaluatedZone]
  kept y hy := by
    have hne : z ≠ y := by
      rintro rfl
      simp [h] at hy
    simp [evaluateZone_cdm, Table.get_set_ne _ hne]

theorem Flooded.cons (hz : z ∉ zs) (h : Flooded sh on [z] s t) (k : Flooded sh on zs t u) : Flooded sh on (z :: zs) s u where
  event := h.event.trans k.event
  shm := k.shm.trans h.shm
  tanks := h.tanks.trans k.tanks
  announced := by
    have hhead : zoneChange s t z = zoneChange s u z := by simp [zoneChange, k.kept z (.inl hz)]
    have htail : zs.flatMap (zoneChange t u) = zs.flatMap (zoneChange s u) := List.flatMap_congr fun y hy => by
      have hne : y ∉ [z] := by
        intro hyz
        exact hz (List.mem_singleton.mp hyz ▸ hy)
      simp [zoneChange, h.kept y (.inl hne)]
    simpa [hhead, htail] using h.announced.trans k.announced
  flood y hy hl := by
    rcases List.mem_cons.mp hy with rfl | hy
    · rw [k.kept y (.inl hz)]
      exact h.flood y (by simp) hl
    · exact k.flood y hy (h.event.inner.setup.cfg ▸ hl)
  kept y hy := by
    have hy' : ∀ ys, ys ⊆ z :: zs → y ∉ ys ∨ ¬ (s.cfg.zones.get y).LinkedTo sh := fun ys hys =>
      hy.imp_left (mt (@hys y))
    rw [k.kept y (h.event.inner.setup.cfg.symm ▸ hy' zs (by simp)), h.kept y (hy' [z] (by simp))]

/-- The start and the end of a sheet's resurfacing reach exactly the zones linked to it (R74). -/
theorem informFlood_flooded (sh : Fin 2) (on : Bool) (s : State) :
    Flooded sh on (List.finRange 4) s (s.informFlood sh on).state := by
  unfold State.informFlood forEachTriggered forEach
  generalize hx : (⟨s, 0⟩ : Triggered) = x
  obtain rfl : x.state = s := by rw [← hx]
  clear hx
  have hnodup := List.nodup_finRange 4
  generalize List.finRange 4 = zs at hnodup ⊢
  induction zs generalizing x with
  | nil => exact .nil _
  | cons z zs ih =>
    obtain ⟨hz, hzs⟩ := List.nodup_cons.mp hnodup
    refine Flooded.cons hz ?_ (ih _ hzs)
    dsimp only [Triggered.and]
    split
    · next hl => exact .evaluate ((ZoneConfig.linkedTo_iff _).mpr hl)
    · next hl => exact .skip (mt (ZoneConfig.linkedTo_iff _).mp hl)

end Sys2Proof.Machine
end

section
/-! PROOF. RESURFACE_START, its repeat and RESURFACE_END (R54, R55, R57): the sheet's record and tank timer, the end of RESURFACE, and
what each act answers in each state of the sheet. -/

namespace Sys2Proof.Machine
open Sys2Proof

section Resurfacing

variable {s t : State} {sh : Fin 2} {tag : Byte} {n w : Nat}

/-! ### The tank timer (R58, R90) -/

/-- The inform reaches the sheet's flag and the sinks. -/
theorem informTank_hra (sh : Fin 2) (running : Bool) (s : State) :
    (s.informTank sh running).hra = { s.hra with
      sheets := (s.informTank sh running).hra.sheets, sinks := (s.informTank sh running).hra.sinks } := rfl

theorem informTank_sheets (sh : Fin 2) (running : Bool) (s : State) :
    (s.informTank sh running).hra.sheets = s.hra.sheets.modify sh fun h => { h with tankRunning := running } := rfl

/-- Only TANK sinks follow the tank timers (R90). -/
theorem informTank_otherKind (running : Bool) {i : Fin 12} (h : (s.cfg.sinks.get i).kind ≠ .tank) :
    (s.informTank sh running).hra.sinks.get i = s.hra.sinks.get i := by
  simp [State.informTank, State.recomputeKinds, State.recompute, h]

/-- The tank timer is set in the sheet's record; beyond that only the allocator can change. -/
theorem setTank_eq (sh : Fin 2) (n : Nat) (s : State) :
    s.setTank sh n = { s with
      shm := s.shm.set sh { s.shm.get sh with tank := n }
      hra := (s.setTank sh n).hra } := by
  unfold State.setTank
  dsimp only
  split <;> rfl

/-- The test of `setTank`: the timer stands as it stood, running or not. -/
theorem bothZero_iff (a b : Nat) : ((a == 0) == (b == 0)) = true ↔ (a = 0 ↔ b = 0) := by
  rw [beq_iff_eq, Bool.eq_iff_iff, beq_iff_eq, beq_iff_eq]

/-- A tank timer that neither starts nor stops is not informed (R58). -/
theorem setTank_hra_of_same (h : (s.shm.get sh).tank = 0 ↔ n = 0) : (s.setTank sh n).hra = s.hra := by
  simp only [State.setTank]
  rw [if_pos ((bothZero_iff ..).mpr h)]
  rfl

/-- A tank timer that starts or stops is informed (R58, R90). -/
theorem setTank_hra_of_change (h : ¬ ((s.shm.get sh).tank = 0 ↔ n = 0)) :
    (s.setTank sh n).hra = ((s.setSheet sh { s.shm.get sh with tank := n }).informTank sh (n != 0)).hra := by
  simp only [State.setTank]
  rw [if_neg (mt (bothZero_iff ..).mp h)]

/-- Where the allocator knew whether the tank timer ran, it knows it after (R90). -/
theorem setTank_tankRunning (h : (s.hra.sheets.get sh).tankRunning = ((s.shm.get sh).tank != 0)) :
    ((s.setTank sh n).hra.sheets.get sh).tankRunning = (n != 0) := by
  by_cases hsame : (s.shm.get sh).tank = 0 ↔ n = 0
  · rw [setTank_hra_of_same hsame, h, bne, bne, beq_iff_eq.mp ((bothZero_iff ..).mpr hsame)]
  · simp [setTank_hra_of_change hsame, informTank_sheets]

theorem setTank_quiet (sh : Fin 2) (n : Nat) (s : State) : Announced [] s (s.setTank sh n) := by
  rw [setTank_eq]
  exact .of_lnk rfl rfl rfl

/-! ### The sheet's record -/

/-- A fresh evaluation never gives RESURFACE (R50). -/
theorem freshState_ne_resurface (c : SheetConfig) (t : Option Int) (src : TempSource) : freshState c t src ≠ .resurface := by
  unfold freshState
  split
  · split
    · decide
    · split <;> decide
  · decide

/-- A fresh evaluation leaves no hold and no frozen budget, and keeps the tank timer (R50, R56, R57). -/
theorem freshSheet_fields (sh : Fin 2) (s : State) :
    let c := s.cfg.sheets.get sh
    let m := s.sheetTemp c
    let r := s.freshSheet sh
    r.state = freshState c m.1 m.2 ∧ r.temp = m.1.map shownTemp ∧ r.frozen = none ∧ r.hold = 0 ∧ r.tank = (s.shm.get sh).tank ∧
      r.budget = budgetOf c r.state m.1 m.2 none := by
  simp [State.freshSheet, SheetRun.enter, freshState_ne_resurface]

/-- A fresh evaluation depends on the configuration, the points and the sheet's record alone. -/
theorem freshSheet_congr (hcfg : t.cfg = s.cfg) (hptb : t.ptb = s.ptb) (hshm : t.shm = s.shm) :
    t.freshSheet sh = s.freshSheet sh := by
  have hvalue : t.usableValue = s.usableValue := by
    funext k p
    simp [State.usableValue, State.pointOfKind, hcfg, hptb]
  simp [State.freshSheet, State.sheetTemp, hcfg, hshm, hvalue]

theorem sheetNotice_announced (old : SheetState) (sh : Fin 2) (s : State) :
    Announced (Offer.when (old ≠ (s.shm.get sh).state) .sheet sh (codeOf sheetStates (s.shm.get sh).state)) s
      (s.sheetNotice old sh) := by
  have hnotice : Announced _ s (s.sheetNotice old sh) := noticeIf_ofState (.inl rfl) ..
  simpa using hnotice

theorem sheetNotice_event (old : SheetState) (sh : Fin 2) (s : State) : OutputEvent s (s.sheetNotice old sh) := noticeIf_event ..

theorem handAlarm_event (old : SheetState) (sh : Fin 2) (s : State) : OutputEvent s (s.handAlarm old sh) := by
  unfold State.handAlarm
  split
  · exact (handOn_event ..).1
  · exact .refl s

theorem handAlarm_quiet (old : SheetState) (sh : Fin 2) (s : State) : Announced [] s (s.handAlarm old sh) := by
  unfold State.handAlarm
  split
  · exact handOn_quiet ..
  · exact .refl s

theorem putSheet_shm (always : Bool) (sh : Fin 2) (r : SheetRun) (s : State) :
    (s.putSheet always sh r).state.shm = s.shm.set sh r :=
  (handAlarm_event ..).shm.trans (sheetNotice_event ..).shm

theorem putSheet_cdm (always : Bool) (sh : Fin 2) (r : SheetRun) (s : State) : (s.putSheet always sh r).state.cdm = s.cdm :=
  (handAlarm_event ..).cdm.trans (sheetNotice_event ..).cdm

/-- A record that takes its place is reported if it changed the sheet's state (R63). -/
theorem putSheet_announced (always : Bool) (sh : Fin 2) (r : SheetRun) (s : State) :
    Announced (Offer.when ((s.shm.get sh).state ≠ r.state) .sheet sh (codeOf sheetStates r.state)) s
      (s.putSheet always sh r).state := by
  have hset : Announced [] s (s.setSheet sh r) := .of_lnk rfl rfl rfl
  have hput : Announced _ s (s.putSheet always sh r).state :=
    (hset.trans (sheetNotice_announced (s.shm.get sh).state sh _)).trans (handAlarm_quiet ..)
  simpa using hput

/-! ### An act on one sheet -/

/-- What an act on one sheet leaves that takes the sheet's record to `r` and sets the flood flag of its zones to `on`. -/
structure Resurfaced (sh : Fin 2) (on : Bool) (r : SheetRun) (s t : State) : Prop where
  event : SheetEvent s t
  sheet : t.shm.get sh = { r with atLastPass := (t.shm.get sh).atLastPass }
  others : ∀ j, j ≠ sh → t.shm.get j = { s.shm.get j with atLastPass := (t.shm.get j).atLastPass }
  flood : ∀ z, (s.cfg.zones.get z).LinkedTo sh → (t.cdm.get z).flood = on
  kept : ∀ z, ¬ (s.cfg.zones.get z).LinkedTo sh → t.cdm.get z = s.cdm.get z
  notified : StatesNotified s t

/-- Such an act is one whose zones' changes were reported, and then the sheet's (R63, R81); where a pass has recorded the budgets is
left open. -/
theorem Resurfaced.of_flooded {on : Bool} {r : SheetRun} {a b : State} (event : SheetEvent s t)
    (hflood : Flooded sh on (List.finRange 4) a b) (hcfg : a.cfg = s.cfg) (hbefore : a.cdm = s.cdm) (hafter : t.cdm = b.cdm)
    (hshm : ∀ j, t.shm.get j = { (s.shm.set sh r).get j with atLastPass := (t.shm.get j).atLastPass })
    (hann : Announced (zoneChanges a b ++ sheetChange s t sh) s t) : Resurfaced sh on r s t := by
  have hothers : ∀ j, j ≠ sh → t.shm.get j = { s.shm.get j with atLastPass := (t.shm.get j).atLastPass } := fun j hj => by
    rw [hshm j, Table.get_set_ne _ (Ne.symm hj)]
  refine ⟨event, ?sheet, hothers, ?flood, ?kept, ?notified⟩
  case sheet => simpa using hshm sh
  case flood =>
    intro z hz
    rw [hafter]
    exact hflood.flood z (List.mem_finRange z) (hcfg ▸ hz)
  case kept =>
    intro z hz
    rw [hafter, hflood.kept z (.inr (hcfg ▸ hz)), hbefore]
  case notified =>
    refine Announced.statesNotified ?_
    have hzones : zoneChanges a b = zoneChanges s t := by simp [zoneChanges, hbefore, hafter]
    rwa [sheetChanges_of_others fun j hj => by rw [hothers j hj], ← hzones]

/-! ### The start (R54) -/

/-- The sheet's record after a start from NORMAL or SOFT with the budget `w` (R54). -/
def SheetRun.resurfacing (c : SheetConfig) (w : Nat) (r : SheetRun) : SheetRun :=
  { r with state := .resurface, frozen := some w, hold := c.resurfaceHold }

/-- A start before its zones are informed: record and tank timer (R54, R58). -/
def State.resurfaceSet (sh : Fin 2) (w : Nat) (s : State) : State :=
  (s.setSheet sh ((s.shm.get sh).resurfacing (s.cfg.sheets.get sh) w)).setTank sh (s.cfg.sheets.get sh).tankTime

theorem resurface_start (hst : (s.shm.get sh).state = .normal ∨ (s.shm.get sh).state = .soft)
    (hb : (s.shm.get sh).budget = .watts w) :
    s.resurface sh = some (((s.resurfaceSet sh w).informFlood sh true).finish.sheetNotice (s.shm.get sh).state sh) := by
  rcases hst with hst | hst <;> simp [State.resurface, hst, hb, State.resurfaceSet, SheetRun.resurfacing]

theorem resurfaceSet_shm (sh : Fin 2) (w : Nat) (s : State) :
    (s.resurfaceSet sh w).shm = s.shm.set sh
      { (s.shm.get sh).resurfacing (s.cfg.sheets.get sh) w with tank := (s.cfg.sheets.get sh).tankTime } := by
  unfold State.resurfaceSet
  rw [setTank_eq]
  simp

theorem resurfaceSet_cdm (sh : Fin 2) (w : Nat) (s : State) : (s.resurfaceSet sh w).cdm = s.cdm := by
  unfold State.resurfaceSet
  rw [setTank_eq]
  rfl

theorem resurfaceSet_quiet (sh : Fin 2) (w : Nat) (s : State) : Announced [] s (s.resurfaceSet sh w) :=
  Announced.quiet (t := s.setSheet sh _) (.of_lnk rfl rfl rfl) (setTank_quiet ..)

theorem resurfaceSet_tankRunning (h : (s.hra.sheets.get sh).tankRunning = ((s.shm.get sh).tank != 0)) :
    ((s.resurfaceSet sh w).hra.sheets.get sh).tankRunning = ((s.cfg.sheets.get sh).tankTime != 0) :=
  setTank_tankRunning (by simpa [SheetRun.resurfacing] using h)

/-- The start freezes the budget, starts hold and tank timer, floods the linked zones, and is notified (R54, R58, R63, R74, R81). -/
theorem resurface_starts (hst : (s.shm.get sh).state = .normal ∨ (s.shm.get sh).state = .soft)
    (hb : (s.shm.get sh).budget = .watts w) (ht : s.resurface sh = some t) :
    Resurfaced sh true
      { (s.shm.get sh).resurfacing (s.cfg.sheets.get sh) w with tank := (s.cfg.sheets.get sh).tankTime } s t := by
  have event := resurface_sheet ht
  rw [resurface_start hst hb, Option.some.injEq] at ht
  have hflood := informFlood_flooded sh true (s.resurfaceSet sh w)
  have hquiet := ((s.resurfaceSet sh w).informFlood sh true).finish_quiet
  have hheat := ((s.resurfaceSet sh w).informFlood sh true).finish_heat
  have hset := resurfaceSet_quiet sh w s
  generalize ((s.resurfaceSet sh w).informFlood sh true).finish = v at hquiet hheat ht
  have hnotice := sheetNotice_event (s.shm.get sh).state sh v
  have hann := ((hset.trans hflood.announced).trans hquiet).trans (sheetNotice_announced (s.shm.get sh).state sh v)
  subst ht
  refine .of_flooded event hflood hset.cfg (resurfaceSet_cdm ..) (hnotice.cdm.trans hheat.cdm) (fun j => ?shm) ?reported
  case shm =>
    rw [hnotice.shm, ← resurfaceSet_shm, ← hflood.shm]
    exact hheat.shm j
  case reported => simpa [zoneChanges_eq, sheetChange, hnotice.shm] using hann

/-- After the start the allocator knows whether the tank timer runs (R90). -/
theorem resurface_tankRunning (hst : (s.shm.get sh).state = .normal ∨ (s.shm.get sh).state = .soft)
    (hb : (s.shm.get sh).budget = .watts w) (ht : s.resurface sh = some t)
    (hknown : (s.hra.sheets.get sh).tankRunning = ((s.shm.get sh).tank != 0)) :
    (t.hra.sheets.get sh).tankRunning = ((s.cfg.sheets.get sh).tankTime != 0) := by
  rw [resurface_start hst hb, Option.some.injEq] at ht
  have hflood := informFlood_flooded sh true (s.resurfaceSet sh w)
  have htanks := hflood.tanks.trans ((s.resurfaceSet sh w).informFlood sh true).finish_tanks
  rw [← ht, (sheetNotice_event ..).hra, htanks.running sh, resurfaceSet_tankRunning hknown]

/-! ### The repeat (R55) -/

/-- A repeat before its tank timer: the hold alone. -/
def State.holdAgain (sh : Fin 2) (s : State) : State :=
  s.setSheet sh { s.shm.get sh with hold := (s.cfg.sheets.get sh).resurfaceHold }

theorem resurface_repeat (hst : (s.shm.get sh).state = .resurface) :
    s.resurface sh = some ((s.holdAgain sh).setTank sh (s.cfg.sheets.get sh).tankTime) := by
  simp [State.resurface, hst, State.holdAgain]

theorem resurface_refused (hst : (s.shm.get sh).state = .critical ∨ (s.shm.get sh).state = .blind ∨
    (s.shm.get sh).state = .covered ∨ (s.shm.get sh).state = .off) : s.resurface sh = none := by
  rcases hst with hst | hst | hst | hst <;> simp [State.resurface, hst]

/-- A repeat sets both timers and changes nothing else outside the allocator (R55). -/
theorem repeat_eq (sh : Fin 2) (n : Nat) (s : State) :
    (s.holdAgain sh).setTank sh n = { s with
      shm := s.shm.set sh { s.shm.get sh with hold := (s.cfg.sheets.get sh).resurfaceHold, tank := n }
      hra := ((s.holdAgain sh).setTank sh n).hra } := by
  rw [setTank_eq]
  simp [State.holdAgain, State.setSheet]

theorem holdAgain_tank (sh : Fin 2) (s : State) : ((s.holdAgain sh).shm.get sh).tank = (s.shm.get sh).tank := by
  simp [State.holdAgain]

theorem repeat_hra_of_same (h : (s.shm.get sh).tank = 0 ↔ n = 0) : ((s.holdAgain sh).setTank sh n).hra = s.hra :=
  setTank_hra_of_same (by rwa [holdAgain_tank])

/-- A repeat whose tank timer starts or stops tells the allocator so, and nothing but the TANK sinks follow (R58, R90). -/
theorem repeat_hra_of_change (h : ¬ ((s.shm.get sh).tank = 0 ↔ n = 0)) :
    let h' := ((s.holdAgain sh).setTank sh n).hra
    (h'.sheets.get sh).tankRunning = (n != 0) ∧ h' = { s.hra with sheets := h'.sheets, sinks := h'.sinks } ∧
      (∀ j, j ≠ sh → h'.sheets.get j = s.hra.sheets.get j) ∧
      ∀ i, (s.cfg.sinks.get i).kind ≠ .tank → h'.sinks.get i = s.hra.sinks.get i := by
  intro h'
  have hh : h' = _ := setTank_hra_of_change (by rwa [holdAgain_tank])
  rw [hh]
  refine ⟨?sheet, informTank_hra .., fun j hj => ?other, fun i hi => informTank_otherKind _ hi⟩
  case sheet => simp [informTank_sheets]
  case other => exact Table.get_modify_ne _ (Ne.symm hj) _

/-! ### The end (R57) -/

theorem endResurface_eq (sh : Fin 2) (s : State) :
    s.endResurface sh = ((s.informFlood sh false).and (State.putSheet true sh (s.freshSheet sh))).finish := by
  have hflood := informFlood_flooded sh false s
  have hfresh : (s.informFlood sh false).state.freshSheet sh = s.freshSheet sh :=
    freshSheet_congr hflood.event.inner.setup.cfg hflood.event.ptb hflood.shm
  simp [State.endResurface, Triggered.and, hfresh]

/-- The end gives the sheet a fresh evaluation, dries the linked zones, and is notified (R57, R63, R74, R81). -/
theorem endResurface_ends (sh : Fin 2) (s : State) : Resurfaced sh false (s.freshSheet sh) s (s.endResurface sh) := by
  have event := endResurface_sheet sh s
  have hflood := informFlood_flooded sh false s
  rw [endResurface_eq] at event ⊢
  generalize s.informFlood sh false = x at event hflood ⊢
  have hput := hflood.announced.trans (putSheet_announced true sh (s.freshSheet sh) x.state)
  have hann := hput.trans (x.and (State.putSheet true sh (s.freshSheet sh))).finish_quiet
  have hheat := (x.and (State.putSheet true sh (s.freshSheet sh))).finish_heat
  generalize (x.and (State.putSheet true sh (s.freshSheet sh))).finish = t at event hann hheat ⊢
  rw [Triggered.and_state] at hheat
  have hshm : ∀ j, t.shm.get j = { (s.shm.set sh (s.freshSheet sh)).get j with atLastPass := (t.shm.get j).atLastPass } :=
    fun j => by simpa only [putSheet_shm, hflood.shm] using hheat.shm j
  have hstate : (t.shm.get sh).state = (s.freshSheet sh).state := by rw [hshm sh, Table.get_set_self]
  refine .of_flooded event hflood rfl rfl (hheat.cdm.trans (putSheet_cdm ..)) hshm ?reported
  case reported => simpa [zoneChanges_eq, sheetChange, hflood.shm, hstate] using hann

/-! ### The commands -/

theorem sheetAct_some {f : Fin 2 → Option State} (h : f sh = some t) : sheetAct (u8At (u8 sh) 0) f = done 0 t := by
  rw [sheetAct, u8At_u8 (by omega), index_val]
  simp only [h]

theorem sheetAct_none {f : Fin 2 → Option State} (h : f sh = none) : sheetAct (u8At (u8 sh) 0) f = .error .notNow := by
  rw [sheetAct, u8At_u8 (by omega), index_val]
  simp only [h]

theorem conclude_unclamped (tag : Byte) (s t : State) : s.conclude tag (done 0 t) = t.answered tag .done [0] := rfl

theorem exec_resurfaceStart (h : ActReady tag 7 (u8 sh) s) :
    exec (.resurfaceStart tag (u8 sh)) s = .next (s.conclude tag (sheetAct (u8At (u8 sh) 0) s.resurface)) :=
  congrArg Host.Outcome.next (serveAct_act h rfl _)

theorem exec_resurfaceEnd (h : ActReady tag 8 (u8 sh) s) :
    exec (.resurfaceEnd tag (u8 sh)) s = .next (s.conclude tag (sheetAct (u8At (u8 sh) 0) fun k =>
      if (s.shm.get k).state = .resurface then some (s.endResurface k) else none)) :=
  congrArg Host.Outcome.next (serveAct_act h rfl _)

theorem exec_resurfaceStart_done (h : ActReady tag 7 (u8 sh) s) (ht : s.resurface sh = some t) :
    exec (.resurfaceStart tag (u8 sh)) s = .next (t.answered tag .done [0]) := by
  rw [exec_resurfaceStart h, sheetAct_some ht, conclude_unclamped]

theorem exec_resurfaceStart_refused (h : ActReady tag 7 (u8 sh) s) (ht : s.resurface sh = none) :
    exec (.resurfaceStart tag (u8 sh)) s = .next (s.refusedFor tag .notNow) := by
  rw [exec_resurfaceStart h, sheetAct_none ht, conclude_refused]

theorem exec_resurfaceEnd_done (h : ActReady tag 8 (u8 sh) s) (hst : (s.shm.get sh).state = .resurface) :
    exec (.resurfaceEnd tag (u8 sh)) s = .next ((s.endResurface sh).answered tag .done [0]) := by
  rw [exec_resurfaceEnd h, sheetAct_some (if_pos hst), conclude_unclamped]

theorem exec_resurfaceEnd_refused (h : ActReady tag 8 (u8 sh) s) (hst : (s.shm.get sh).state ≠ .resurface) :
    exec (.resurfaceEnd tag (u8 sh)) s = .next (s.refusedFor tag .notNow) := by
  rw [exec_resurfaceEnd h, sheetAct_none (if_neg hst), conclude_refused]

end Resurfacing

theorem ZoneConfig.not_linkedTo {c : ZoneConfig} {sh : Fin 2} (h : c.enabled = false ∨ c.sheet ≠ some sh) : ¬ c.LinkedTo sh := by
  rintro ⟨hen, hsh⟩
  rcases h with h | h
  · simp [hen] at h
  · exact h hsh

/-- Settles O27, clause by clause: the start, its repeat and their refusal, then the end and its refusal. -/
theorem resurfaceActs : Obligations.ResurfaceActs := by
  intro tag sh s c r others
  refine ⟨fun h => ⟨fun w hst hb => ?start, fun hst => ?again, fun hst => ?startRefused⟩,
    fun h => ⟨fun hst => ?finish, fun hst => ?finishRefused⟩⟩
  case start =>
    have ht := resurface_start hst hb
    have hdone := resurface_starts hst hb ht
    exact ⟨_, exec_resurfaceStart_done h ht, hdone.event, hdone.others, hdone.notified, hdone.sheet,
      fun z hen hsh => hdone.flood z ⟨hen, hsh⟩, fun z hz => hdone.kept z (ZoneConfig.not_linkedTo hz),
      resurface_tankRunning hst hb ht⟩
  case again =>
    exact ⟨_, exec_resurfaceStart_done h (resurface_repeat hst), repeat_eq .., repeat_hra_of_same, repeat_hra_of_change⟩
  case startRefused => exact exec_resurfaceStart_refused h (resurface_refused hst)
  case finish =>
    have hdone := endResurface_ends sh s
    obtain ⟨hstate, htemp, hfrozen, hhold, htank, hbudget⟩ := freshSheet_fields sh s
    have hfresh := congrArg SheetRun.state hdone.sheet
    exact ⟨_, exec_resurfaceEnd_done h hst, hdone.event, hdone.others, hdone.notified, hfresh.trans hstate,
      (congrArg SheetRun.temp hdone.sheet).trans htemp, (congrArg SheetRun.frozen hdone.sheet).trans hfrozen,
      (congrArg SheetRun.hold hdone.sheet).trans hhold, (congrArg SheetRun.tank hdone.sheet).trans htank,
      by rw [hfresh]; exact (congrArg SheetRun.budget hdone.sheet).trans hbudget,
      fun z hen hsh => hdone.flood z ⟨hen, hsh⟩, fun z hz => hdone.kept z (ZoneConfig.not_linkedTo hz)⟩
  case finishRefused => exact exec_resurfaceEnd_refused h hst

end Sys2Proof.Machine
end

section
/-! PROOF. The lighting of a sheet against its allowance while ARMED (R126), along the two reasons R126 gives: a target is at most the
egress floor plus base × D / 1000, and D × L_up is at most the allowance, L_up rounding every demand load up. -/

namespace Sys2Proof.Machine
open Sys2Proof

section Allowance

variable {s : State} {sh : Fin 2} {w : Nat}

/-! ### Sums -/

theorem sumOver_add {n : Nat} (f g : Fin n → Nat) : sumOver n (fun i => f i + g i) = sumOver n f + sumOver n g :=
  List.sum_map_add

theorem sumOver_mul_left {n : Nat} (k : Nat) (f : Fin n → Nat) : sumOver n (fun i => k * f i) = k * sumOver n f :=
  List.sum_map_mul_left ..

/-! ### One channel -/

/-- Without the rounding of the division, derating costs at most the floor on top (R125, R126). -/
theorem derated_mul_le (floor d level : Nat) : derated floor d level * 1000 ≤ floor * 1000 + level * d := by
  unfold derated
  omega

/-- The demand load is rounded up (R123). -/
theorem demand_le_demandLoad (c : ChannelConfig) (r : ChannelRun) : c.coefficient * r.demandLevel ≤ 4095 * demandLoad c r :=
  le_smul_ceilDiv (show 0 < 4095 by decide)

/-- What a channel draws at its derated demand level, against its floor and its demand load. -/
theorem coefficient_derated_le (c : ChannelConfig) (r : ChannelRun) (d : Nat) :
    1000 * (c.coefficient * derated c.floor d r.demandLevel) ≤
      1000 * (c.coefficient * c.floor) + 4095 * d * demandLoad c r := by
  calc 1000 * (c.coefficient * derated c.floor d r.demandLevel)
      = c.coefficient * (derated c.floor d r.demandLevel * 1000) := by ring
    _ ≤ c.coefficient * (c.floor * 1000 + r.demandLevel * d) := Nat.mul_le_mul_left _ (derated_mul_le ..)
    _ = 1000 * (c.coefficient * c.floor) + d * (c.coefficient * r.demandLevel) := by ring
    _ ≤ 1000 * (c.coefficient * c.floor) + d * (4095 * demandLoad c r) :=
        Nat.add_le_add_left (Nat.mul_le_mul_left _ (demand_le_demandLoad c r)) _
    _ = 1000 * (c.coefficient * c.floor) + 4095 * d * demandLoad c r := by ring

/-- On its way down a level stops at its target (R112, R126). -/
theorem stepFade_level_ge {r : ChannelRun} (h : r.target < r.level) : r.target ≤ r.stepFade.level := by
  simp [ChannelRun.stepFade, stepToward, Nat.not_lt_of_lt h]

/-! ### One sheet -/

/-- What channel `i` draws at level `v`, times 4095, as far as it is attributed to the sheet. -/
def State.onSheet (s : State) (sh : Fin 2) (i : Fin 32) (v : Nat) : Nat :=
  if (s.cfg.channels.get i).sheet = some sh then (s.cfg.channels.get i).coefficient * v else 0

/-- The channels at their derated demand levels, against their floors and the sheet's L_up. -/
theorem sumOver_onSheet_le (d : Nat) {v : Fin 32 → Nat} (hv : ∀ i, (s.cfg.channels.get i).sheet = some sh →
      v i = derated (s.cfg.channels.get i).floor d (s.lsq.channels.get i).demandLevel) :
    1000 * sumOver 32 (fun i => s.onSheet sh i (v i)) ≤
      1000 * sumOver 32 (fun i => s.onSheet sh i (s.cfg.channels.get i).floor) + 4095 * d * s.lUp sh := by
  simp only [State.lUp, ← sumOver_mul_left, ← sumOver_add]
  refine sumOver_mono fun i => ?_
  by_cases hi : (s.cfg.channels.get i).sheet = some sh
  · simpa [State.onSheet, hi, hv i hi] using coefficient_derated_le ..
  · simp [State.onSheet, hi]

theorem derateOf_mul_le (w up : Nat) : derateOf (.watts w) up * up ≤ 1000 * w := by
  by_cases h : up ≤ w
  · simp [derateOf, h]
  · calc derateOf (.watts w) up * up = w * 1000 / up * up := by simp [derateOf, h]
      _ ≤ w * 1000 := Nat.div_mul_le_self ..
      _ = 1000 * w := Nat.mul_comm ..

/-- D × L_up never exceeds a finite allowance (R126). -/
theorem LightingCurrent.derate_mul_lUp_le (hc : LightingCurrent s) (hw : (s.lsq.sheets.get sh).allowance = .watts w) :
    (s.lsq.sheets.get sh).derate * (s.lsq.sheets.get sh).lUp ≤ 1000 * w := by
  rw [hc.derate, hw]
  exact derateOf_mul_le ..

/-- While ARMED the target of a sheet's channel is its base derated by the sheet's D (R125). -/
theorem LightingCurrent.target_eq (hc : LightingCurrent s) (harmed : s.pru.state = .armed) {i : Fin 32}
    (hi : (s.cfg.channels.get i).sheet = some sh) : (s.lsq.channels.get i).target =
      derated (s.cfg.channels.get i).floor (s.lsq.sheets.get sh).derate (s.lsq.channels.get i).base := by
  simp [hc.targets harmed i, State.effectiveTarget, State.channelDerate, hi]

/-- Channels at their derated demand levels exceed the allowance by no more than their floors (R126). -/
theorem LightingCurrent.sheet_within_allowance (hc : LightingCurrent s) (hw : (s.lsq.sheets.get sh).allowance = .watts w)
    {v : Fin 32 → Nat} (hv : ∀ i, (s.cfg.channels.get i).sheet = some sh →
      v i = derated (s.cfg.channels.get i).floor (s.lsq.sheets.get sh).derate (s.lsq.channels.get i).demandLevel) :
    sumOver 32 (fun i => s.onSheet sh i (v i)) ≤
      4095 * w + sumOver 32 (fun i => s.onSheet sh i (s.cfg.channels.get i).floor) := by
  have hsum := sumOver_onSheet_le _ hv
  have hload := hc.derate_mul_lUp_le hw
  rw [← hc.lUp, Nat.mul_assoc] at hsum
  omega

end Allowance

/-- Settles O58: what each channel aims at is its demand level derated, by which the sum is bounded; R126's two reasons and the falling
level are lemmas of their own. -/
theorem lightingWithinAllowance : Obligations.LightingWithinAllowance := by
  intro s sh w hc harmed hw onSheet
  refine ⟨hc.sheet_within_allowance hw fun i hi => ?aims, fun i hi => ?target, hc.derate_mul_lUp_le hw, fun r => stepFade_level_ge⟩
  case aims =>
    cases he : (s.lsq.channels.get i).effect with
    | some e => simp [ChannelRun.demandLevel, he, derated]
    | none => simp [ChannelRun.demandLevel, he, hc.target_eq harmed hi]
  case target =>
    rw [hc.target_eq harmed hi]
    exact derated_mul_le ..

end Sys2Proof.Machine
end

section
/-! PROOF. PROGRAM_DELETE (R159): the id travels as two bytes, and whether an entry holds it decides between removal and refusal. -/

namespace Sys2Proof.Machine
open Sys2Proof

section ProgramDelete

variable {s : State} {tag : Byte} {id : Nat}

/-! ### The id on the wire and in the program -/

/-- A 16-bit field reads back what was sent (R193). -/
theorem u16At_u16 {n : Nat} (h : n < 65536) : u16At (u16 n) 0 = n := by
  simp only [u16At, u8At, u16, List.getD_cons_zero, List.getD_cons_succ, BitVec.toNat_ofNat]
  omega

/-- Some entry of the program has the id. -/
def State.HoldsEntry (id : Nat) (s : State) : Prop := ∃ e ∈ s.scu.program, e.id = id

theorem any_id_iff_holdsEntry : s.scu.program.any (·.id == id) = true ↔ s.HoldsEntry id := by
  simp [State.HoldsEntry]

theorem not_holdsEntry_iff : ¬ s.HoldsEntry id ↔ ∀ e ∈ s.scu.program, e.id ≠ id := by
  simp [State.HoldsEntry]

/-- No id the part hands out reaches 65535 (R157). -/
theorem not_holdsEntry_of_range (hrange : ∀ e ∈ s.scu.program, e.id ≤ 65534) (hid : 65534 < id) : ¬ s.HoldsEntry id := by
  rintro ⟨e, he, rfl⟩
  exact absurd (hrange e he) (Nat.not_le.mpr hid)

/-! ### The command -/

/-- While a LOAD runs every act is refused before its own rule (R186). -/
theorem act_loading (h : s.stc.op = .load) (n : Nat) (fields : List Byte) (f : State → Decision) :
    s.act n fields f = .error .storeBusy := if_pos h

/-- Without a LOAD the program alone decides (R159). -/
theorem actProgramDelete_idle (h : s.stc.op ≠ .load) (hid : id < 65536) : actProgramDelete (u16 id) s =
    if s.scu.program.any (·.id == id) then done 0 (s.removeEntry id) else .error .badIndex := by
  have hlen : (u16 id).length = 2 := rfl
  simp only [actProgramDelete, State.act, if_neg h, hlen, ne_eq, not_true_eq_false, if_false, u16At_u16 hid]

theorem exec_programDelete {fields : List Byte} (h : Ready ⟨tag, kindAct, 22 :: fields⟩ s) :
    exec (.programDelete tag fields) s = .next (s.conclude tag (actProgramDelete fields s)) :=
  congrArg Host.Outcome.next (serveAct_ready h _)

theorem exec_programDelete_loading {fields : List Byte} (h : Ready ⟨tag, kindAct, 22 :: fields⟩ s)
    (hload : s.stc.op = .load) : exec (.programDelete tag fields) s = .next (s.refusedFor tag .storeBusy) := by
  rw [exec_programDelete h, actProgramDelete, act_loading hload, conclude_refused]

theorem exec_programDelete_held (h : ActReady tag 22 (u16 id) s) (hid : id < 65536) (hheld : s.HoldsEntry id) :
    exec (.programDelete tag (u16 id)) s = .next ((s.removeEntry id).answered tag .done [0]) := by
  rw [exec_programDelete h.ready, actProgramDelete_idle h.load hid, if_pos (any_id_iff_holdsEntry.mpr hheld),
    conclude_unclamped]

theorem exec_programDelete_notHeld (h : ActReady tag 22 (u16 id) s) (hid : id < 65536) (hfree : ¬ s.HoldsEntry id) :
    exec (.programDelete tag (u16 id)) s = .next (s.refusedFor tag .badIndex) := by
  rw [exec_programDelete h.ready, actProgramDelete_idle h.load hid, if_neg (mt any_id_iff_holdsEntry.mp hfree),
    conclude_refused]

end ProgramDelete

/-- Settles O35: the LOAD is asked first, then whether an entry has the id; 65535 is an id no entry has. -/
theorem programDelete : Obligations.ProgramDelete := by
  intro tag id s h
  refine ⟨exec_programDelete_loading h, fun hload hfree => ?free, fun hload hheld => ?held, fun hrange hload hid => ?beyond⟩
  case free => exact exec_programDelete_notHeld ⟨h, hload⟩ id.isLt (not_holdsEntry_iff.mpr hfree)
  case held => exact exec_programDelete_held ⟨h, hload⟩ id.isLt hheld
  case beyond => exact exec_programDelete_notHeld ⟨h, hload⟩ id.isLt (not_holdsEntry_of_range hrange (by omega))

end Sys2Proof.Machine
end

namespace Sys2Proof.Machine

/-! PROOF. A step runs the front command. -/

/-- Settles O1: by the definition of a step. -/
theorem stepRunsFrontCommand : Obligations.StepRunsFrontCommand := fun _ _ _ => rfl

/-! PROOF. The records that WRITEs carry: a parsed record lies in its ranges (R184, R193). -/

section Parsed

variable {b : List Byte} {n : Nat}

/-! ### Clamped fields -/

theorem within_iff {lo hi v : Nat} : within lo hi v = true ↔ lo ≤ v ∧ v ≤ hi := by simp [within]

theorem withinInt_iff {lo hi v : Int} : withinInt lo hi v = true ↔ lo ≤ v ∧ v ≤ hi := by simp [withinInt]

theorem limited_within {lo hi : Nat} (h : lo ≤ hi) (v : Nat) : within lo hi (limited lo hi v).1 = true :=
  within_iff.mpr (clampNat_mem h v)

theorem limitedOption_within (hi : Nat) (v : Option Nat) : withinOption hi (limitedOption 0 hi v).1 = true := by
  cases v with
  | none => rfl
  | some x => simpa [limitedOption, withinOption, limited] using (clampNat_mem (Nat.zero_le hi) x).2

theorem temperature_isTemperature (v : Int) : isTemperature (temperature v).1 = true :=
  withinInt_iff.mpr (clampInt_mem (by omega) v)

/-- The largest of a list and a number is that number, or in the list. -/
theorem foldl_max_mem (l : List Nat) (a : Nat) : l.foldl max a = a ∨ l.foldl max a ∈ l := by
  induction l generalizing a with
  | nil => exact .inl rfl
  | cons x l ih =>
    rcases ih (max a x) with h | h
    · rcases max_choice a x with hx | hx
      · exact .inl (h.trans hx)
      · exact .inr (List.mem_cons.mpr (.inl (h.trans hx)))
    · exact .inr (List.mem_cons_of_mem _ h)

theorem limitedPeriod_isPeriod (v : Nat) : isPeriod (limitedPeriod v).1 = true := by
  refine List.contains_iff_mem.mpr ?_
  rcases foldl_max_mem (Config.periods.filter (· ≤ v)) 0 with h | h
  · exact (show (limitedPeriod v).1 = 0 from h) ▸ List.mem_cons_self
  · exact List.mem_of_mem_filter h

theorem u8At_lt (b : List Byte) (i : Nat) : u8At b i < 256 := (b.getD i 0).isLt

theorem u16At_lt (b : List Byte) (i : Nat) : u16At b i < 65536 := by
  have h := u8At_lt b i
  have k := u8At_lt b (i + 1)
  unfold u16At
  omega

theorem s16At_isInt16 (b : List Byte) (i : Nat) : isInt16 (s16At b i) = true := by
  have h := u16At_lt b i
  rewrite [isInt16, withinInt_iff, s16At, signed16]
  split <;> omega

theorem limitedIndex_valid (x : OutputBinding) {v : Nat} (h : v < 256) : indexValid x (limitedIndex x v).1 = true := by
  have clamped (hi : Nat) : clampNat 0 hi v ≤ hi := (clampNat_mem (Nat.zero_le hi) v).2
  cases x <;> simp [indexValid, limitedIndex, limited, clamped, Nat.le_of_lt_succ h]

/-! ### Records -/

theorem parsePoint_valid {c : PointConfig} (h : parsePoint b = some (c, n)) (ht : c.thresholdsBad = false) : c.valid = true := by
  simp only [parsePoint, Option.bind_eq_bind, Option.bind_eq_some_iff, Option.pure_def, Option.some.injEq, Prod.mk.injEq] at h
  obtain ⟨x, -, k, -, m, -, rfl, -⟩ := h
  simp only [PointConfig.thresholdsBad] at ht
  simp only [PointConfig.valid, ht, s16At_isInt16, Bool.not_false, Bool.and_true]
  by_cases hx : x = .bus <;> simp [hx, limited_within]

theorem parseWindow_valid {c : WindowConfig} (h : parseWindow b = some (c, n)) : c.valid = true := by
  simp only [parseWindow, Option.bind_eq_bind, Option.bind_eq_some_iff, Option.pure_def, Option.some.injEq, Prod.mk.injEq] at h
  obtain ⟨_, -, _, -, rfl, -⟩ := h
  simp [WindowConfig.valid, limited_within]

theorem parseBus_valid {c : BusSettings} (h : parseBus b = some (c, n)) : c.valid = true := by
  simp only [parseBus, Option.bind_eq_bind, Option.bind_eq_some_iff, Option.pure_def, Option.some.injEq, Prod.mk.injEq] at h
  obtain ⟨_, -, _, -, rfl, -⟩ := h
  simp only [BusSettings.valid, limited_within (show 0 ≤ 62 by omega), limited_within (show 1 ≤ 255 by omega), limitedRate]
  split <;> rfl

theorem limitedList_within (xs : List Nat) : (limitedList xs).1.all (within 0 63) = true := by
  simp [limitedList, within]

theorem limitedList_length (xs : List Nat) : (limitedList xs).1.length = xs.length := by simp [limitedList]

theorem limitedHold_valid (v : Nat) : ((limitedHold v).1 == 0 || within 10 3600 (limitedHold v).1) = true := by
  unfold limitedHold
  split
  · rfl
  · simp [limited_within]

theorem parseSheet_valid {c : SheetConfig} (h : parseSheet b = some (c, n)) (hl : sheetLengthOk b = true)
    (ht : c.temperaturesBad = false) : c.valid = true := by
  simp only [parseSheet, Option.bind_eq_bind, Option.bind_eq_some_iff, Option.pure_def, Option.some.injEq, Prod.mk.injEq] at h
  obtain ⟨e, -, x, -, y, -, rfl, -⟩ := h
  simp only [SheetConfig.temperaturesBad, Bool.or_eq_false_iff, decide_eq_false_iff_not, Int.not_le] at ht
  have hn : u8At b 1 ≤ 4 := by
    simp only [sheetLengthOk, Bool.and_eq_true, decide_eq_true_eq] at hl
    exact hl.1
  simp [SheetConfig.valid, limitedList_within, limitedList_length, limitedOption_within, temperature_isTemperature, limited_within,
    ht, hn, limitedHold_valid]

theorem parseZone_valid {c : ZoneConfig} (h : parseZone b = some (c, n)) (hr : c.risk < c.watch) : c.valid = true := by
  simp only [parseZone, Option.bind_eq_bind, Option.bind_eq_some_iff, Option.pure_def, Option.some.injEq, Prod.mk.injEq] at h
  obtain ⟨_, -, _, -, _, -, _, -, _, -, _, -, rfl, -⟩ := h
  simpa [ZoneConfig.valid, limitedOption_within, limited_within] using hr

theorem parseSink_valid {c : SinkConfig} (h : parseSink b = some (c, n)) (hm : c.min ≤ c.max) : c.valid = true := by
  simp only [parseSink, Option.bind_eq_bind, Option.bind_eq_some_iff, Option.pure_def, Option.some.injEq, Prod.mk.injEq] at h
  obtain ⟨_, -, _, -, _, -, _, -, _, -, rfl, -⟩ := h
  simpa [SinkConfig.valid, limitedOption_within, limited_within] using hm

theorem parseAllocator_valid {c : AllocatorSettings} (h : parseAllocator b = some (c, n)) : c.valid = true := by
  simp only [parseAllocator, Option.bind_eq_bind, Option.bind_eq_some_iff, Option.pure_def, Option.some.injEq, Prod.mk.injEq] at h
  obtain ⟨_, -, _, -, rfl, -⟩ := h
  simp [AllocatorSettings.valid, limitedOption_within, limited_within]

theorem parseChannel_valid {c : ChannelConfig} (h : parseChannel b = some (c, n)) : c.valid = true := by
  simp only [parseChannel, Option.bind_eq_bind, Option.bind_eq_some_iff, Option.pure_def, Option.some.injEq, Prod.mk.injEq] at h
  obtain ⟨_, -, _, -, rfl, -⟩ := h
  simp [ChannelConfig.valid, limited_within, limitedPeriod_isPeriod]

theorem parseScene_valid {c : Scene} (h : parseScene b = some (c, n)) : c.valid = true := by
  simp only [parseScene, Option.bind_eq_bind, Option.bind_eq_some_iff, Option.pure_def, Option.some.injEq, Prod.mk.injEq] at h
  obtain ⟨_, -, rfl, -⟩ := h
  simp [Scene.valid, Table.all_iff, limitedOption_within]

theorem parseOutput_valid {c : OutputConfig} (h : parseOutput b = some (c, n)) : c.valid = true := by
  simp only [parseOutput, Option.bind_eq_bind, Option.bind_eq_some_iff, Option.pure_def, Option.some.injEq, Prod.mk.injEq] at h
  obtain ⟨_, -, x, -, _, -, rfl, -⟩ := h
  simp [OutputConfig.valid, limited_within, limitedPeriod_isPeriod, limitedIndex_valid x (u8At_lt b 2)]

theorem parseRemote_valid {c : RemoteConfig} (h : parseRemote b = some (c, n)) : c.valid = true := by
  simp only [parseRemote, Option.bind_eq_bind, Option.bind_eq_some_iff, Option.pure_def, Option.some.injEq, Prod.mk.injEq] at h
  obtain ⟨x, -, _, -, rfl, -⟩ := h
  simp [RemoteConfig.valid, limited_within, limitedIndex_valid x (u8At_lt b 1), s16At_isInt16]

theorem parseProfile_valid {c : Profile} (h : parseProfile b = some (c, n)) : c.valid = true := by
  simp only [parseProfile, Option.bind_eq_bind, Option.bind_eq_some_iff, Option.pure_def, Option.some.injEq, Prod.mk.injEq] at h
  obtain ⟨_, -, _, -, _, -, rfl, -⟩ := h
  simp [Profile.valid, limitedOption_within, limited_within]

theorem parseProtect_valid (b : List Byte) : (parseProtect b).1.valid = true := by
  simp [parseProtect, ProtectSettings.valid, limited_within, limitedPeriod_isPeriod]

theorem parseNotice_valid {c : NoticeSettings} (h : parseNotice b = some (c, n)) : c.valid = true := by
  simp only [parseNotice, Option.bind_eq_bind, Option.bind_eq_some_iff, Option.pure_def, Option.some.injEq, Prod.mk.injEq] at h
  obtain ⟨_, -, rfl, -⟩ := h
  simp [NoticeSettings.valid, limited_within]

end Parsed

/-! PROOF. What a step is made of: every command and every turn is a chain of moves, each one operation of a block under its guard. An
invariant of the steps is an invariant of the moves. -/

/-! ### The moves -/

/-- Moves of the link, the queue of commands and the pins. -/
inductive LinkMove : State → State → Prop
  | choices (s : State) (n : Nat) : LinkMove s { s with choices := n }
  | pins (s : State) (p : Pins) : LinkMove s { s with pins := p }
  | intake (s : State) (p : Port) (b : List Byte) : LinkMove s (s.setIntake p b)
  | offer (s : State) (p : Port) (r : Request) : LinkMove s (s.offerRequest p r)
  | count (s : State) (c : Counter) : LinkMove s (s.count c)
  | clockOut (s : State) (n : Nat) : LinkMove s { s with lnk := s.lnk.clockOut n }
  | deliver (s : State) : LinkMove s s.deliver
  | reply (s : State) (r : Reply) : LinkMove s (s.reply r)
  | assembly (s : State) (a : Option Assembly) : LinkMove s { s with lnk := { s.lnk with assembly := a } }
  | mergeTallies (s : State) : LinkMove s { s with fbc := s.fbc.mergeTallies }
  | clearCounters (s : State) : LinkMove s s.clearCounters
  | waitOver (s : State) : LinkMove s { s with lnk := s.lnk.waitOver s.cfg.notice.coalescing }
  | fetch (s : State) (n : Nat) : LinkMove s { s with lnk := { s.lnk with notices := s.lnk.notices.drop n, lost := 0 } }
  | awaitReset (s : State) : LinkMove s s.awaitReset
  | notice (s : State) (k : NoticeKind) (subject : Nat) (value : Int) : LinkMove s (s.notice k subject value)

/-- Moves of the Field Bus Controller. -/
inductive BusMove : State → State → Prop
  | endFrame (s : State) (bits : List Bool) : BusMove s (s.endFrame bits)
  | startFrame (s : State) : BusMove s s.startFrame
  | ownDone (s : State) : BusMove s s.ownDone
  | ownLost (s : State) : BusMove s s.ownLost
  | ownError (s : State) : BusMove s s.ownError
  | leaveIsolated (s : State) : BusMove s s.leaveIsolated
  | idlePeriod (s : State) : BusMove s s.idlePeriod
  | expirePause (s : State) (n : Fin 64) : BusMove s (s.expirePause n)
  | sampleHand (s : State) (held : Bool) : BusMove s (s.sampleHand held)
  | linkHold (s : State) : BusMove s s.linkHold
  | linkLetGo (s : State) : BusMove s s.linkLetGo
  | testMode (s : State) (m : TestMode) : BusMove s { s with fbc := { s.fbc with testMode := m } }

/-- Moves of the Lighting Sequencer. -/
inductive LightMove : State → State → Prop
  | scene (s : State) (k : Fin 24) (fade : Option Nat) (armed : s.armed = true) : LightMove s (s.recall k fade)
  | setBase (s : State) (i : Fin 32) (level : Nat) : LightMove s (s.setBase i level)
  | startEffect (s : State) (i : Fin 32) (e : Effect) (armed : s.armed = true) : LightMove s (s.startEffect i e)
  | nextSample (s : State) (i : Fin 32) : LightMove s (s.nextSample i)
  | stepFade (s : State) (i : Fin 32) :
      LightMove s (((s.setChannel i (s.lsq.channels.get i).stepFade).handLevels).handRemotes)
  | startChannels (s : State) : LightMove s s.startChannels

/-- Moves of the Output Stage. -/
inductive OutputMove : State → State → Prop
  | setFixed (s : State) (i : Fin 16) (code : Nat) : OutputMove s (s.setFixed i code)
  | setRemoteFixed (s : State) (i : Fin 32) (code : Nat) : OutputMove s (s.setRemoteFixed i code)
  | expireSlew (s : State) (i : Fin 16) : OutputMove s (s.expireSlew i)
  | refreshRemote (s : State) (i : Fin 32) : OutputMove s (s.refreshRemote i)
  | startOutputs (s : State) : OutputMove s s.startOutputs
  | handRemotes (s : State) : OutputMove s s.handRemotes

/-- Moves of the Heat Allocator. -/
inductive HeatMove : State → State → Prop
  | passWith (s : State) : HeatMove s (s.passWith true)
  | clearEnergy (s : State) : HeatMove s s.clearEnergy

/-- Moves of the Sheet Monitor. -/
inductive SheetMove : State → State → Prop
  | resurface (s t : State) (sh : Fin 2) (h : s.resurface sh = some t) : SheetMove s t
  | endResurface (s : State) (sh : Fin 2) : SheetMove s (s.endResurface sh)
  | coverOn (s t : State) (sh : Fin 2) (h : s.coverOn sh = some t) : SheetMove s t
  | coverOff (s t : State) (sh : Fin 2) (h : s.coverOff sh = some t) : SheetMove s t
  | expireTank (s : State) (sh : Fin 2) : SheetMove s (s.expireTank sh)

/-- Moves of the Protect Unit, and of the blocks that raise its triggers. -/
inductive ProtectMove : State → State → Prop
  | raise (s : State) (x : Trigger) : ProtectMove s (s.raise x)
  | pin (s : State) (active : Bool) : ProtectMove s (s.setPru { s.pru with pin := active })
  | pressKey (s : State) : ProtectMove s s.pressKey
  | releaseKey (s : State) : ProtectMove s s.releaseKey
  | expireKey (s : State) : ProtectMove s s.expireKey
  | clear (s : State) (tripped : s.armed = false) : ProtectMove s s.clearProtect
  | reportArrival (s : State) : ProtectMove s s.reportArrival
  | evaluate (s : State) (running : s.phase = .run) (op : s.stc.op ≠ .load) : ProtectMove s s.evaluateProtect

/-- Moves of the Point Table, and the expiry of a sheet's critical trip hold. -/
inductive PointMove : State → State → Prop
  | update (s : State) (i : Fin 64) (v : Int) : PointMove s (s.updatePoint i v)
  | clearLatch (s : State) (i : Fin 64) :
      PointMove s (s.completePoint s.pointTriggers false i { s.ptb.points.get i with output := false })
  | age (s : State) : PointMove s s.ageAll
  | heldAging (s : State) (n : Nat) : PointMove s { s with ptb := { s.ptb with heldAging := n } }
  | popEntry (s : State) : PointMove s { s with fbc := { s.fbc with rxQueue := s.fbc.rxQueue.tail } }
  | unbound (s : State) (x : Nat × Nat) : PointMove s { s with fbc := { s.fbc with unbound := some x } }
  | expireCritical (s : State) (sh : Fin 2) : PointMove s (s.expireCritical sh)

/-- Moves of the Schedule Unit. -/
inductive ScheduleMove : State → State → Prop
  | changeMode (s : State) (m : ArenaMode) : ScheduleMove s (s.changeMode m)
  | clock (s : State) (c e : Nat) : ScheduleMove s (s.setScu { s.scu with clock := c, elapsed := e })
  | remove (s : State) (id : Nat) : ScheduleMove s (s.removeEntry id)
  | insert (s : State) (start : Nat) (a : ProgramAction) (room : s.scu.program.length < 48) :
      ScheduleMove s (s.setScu { s.scu with
        program := insertEntry ⟨freeId s.scu.program 49 s.scu.nextId, start, a⟩ s.scu.program
        nextId := nextIdAfter (freeId s.scu.program 49 s.scu.nextId) })

/-- Moves of the Store Controller that bring no configuration. -/
inductive StoreMove : State → State → Prop
  | capture (s : State) (live : s.phase ≠ .settle) : StoreMove s (s.capture [])
  | beginSave (s : State) (live : s.phase ≠ .settle) (free : s.stc.op = .none) : StoreMove s s.beginSave
  | beginLoad (s : State) (live : s.phase ≠ .settle) (free : s.stc.op = .none) (armed : s.armed = true) :
      StoreMove s (s.setStc { s.stc with op := .load })
  | endSave (s : State) (check : BitVec 16) : StoreMove s (s.endSave check)
  | endSnapshot (s : State) (good : Bool) : StoreMove s (s.endSnapshot good)

/-- The accepted WRITEs, each with a record in its ranges. -/
inductive WriteMove : State → State → Prop
  | point (s : State) (i : Fin 64) (c : PointConfig) (h : c.valid = true) (free : s.identityTaken i c = false) :
      WriteMove s (s.writePoint i c)
  | bus (s : State) (receiving : Bool) (c : BusSettings) (h : c.valid = true) :
      WriteMove s ((s.setCfg { s.cfg with bus := c }).applyLineWhenIdle receiving)
  | window (s : State) (i : Fin 4) (c : WindowConfig) (h : c.valid = true) :
      WriteMove s (s.setCfg { s.cfg with windows := s.cfg.windows.set i c })
  | sheet (s : State) (sh : Fin 2) (c : SheetConfig) (h : c.valid = true) :
      WriteMove s ((s.setCfg { s.cfg with sheets := s.cfg.sheets.set sh c }).sheetWritten sh)
  | zone (s : State) (z : Fin 4) (c : ZoneConfig) (h : c.valid = true) :
      WriteMove s ((s.setCfg { s.cfg with zones := s.cfg.zones.set z c }).zoneWritten (s.cfg.zones.get z) z)
  | sink (s : State) (i : Fin 12) (c : SinkConfig) (h : c.valid = true) : WriteMove s (s.sinkWritten i c)
  | allocator (s : State) (c : AllocatorSettings) (h : c.valid = true) :
      WriteMove s (s.setCfg { s.cfg with allocator := c })
  | channel (s : State) (i : Fin 32) (c : ChannelConfig) (h : c.valid = true) :
      WriteMove s ((s.setCfg { s.cfg with channels := s.cfg.channels.set i c }).channelWritten (s.cfg.channels.get i).sheet i)
  | scene (s : State) (i : Fin 24) (c : Scene) (h : c.valid = true) :
      WriteMove s (s.setCfg { s.cfg with scenes := s.cfg.scenes.set i c })
  | output (s : State) (i : Fin 16) (c : OutputConfig) (wasNone : Bool) (h : c.valid = true) :
      WriteMove s ((s.setCfg { s.cfg with outputs := s.cfg.outputs.set i c }).outputWritten wasNone i)
  | stage (s : State) (full : Nat) (h : within 1 30000 full = true) :
      WriteMove s (((s.setCfg { s.cfg with backupFull := full }).handOn [.backup]).handRemotes)
  | remote (s : State) (i : Fin 32) (c : RemoteConfig) (wasNone : Bool) (h : c.valid = true) :
      WriteMove s ((s.setCfg { s.cfg with remotes := s.cfg.remotes.set i c }).remoteWritten wasNone i)
  | profile (s : State) (i : Fin 5) (p : Profile) (h : p.valid = true) : WriteMove s (s.profileWritten i p)
  | protect (s : State) (p : ProtectSettings) (h : p.valid = true) : WriteMove s (s.setCfg { s.cfg with protect := p })
  | notice (s : State) (c : NoticeSettings) (h : c.valid = true) : WriteMove s (s.setCfg { s.cfg with notice := c })

/-- The configuration of a part that takes no image (R198). -/
def defaultConfiguration : Configuration := {}

/-- Resets, the end of SETTLE, START, and time. -/
inductive PhaseMove : State → State → Prop
  | beginSettle (s : State) (strap : Strap) (soft : Bool) : PhaseMove s (s.beginSettle strap soft)
  | resetBlocks (s : State) (c : Configuration) (settle : s.phase = .settle) (h : c = defaultConfiguration ∨ s.stc.goodImage = some c) :
      PhaseMove s (s.resetBlocks c).samplePins
  | run (s : State) (waiting : s.phase = .waiting) : PhaseMove s { s with phase := .run }
  | passMs (s : State) : PhaseMove s s.passMs
  | passSecond (s : State) : PhaseMove s s.passSecond

/-- One move. -/
inductive Move (s t : State) : Prop
  | link (h : LinkMove s t)
  | bus (h : BusMove s t)
  | light (h : LightMove s t)
  | output (h : OutputMove s t)
  | heat (h : HeatMove s t)
  | sheet (h : SheetMove s t)
  | protect (h : ProtectMove s t)
  | point (h : PointMove s t)
  | schedule (h : ScheduleMove s t)
  | store (h : StoreMove s t)
  | write (h : WriteMove s t)
  | phase (h : PhaseMove s t)

/-- The pieces of the end of a LOAD, where a trigger may stand deferred with no LOAD running, and of the end of SETTLE. -/
inductive LoadMove : State → State → Prop
  | takeImage (s : State) (receiving : Bool) (c : Configuration) (loading : s.stc.op = .load) (h : s.stc.goodImage = some c) :
      LoadMove s (s.takeImage receiving c)
  | ends (s : State) : LoadMove s (s.setStc { s.stc with op := .none })
  | deferredTrip (s : State) : LoadMove s s.deferredTrip
  | evaluate (s : State) (running : s.phase = .run) : LoadMove s s.evaluateProtect

/-- One turn: a move, or the whole end of a LOAD or of SETTLE. -/
inductive Turn (s t : State) : Prop
  | move (h : Move s t)
  | load (receiving : Bool) (h : t = s.endLoad receiving)
  | settle (settling : s.phase = .settle) (h : t = s.endSettle)

/-- One piece: a move, or a part of the end of a LOAD or of SETTLE. -/
inductive Piece (s t : State) : Prop
  | move (h : Move s t)
  | load (h : LoadMove s t)

/-- Chains of moves, of turns and of pieces. -/
abbrev Moves : State → State → Prop := Relation.ReflTransGen Move
abbrev Turns : State → State → Prop := Relation.ReflTransGen Turn
abbrev Pieces : State → State → Prop := Relation.ReflTransGen Piece

/-- What each turn keeps, a chain keeps. -/
theorem Turns.keep {P : State → Prop} (h : ∀ s t, P s → Turn s t → P t) {s t : State} (c : Turns s t) (hs : P s) : P t := by
  induction c with
  | refl => exact hs
  | tail _ k ih => exact h _ _ ih k

/-- What each piece keeps, a chain keeps. -/
theorem Pieces.keep {P : State → Prop} (h : ∀ s t, P s → Piece s t → P t) {s t : State} (c : Pieces s t) (hs : P s) : P t := by
  induction c with
  | refl => exact hs
  | tail _ k ih => exact h _ _ ih k

theorem Moves.turns {s t : State} (c : Moves s t) : Turns s t := c.lift id fun _ _ => Turn.move

theorem Moves.pieces {s t : State} (c : Moves s t) : Pieces s t := c.lift id fun _ _ => Piece.move

/-! PROOF. Every command of the table and every turn on an empty queue is a chain of turns. -/

section Chains

variable {s t u : State}

/-! ### One move as a chain -/

theorem LinkMove.moves (h : LinkMove s t) : Moves s t := .single (.link h)
theorem BusMove.moves (h : BusMove s t) : Moves s t := .single (.bus h)
theorem LightMove.moves (h : LightMove s t) : Moves s t := .single (.light h)
theorem OutputMove.moves (h : OutputMove s t) : Moves s t := .single (.output h)
theorem HeatMove.moves (h : HeatMove s t) : Moves s t := .single (.heat h)
theorem SheetMove.moves (h : SheetMove s t) : Moves s t := .single (.sheet h)
theorem ProtectMove.moves (h : ProtectMove s t) : Moves s t := .single (.protect h)
theorem PointMove.moves (h : PointMove s t) : Moves s t := .single (.point h)
theorem ScheduleMove.moves (h : ScheduleMove s t) : Moves s t := .single (.schedule h)
theorem StoreMove.moves (h : StoreMove s t) : Moves s t := .single (.store h)
theorem WriteMove.moves (h : WriteMove s t) : Moves s t := .single (.write h)
theorem PhaseMove.moves (h : PhaseMove s t) : Moves s t := .single (.phase h)

/-! ### Points, passes, the program -/

theorem pass_moves (s : State) : Moves s s.pass := (HeatMove.passWith s).moves.trans (OutputMove.handRemotes _).moves

theorem applyHeldAging_moves (s : State) : Moves s s.applyHeldAging :=
  foldl_induct (P := Moves s) _ _ _ (PointMove.heldAging s 0).moves fun _ _ h => h.trans (PointMove.age _).moves

theorem expireAging_moves (s : State) : Moves s s.expireAging := by
  unfold State.expireAging
  split
  · exact (PointMove.heldAging s _).moves
  · exact (PointMove.age s).moves

theorem handleEntry_moves (e : RxEntry) (s : State) : Moves s (s.handleEntry e) := by
  unfold State.handleEntry
  split
  · exact .refl
  · split
    · exact (PointMove.update s _ _).moves
    · exact (LinkMove.count s .rxUnbound).moves.trans (PointMove.unbound _ _).moves

theorem takeEntry_moves (s : State) : Moves s s.takeEntry := by
  unfold State.takeEntry
  split
  · exact .refl
  · next e rest h =>
    split
    · exact .refl
    · have hp := (PointMove.popEntry s).moves
      rewrite [h] at hp
      exact hp.trans (handleEntry_moves _ _)

theorem outcomeOf_moves {x : Option State} (h : ∀ t, x = some t → Moves s t) : Moves s (outcomeOf s x).2 :=
  match x with
  | .none => .refl
  | .some t => h t rfl

theorem perform_moves (a : ProgramAction) (s : State) : Moves s (s.perform a).2 := by
  cases a with
  | mode m => exact (ScheduleMove.changeMode s m).moves
  | scene k fade =>
    simp only [State.perform, apply_ite Prod.snd]
    split
    · next h => exact (LightMove.scene s k fade h).moves
    · exact .refl
  | resurface sh => exact outcomeOf_moves fun t h => (SheetMove.resurface s t sh h).moves
  | cover sh on =>
    cases on with
    | true => exact outcomeOf_moves fun t h => (SheetMove.coverOn s t sh h).moves
    | false => exact outcomeOf_moves fun t h => (SheetMove.coverOff s t sh h).moves
  | allocate =>
    simp only [State.perform]
    split
    · exact pass_moves s
    · exact .refl

theorem takeProgramEntry_moves (b : Bool) (e : ProgramEntry) (s : State) : Moves s (s.takeProgramEntry b e) := by
  have hr := (ScheduleMove.remove s e.id).moves
  cases b with
  | true => exact (hr.trans (perform_moves e.action _)).trans (LinkMove.notice _ .program e.id _).moves
  | false => exact hr.trans (LinkMove.notice _ .program e.id outcomeSkipped).moves

theorem takeDue_moves (s : State) : Moves s s.takeDue :=
  foldl_induct (P := Moves s) _ _ _ .refl fun _ _ h => h.trans (takeProgramEntry_moves _ _ _)

theorem catchUp_moves (s : State) : Moves s s.catchUp :=
  foldl_induct (P := Moves s) _ _ _ .refl fun _ _ h => h.trans (takeProgramEntry_moves _ _ _)

theorem tickClock_moves (s : State) : Moves s s.tickClock := by
  have h := fun c => (ScheduleMove.clock s c 0).moves
  unfold State.tickClock
  simp only
  split
  · exact (h _).trans (takeDue_moves _)
  · exact h _

theorem setClock_moves (c : Nat) (s : State) : Moves s (s.setClock c) := by
  have h := (ScheduleMove.clock s c 0).moves
  unfold State.setClock
  simp only
  split
  · exact h.trans (catchUp_moves _)
  · exact h

theorem addEntry_moves (start : Nat) (a : ProgramAction) (s : State) (room : s.scu.program.length < 48) :
    Moves s (s.addEntry start a).2 := by
  have h := (ScheduleMove.insert s start a room).moves
  unfold State.addEntry
  simp only
  split
  · exact h.trans (takeProgramEntry_moves ..)
  · exact h

/-! ### START and SETTLE -/

/-- The work of START up to its test of protect: a chain of moves that leaves the store alone. -/
def State.startOutput (s : State) : State := (((({ s with phase := .run } : State).startOutputs).passWith true).startChannels).handRemotes

theorem startWork_eq (s : State) : s.startWork = s.startOutput.evaluateProtect.catchUp := rfl

theorem startOutput_moves (s : State) (waiting : s.phase = .waiting) : Moves s s.startOutput :=
  ((((PhaseMove.run s waiting).moves.trans (OutputMove.startOutputs _).moves).trans (HeatMove.passWith _).moves).trans
    (LightMove.startChannels _).moves).trans (OutputMove.handRemotes _).moves

theorem startOutput_phase (s : State) : s.startOutput.phase = .run ∧ s.startOutput.stc = s.stc := by
  have h1 := startOutputs_event { s with phase := .run }
  have h2 := passWith_heat true (State.startOutputs { s with phase := .run })
  have h3 := startChannels_light ((State.startOutputs { s with phase := .run }).passWith true)
  have h4 := handRemotes_heat ((State.startOutputs { s with phase := .run }).passWith true).startChannels
  constructor
  · exact h4.inner.setup.phase.trans (h3.inner.setup.phase.trans (h2.inner.setup.phase.trans h1.inner.setup.phase))
  · exact h4.stc.trans (h3.stc.trans (h2.stc.trans h1.stc))

theorem startWork_moves (s : State) (waiting : s.phase = .waiting) (op : s.stc.op ≠ .load) : Moves s s.startWork := by
  obtain ⟨hp, hs⟩ := startOutput_phase s
  have ho : s.startOutput.stc.op ≠ .load := by rw [hs]; exact op
  exact ((startOutput_moves s waiting).trans (ProtectMove.evaluate _ hp ho).moves).trans (catchUp_moves _)

theorem startWork_pieces (s : State) (waiting : s.phase = .waiting) : Pieces s s.startWork :=
  ((startOutput_moves s waiting).pieces.trans (.single (.load (.evaluate _ (startOutput_phase s).1)))).trans (catchUp_moves _).pieces

theorem heldTest_phase (s : State) : s.heldTest.phase = s.phase := (heldTest_protect s).inner.setup.phase

theorem heldTest_stc (s : State) : s.heldTest.stc = s.stc := by
  unfold State.heldTest
  split <;> rfl

theorem setFbc_rest (f : Fbc) (s : State) : (s.setFbc f).phase = s.phase ∧ (s.setFbc f).stc = s.stc := by
  simp only [State.setFbc]
  split
  · exact ⟨heldTest_phase _, heldTest_stc _⟩
  · exact ⟨rfl, rfl⟩

theorem sampleHand_rest (b : Bool) (s : State) : (s.sampleHand b).phase = s.phase ∧ (s.sampleHand b).stc = s.stc := by
  have stay : s.phase = s.phase ∧ s.stc = s.stc := ⟨rfl, rfl⟩
  unfold State.sampleHand
  cases b with
  | true =>
    rewrite [if_pos rfl]
    split
    · exact stay
    · exact setFbc_rest _ s
  | false =>
    rewrite [if_neg Bool.false_ne_true]
    split
    · exact setFbc_rest _ s
    · exact stay

theorem samplePins_phase (s : State) : s.samplePins.phase = s.phase := (sampleHand_rest _ s).1

theorem samplePins_stc (s : State) : s.samplePins.stc = s.stc := (sampleHand_rest _ s).2

/-- The end of SETTLE is a chain of moves, but for the test of protect when a LOAD runs. -/
theorem endSettle_cases (s : State) (settle : s.phase = .settle) :
    Moves s s.endSettle ∨
      ∃ image, s.stc.goodImage = some image ∧ s.endSettle = ((s.resetBlocks image).samplePins).startWork := by
  unfold State.endSettle
  split
  · next image _ hi => exact .inr ⟨image, hi, rfl⟩
  · exact .inl (((PhaseMove.resetBlocks s _ settle (.inl rfl)).moves).trans (LinkMove.notice ..).moves)
  · exact .inl ((PhaseMove.resetBlocks s _ settle (.inl rfl)).moves)

theorem endSettle_moves (s : State) (settle : s.phase = .settle) (op : s.stc.op ≠ .load) : Moves s s.endSettle := by
  rcases endSettle_cases s settle with h | ⟨image, hi, he⟩
  · exact h
  · rewrite [he]
    refine ((PhaseMove.resetBlocks s image settle (.inr hi)).moves).trans (startWork_moves _ ?_ ?_)
    · exact samplePins_phase (s.resetBlocks image)
    · rewrite [samplePins_stc]
      exact op

theorem endSettle_pieces (s : State) (settle : s.phase = .settle) : Pieces s s.endSettle := by
  rcases endSettle_cases s settle with h | ⟨image, hi, he⟩
  · exact h.pieces
  · rewrite [he]
    exact ((PhaseMove.resetBlocks s image settle (.inr hi)).moves).pieces.trans (startWork_pieces _ (samplePins_phase (s.resetBlocks image)))

/-! ### The end of a LOAD -/

theorem takeHeld_moves (s : State) : Moves s s.takeHeld := by
  unfold State.takeHeld
  split
  · exact takeDue_moves s
  · exact .refl

theorem afterLoad_pieces (s : State) : Pieces s s.afterLoad := by
  have trip (x : State) : Pieces x x.deferredTrip := .single (.load (.deferredTrip x))
  have choice := (LinkMove.choices s (s.choices + 1)).moves.pieces
  unfold State.afterLoad
  split
  · simp only
    split
    · exact (choice.trans (trip _)).trans (takeHeld_moves _).pieces
    · exact (choice.trans (takeHeld_moves _).pieces).trans (trip _)
  · exact (trip s).trans (takeHeld_moves _).pieces

end Chains

/-! PROOF. Every step is a chain of turns. -/

section Steps

variable {s t u : State}

theorem LinkMove.turns (h : LinkMove s t) : Turns s t := h.moves.turns
theorem BusMove.turns (h : BusMove s t) : Turns s t := h.moves.turns
theorem LightMove.turns (h : LightMove s t) : Turns s t := h.moves.turns
theorem OutputMove.turns (h : OutputMove s t) : Turns s t := h.moves.turns
theorem HeatMove.turns (h : HeatMove s t) : Turns s t := h.moves.turns
theorem SheetMove.turns (h : SheetMove s t) : Turns s t := h.moves.turns
theorem ProtectMove.turns (h : ProtectMove s t) : Turns s t := h.moves.turns
theorem PointMove.turns (h : PointMove s t) : Turns s t := h.moves.turns
theorem StoreMove.turns (h : StoreMove s t) : Turns s t := h.moves.turns
theorem WriteMove.turns (h : WriteMove s t) : Turns s t := h.moves.turns
theorem PhaseMove.turns (h : PhaseMove s t) : Turns s t := h.moves.turns

/-! ### Aging keeps what every inner event keeps -/

theorem requestPoll_output (c : PointConfig) (s : State) : OutputEvent s (s.requestPoll c) := (enqueue_event _ _ s).1

theorem agePoint_inner (i : Fin 64) (s : State) : Inner s (s.agePoint i) := by
  have h := (setPtb_inner s { s.ptb with points := s.ptb.points.set i ((s.ptb.points.get i).aged (s.cfg.points.get i)) }).trans
    (pointNotices_output (s.ptb.points.get i) i (s.setPoint i ((s.ptb.points.get i).aged (s.cfg.points.get i)))).inner
  simp only [State.agePoint]
  split
  · exact h.trans (requestPoll_output _ _).inner
  · exact h

theorem ageAll_inner (s : State) : Inner s s.ageAll := by
  have h1 : Inner s (forEach 64 State.agePoint s) :=
    forEach_induct (P := Inner s) _ _ (Inner.refl s) fun i x h => h.trans (agePoint_inner i x)
  refine h1.trans (SheetEvent.finish (forEachTriggered_sheet _ (fun i x => ?_) _)).inner
  simp only
  split
  · exact informPoint_sheet i x
  · exact SheetEvent.refl x

theorem applyHeldAging_inner (s : State) : Inner s s.applyHeldAging :=
  foldl_induct (P := Inner s) _ _ _ (setPtb_inner s _) fun _ _ h => h.trans (ageAll_inner _)

/-! ### Requests -/

theorem endAssembly_moves (s : State) : Moves s s.endAssembly := by
  unfold State.endAssembly
  split
  · exact .refl
  · next a h =>
    have hr := (LinkMove.assembly s none).moves.trans (LinkMove.reply _ a.reply).moves
    simp only
    split
    · exact hr.trans (LinkMove.mergeTallies _).moves
    · exact hr.trans (applyHeldAging_moves _)
    · exact hr

theorem endAssembly_phase (s : State) : s.endAssembly.phase = s.phase := by
  unfold State.endAssembly
  split
  · rfl
  · simp only
    split
    · rfl
    · exact (applyHeldAging_inner _).setup.phase
    · rfl

theorem arrive_moves (r : Request) (s : State) : Moves s (s.arrive r) := by
  have choice := (LinkMove.choices s (s.choices + 1)).moves
  unfold State.arrive
  split
  · exact (LinkMove.offer s .uart r).moves
  · exact (LinkMove.offer s .spi r).moves
  · simp only
    split
    · exact choice.trans (LinkMove.offer _ .spi r).moves
    · exact choice.trans (LinkMove.offer _ .uart r).moves

theorem offerRequest_phase (p : Port) (r : Request) (s : State) : (s.offerRequest p r).phase = s.phase := by
  unfold State.offerRequest
  exact (apply_ite State.phase _ _ _).trans (ite_self _)

theorem arrive_phase (r : Request) (s : State) : (s.arrive r).phase = s.phase := by
  unfold State.arrive
  split
  · exact offerRequest_phase ..
  · exact offerRequest_phase ..
  · simp only
    split <;> exact offerRequest_phase ..

theorem takeRequest_turns {r : Request} {f : State → State} (h : ∀ x, x.phase ≠ .settle → Turns x (f x)) (s : State) :
    Turns s (s.takeRequest r f) := by
  unfold State.takeRequest
  split
  · exact .refl
  · next hl =>
    have hp : s.endAssembly.phase ≠ .settle := by
      rewrite [endAssembly_phase]
      simp only [State.live, Bool.and_eq_true, bne_iff_ne, Bool.not_eq_true', Bool.not_eq_false] at hl
      exact hl.1
    have he := (endAssembly_moves s).turns
    simp only
    split
    · exact (he.trans (arrive_moves r _).turns).trans (h _ (by rw [arrive_phase]; exact hp))
    · split
      · exact he.trans (h _ hp)
      · exact .refl

/-- A decision that changes the part does so by a chain of turns. -/
def Decides (s : State) (d : Decision) : Prop := ∀ body t, d = .ok (body, t) → Turns s t

theorem Decides.error (e : Reason) : Decides s (.error e) := fun _ _ h => nomatch h

theorem Decides.ok {body : List Byte} (h : Turns s t) : Decides s (.ok (body, t)) := by
  intro b x hx
  cases hx
  exact h

theorem Decides.done {n : Nat} (h : Turns s t) : Decides s (done n t) := .ok h

theorem Decides.iteError {c : Prop} [Decidable c] {e : Reason} {d : Decision} (h : ¬ c → Decides s d) :
    Decides s (if c then .error e else d) := by
  split
  · exact .error e
  · next hc => exact h hc

theorem Decides.act {n : Nat} {fields : List Byte} {f : State → Decision} (h : s.stc.op ≠ .load → Decides s (f s)) :
    Decides s (s.act n fields f) :=
  .iteError fun hop => .iteError fun _ => h hop

theorem Decides.withRecord {α : Type} {p : Option (α × Nat)} {f : α → Nat → Decision}
    (h : ∀ c n, p = some (c, n) → Decides s (f c n)) : Decides s (withRecord p f) :=
  match p with
  | .none => .error _
  | .some x => h x.1 x.2 rfl

theorem Decides.write {n : Nat} {rest : List Byte} {ok : List Byte → Bool} {f : Fin n → List Byte → State → Decision}
    (h : ∀ k record, ok record = true → Decides s (f k record s)) : Decides s (s.write n rest ok f) := by
  unfold State.write
  split
  · exact .error _
  · next i record =>
    split
    · exact .error _
    · next k _ =>
      refine .iteError fun hl => .iteError fun _ => h k record ?_
      simpa using hl

theorem Decides.sheet {k : Nat} {f : Fin 2 → Option State} (h : ∀ sh t, f sh = some t → Turns s t) : Decides s (sheetAct k f) := by
  unfold sheetAct
  split
  · exact .error _
  · next sh _ =>
    split
    · exact .error _
    · next t ht => exact .done (h sh t ht)

theorem conclude_turns {tag : Byte} {d : Decision} (h : Decides s d) : Turns s (s.conclude tag d) := by
  match d, h with
  | .ok (body, t), h => exact (h body t rfl).trans (LinkMove.reply _ _).turns
  | .error e, _ => exact (LinkMove.reply _ _).turns

theorem serve_turns {tag kind : Byte} {body : List Byte} {d : State → Decision}
    (h : ∀ x, x.phase ≠ .settle → Decides x (d x)) (s : State) : Turns s (s.serve tag kind body d) :=
  takeRequest_turns (fun x hx => conclude_turns (h x hx)) s

theorem serveAct_turns {tag : Byte} {code : Nat} {fields : List Byte} {d : State → Decision}
    (h : ∀ x, x.phase ≠ .settle → Decides x (d x)) (s : State) : Turns s (s.serveAct tag code fields d) := serve_turns h s

theorem serveWrite_turns {tag : Byte} {table : Nat} {rest : List Byte} {d : State → Decision} (h : ∀ x, Decides x (d x)) (s : State) :
    Turns s (s.serveWrite tag table rest d) := serve_turns (fun x _ => h x) s

theorem event_turns {f : State → State} (h : s.phase ≠ .settle → Turns s (f s)) : Turns s (s.event f) := by
  unfold State.event
  split
  · next hl =>
    refine h ?_
    simp only [State.live, Bool.and_eq_true, bne_iff_ne] at hl
    exact hl.1
  · exact .refl

/-! ### WRITEs -/

theorem writePointConfig_decides (rest : List Byte) (s : State) : Decides s (writePointConfig rest s) :=
  .write fun k record _ => .withRecord fun c n hc => .iteError fun hb => by
    simp only [Bool.or_eq_true, not_or, Bool.not_eq_true] at hb
    exact .done (WriteMove.point s k c (parsePoint_valid hc hb.1) hb.2).turns

theorem writeValue_decides (rest : List Byte) (s : State) : Decides s (writeValue rest s) :=
  .write fun k record _ => by
    split
    · exact .done (PointMove.update s k _).turns
    · exact .error _

theorem writeBus_decides (receiving : Bool) (rest : List Byte) (s : State) : Decides s (writeBus receiving rest s) :=
  .write fun _ _ _ => .withRecord fun c _ hc => .done (WriteMove.bus s receiving c (parseBus_valid hc)).turns

theorem writeWindow_decides (rest : List Byte) (s : State) : Decides s (writeWindow rest s) :=
  .write fun k _ _ => .withRecord fun c _ hc => .done (WriteMove.window s k c (parseWindow_valid hc)).turns

theorem writeSheet_decides (rest : List Byte) (s : State) : Decides s (writeSheet rest s) :=
  .write fun k _ hl => .withRecord fun c _ hc => .iteError fun ht =>
    .done (WriteMove.sheet s k c (parseSheet_valid hc hl (Bool.not_eq_true _ ▸ ht))).turns

theorem writeZone_decides (rest : List Byte) (s : State) : Decides s (writeZone rest s) :=
  .write fun k _ _ => .withRecord fun c _ hc => .iteError fun hr =>
    .done (WriteMove.zone s k c (parseZone_valid hc (Nat.not_le.mp hr))).turns

theorem writeSink_decides (rest : List Byte) (s : State) : Decides s (writeSink rest s) :=
  .write fun k _ _ => .withRecord fun c _ hc => .iteError fun hm =>
    .done (WriteMove.sink s k c (parseSink_valid hc (Nat.not_lt.mp hm))).turns

theorem writeAllocator_decides (record : List Byte) (s : State) : Decides s (writeAllocator record s) :=
  .write fun _ _ _ => .withRecord fun c _ hc => .done (WriteMove.allocator s c (parseAllocator_valid hc)).turns

theorem writeChannel_decides (rest : List Byte) (s : State) : Decides s (writeChannel rest s) :=
  .write fun k _ _ => .withRecord fun c _ hc => .done (WriteMove.channel s k c (parseChannel_valid hc)).turns

theorem writeScene_decides (rest : List Byte) (s : State) : Decides s (writeScene rest s) :=
  .write fun k _ _ => .withRecord fun c _ hc => .done (WriteMove.scene s k c (parseScene_valid hc)).turns

theorem writeOutput_decides (rest : List Byte) (s : State) : Decides s (writeOutput rest s) :=
  .write fun k _ _ => .withRecord fun c _ hc => .done (WriteMove.output s k c _ (parseOutput_valid hc)).turns

theorem writeStage_decides (record : List Byte) (s : State) : Decides s (writeStage record s) :=
  .write fun _ _ _ => .done (WriteMove.stage s _ (limited_within (by omega) _)).turns

theorem writeRemote_decides (rest : List Byte) (s : State) : Decides s (writeRemote rest s) :=
  .write fun k _ _ => .withRecord fun c _ hc => .done (WriteMove.remote s k c _ (parseRemote_valid hc)).turns

theorem writeProfile_decides (rest : List Byte) (s : State) : Decides s (writeProfile rest s) :=
  .write fun k _ _ => .withRecord fun p _ hp => .done (WriteMove.profile s k p (parseProfile_valid hp)).turns

theorem writeProtect_decides (rest : List Byte) (s : State) : Decides s (writeProtect rest s) :=
  .write fun _ record _ => .done (WriteMove.protect s _ (parseProtect_valid record)).turns

theorem writeNoticeSettings_decides (rest : List Byte) (s : State) : Decides s (writeNoticeSettings rest s) :=
  .write fun _ _ _ => .withRecord fun c _ hc => .done (WriteMove.notice s c (parseNotice_valid hc)).turns

/-! ### ACTs -/

theorem armed_of_not {s : State} (h : ¬ (!s.armed) = true) : s.armed = true := by simpa using h

theorem actSceneRecall_decides (fields : List Byte) (s : State) : Decides s (actSceneRecall fields s) :=
  .act fun _ => by
    split
    · exact .error _
    · split
      · exact .error _
      · next k _ => exact .iteError fun ha => .done (LightMove.scene s k _ (armed_of_not ha)).turns

theorem actChannelSet_decides (fields : List Byte) (s : State) : Decides s (actChannelSet fields s) :=
  .act fun _ => by
    split
    · exact .error _
    · next i _ => exact .iteError fun _ => .done (LightMove.setBase s i _).turns

theorem actEffectStart_decides (fields : List Byte) (s : State) : Decides s (actEffectStart fields s) :=
  .act fun _ => by
    simp only
    split
    · exact .error _
    · refine .iteError fun _ => ?_
      split
      · exact .error _
      · next i _ => exact .iteError fun ha => .done (LightMove.startEffect s i _ (armed_of_not ha)).turns

theorem actEffectStop_decides (fields : List Byte) (s : State) : Decides s (actEffectStop fields s) :=
  .act fun _ => by
    split
    · exact .error _
    · next i _ => exact .iteError fun _ => .done (LightMove.setBase s i _).turns

theorem actOutputSet_decides (fields : List Byte) (s : State) : Decides s (actOutputSet fields s) :=
  .act fun _ => by
    simp only
    split
    · exact .error _
    · split
      · exact .error _
      · next i _ => exact .iteError fun _ => .iteError fun _ => .done (OutputMove.setFixed s i _).turns
    · split
      · exact .error _
      · next i _ => exact .iteError fun _ => .iteError fun _ => .done (OutputMove.setRemoteFixed s i _).turns

theorem actModeSet_decides (fields : List Byte) (s : State) : Decides s (actModeSet fields s) :=
  .act fun _ => by
    split
    · exact .error _
    · next m _ => exact .done (ScheduleMove.changeMode s m).moves.turns

theorem actResurfaceStart_decides (fields : List Byte) (s : State) : Decides s (actResurfaceStart fields s) :=
  .act fun _ => .sheet fun sh t h => (SheetMove.resurface s t sh h).turns

theorem actResurfaceEnd_decides (fields : List Byte) (s : State) : Decides s (actResurfaceEnd fields s) :=
  .act fun _ => .sheet fun sh t h => by
    split at h
    · exact Option.some.inj h ▸ (SheetMove.endResurface s sh).turns
    · cases h

theorem actCover_decides (fields : List Byte) (s : State) : Decides s (actCover fields s) :=
  .act fun _ => by
    split
    · exact .error _
    · next b _ =>
      refine .sheet fun sh t h => ?_
      cases b with
      | true => exact (SheetMove.coverOn s t sh h).turns
      | false => exact (SheetMove.coverOff s t sh h).turns

theorem actProtectTrip_decides (fields : List Byte) (s : State) : Decides s (actProtectTrip fields s) :=
  .act fun _ => .iteError fun _ => .done (ProtectMove.raise s .host).turns

theorem actProtectClear_decides (fields : List Byte) (s : State) : Decides s (actProtectClear fields s) :=
  .act fun _ => .iteError fun h => by
    simp only [Bool.or_eq_true, not_or, Bool.not_eq_true] at h
    exact .done (ProtectMove.clear s h.1.1).turns

theorem actLatchClear_decides (fields : List Byte) (s : State) : Decides s (actLatchClear fields s) :=
  .act fun _ => by
    split
    · exact .error _
    · next i _ =>
      simp only
      split
      · exact .error _
      · split
        · exact .done (PointMove.clearLatch s i).turns
        · exact .error _

theorem actBusRelease_decides (fields : List Byte) (s : State) : Decides s (actBusRelease fields s) :=
  .act fun _ => .done (BusMove.linkHold s).turns

theorem actBusReclaim_decides (fields : List Byte) (s : State) : Decides s (actBusReclaim fields s) :=
  .act fun _ => by
    split
    · exact .done (BusMove.linkLetGo s).turns
    · exact .error _

theorem actBusTest_decides (fields : List Byte) (s : State) : Decides s (actBusTest fields s) :=
  .act fun _ => by
    split
    · exact .error _
    · next m _ => exact .done (BusMove.testMode s m).turns

theorem actAllocateNow_decides (fields : List Byte) (s : State) : Decides s (actAllocateNow fields s) :=
  .act fun _ => .iteError fun _ => .done (pass_moves s).turns

theorem actSnapshotTake_decides (fields : List Byte) {s : State} (live : s.phase ≠ .settle) : Decides s (actSnapshotTake fields s) :=
  .act fun _ => .iteError fun _ => .done (StoreMove.capture s live).turns

theorem actStoreSave_decides (fields : List Byte) {s : State} (live : s.phase ≠ .settle) : Decides s (actStoreSave fields s) :=
  .act fun _ => .iteError fun h => .done (StoreMove.beginSave s live (not_not.mp h)).turns

theorem actStoreLoad_decides (fields : List Byte) {s : State} (live : s.phase ≠ .settle) : Decides s (actStoreLoad fields s) :=
  .act fun _ => .iteError fun h => .iteError fun ha => .done (StoreMove.beginLoad s live (not_not.mp h) (armed_of_not ha)).turns

theorem actClockSet_decides (fields : List Byte) (s : State) : Decides s (actClockSet fields s) :=
  .act fun _ => .done (setClock_moves _ s).turns

theorem actProgramAdd_decides (fields : List Byte) (s : State) : Decides s (actProgramAdd fields s) :=
  .iteError fun _ => by
    split
    · exact .error _
    · refine .iteError fun _ => .iteError fun _ => ?_
      split
      · exact .error _
      · exact .iteError fun room => .iteError fun _ => .ok (addEntry_moves _ _ s (Nat.not_le.mp room)).turns

theorem actProgramDelete_decides (fields : List Byte) (s : State) : Decides s (actProgramDelete fields s) :=
  .act fun _ => by
    split
    · exact .done (Moves.turns (ScheduleMove.remove s _).moves)
    · exact .error _

theorem actStart_decides (fields : List Byte) (s : State) : Decides s (actStart fields s) :=
  .act fun op => by
    split
    · next h => exact .done (startWork_moves s h op).turns
    · exact .error _

/-! ### Link events and READs -/

theorem clockOut_moves (p : Port) (n : Nat) (s : State) : Moves s (s.clockOut p n) := by
  unfold State.clockOut
  split
  · exact (LinkMove.clockOut s n).moves
  · exact .refl

theorem receiveBytes_moves (p : Port) (bytes : List Byte) (s : State) : Moves s (s.receiveBytes p bytes) := by
  refine foldl_induct (P := Moves s) _ _ _ (LinkMove.intake s p _).moves fun x e h => h.trans ?_
  cases e with
  | good r => exact (LinkMove.offer x p r).moves
  | bad => exact (LinkMove.count x .linkCheck).moves

theorem endAttempt_moves (s : State) : Moves s s.endAttempt := by
  unfold State.endAttempt
  split
  · exact .refl
  · exact (LinkMove.intake s .uart []).moves.trans (LinkMove.count _ .linkTimeout).moves

theorem assemble_moves {tag : Byte} {kind : AssemblyKind} {lasts : Bool} {body : List Byte} {f : State → State}
    (h : ∀ x, Moves x (f x)) (s : State) : Moves s (s.assemble tag kind lasts body f) := by
  unfold State.assemble
  split
  · exact (LinkMove.reply s _).moves
  · next bytes _ =>
    have ht := (LinkMove.assembly s (some ⟨kind, ⟨tag, .done, segments bytes⟩⟩)).moves.trans (h _)
    cases lasts with
    | true => exact ht
    | false => exact ht.trans (endAssembly_moves _)

theorem serveRead_turns {tag : Byte} {table : Nat} {rest : List Byte} {kind : AssemblyKind} {lasts : Bool} {f : State → State}
    (h : ∀ x, Moves x (f x)) (s : State) : Turns s (s.serveRead tag table rest kind lasts f) :=
  takeRequest_turns (fun x _ => (assemble_moves h x).turns) s

theorem fetch_decides (body : List Byte) (s : State) : Decides s (s.fetch body) := by
  unfold State.fetch
  split
  · exact .ok (LinkMove.fetch s _).turns
  · exact .error _

theorem status_decides (body : List Byte) (s : State) :
    Decides s (if body.isEmpty then .ok (s.statusBody, s) else .error .badLength) := by
  split
  · exact .ok .refl
  · exact .error _

theorem answerReset_turns (tag : Byte) (fields : List Byte) (s : State) : Turns s (s.answerReset tag fields) := by
  have hd : Decides s (s.act 0 fields (done 0)) := .act fun _ => .done .refl
  unfold State.answerReset
  split
  · next d h => exact (h ▸ conclude_turns hd : Turns s (s.conclude tag (.ok d))).trans (LinkMove.awaitReset _).turns
  · next e h => exact conclude_turns (.error e)

/-! ### Commands -/

theorem reset_turns (strap : Strap) (soft : Bool) (s : State) : Turns s (s.beginSettle strap soft) :=
  (PhaseMove.beginSettle s strap soft).turns

theorem ite_turns {c : Prop} [Decidable c] (h : c → Turns s t) : Turns s (if c then t else s) := by
  split
  · next hc => exact h hc
  · exact .refl

theorem raise_moves (b : Bool) (x : Trigger) (s : State) : Moves s (if b then s.raise x else s) := by
  split
  · exact (ProtectMove.raise s x).moves
  · exact .refl

theorem samplePin_turns (active : Bool) (s : State) : Turns s (s.samplePin active) :=
  Moves.turns ((ProtectMove.pin s active).moves.trans (raise_moves _ .pin _))

theorem pins_event_turns {p : Pins} {f : State → State} (h : ∀ x, Turns x (f x)) (s : State) :
    Turns s (({ s with pins := p } : State).event f) :=
  (LinkMove.pins s p).turns.trans (event_turns fun _ => h _)

theorem expireHold_moves (sh : Fin 2) (s : State) : Moves s (s.expireHold sh) := by
  simp only [State.expireHold]
  split
  · exact (SheetMove.endResurface s sh).moves
  · exact .refl

theorem expirePeriod_moves (s : State) : Moves s s.expirePeriod := by
  unfold State.expirePeriod
  split
  · exact pass_moves s
  · exact .refl

theorem expireStep_moves (i : Fin 32) (s : State) : Moves s (s.expireStep i) := by
  simp only [State.expireStep]
  split
  · exact (LightMove.stepFade s i).moves.trans (ProtectMove.reportArrival _).moves
  · exact .refl

theorem expireSample_moves (i : Fin 32) (s : State) : Moves s (s.expireSample i) := by
  unfold State.expireSample
  split
  · exact (LightMove.nextSample s i).moves
  · exact .refl

/-- A command that answers a next state does so by a chain of turns. -/
def Answers (s : State) (r : Result) : Prop := ∀ t, r = .next t → Turns s t

theorem Answers.next (h : Turns s t) : Answers s (.next t) := by
  intro x hx
  cases hx
  exact h

theorem Answers.iteFault {c : Prop} [Decidable c] {r : Result} (h : Answers s r) :
    Answers s (if c then .fault .illFormed else r) := by
  split
  · intro t ht
    cases ht
  · exact h

theorem Answers.onIndex {n k : Nat} {f : Fin n → Result} (h : ∀ i, Answers s (f i)) : Answers s (onIndex n k f) := by
  unfold Machine.onIndex
  split
  · exact h _
  · intro t ht
    cases ht

theorem Answers.event {f : State → State} (h : s.phase ≠ .settle → Turns s (f s)) : Answers s (.next (s.event f)) :=
  .next (event_turns h)

theorem execHostFrame_answers (p : Port) (bytes : List Byte) (s : State) : Answers s (execHostFrame p bytes s) :=
  .next (ite_turns fun _ => Moves.turns ((clockOut_moves p _ s).trans (receiveBytes_moves p bytes _)))

theorem execGapTimeout_answers (bytes : List Byte) (s : State) : Answers s (execGapTimeout bytes s) :=
  .next (ite_turns fun _ => Moves.turns ((receiveBytes_moves .uart bytes s).trans (endAttempt_moves _)))

theorem execLengthAbove200_answers (p : Port) (length : Byte) (s : State) : Answers s (execLengthAbove200 p length s) :=
  .iteFault (.next (ite_turns fun _ => Moves.turns (((clockOut_moves p _ s).trans
    (LinkMove.intake _ p []).moves).trans (LinkMove.count _ .linkCheck).moves)))

theorem execReplyDelivered_answers (s : State) : Answers s (execReplyDelivered s) := by
  refine .next ?_
  split
  · exact .refl
  · exact (LinkMove.deliver s).turns

theorem execSettleEnd_answers (s : State) : Answers s (execSettleEnd s) :=
  .next (ite_turns fun h => .single (.settle h rfl))

theorem clearEnergy_moves (s : State) : Moves s s.clearEnergy := (HeatMove.clearEnergy s).moves

theorem execWritePointValue_answers (tag : Byte) (rest : List Byte) (s : State) : Answers s (execWritePointValue tag rest s) := by
  unfold execWritePointValue
  split
  · exact .next (serveWrite_turns (writeValue_decides rest) s)
  · exact fun t ht => nomatch ht

theorem exec_answers (c : Instr) (s : State) : Answers s (exec c s) :=
  match c with
  | .powerOn strap => .next (reset_turns strap false s)
  | .pinReset strap => .next (reset_turns strap false s)
  | .settleEnd => execSettleEnd_answers s
  | .hostFrame p bytes => execHostFrame_answers p bytes s
  | .gapTimeout bytes => execGapTimeout_answers bytes s
  | .replyDelivered => execReplyDelivered_answers s
  | .unknownKindRequest .. => .iteFault (.next (serve_turns (fun _ _ => .error _) s))
  | .readPoints .. => .next (serveRead_turns (fun _ => .refl) s)
  | .readCounters .. => .next (serveRead_turns (fun x => (LinkMove.clearCounters x).moves) s)
  | .readEnergy .. => .next (serveRead_turns clearEnergy_moves s)
  | .writePointsConfig _ rest => .iteFault (.next (serveWrite_turns (writePointConfig_decides rest) s))
  | .writePointValue tag rest => execWritePointValue_answers tag rest s
  | .writeBusSettings _ rest receiving => .next (serveWrite_turns (writeBus_decides receiving rest) s)
  | .writeWindows _ rest => .next (serveWrite_turns (writeWindow_decides rest) s)
  | .writeSheets _ rest => .next (serveWrite_turns (writeSheet_decides rest) s)
  | .writeZones _ rest => .next (serveWrite_turns (writeZone_decides rest) s)
  | .writeSinks _ rest => .iteFault (.next (serveWrite_turns (writeSink_decides rest) s))
  | .writeAllocatorSettings _ record => .next (serveWrite_turns (writeAllocator_decides record) s)
  | .writeChannels _ rest => .next (serveWrite_turns (writeChannel_decides rest) s)
  | .writeScenes _ rest => .next (serveWrite_turns (writeScene_decides rest) s)
  | .writeOutputs _ rest => .iteFault (.next (serveWrite_turns (writeOutput_decides rest) s))
  | .writeStageSettings _ record => .next (serveWrite_turns (writeStage_decides record) s)
  | .writeRemotes _ rest => .next (serveWrite_turns (writeRemote_decides rest) s)
  | .writeProfiles _ rest => .next (serveWrite_turns (writeProfile_decides rest) s)
  | .writeProtectSettings _ rest => .next (serveWrite_turns (writeProtect_decides rest) s)
  | .writeNoticeSettings _ rest => .next (serveWrite_turns (writeNoticeSettings_decides rest) s)
  | .write .. => .iteFault (.next (serve_turns (fun _ _ => .error _) s))
  | .fetch _ body => .next (serve_turns (fun x _ => fetch_decides body x) s)
  | .status _ body => .next (serve_turns (fun x _ => status_decides body x) s)
  | .sceneRecall _ fields => .next (serveAct_turns (fun x _ => actSceneRecall_decides fields x) s)
  | .channelSet _ fields => .next (serveAct_turns (fun x _ => actChannelSet_decides fields x) s)
  | .effectStart _ fields => .next (serveAct_turns (fun x _ => actEffectStart_decides fields x) s)
  | .effectStop _ fields => .next (serveAct_turns (fun x _ => actEffectStop_decides fields x) s)
  | .outputSet _ fields => .next (serveAct_turns (fun x _ => actOutputSet_decides fields x) s)
  | .modeSet _ fields => .next (serveAct_turns (fun x _ => actModeSet_decides fields x) s)
  | .resurfaceStart _ fields => .next (serveAct_turns (fun x _ => actResurfaceStart_decides fields x) s)
  | .resurfaceEnd _ fields => .next (serveAct_turns (fun x _ => actResurfaceEnd_decides fields x) s)
  | .coverOn _ fields => .iteFault (.next (serveAct_turns (fun x _ => actCover_decides fields x) s))
  | .coverOff _ fields => .iteFault (.next (serveAct_turns (fun x _ => actCover_decides fields x) s))
  | .protectTrip _ fields => .next (serveAct_turns (fun x _ => actProtectTrip_decides fields x) s)
  | .protectClear _ fields => .next (serveAct_turns (fun x _ => actProtectClear_decides fields x) s)
  | .latchClear _ fields => .next (serveAct_turns (fun x _ => actLatchClear_decides fields x) s)
  | .busRelease _ fields => .next (serveAct_turns (fun x _ => actBusRelease_decides fields x) s)
  | .busReclaim _ fields => .next (serveAct_turns (fun x _ => actBusReclaim_decides fields x) s)
  | .busTest _ fields => .next (serveAct_turns (fun x _ => actBusTest_decides fields x) s)
  | .allocateNow _ fields => .next (serveAct_turns (fun x _ => actAllocateNow_decides fields x) s)
  | .snapshotTake _ fields => .next (serveAct_turns (fun _ => actSnapshotTake_decides fields) s)
  | .storeSave _ fields => .next (serveAct_turns (fun _ => actStoreSave_decides fields) s)
  | .storeLoad _ fields => .next (serveAct_turns (fun _ => actStoreLoad_decides fields) s)
  | .clockSet _ fields => .next (serveAct_turns (fun x _ => actClockSet_decides fields x) s)
  | .programAdd _ fields => .next (serveAct_turns (fun x _ => actProgramAdd_decides fields x) s)
  | .programDelete _ fields => .next (serveAct_turns (fun x _ => actProgramDelete_decides fields x) s)
  | .start _ fields => .next (serveAct_turns (fun x _ => actStart_decides fields x) s)
  | .reset tag fields => .next (takeRequest_turns (fun x _ => answerReset_turns tag fields x) s)
  | .softReset strap => .next (ite_turns fun _ => reset_turns strap true s)
  | .noticeWaitExpiry => .event fun _ => (LinkMove.waitOver s).turns
  | .frameReceived bits => .event fun _ => (BusMove.endFrame s bits).turns
  | .frameStart => .event fun _ => (BusMove.startFrame s).turns
  | .ownFrameDone => .event fun _ => (BusMove.ownDone s).turns
  | .arbitrationLost => .event fun _ => (BusMove.ownLost s).turns
  | .transmitError => .event fun _ => (BusMove.ownError s).turns
  | .isolatedRecovery => .event fun _ => (BusMove.leaveIsolated s).turns
  | .pauseTimerExpiry .. => .onIndex fun n => .event fun _ => (BusMove.expirePause s n).turns
  | .handAsserted => .next (pins_event_turns (fun x => (BusMove.sampleHand x true).turns) s)
  | .handDeasserted => .next (pins_event_turns (fun x => (BusMove.sampleHand x false).turns) s)
  | .receiveEntryTaken => .event fun _ => (takeEntry_moves s).turns
  | .agingExpiry => .event fun _ => (expireAging_moves s).turns
  | .holdExpiry .. => .onIndex fun sh => .event fun _ => (expireHold_moves sh s).turns
  | .tankReheatExpiry .. => .onIndex fun sh => .event fun _ => (SheetMove.expireTank s sh).turns
  | .criticalHoldExpiry .. => .onIndex fun sh => .event fun _ => (PointMove.expireCritical s sh).turns
  | .periodTimerExpiry => .event fun _ => (expirePeriod_moves s).turns
  | .stepTimerExpiry .. => .onIndex fun i => .event fun _ => (expireStep_moves i s).turns
  | .effectSample .. => .onIndex fun i => .event fun _ => (expireSample_moves i s).turns
  | .slewStep .. => .onIndex fun i => .event fun _ => (OutputMove.expireSlew s i).turns
  | .refreshExpiry .. => .onIndex fun i => .event fun _ => (OutputMove.refreshRemote s i).turns
  | .tick => .event fun _ => (tickClock_moves s).turns
  | .protectAsserted => .next (pins_event_turns (samplePin_turns true) s)
  | .protectDeasserted => .next (pins_event_turns (samplePin_turns false) s)
  | .keyPress => .next (pins_event_turns (fun x => (ProtectMove.pressKey x).turns) s)
  | .keyRelease => .next (pins_event_turns (fun x => (ProtectMove.releaseKey x).turns) s)
  | .keyHoldExpiry => .event fun _ => (ProtectMove.expireKey s).turns
  | .saveComplete check => .event fun _ => (StoreMove.endSave s check).turns
  | .loadComplete receiving => .event fun _ => .single (.load receiving rfl)
  | .snapshotWriteComplete good => .event fun _ => (StoreMove.endSnapshot s good).turns
  | .idlePeriod => .event fun _ => (BusMove.idlePeriod s).turns
  | .lengthAbove200 p length => execLengthAbove200_answers p length s
  | .unknownActCode .. => .iteFault (.next (serve_turns (fun _ _ => .error _) s))

/-! ### The turn on an empty queue, and a step -/

theorem passTime_moves (s : State) : Moves s s.passTime := by
  have hm := (PhaseMove.passMs s).moves
  unfold State.passTime
  split
  · exact .refl
  · simp only
    split
    · exact hm.trans (PhaseMove.passSecond _).moves
    · exact hm

theorem answerRowless_moves (r : Request) (s : State) : Moves s (s.answerRowless r) := by
  unfold State.answerRowless
  split
  · split <;> exact (LinkMove.reply s _).moves
  · exact (LinkMove.reply s _).moves

theorem idle_moves (s : State) : Moves s s.idle := by
  unfold State.idle
  split
  · exact .refl
  · split
    · exact endAssembly_moves s
    · split
      · split
        · exact answerRowless_moves _ s
        · exact passTime_moves s
      · exact passTime_moves s

/-- A step takes the command at the front of the queue, if there is one, and is a chain of turns. -/
theorem step_turns (h : step s = .next t) : Turns { s with pending := s.pending.tail } t := by
  unfold step at h
  split at h
  · next hp =>
    cases h
    have he : ({ s with pending := s.pending.tail } : State) = s := by rw [hp, List.tail_nil, ← hp]
    rewrite [he]
    exact (idle_moves s).turns
  · next c rest hp =>
    rewrite [hp]
    exact exec_answers c _ t h

/-- What the queue of commands does not touch and every turn keeps, every step keeps. -/
theorem step_keeps {P : State → Prop} (hp : ∀ s q, P s → P { s with pending := q }) (h : ∀ s t, P s → Turn s t → P t) (hs : P s)
    (hst : step s = .next t) : P t :=
  (step_turns hst).keep h (hp s _ hs)

/-! ### The end of a LOAD in pieces -/

theorem endLoad_pieces (receiving : Bool) (s : State) : Pieces s (s.endLoad receiving) := by
  have told (x : State) (failed : Bool) : Pieces x (x.storeNotice 1 failed) := (LinkMove.notice x ..).moves.pieces
  have ends (x : State) : Pieces x (x.setStc { x.stc with op := .none }).afterLoad :=
    (Relation.ReflTransGen.single (.load (.ends x))).trans (afterLoad_pieces _)
  unfold State.endLoad
  split
  · next hl =>
    split
    · next image hi => exact ((Relation.ReflTransGen.single (.load (.takeImage s receiving image hl hi))).trans (told _ _)).trans (ends _)
    · exact (told s _).trans (ends _)
  · exact .refl

theorem Turn.pieces (h : Turn s t) : Pieces s t :=
  match h with
  | .move h => .single (.move h)
  | .load receiving h => h ▸ endLoad_pieces receiving s
  | .settle hs h => h ▸ endSettle_pieces s hs

/-- What every piece keeps, every step keeps. -/
theorem step_keeps_pieces {P : State → Prop} (hp : ∀ s q, P s → P { s with pending := q }) (h : ∀ s t, P s → Piece s t → P t)
    (hs : P s) (hst : step s = .next t) : P t :=
  step_keeps hp (fun _ _ hs ht => ht.pieces.keep h hs) hs hst

end Steps

/-! PROOF. What each kind of move leaves alone. -/

section MoveFrames

variable {s t u : State}

/-! ### Link moves -/

/-- Every block but the link and the bus stays, with phase and configuration. -/
structure BlocksKept (s t : State) : Prop where
  phase : t.phase = s.phase
  cfg : t.cfg = s.cfg
  ptb : t.ptb = s.ptb
  shm : t.shm = s.shm
  cdm : t.cdm = s.cdm
  hra : t.hra = s.hra
  lsq : t.lsq = s.lsq
  ost : t.ost = s.ost
  scu : t.scu = s.scu
  pru : t.pru = s.pru
  stc : t.stc = s.stc

theorem BlocksKept.refl (s : State) : BlocksKept s s := ⟨rfl, rfl, rfl, rfl, rfl, rfl, rfl, rfl, rfl, rfl, rfl⟩

/-- A change of the link and the bus alone. -/
theorem BlocksKept.linkBus (s : State) (l : Lnk) (f : Fbc) : BlocksKept s { s with lnk := l, fbc := f } :=
  ⟨rfl, rfl, rfl, rfl, rfl, rfl, rfl, rfl, rfl, rfl, rfl⟩

theorem offerRequest_blocks (p : Port) (r : Request) (s : State) : BlocksKept s (s.offerRequest p r) := by
  unfold State.offerRequest
  extract_lets l l' s1
  split
  · exact .linkBus s _ _
  · exact .linkBus s _ _

theorem clearCounters_blocks (s : State) : BlocksKept s s.clearCounters := by
  unfold State.clearCounters
  split
  · exact .linkBus s _ _
  · exact .refl s

theorem LinkMove.blocks (h : LinkMove s t) : BlocksKept s t :=
  h.casesOn (motive := fun t _ => BlocksKept s t)
    (choices := fun _ => ⟨rfl, rfl, rfl, rfl, rfl, rfl, rfl, rfl, rfl, rfl, rfl⟩)
    (pins := fun _ => ⟨rfl, rfl, rfl, rfl, rfl, rfl, rfl, rfl, rfl, rfl, rfl⟩)
    (intake := fun _ _ => .linkBus s _ _)
    (offer := fun p r => offerRequest_blocks p r s)
    (count := fun _ => .linkBus s _ _)
    (clockOut := fun _ => .linkBus s _ _)
    (deliver := .linkBus s _ _)
    (reply := fun _ => .linkBus s _ _)
    (assembly := fun _ => .linkBus s _ _)
    (mergeTallies := .linkBus s _ _)
    (clearCounters := clearCounters_blocks s)
    (waitOver := .linkBus s _ _)
    (fetch := fun _ => .linkBus s _ _)
    (awaitReset := .linkBus s _ _)
    (notice := fun _ _ _ => .linkBus s _ _)

/-! ### Bus moves -/

/-- What every event of the Field Bus Controller leaves alone; the Protect Unit may go to HELD with it (R172). -/
structure BusKeeps (s t : State) : Prop where
  setup : SetupKept s t
  ptb : t.ptb = s.ptb
  shm : t.shm = s.shm
  cdm : t.cdm = s.cdm
  hra : t.hra = s.hra
  lsq : t.lsq = s.lsq
  stc : t.stc = s.stc
  pru : t.pru = s.pru ∨ s.pru.state = .tripped ∧ t.pru = { s.pru with state := .held }

theorem BusKeeps.refl (s : State) : BusKeeps s s := ⟨SetupKept.refl s, rfl, rfl, rfl, rfl, rfl, rfl, .inl rfl⟩

theorem BusKeeps.trans (h : BusKeeps s t) (k : BusKeeps t u) : BusKeeps s u := by
  refine ⟨h.setup.trans k.setup, k.ptb.trans h.ptb, k.shm.trans h.shm, k.cdm.trans h.cdm, k.hra.trans h.hra, k.lsq.trans h.lsq,
    k.stc.trans h.stc, ?_⟩
  rcases k.pru with e | ⟨e, f⟩
  · rewrite [e]
    exact h.pru
  · rcases h.pru with g | ⟨g, i⟩
    · rewrite [g] at e f
      exact .inr ⟨e, f⟩
    · rw [i] at e
      cases e

theorem BusEvent.frame (h : BusEvent s t) : BusKeeps s t := ⟨h.setup, h.ptb, h.shm, h.cdm, h.hra, h.lsq, h.stc, .inl h.pru⟩

theorem OutputEvent.frame (h : OutputEvent s t) : BusKeeps s t :=
  ⟨h.inner.setup, h.ptb, h.shm, h.cdm, h.hra, h.lsq, h.stc, .inl h.pru⟩

theorem setFbcFields_frame (s : State) (f : Fbc) : BusKeeps s { s with fbc := f } := (setFbcFields_bus s f).frame

theorem count_frame (c : Counter) (s : State) : BusKeeps s (s.count c) := (count_bus c s).frame

theorem heldTest_frame (s : State) : BusKeeps s s.heldTest := by
  unfold State.heldTest
  split
  · next h =>
    have hn := notice_event .protect noTrigger (codeOf protectStates .held) (s.setPru { s.pru with state := .held })
    exact ⟨(setPru_protect _ s).inner.setup.trans hn.inner.setup, rfl, rfl, rfl, rfl, rfl, rfl, .inr ⟨h.1, rfl⟩⟩
  · exact .refl s

theorem setFbc_frame (f : Fbc) (s : State) : BusKeeps s (s.setFbc f) := by
  have h := setFbcFields_frame s f
  simp only [State.setFbc]
  split
  · exact h.trans (heldTest_frame _)
  · exact h

theorem sampleHand_frame (b : Bool) (s : State) : BusKeeps s (s.sampleHand b) := by
  unfold State.sampleHand
  cases b with
  | true =>
    rewrite [if_pos rfl]
    split
    · exact .refl s
    · exact setFbc_frame _ s
  | false =>
    rewrite [if_neg Bool.false_ne_true]
    split
    · exact setFbc_frame _ s
    · exact .refl s

theorem linkHold_frame (s : State) : BusKeeps s s.linkHold := by
  unfold State.linkHold
  split
  · exact .refl s
  · exact setFbc_frame _ s

theorem returnEntry_frame (x : InFlight) (s : State) : BusKeeps s (s.returnEntry x) := by
  simp only [State.returnEntry]
  split
  · exact .refl s
  · split
    · split
      · next w _ _ =>
        exact ((setFbcFields_frame s _).trans (count_frame .txDrop _)).trans (setOst_event _ _).frame
      · exact .refl s
    · split <;> exact setFbcFields_frame s _

theorem setErrors_frame (a b : Nat) (s : State) : BusKeeps s (s.setErrors a b) := (setErrors_bus a b s).frame

theorem offerReading_frame (f : BusFrame) (s : State) : BusKeeps s (s.offerReading f) := by
  unfold State.offerReading
  split
  · exact setFbcFields_frame s _
  · exact count_frame _ s

theorem sortFrame_frame (f : BusFrame) (s : State) : BusKeeps s (s.sortFrame f) := by
  unfold State.sortFrame
  split
  · exact (setFbcFields_frame s _).trans (count_frame _ _)
  · split
    · exact (count_frame _ s).trans (offerReading_frame f _)
    · exact count_frame _ s
  · exact .refl s
  · exact .refl s

theorem goodFrame_frame (f : BusFrame) (s : State) : BusKeeps s (s.goodFrame f) := by
  have h : BusKeeps s (s.count .rxGood).rxGood := (count_frame _ s).trans (setErrors_frame ..)
  simp only [State.goodFrame]
  split
  · exact h.trans (sortFrame_frame f _)
  · exact h

theorem receiveFrame_frame (bits : List Bool) (s : State) : BusKeeps s (s.receiveFrame bits) := by
  unfold State.receiveFrame
  split
  · exact (setFbcFields_frame s _).trans (goodFrame_frame _ _)
  · exact ((setFbcFields_frame s _).trans (count_frame _ _)).trans (setErrors_frame ..)

theorem frameEnded_frame (s : State) : BusKeeps s s.frameEnded := setFbcFields_frame s _

theorem applyLine_frame (s : State) : BusKeeps s s.applyLine := setFbcFields_frame s _

theorem noFlight_frame (s : State) : BusKeeps s s.noFlight := setFbcFields_frame s _

theorem entriesFell_frame (n : Nat) (s : State) : BusKeeps s (s.entriesFell n) := by
  unfold State.entriesFell
  split
  · exact heldTest_frame s
  · exact .refl s

theorem countIf_frame (p : Prop) [Decidable p] (c : Counter) (s : State) : BusKeeps s (if p then s.count c else s) := by
  split
  · exact count_frame c s
  · exact .refl s

theorem endReceived_frame (bits : List Bool) (s : State) : BusKeeps s (s.endReceived bits) :=
  (receiveFrame_frame bits s).trans (applyLine_frame _)

theorem ownDone_frame (s : State) : BusKeeps s s.ownDone := by
  unfold State.ownDone
  split
  · exact .refl s
  · next x _ =>
    have h1 : BusKeeps s (s.noFlight.count .txDone) := (noFlight_frame s).trans (count_frame _ _)
    extract_lets before s1 s2 s3 s4
    have h3 : BusKeeps s s3 :=
      ((h1.trans (countIf_frame (x.entry.kind = .poll) .polls _)).trans (setErrors_frame ..)).trans (frameEnded_frame _)
    refine BusKeeps.trans (t := s4) ?_ (entriesFell_frame before s4)
    unfold s4
    split
    · exact h3.trans (goodFrame_frame _ _)
    · exact h3.trans (applyLine_frame _)

theorem ownLost_frame (s : State) : BusKeeps s s.ownLost := by
  unfold State.ownLost
  split
  · exact .refl s
  · split
    · exact .refl s
    · exact (((noFlight_frame s).trans (count_frame _ _)).trans (returnEntry_frame _ _)).trans (frameEnded_frame _)

theorem ownError_frame (s : State) : BusKeeps s s.ownError := by
  unfold State.ownError
  split
  · exact .refl s
  · split
    · exact .refl s
    · exact (((((noFlight_frame s).trans (count_frame _ _)).trans (returnEntry_frame _ _)).trans (setErrors_frame ..)).trans
        (frameEnded_frame _)).trans (applyLine_frame _)

theorem endFrame_frame (bits : List Bool) (s : State) : BusKeeps s (s.endFrame bits) := by
  unfold State.endFrame
  split
  · split
    · exact (ownLost_frame s).trans (endReceived_frame bits _)
    · exact ownError_frame s
    · exact ownDone_frame s
    · exact .refl s
  · exact endReceived_frame bits s

theorem startFrame_frame (s : State) : BusKeeps s s.startFrame := by
  unfold State.startFrame
  split
  · split
    · exact setFbcFields_frame s _
    · exact .refl s
  · exact .refl s

theorem leaveIsolated_frame (s : State) : BusKeeps s s.leaveIsolated := by
  unfold State.leaveIsolated
  split
  · exact (recover_bus s).frame.trans (heldTest_frame _)
  · exact .refl s

theorem idlePeriod_frame (s : State) : BusKeeps s s.idlePeriod := by
  unfold State.idlePeriod
  split
  · exact .refl s
  · split
    · exact leaveIsolated_frame s
    · exact setFbcFields_frame s _

theorem BusMove.frame (h : BusMove s t) : BusKeeps s t :=
  h.casesOn (motive := fun t _ => BusKeeps s t)
    (endFrame := fun bits => endFrame_frame bits s)
    (startFrame := startFrame_frame s)
    (ownDone := ownDone_frame s)
    (ownLost := ownLost_frame s)
    (ownError := ownError_frame s)
    (leaveIsolated := leaveIsolated_frame s)
    (idlePeriod := idlePeriod_frame s)
    (expirePause := fun _ => setFbcFields_frame s _)
    (sampleHand := fun held => sampleHand_frame held s)
    (linkHold := linkHold_frame s)
    (linkLetGo := setFbc_frame _ s)
    (testMode := fun _ => setFbcFields_frame s _)

/-! ### Moves of the other blocks -/

theorem stepFade_light (i : Fin 32) (s : State) :
    LightEvent s (((s.setChannel i (s.lsq.channels.get i).stepFade).handLevels).handRemotes) :=
  ((setChannel_light i _ s).trans (handLevels_light _)).trans (handRemotes_light _)

theorem LightMove.event (h : LightMove s t) : LightEvent s t :=
  h.casesOn (motive := fun t _ => LightEvent s t)
    (scene := fun k fade _ => recall_light k fade s)
    (setBase := fun i level => setBase_light i level s)
    (startEffect := fun i e _ => startEffect_light i e s)
    (nextSample := fun i => nextSample_light i s)
    (stepFade := fun i => stepFade_light i s)
    (startChannels := startChannels_light s)

theorem setFixed_event (i : Fin 16) (code : Nat) (s : State) : OutputEvent s (s.setFixed i code) :=
  (setOutput_event i _ s).trans (handOutput_event i _).1

theorem setRemoteFixed_event (i : Fin 32) (code : Nat) (s : State) : OutputEvent s (s.setRemoteFixed i code) :=
  (setRemote_event i _ s).trans (handRemote_event i _).1

theorem expireSlew_event (i : Fin 16) (s : State) : OutputEvent s (s.expireSlew i) := by
  simp only [State.expireSlew]
  split
  · exact setOutput_event i _ s
  · exact .refl s

theorem OutputMove.event (h : OutputMove s t) : OutputEvent s t :=
  h.casesOn (motive := fun t _ => OutputEvent s t)
    (setFixed := fun i code => setFixed_event i code s)
    (setRemoteFixed := fun i code => setRemoteFixed_event i code s)
    (expireSlew := fun i => expireSlew_event i s)
    (refreshRemote := fun i => (refreshRemote_event i s).1)
    (startOutputs := startOutputs_event s)
    (handRemotes := (handRemotes_event s).1)

theorem clearEnergy_heat (s : State) : HeatEvent s s.clearEnergy := by
  unfold State.clearEnergy
  split
  · exact setHra_heat s _
  · exact .refl s

theorem HeatMove.event (h : HeatMove s t) : HeatEvent s t :=
  h.casesOn (motive := fun t _ => HeatEvent s t)
    (passWith := passWith_heat true s)
    (clearEnergy := clearEnergy_heat s)

theorem SheetMove.event (h : SheetMove s t) : SheetEvent s t :=
  h.casesOn (motive := fun t _ => SheetEvent s t)
    (resurface := fun _ _ h => resurface_sheet h)
    (endResurface := fun sh => endResurface_sheet sh s)
    (coverOn := fun _ _ h => coverOn_sheet h)
    (coverOff := fun _ _ h => coverOff_sheet h)
    (expireTank := fun sh => expireTank_sheet sh s)

theorem pressKey_protect (s : State) : ProtectEvent s s.pressKey := by
  unfold State.pressKey
  split
  · split
    · exact pressCounted_protect s
    · exact setPru_protect _ s
  · exact .refl s

theorem releaseKey_protect (s : State) : ProtectEvent s s.releaseKey := by
  unfold State.releaseKey
  split
  · exact .refl s
  · exact setPru_protect _ s

theorem expireKey_protect (s : State) : ProtectEvent s s.expireKey := by
  unfold State.expireKey
  split
  · exact keySpent_protect s
  · exact .refl s

theorem reportArrival_protect (s : State) : ProtectEvent s s.reportArrival := by
  unfold State.reportArrival
  split
  · exact (setPru_protect _ s).trans (heldTest_protect _)
  · exact .refl s

theorem ProtectMove.event (h : ProtectMove s t) : ProtectEvent s t :=
  h.casesOn (motive := fun t _ => ProtectEvent s t)
    (raise := fun x => raise_protect x s)
    (pin := fun _ => setPru_protect _ s)
    (pressKey := pressKey_protect s)
    (releaseKey := releaseKey_protect s)
    (expireKey := expireKey_protect s)
    (clear := fun _ => clearProtect_protect s)
    (reportArrival := reportArrival_protect s)
    (evaluate := fun _ _ => evaluateProtect_protect s)

theorem PointMove.setup (h : PointMove s t) : SetupKept s t :=
  h.casesOn (motive := fun t _ => SetupKept s t)
    (update := fun i v => (updatePoint_inner i v s).1.setup)
    (clearLatch := fun i => (completePoint_inner _ _ i _ s).1.setup)
    (age := (ageAll_inner s).setup)
    (heldAging := fun _ => (setPtb_inner s _).setup)
    (popEntry := (setFbcFields_frame s _).setup)
    (unbound := fun _ => (setFbcFields_frame s _).setup)
    (expireCritical := fun sh => (expireCritical_protect sh s).1.setup)

theorem setHold_setup (b : Bool) (s : State) : SetupKept s (s.setHold b) := (setHold_heat b s).inner.setup

theorem deferredTrip_protect (s : State) : ProtectEvent s s.deferredTrip := by
  have h := setPru_protect { s.pru with deferred := [] } s
  simp only [State.deferredTrip]
  split
  · exact h
  · split
    · exact h.trans (trip_protect _ _)
    · exact foldl_induct (P := ProtectEvent s) _ _ _ h fun x y k => k.trans (raise_protect y x)

theorem passTrigger_setup (s : State) : SetupKept s s.passTrigger := (passTrigger_heat s).inner.setup

theorem recallEntryScene_light (s : State) : LightEvent s s.recallEntryScene := by
  unfold State.recallEntryScene
  split
  · split
    · exact recallLights_light _ _ s
    · exact .refl s
  · exact .refl s

theorem takeMode_inner (m : ArenaMode) (s : State) : Inner (s.setScu { s.scu with mode := m }) (s.takeMode m) :=
  ((recomputeKinds_heat [.stands] _).inner.trans (recomputeDemands_zone _).inner).trans (recallEntryScene_light _).inner

theorem changeMode_inner (m : ArenaMode) (s : State) : Inner (s.setScu { s.scu with mode := m }) (s.changeMode m) :=
  (((takeMode_inner m s).trans (passTrigger_heat _).inner).trans (settleRemotes_heat _ _).inner).trans (notice_event ..).inner

/-! ### The Store Controller, WRITEs and phases: what becomes of the Schedule Unit -/

theorem storeNotice_scu (n : Nat) (b : Bool) (s : State) : (s.storeNotice n b).scu = s.scu := rfl

theorem StoreMove.scu (h : StoreMove s t) : t.scu = s.scu :=
  h.casesOn (motive := fun t _ => t.scu = s.scu)
    (capture := fun _ => rfl)
    (beginSave := fun _ _ => rfl)
    (beginLoad := fun _ _ _ => rfl)
    (endSave := fun _ => by
      unfold State.endSave
      split <;> rfl)
    (endSnapshot := fun _ => by
      unfold State.endSnapshot
      split <;> rfl)

theorem sinkWritten_setup (i : Fin 12) (c : SinkConfig) (s : State) :
    SetupKept (s.setCfg { s.cfg with sinks := s.cfg.sinks.set i c }) (s.sinkWritten i c) := by
  have h1 : HeatEvent (s.setCfg { s.cfg with sinks := s.cfg.sinks.set i c })
      ((s.setCfg { s.cfg with sinks := s.cfg.sinks.set i c }).recomputeSink i) := setHra_heat _ _
  simp only [State.sinkWritten]
  refine SetupKept.trans ?_ (settleRemotes_heat _ _).inner.setup
  split
  · exact ((h1.trans (handOn_heat _ _)).trans (passTrigger_heat _)).inner.setup
  · exact (h1.trans (passTrigger_heat _)).inner.setup

theorem profileWritten_setup (i : Fin 5) (p : Profile) (s : State) :
    SetupKept (s.setCfg { s.cfg with profiles := s.cfg.profiles.set i p }) (s.profileWritten i p) := by
  have hk (b : Prop) [Decidable b] (x : State) : ZoneEvent x (if b then x.recomputeKinds [.stands] else x) := by
    split
    · exact (recomputeKinds_heat _ x).zone
    · exact .refl x
  simp only [State.profileWritten]
  split
  · exact .refl _
  · split
    · exact (((hk _ _).trans (recomputeDemands_zone _)).trans (handRemotes_heat _).zone).inner.setup
    · exact (hk _ _).inner.setup

theorem applyLineWhenIdle_frame (b : Bool) (s : State) : BusKeeps s (s.applyLineWhenIdle b) := by
  unfold State.applyLineWhenIdle
  split
  · exact .refl s
  · exact applyLine_frame s

/-- The configuration that an accepted WRITE leaves is the one its record makes of the old one, and nothing else of the setup moves. -/
theorem WriteMove.setup (h : WriteMove s t) : ∃ c : Configuration, SetupKept (s.setCfg c) t :=
  h.casesOn (motive := fun t _ => ∃ c : Configuration, SetupKept (s.setCfg c) t)
    (point := fun i _ _ _ => ⟨_, (completePoint_inner _ _ i _ _).1.setup⟩)
    (bus := fun receiving _ _ => ⟨_, (applyLineWhenIdle_frame receiving _).setup⟩)
    (window := fun _ _ _ => ⟨_, .refl _⟩)
    (sheet := fun sh _ _ => ⟨_, (sheetWritten_inner sh _).1.setup⟩)
    (zone := fun z _ _ => ⟨_, (zoneWritten_zone _ z _).inner.setup⟩)
    (sink := fun i c _ => ⟨_, sinkWritten_setup i c s⟩)
    (allocator := fun _ _ => ⟨_, .refl _⟩)
    (channel := fun i _ _ => ⟨_, (channelWritten_light _ i _).inner.setup⟩)
    (scene := fun _ _ _ => ⟨_, .refl _⟩)
    (output := fun i _ w _ => ⟨_, (outputWritten_event w i _).inner.setup⟩)
    (stage := fun _ _ => ⟨_, ((handOn_heat _ _).trans (handRemotes_heat _)).inner.setup⟩)
    (remote := fun i _ w _ => ⟨_, (remoteWritten_event w i _).inner.setup⟩)
    (profile := fun i p _ => ⟨_, profileWritten_setup i p s⟩)
    (protect := fun _ _ => ⟨_, .refl _⟩)
    (notice := fun _ _ => ⟨_, .refl _⟩)

/-! ### START, LOAD -/

theorem loadSheet_inner (sh : Fin 2) (s : State) : Inner s (s.loadSheet sh).state :=
  (((setSheet_sheet sh _ s).inner.trans (sheetNotice_heat _ sh _).inner).trans (recheckTrigger_inner sh _).1).trans
    (evaluateHeave_sheet sh _).inner

theorem takeImage_setup (b : Bool) (c : Configuration) (s : State) : SetupKept (s.setCfg c) (s.takeImage b c) := by
  have h1 : SetupKept (s.setCfg c) (((s.setCfg c).loadPoints).applyLineWhenIdle b) :=
    (setPtb_inner (s.setCfg c) _).setup.trans (applyLineWhenIdle_frame b _).setup
  have h2 := (h1.trans (loadSheet_inner 0 _).setup).trans (loadSheet_inner 1 _).setup
  have h3 := (h2.trans (loadZones_zone s.cfg _).inner.setup).trans (recompute_heat (fun _ => true) _).inner.setup
  have h4 := (h3.trans (loadChannels_light _).inner.setup).trans (loadOutputs_event _).inner.setup
  exact h4.trans (passes_heat false _ _).inner.setup

end MoveFrames

/-! PROOF. The event program keeps its order, its distinct ids and its 48 places (R156, R157): only four kinds of move touch it. -/

section Program

variable {s t u : State}

/-! ### What a piece does to the program -/

/-- The program and the next id after one piece: as they were, one entry less, one entry more, or empty after a reset. -/
inductive ProgramStep (a b : Scu) : Prop
  | same (program : b.program = a.program) (nextId : b.nextId = a.nextId)
  | remove (id : Nat) (program : b.program = a.program.filter fun e => e.id != id) (nextId : b.nextId = a.nextId)
  | insert (start : Nat) (action : ProgramAction) (room : a.program.length < 48)
      (program : b.program = insertEntry ⟨freeId a.program 49 a.nextId, start, action⟩ a.program)
      (nextId : b.nextId = nextIdAfter (freeId a.program 49 a.nextId))
  | reset (program : b.program = []) (nextId : b.nextId = 0)

theorem ProgramStep.of_eq {a b : Scu} (h : b = a) : ProgramStep a b := .same (by rw [h]) (by rw [h])

theorem ScheduleMove.program (h : ScheduleMove s t) : ProgramStep s.scu t.scu :=
  h.casesOn (motive := fun t _ => ProgramStep s.scu t.scu)
    (changeMode := fun m => by
      have hm := (changeMode_inner m s).setup.scu
      exact .same (by rw [hm]; rfl) (by rw [hm]; rfl))
    (clock := fun _ _ => .same rfl rfl)
    (remove := fun id => .remove id rfl rfl)
    (insert := fun start a room => .insert start a room rfl rfl)

theorem samplePins_scu (s : State) : s.samplePins.scu = s.scu := (sampleHand_frame _ s).setup.scu

theorem PhaseMove.program (h : PhaseMove s t) : ProgramStep s.scu t.scu :=
  h.casesOn (motive := fun t _ => ProgramStep s.scu t.scu)
    (beginSettle := fun _ _ => .reset rfl rfl)
    (resetBlocks := fun c _ _ => by
      have hc : (s.resetBlocks c).samplePins.scu = { clock := s.scu.clock } := samplePins_scu _
      exact .reset (by rw [hc]) (by rw [hc]))
    (run := fun _ => .same rfl rfl)
    (passMs := .same rfl rfl)
    (passSecond := .same rfl rfl)

theorem LoadMove.scu (h : LoadMove s t) : t.scu = s.scu :=
  h.casesOn (motive := fun t _ => t.scu = s.scu)
    (takeImage := fun receiving c _ _ => (takeImage_setup receiving c s).scu)
    (ends := rfl)
    (deferredTrip := (deferredTrip_protect s).inner.setup.scu)
    (evaluate := fun _ => (evaluateProtect_protect s).inner.setup.scu)

theorem Move.program (h : Move s t) : ProgramStep s.scu t.scu :=
  h.casesOn (motive := fun _ => ProgramStep s.scu t.scu)
    (link := fun h => .of_eq h.blocks.scu)
    (bus := fun h => .of_eq h.frame.setup.scu)
    (light := fun h => .of_eq h.event.inner.setup.scu)
    (output := fun h => .of_eq h.event.inner.setup.scu)
    (heat := fun h => .of_eq h.event.inner.setup.scu)
    (sheet := fun h => .of_eq h.event.inner.setup.scu)
    (protect := fun h => .of_eq h.event.inner.setup.scu)
    (point := fun h => .of_eq h.setup.scu)
    (schedule := fun h => h.program)
    (store := fun h => .of_eq h.scu)
    (write := fun h => by
      obtain ⟨c, hc⟩ := h.setup
      exact .of_eq hc.scu)
    (phase := fun h => h.program)

theorem Piece.program (h : Piece s t) : ProgramStep s.scu t.scu :=
  h.casesOn (motive := fun _ => ProgramStep s.scu t.scu)
    (move := fun h => h.program)
    (load := fun h => .of_eq h.scu)

/-! ### A new entry (R156, R157) -/

theorem mem_insertEntry {e x : ProgramEntry} {l : List ProgramEntry} : x ∈ insertEntry e l ↔ x = e ∨ x ∈ l := by
  induction l with
  | nil => simp [insertEntry]
  | cons y ys ih =>
    unfold insertEntry
    split
    · simp only [List.mem_cons, ih]
      tauto
    · simp

theorem insertEntry_length (e : ProgramEntry) (l : List ProgramEntry) : (insertEntry e l).length = l.length + 1 := by
  induction l with
  | nil => rfl
  | cons y ys ih =>
    unfold insertEntry
    split <;> simp [ih]

/-- Behind every entry that starts no later, the new entry keeps the order. -/
theorem insertEntry_sorted (e : ProgramEntry) {l : List ProgramEntry} (h : l.Pairwise fun a b => a.start ≤ b.start) :
    (insertEntry e l).Pairwise fun a b => a.start ≤ b.start := by
  induction l with
  | nil => simp [insertEntry]
  | cons y ys ih =>
    obtain ⟨hy, hys⟩ := List.pairwise_cons.mp h
    unfold insertEntry
    split
    · next hle =>
      refine List.pairwise_cons.mpr ⟨fun x hx => ?_, ih hys⟩
      rcases mem_insertEntry.mp hx with rfl | hx
      · exact hle
      · exact hy x hx
    · next hlt =>
      refine List.pairwise_cons.mpr ⟨fun x hx => ?_, h⟩
      rcases List.mem_cons.mp hx with rfl | hx
      · omega
      · exact le_trans (by omega) (hy x hx)

theorem insertEntry_distinct {e : ProgramEntry} {l : List ProgramEntry} (h : l.Pairwise fun a b => a.id ≠ b.id)
    (he : ∀ x ∈ l, x.id ≠ e.id) : (insertEntry e l).Pairwise fun a b => a.id ≠ b.id := by
  induction l with
  | nil => simp [insertEntry]
  | cons y ys ih =>
    obtain ⟨hy, hys⟩ := List.pairwise_cons.mp h
    unfold insertEntry
    split
    · refine List.pairwise_cons.mpr ⟨fun x hx => ?_, ih hys fun x hx => he x (List.mem_cons_of_mem _ hx)⟩
      rcases mem_insertEntry.mp hx with rfl | hx
      · exact he y List.mem_cons_self
      · exact hy x hx
    · exact List.pairwise_cons.mpr ⟨fun x hx => (he x hx).symm, h⟩

/-! ### The free id (R157) -/

/-- The ids tried from `n` on: `n`, then its successors below 65535. -/
def triedId (n k : Nat) : Nat := (n + k) % 65535

theorem nextIdAfter_le (n : Nat) : nextIdAfter n ≤ 65534 := by
  unfold nextIdAfter
  omega

theorem freeId_le (held : List ProgramEntry) (fuel n : Nat) (h : n ≤ 65534) : freeId held fuel n ≤ 65534 := by
  induction fuel generalizing n with
  | zero => exact h
  | succ fuel ih =>
    unfold freeId
    split
    · exact ih _ (nextIdAfter_le n)
    · exact h

/-- Within its fuel the search finds an id that no entry has, or every id it tried is held. -/
theorem freeId_free_or_held (held : List ProgramEntry) (fuel n : Nat) (h : n ≤ 65534) :
    (∀ e ∈ held, e.id ≠ freeId held fuel n) ∨ ∀ k < fuel, ∃ e ∈ held, e.id = triedId n k := by
  induction fuel generalizing n with
  | zero => exact .inr fun k hk => absurd hk (Nat.not_lt_zero k)
  | succ fuel ih =>
    unfold freeId
    split
    · next hany =>
      refine (ih _ (nextIdAfter_le n)).imp id fun hk k hlt => ?_
      cases k with
      | zero =>
        obtain ⟨e, he, hid⟩ := List.any_eq_true.mp hany
        refine ⟨e, he, (beq_iff_eq.mp hid).trans ?_⟩
        unfold triedId
        omega
      | succ k =>
        obtain ⟨e, he, hid⟩ := hk k (by omega)
        refine ⟨e, he, hid.trans ?_⟩
        unfold triedId nextIdAfter
        omega
    · next hany =>
      refine .inl fun e he hid => hany (List.any_eq_true.mpr ⟨e, he, ?_⟩)
      exact beq_iff_eq.mpr hid

/-- 48 entries cannot hold 49 ids, so the id found is free. -/
theorem freeId_free {held : List ProgramEntry} {n : Nat} (h : n ≤ 65534) (room : held.length ≤ 48) :
    ∀ e ∈ held, e.id ≠ freeId held 49 n := by
  refine (freeId_free_or_held held 49 n h).resolve_right fun hk => ?_
  have sub : ((List.range 49).map (triedId n)) ⊆ held.map ProgramEntry.id := by
    intro x hx
    obtain ⟨k, hk', rfl⟩ := List.mem_map.mp hx
    obtain ⟨e, he, hid⟩ := hk k (List.mem_range.mp hk')
    exact List.mem_map.mpr ⟨e, he, hid⟩
  have distinct : ((List.range 49).map (triedId n)).Nodup := by
    refine List.nodup_range.map_on fun a ha b hb hab => ?_
    have := List.mem_range.mp ha
    have := List.mem_range.mp hb
    unfold triedId at hab
    omega
  have := (distinct.subperm sub).length_le
  simp at this
  omega

/-! ### The invariant -/

theorem ProgramStep.ordered (h : ProgramStep s.scu t.scu) (hs : ProgramOrdered s) : ProgramOrdered t := by
  obtain ⟨starts, ids, range, next, length⟩ := hs
  cases h with
  | same hp hn => exact ⟨hp ▸ starts, hp ▸ ids, hp ▸ range, hn ▸ next, hp ▸ length⟩
  | remove id hp hn =>
    refine ⟨?_, ?_, ?_, hn ▸ next, ?_⟩ <;> rw [hp]
    · exact starts.filter _
    · exact ids.filter _
    · exact fun e he => range e (List.mem_of_mem_filter he)
    · exact (List.length_filter_le ..).trans length
  | insert start a room hp hn =>
    have free := freeId_free next length
    refine ⟨?_, ?_, ?_, ?_, ?_⟩
    · rw [hp]; exact insertEntry_sorted _ starts
    · rw [hp]; exact insertEntry_distinct ids free
    · rewrite [hp]
      intro e he
      rcases mem_insertEntry.mp he with rfl | he
      · exact freeId_le _ _ _ next
      · exact range e he
    · rw [hn]; exact nextIdAfter_le _
    · rw [hp, insertEntry_length]; exact room
  | reset hp hn => constructor <;> simp [hp, hn]

end Program

/-- Settles O50: a step is a chain of pieces, and only a removal, an insertion behind the free id's search, or a reset touches the
program. -/
theorem programOrderedKept : Obligations.ProgramOrderedKept :=
  fun _ _ hs h => step_keeps_pieces (fun _ _ h => ⟨h.starts, h.ids, h.range, h.next, h.length⟩) (fun _ _ hx hp => hp.program.ordered hx) hs h

/-! PROOF. Every configuration stays valid: the running one changes by accepted WRITEs, resets and LOADs alone, the image and the one
being saved by the store's own moves (R2, R194, R195). -/

section Valid

variable {s t u : State}

/-! ### The image and the configuration being saved -/

/-- The image and the configuration that a SAVE writes stay. -/
structure ImageKept (s t : State) : Prop where
  image : t.stc.image = s.stc.image
  saving : t.stc.saving = s.stc.saving

theorem ImageKept.refl (s : State) : ImageKept s s := ⟨rfl, rfl⟩

theorem ImageKept.trans (h : ImageKept s t) (k : ImageKept t u) : ImageKept s u := ⟨k.image.trans h.image, k.saving.trans h.saving⟩

theorem ImageKept.of_eq (h : t.stc = s.stc) : ImageKept s t := ⟨by rw [h], by rw [h]⟩

theorem Stc.beginWrite_image (c : Stc) : c.beginWrite.image = c.image ∧ c.beginWrite.saving = c.saving := by
  unfold Stc.beginWrite
  split <;> exact ⟨rfl, rfl⟩

theorem capture_image (ts : List Trigger) (s : State) : ImageKept s (s.capture ts) := by
  simp only [State.capture]
  constructor <;> split
  · exact (Stc.beginWrite_image _).1
  · rfl
  · exact (Stc.beginWrite_image _).2
  · rfl

/-! ### The store in a trip -/

/-- A snapshot does not look at the Protect Unit or the link, so the store after a trip is the one its capture leaves. -/
theorem snapshotNow_of_blocks (ts : List Trigger) (h1 : t.stc = s.stc) (h2 : t.scu = s.scu) (h3 : t.shm = s.shm) (h4 : t.cdm = s.cdm)
    (h5 : t.hra = s.hra) (h6 : t.lsq = s.lsq) (h7 : t.fbc = s.fbc) : t.snapshotNow ts = s.snapshotNow ts := by
  simp only [State.snapshotNow, State.busState, h1, h2, h3, h4, h5, h6, h7]

theorem captureAtTrip_stc (ts : List Trigger) (h1 : t.stc = s.stc) (h2 : t.snapshotNow ts = s.snapshotNow ts) :
    (t.captureAtTrip ts).stc = (s.captureAtTrip ts).stc := by
  unfold State.captureAtTrip
  rewrite [h1]
  split
  · exact h1
  · simp only [State.capture, h1, h2]

/-- The state in which a trip captures: TRIPPED with its trigger set, and the notices queued (steps 1 and 2 of R170). -/
def State.tripBegun (ts : List Trigger) (s : State) : State :=
  ts.foldl (fun st t => st.protectNotice (codeOf triggers t))
    (s.setPru { s.pru with state := .tripped, triggers := ts, arrived := false })

theorem trip_eq (ts : List Trigger) (s : State) :
    s.trip ts = (((((s.tripBegun ts).captureAtTrip ts).tripChannels).tripOutputs).setHold true).heldTest := rfl

theorem tripBegun_output (ts : List Trigger) (s : State) :
    OutputEvent (s.setPru { s.pru with state := .tripped, triggers := ts, arrived := false }) (s.tripBegun ts) :=
  foldl_induct (P := OutputEvent _) _ _ _ (.refl _) fun _ _ h => h.trans (notice_event ..)

theorem notices_fbc (f : Trigger → Nat) (ts : List Trigger) (s : State) :
    (ts.foldl (fun st t => st.protectNotice (f t)) s).fbc = s.fbc :=
  foldl_induct (P := fun x : State => x.fbc = s.fbc) _ _ _ rfl fun _ _ h => h

theorem tripChannels_stc (s : State) : s.tripChannels.stc = s.stc := by
  simp only [State.tripChannels, State.mapChannels_stc]
  exact (relight_light [0, 1] (s.mapChannels fun _ r => r.stopEffect)).stc

/-- What a trip leaves in the store: a capture of what stood before it, unless a snapshot is pending or being written (R170, R175). -/
theorem trip_stc (ts : List Trigger) (s : State) : (s.trip ts).stc = (s.captureAtTrip ts).stc := by
  have hb := tripBegun_output ts s
  have hf : (s.tripBegun ts).fbc = s.fbc := notices_fbc _ ts _
  calc (s.trip ts).stc = ((((s.tripBegun ts).captureAtTrip ts).tripChannels).tripOutputs.setHold true).stc := heldTest_stc _
    _ = (((s.tripBegun ts).captureAtTrip ts).tripChannels.tripOutputs).stc := (setHold_heat true _).stc
    _ = ((s.tripBegun ts).captureAtTrip ts).tripChannels.stc := (tripOutputs_event _).stc
    _ = ((s.tripBegun ts).captureAtTrip ts).stc := tripChannels_stc _
    _ = (s.captureAtTrip ts).stc := captureAtTrip_stc ts hb.stc
          (snapshotNow_of_blocks ts hb.stc hb.inner.setup.scu hb.shm hb.cdm hb.hra hb.lsq hf)

theorem captureAtTrip_image (ts : List Trigger) (s : State) : ImageKept s (s.captureAtTrip ts) := by
  unfold State.captureAtTrip
  split
  · exact .refl s
  · exact capture_image ts s

theorem trip_image (ts : List Trigger) (s : State) : ImageKept s (s.trip ts) :=
  (captureAtTrip_image ts s).trans (.of_eq (trip_stc ts s))

theorem raise_image (x : Trigger) (s : State) : ImageKept s (s.raise x) := by
  unfold State.raise
  split
  · exact .refl s
  · split
    · exact .of_eq rfl
    · split
      · exact trip_image [x] s
      · split
        · exact .refl s
        · exact .of_eq rfl

theorem clearProtect_stc (s : State) : s.clearProtect.stc = s.stc := by
  have h1 := notice_event .protect noTrigger (codeOf protectStates .armed)
    (s.setPru { s.pru with state := .armed, triggers := [], arrived := false })
  exact (handRemotes_heat _).stc.trans ((setHold_heat false _).stc.trans
    ((clearOutputs_event _).stc.trans ((clearChannels_light _).stc.trans h1.stc)))

theorem keySpent_image (s : State) : ImageKept s s.keySpent :=
  (ImageKept.of_eq rfl : ImageKept s (s.setPru { s.pru with key := .spent, keyTimer := 0 })).trans (raise_image .key _)

theorem pressCounted_image (s : State) : ImageKept s s.pressCounted := by
  unfold State.pressCounted
  split
  · exact keySpent_image s
  · exact .of_eq rfl

theorem pressKey_image (s : State) : ImageKept s s.pressKey := by
  unfold State.pressKey
  split
  · split
    · exact pressCounted_image s
    · exact .of_eq rfl
  · exact .refl s

theorem releaseKey_stc (s : State) : s.releaseKey.stc = s.stc := by
  unfold State.releaseKey
  split <;> rfl

theorem expireKey_image (s : State) : ImageKept s s.expireKey := by
  unfold State.expireKey
  split
  · exact keySpent_image s
  · exact .refl s

theorem reportArrival_stc (s : State) : s.reportArrival.stc = s.stc := by
  unfold State.reportArrival
  split
  · exact heldTest_stc _
  · rfl

/-- The trip of START with every active level trigger (R171). -/
def State.levelTrip (s : State) : State := if s.activeTriggers.isEmpty then s else s.trip s.activeTriggers

theorem evaluateProtect_eq (s : State) :
    s.evaluateProtect = if s.levelTrip.pru.key = .timing then s.levelTrip.pressCounted else s.levelTrip := rfl

theorem levelTrip_image (s : State) : ImageKept s s.levelTrip := by
  unfold State.levelTrip
  split
  · exact .refl s
  · exact trip_image _ s

theorem evaluateProtect_image (s : State) : ImageKept s s.evaluateProtect := by
  rewrite [evaluateProtect_eq]
  split
  · exact (levelTrip_image s).trans (pressCounted_image _)
  · exact levelTrip_image s

theorem ProtectMove.image (h : ProtectMove s t) : ImageKept s t :=
  h.casesOn (motive := fun t _ => ImageKept s t)
    (raise := fun x => raise_image x s)
    (pin := fun _ => .of_eq rfl)
    (pressKey := pressKey_image s)
    (releaseKey := .of_eq (releaseKey_stc s))
    (expireKey := expireKey_image s)
    (clear := fun _ => .of_eq (clearProtect_stc s))
    (reportArrival := .of_eq (reportArrival_stc s))
    (evaluate := fun _ _ => evaluateProtect_image s)

theorem deferredTrip_image (s : State) : ImageKept s s.deferredTrip := by
  have h : ImageKept s (s.setPru { s.pru with deferred := [] }) := .of_eq rfl
  simp only [State.deferredTrip]
  split
  · exact h
  · split
    · exact h.trans (trip_image _ _)
    · exact foldl_induct (P := ImageKept s) _ _ _ h fun x y k => k.trans (raise_image y x)

/-! ### The store in the events of points and sheets -/

theorem pointsRaised_image (n : Nat) (s : State) : ImageKept s (s.pointsRaised n) := by
  unfold State.pointsRaised
  split
  · exact raise_image .point s
  · exact .refl s

theorem completePoint_image (n : Nat) (b : Bool) (i : Fin 64) (r : PointRun) (s : State) : ImageKept s (s.completePoint n b i r) := by
  have h : ImageKept s (((s.setPoint i r).pointNotices (s.ptb.points.get i) i).pointsRaised n) :=
    (ImageKept.of_eq (s := s) (pointNotices_output (s.ptb.points.get i) i (s.setPoint i r)).stc).trans (pointsRaised_image n _)
  simp only [State.completePoint]
  split
  · exact h.trans (.of_eq (SheetEvent.finish (informPoint_sheet i _)).stc)
  · exact h

theorem agePoint_stc (i : Fin 64) (s : State) : (s.agePoint i).stc = s.stc := by
  have h := (pointNotices_output (s.ptb.points.get i) i (s.setPoint i ((s.ptb.points.get i).aged (s.cfg.points.get i)))).stc
  simp only [State.agePoint]
  split
  · exact (requestPoll_output _ _).stc.trans h
  · exact h

theorem ageAll_stc (s : State) : s.ageAll.stc = s.stc := by
  have h1 : (forEach 64 State.agePoint s).stc = s.stc :=
    forEach_induct (P := fun x => x.stc = s.stc) _ _ rfl fun i x h => (agePoint_stc i x).trans h
  refine (SheetEvent.finish (forEachTriggered_sheet _ (fun i x => ?_) _)).stc.trans h1
  simp only
  split
  · exact informPoint_sheet i x
  · exact SheetEvent.refl x

theorem expireCritical_image (sh : Fin 2) (s : State) : ImageKept s (s.expireCritical sh) := by
  simp only [State.expireCritical]
  split
  · exact (ImageKept.of_eq rfl : ImageKept s (s.setSheet sh _)).trans (raise_image _ _)
  · exact .refl s

theorem PointMove.image (h : PointMove s t) : ImageKept s t :=
  h.casesOn (motive := fun t _ => ImageKept s t)
    (update := fun i _ => completePoint_image _ _ i _ s)
    (clearLatch := fun i => completePoint_image _ _ i _ s)
    (age := .of_eq (ageAll_stc s))
    (heldAging := fun _ => .of_eq rfl)
    (popEntry := .of_eq rfl)
    (unbound := fun _ => .of_eq rfl)
    (expireCritical := fun sh => expireCritical_image sh s)

theorem recheckTrigger_image (sh : Fin 2) (s : State) : ImageKept s (s.recheckTrigger sh) := by
  have h (r : SheetRun) : ImageKept s (s.setSheet sh r) := .of_eq rfl
  simp only [State.recheckTrigger]
  split
  · exact (h _).trans (raise_image _ _)
  · exact h _

/-- A WRITE of a sheet up to the test of its critical trip hold: an event of the Sheet Monitor that raises no trigger. -/
def State.sheetRewritten (sh : Fin 2) (s : State) : Triggered :=
  let old := s.shm.get sh
  let r := s.rewrittenSheet sh
  let x := s.putSheet false sh r
  let y := if r.state == .off && old.state == .resurface then x.and (State.informFlood sh false) else x
  y.triggerIf (r.state == .off && old.state == .covered)

theorem sheetWritten_eq (sh : Fin 2) (s : State) :
    s.sheetWritten sh = ((s.sheetRewritten sh).finish.recheckTrigger sh).evaluateHeave sh := rfl

theorem sheetRewritten_sheet (sh : Fin 2) (s : State) : SheetEvent s (s.sheetRewritten sh).state := by
  have h := putSheet_sheet false sh (s.rewrittenSheet sh) s
  simp only [State.sheetRewritten, Triggered.triggerIf_state]
  split
  · exact h.and (informFlood_zone sh false _).sheet
  · exact h

theorem sheetWritten_image (sh : Fin 2) (s : State) : ImageKept s (s.sheetWritten sh) := by
  rewrite [sheetWritten_eq]
  exact ((ImageKept.of_eq (sheetRewritten_sheet sh s).finish.stc).trans (recheckTrigger_image sh _)).trans
    (.of_eq (evaluateHeave_sheet sh _).stc)

theorem loadSheet_image (sh : Fin 2) (s : State) : ImageKept s (s.loadSheet sh).state :=
  ((ImageKept.of_eq ((setSheet_sheet sh _ s).trans (sheetNotice_heat _ sh _).sheet).stc).trans (recheckTrigger_image sh _)).trans
    (.of_eq (evaluateHeave_sheet sh _).stc)

theorem takeMode_stc (m : ArenaMode) (s : State) : (s.takeMode m).stc = s.stc :=
  (recallEntryScene_light _).stc.trans ((recomputeDemands_zone _).stc.trans
    (recomputeKinds_heat [.stands] (s.setScu { s.scu with mode := m })).stc)

theorem changeMode_stc (m : ArenaMode) (s : State) : (s.changeMode m).stc = s.stc :=
  (notice_heat ..).stc.trans ((settleRemotes_heat _ _).stc.trans ((passTrigger_heat _).stc.trans (takeMode_stc m s)))

theorem ScheduleMove.stc (h : ScheduleMove s t) : t.stc = s.stc :=
  h.casesOn (motive := fun t _ => t.stc = s.stc)
    (changeMode := fun m => changeMode_stc m s)
    (clock := fun _ _ => rfl)
    (remove := fun _ => rfl)
    (insert := fun _ _ _ => rfl)

theorem takeImage_image (b : Bool) (c : Configuration) (s : State) : ImageKept s (s.takeImage b c) := by
  have h1 : ImageKept s (((s.setCfg c).loadPoints).applyLineWhenIdle b) := .of_eq (applyLineWhenIdle_frame b _).stc
  have h2 := (h1.trans (loadSheet_image 0 _)).trans (loadSheet_image 1 _)
  have h3 := (h2.trans (.of_eq (loadZones_zone s.cfg _).stc)).trans (.of_eq (recompute_heat (fun _ => true) _).stc)
  have h4 := (h3.trans (.of_eq (loadChannels_light _).stc)).trans (.of_eq (loadOutputs_event _).stc)
  exact h4.trans (.of_eq (passes_heat false _ _).stc)

theorem profileWritten_stc (i : Fin 5) (p : Profile) (s : State) : (s.profileWritten i p).stc = s.stc := by
  have hk (b : Prop) [Decidable b] (x : State) : (if b then x.recomputeKinds [.stands] else x).stc = x.stc := by
    split
    · exact (recomputeKinds_heat _ x).stc
    · rfl
  simp only [State.profileWritten]
  split
  · rfl
  · split
    · exact ((recomputeDemands_zone _).trans (handRemotes_heat _).zone).stc.trans (hk _ _)
    · exact hk _ _

theorem sinkWritten_stc (i : Fin 12) (c : SinkConfig) (s : State) : (s.sinkWritten i c).stc = s.stc := by
  have h1 : ((s.setCfg { s.cfg with sinks := s.cfg.sinks.set i c }).recomputeSink i).stc = s.stc := rfl
  simp only [State.sinkWritten]
  refine (settleRemotes_heat _ _).stc.trans ((passTrigger_heat _).stc.trans ?_)
  split
  · exact (handOn_heat _ _).stc.trans h1
  · exact h1

theorem WriteMove.image (h : WriteMove s t) : ImageKept s t :=
  h.casesOn (motive := fun t _ => ImageKept s t)
    (point := fun i c _ _ => (ImageKept.of_eq rfl : ImageKept s (s.setCfg { s.cfg with points := s.cfg.points.set i c })).trans
        (completePoint_image _ _ i _ _))
    (bus := fun receiving _ _ => .of_eq (applyLineWhenIdle_frame receiving _).stc)
    (window := fun _ _ _ => .of_eq rfl)
    (sheet := fun sh c _ => (ImageKept.of_eq rfl : ImageKept s (s.setCfg { s.cfg with sheets := s.cfg.sheets.set sh c })).trans (sheetWritten_image sh _))
    (zone := fun z _ _ => .of_eq (zoneWritten_zone _ z _).stc)
    (sink := fun i c _ => .of_eq (sinkWritten_stc i c s))
    (allocator := fun _ _ => .of_eq rfl)
    (channel := fun i _ _ => .of_eq (channelWritten_light _ i _).stc)
    (scene := fun _ _ _ => .of_eq rfl)
    (output := fun i _ w _ => .of_eq (outputWritten_event w i _).stc)
    (stage := fun _ _ => .of_eq ((handOn_heat _ _).trans (handRemotes_heat _)).stc)
    (remote := fun i _ w _ => .of_eq (remoteWritten_event w i _).stc)
    (profile := fun i p _ => .of_eq (profileWritten_stc i p s))
    (protect := fun _ _ => .of_eq rfl)
    (notice := fun _ _ => .of_eq rfl)

/-! ### The configuration -/

theorem Table.all_set {α : Type} {n : Nat} {p : α → Bool} {x : Table α n} (h : x.all p = true) (i : Fin n) {a : α} (ha : p a = true) :
    (x.set i a).all p = true := by
  rewrite [Table.all_iff] at h ⊢
  intro j
  rewrite [Table.get_set]
  split
  · exact ha
  · exact h j

theorem Configuration.default_valid : defaultConfiguration.Valid := by
  refine ⟨by decide +kernel, fun i j _ hb => ?_⟩
  have hn : (defaultConfiguration.points.get i).binding = .none := congrArg PointConfig.binding (Table.get_const ({} : PointConfig) i)
  rw [hn] at hb
  cases hb

/-- A new point record whose identity no other BUS point holds keeps the identities unique (R2). -/
theorem identitiesUnique_set {c : PointConfig} {i : Fin 64} (h : s.cfg.identitiesUnique) (free : s.identityTaken i c = false) :
    ({ s.cfg with points := s.cfg.points.set i c } : Configuration).identitiesUnique := by
  have other (j : Fin 64) (hj : j ≠ i) (hc : c.binding = .bus) (hb : (s.cfg.points.get j).binding = .bus) :
      ¬ ((s.cfg.points.get j).node = c.node ∧ (s.cfg.points.get j).point = c.point) := by
    intro hid
    simp only [State.identityTaken, hc, beq_self_eq_true, Bool.true_and, List.any_eq_false, List.mem_finRange, forall_const] at free
    simpa [hj, hb, hid.1, hid.2] using free j
  intro a b hab ha hb
  simp only [Table.get_set] at ha hb ⊢
  split at ha <;> split at hb
  · next e f => exact absurd (e.symm.trans f) hab
  · next e f =>
    rewrite [if_pos e, if_neg f]
    exact fun k => other b (Ne.symm f) ha hb ⟨k.1.symm, k.2.symm⟩
  · next e f =>
    rewrite [if_neg e, if_pos f]
    exact other a (Ne.symm e) hb ha
  · next e f =>
    rewrite [if_neg e, if_neg f]
    exact h a b hab ha hb

/-- An accepted WRITE leaves a valid configuration. -/
theorem WriteMove.valid (h : WriteMove s t) (hs : s.cfg.Valid) : t.cfg.Valid := by
  obtain ⟨ranges, ids⟩ := hs
  have hr := ranges
  simp only [Configuration.inRange, Bool.and_eq_true] at hr
  obtain ⟨⟨⟨⟨⟨⟨⟨⟨⟨⟨⟨⟨⟨⟨points, windows⟩, bus⟩, sheets⟩, zones⟩, sinks⟩, allocator⟩, channels⟩, scenes⟩, outputs⟩, full⟩, remotes⟩,
    profiles⟩, protect⟩, notice⟩ := hr
  cases h with
  | point i c h free =>
    rewrite [show (s.writePoint i c).cfg = _ from (completePoint_inner _ _ i _ _).1.setup.cfg]
    exact ⟨by simp [Configuration.inRange, *, Table.all_set points i h], identitiesUnique_set ids free⟩
  | bus receiving c h =>
    rewrite [(applyLineWhenIdle_frame receiving _).setup.cfg]
    exact ⟨by simp [Configuration.inRange, *], ids⟩
  | window i c h => exact ⟨by simp [Configuration.inRange, *, Table.all_set windows i h], ids⟩
  | sheet sh c h =>
    rewrite [(sheetWritten_inner sh _).1.setup.cfg]
    exact ⟨by simp [Configuration.inRange, *, Table.all_set sheets sh h], ids⟩
  | zone z c h =>
    rewrite [(zoneWritten_zone _ z _).inner.setup.cfg]
    exact ⟨by simp [Configuration.inRange, *, Table.all_set zones z h], ids⟩
  | sink i c h =>
    rewrite [(sinkWritten_setup i c s).cfg]
    exact ⟨by simp [Configuration.inRange, *, Table.all_set sinks i h], ids⟩
  | allocator c h => exact ⟨by simp [Configuration.inRange, *], ids⟩
  | channel i c h =>
    rewrite [(channelWritten_light _ i _).inner.setup.cfg]
    exact ⟨by simp [Configuration.inRange, *, Table.all_set channels i h], ids⟩
  | scene i c h => exact ⟨by simp [Configuration.inRange, *, Table.all_set scenes i h], ids⟩
  | output i c w h =>
    rewrite [(outputWritten_event w i _).inner.setup.cfg]
    exact ⟨by simp [Configuration.inRange, *, Table.all_set outputs i h], ids⟩
  | stage full h =>
    rewrite [((handOn_heat _ _).trans (handRemotes_heat _)).inner.setup.cfg]
    exact ⟨by simp [Configuration.inRange, *], ids⟩
  | remote i c w h =>
    rewrite [(remoteWritten_event w i _).inner.setup.cfg]
    exact ⟨by simp [Configuration.inRange, *, Table.all_set remotes i h], ids⟩
  | profile i p h =>
    rewrite [(profileWritten_setup i p s).cfg]
    exact ⟨by simp [Configuration.inRange, *, Table.all_set profiles i h], ids⟩
  | protect p h => exact ⟨by simp [Configuration.inRange, *], ids⟩
  | notice c h => exact ⟨by simp [Configuration.inRange, *], ids⟩

/-! ### The invariant -/

/-- Where image and saved configuration stay, a valid running configuration is enough. -/
theorem ConfigurationsValid.of_image (hs : ConfigurationsValid s) (hc : t.cfg.Valid) (hi : ImageKept s t) : ConfigurationsValid t := by
  refine ⟨hc, fun x hx => hs.image x ?_, fun c h => hs.saving c ?_⟩
  · rw [← hi.image, hx]
  · rw [← hi.saving, h]

theorem ConfigurationsValid.of_kept (hs : ConfigurationsValid s) (hc : t.cfg = s.cfg) (hi : ImageKept s t) : ConfigurationsValid t :=
  hs.of_image (by rw [hc]; exact hs.running) hi

theorem ScheduleMove.cfg (h : ScheduleMove s t) : t.cfg = s.cfg :=
  h.casesOn (motive := fun t _ => t.cfg = s.cfg)
    (changeMode := fun m => (changeMode_inner m s).setup.cfg)
    (clock := fun _ _ => rfl)
    (remove := fun _ => rfl)
    (insert := fun _ _ _ => rfl)

theorem StoreMove.configurationsValid (h : StoreMove s t) (hs : ConfigurationsValid s) : ConfigurationsValid t :=
  h.casesOn (motive := fun t _ => ConfigurationsValid t)
    (capture := fun _ => hs.of_kept rfl (capture_image [] s))
    (beginSave := fun _ _ => ⟨hs.running, hs.image, fun c hc => Option.some.inj hc ▸ hs.running⟩)
    (beginLoad := fun _ _ _ => hs.of_kept rfl ⟨rfl, rfl⟩)
    (endSave := fun check => by
      unfold State.endSave
      split
      · have hw := Stc.beginWrite_image (s.stc.afterSave check)
        refine ⟨hs.running, fun x hx => ?_, fun c hc => ?_⟩
        · obtain ⟨c, hc, rfl⟩ := Option.map_eq_some_iff.mp ((hw.1.symm.trans hx : s.stc.saving.map _ = some x))
          exact hs.saving c hc
        · cases (hw.2.symm.trans hc : none = some c)
      · exact hs)
    (endSnapshot := fun _ => by
      unfold State.endSnapshot
      split
      · exact hs.of_kept rfl ⟨rfl, rfl⟩
      · exact hs)

theorem resetBlocks_image (c : Configuration) (s : State) : ImageKept s (s.resetBlocks c).samplePins :=
  .of_eq (samplePins_stc (s.resetBlocks c))

theorem samplePins_cfg (s : State) : s.samplePins.cfg = s.cfg := (sampleHand_frame _ s).setup.cfg

theorem PhaseMove.configurationsValid (h : PhaseMove s t) (hs : ConfigurationsValid s) : ConfigurationsValid t :=
  h.casesOn (motive := fun t _ => ConfigurationsValid t)
    (beginSettle := fun _ _ => by
      refine ⟨Configuration.default_valid, fun x hx => hs.image x ?_, fun c hc => ?_⟩
      · simp only [State.beginSettle, Stc.afterReset] at hx
        split at hx
        · cases hx
        · exact hx
      · cases hc)
    (resetBlocks := fun c _ hc => by
      have hv : c.Valid := by
        rcases hc with rfl | hc
        · exact Configuration.default_valid
        · exact Stc.goodImage_valid hs hc
      have he : (s.resetBlocks c).samplePins.cfg = c := samplePins_cfg _
      exact hs.of_image (by rw [he]; exact hv) (resetBlocks_image c s))
    (run := fun _ => hs.of_kept rfl ⟨rfl, rfl⟩)
    (passMs := hs.of_kept rfl ⟨rfl, rfl⟩)
    (passSecond := hs.of_kept rfl ⟨rfl, rfl⟩)

theorem LoadMove.configurationsValid (h : LoadMove s t) (hs : ConfigurationsValid s) : ConfigurationsValid t :=
  h.casesOn (motive := fun t _ => ConfigurationsValid t)
    (takeImage := fun receiving c _ hc => by
      have he : (s.takeImage receiving c).cfg = c := (takeImage_setup receiving c s).cfg
      exact hs.of_image (by rw [he]; exact Stc.goodImage_valid hs hc) (takeImage_image receiving c s))
    (ends := hs.of_kept rfl ⟨rfl, rfl⟩)
    (deferredTrip := hs.of_kept (deferredTrip_protect s).inner.setup.cfg (deferredTrip_image s))
    (evaluate := fun _ => hs.of_kept (evaluateProtect_protect s).inner.setup.cfg (evaluateProtect_image s))

theorem Move.configurationsValid (h : Move s t) (hs : ConfigurationsValid s) : ConfigurationsValid t :=
  h.casesOn (motive := fun _ => ConfigurationsValid t)
    (link := fun h => hs.of_kept h.blocks.cfg (.of_eq h.blocks.stc))
    (bus := fun h => hs.of_kept h.frame.setup.cfg (.of_eq h.frame.stc))
    (light := fun h => hs.of_kept h.event.inner.setup.cfg (.of_eq h.event.stc))
    (output := fun h => hs.of_kept h.event.inner.setup.cfg (.of_eq h.event.stc))
    (heat := fun h => hs.of_kept h.event.inner.setup.cfg (.of_eq h.event.stc))
    (sheet := fun h => hs.of_kept h.event.inner.setup.cfg (.of_eq h.event.stc))
    (protect := fun h => hs.of_kept h.event.inner.setup.cfg h.image)
    (point := fun h => hs.of_kept h.setup.cfg h.image)
    (schedule := fun h => hs.of_kept h.cfg (.of_eq h.stc))
    (store := fun h => h.configurationsValid hs)
    (write := fun h => hs.of_image (h.valid hs.running) h.image)
    (phase := fun h => h.configurationsValid hs)

theorem Piece.configurationsValid (h : Piece s t) (hs : ConfigurationsValid s) : ConfigurationsValid t :=
  h.casesOn (motive := fun _ => ConfigurationsValid t)
    (move := fun h => h.configurationsValid hs)
    (load := fun h => h.configurationsValid hs)

end Valid

/-- Settles O51: a step is a chain of pieces; the running configuration moves by accepted records, resets to the defaults and a good
image alone, and the image is the configuration that a SAVE took. -/
theorem configurationsValidKept : Obligations.ConfigurationsValidKept :=
  fun _ _ hs h => step_keeps_pieces (fun _ _ h => ⟨h.running, h.image, h.saving⟩) (fun _ _ hx hp => hp.configurationsValid hx) hs h

/-! PROOF. A sheet is in RESURFACE only while its hold runs, on its frozen budget (R56): only the Sheet Monitor writes these fields. -/

section Resurface

variable {s t u : State}

/-! ### One record -/

/-- State, hold, frozen budget and budget are all the invariant looks at. -/
theorem SheetRun.ResurfaceKept.of_fields {r r' : SheetRun} (h : r.ResurfaceKept) (h1 : r'.state = r.state) (h2 : r'.hold = r.hold)
    (h3 : r'.frozen = r.frozen) (h4 : r'.budget = r.budget) : r'.ResurfaceKept := by
  obtain ⟨during, outside, finite⟩ := h
  refine ⟨?_, ?_, ?_⟩ <;> rw [h1]
  · rw [h2, h3, h4]; exact during
  · rw [h2, h3]; exact outside
  · rw [h4]; exact finite

/-- A record that an evaluation leaves, into RESURFACE only from RESURFACE. -/
theorem SheetRun.ResurfaceKept.enter {r : SheetRun} (h : r.ResurfaceKept) (c : SheetConfig) {x : SheetState} (t : Option Int)
    (src : TempSource) (hx : x = .resurface → r.state = .resurface) : (r.enter c x t src).ResurfaceKept := by
  by_cases hr : x = .resurface
  · obtain ⟨hold, w, hf, -⟩ := h.during (hx hr)
    subst hr
    exact ⟨fun _ => ⟨hold, w, hf, by simp [SheetRun.enter, budgetOf, hf]⟩, fun k => absurd rfl k,
      fun k => by rcases k with k | k <;> cases k⟩
  · refine ⟨fun k => absurd k hr, fun _ => by simp [SheetRun.enter, hr], fun k => ?_⟩
    rcases (k : x = .normal ∨ x = .soft) with rfl | rfl
    · exact ⟨_, rfl⟩
    · exact ⟨_, rfl⟩

/-- A record in none of the three states that the invariant speaks of. -/
theorem SheetRun.ResurfaceKept.other {r : SheetRun} (h1 : r.state ≠ .resurface) (h2 : r.state ≠ .normal) (h3 : r.state ≠ .soft)
    (hold : r.hold = 0) (hf : r.frozen = none) : r.ResurfaceKept :=
  ⟨fun k => absurd k h1, fun _ => ⟨hold, hf⟩, fun k => (k.elim h2 h3).elim⟩

theorem nextSheetState_ne_resurface (c : SheetConfig) {x : SheetState} (t : Int) : nextSheetState c x t ≠ .resurface := by
  unfold nextSheetState
  split_ifs <;> exact fun h => nomatch h

theorem evaluatedState_resurface {c : SheetConfig} {x : SheetState} {t : Option Int} {src : TempSource}
    (h : evaluatedState c x t src = .resurface) : x = .resurface := by
  unfold evaluatedState at h
  split at h
  iterate 3
    · split at h
      · exact absurd h (nextSheetState_ne_resurface c _)
      · cases h
  · exact absurd h (freshState_ne_resurface c t src)
  · rfl
  · cases h
  · cases h

/-! ### The records of both sheets -/

theorem ResurfaceKept.of_kept (hs : ResurfaceKept s) (h : SheetsKept s t) : ResurfaceKept t := fun sh =>
  (hs sh).of_fields (by rw [h sh]) (by rw [h sh]) (by rw [h sh]) (by rw [h sh])

theorem ResurfaceKept.of_eq (hs : ResurfaceKept s) (h : t.shm = s.shm) : ResurfaceKept t := hs.of_kept (SheetsKept.of_eq h)

theorem ResurfaceKept.setSheet (hs : ResurfaceKept s) {sh : Fin 2} {r : SheetRun} (h : r.ResurfaceKept) :
    ResurfaceKept (s.setSheet sh r) := by
  intro k
  rewrite [State.setSheet_shm, Table.get_set]
  split
  · exact h
  · exact hs k

theorem ResurfaceKept.evaluated (hs : ResurfaceKept s) (sh : Fin 2) : (s.evaluatedSheet sh).ResurfaceKept :=
  (hs sh).enter _ _ _ evaluatedState_resurface

theorem ResurfaceKept.fresh (hs : ResurfaceKept s) (sh : Fin 2) : (s.freshSheet sh).ResurfaceKept :=
  (hs sh).enter _ _ _ fun h => absurd h (freshState_ne_resurface _ _ _)

theorem ResurfaceKept.rewritten (hs : ResurfaceKept s) (sh : Fin 2) : (s.rewrittenSheet sh).ResurfaceKept := by
  simp only [State.rewrittenSheet]
  split
  · exact hs.fresh sh
  · exact hs sh
  · exact hs sh
  · exact hs.evaluated sh
  · exact hs sh
  · exact ((hs sh).enter (s.cfg.sheets.get sh) none .none (x := .off) fun h => nomatch h).of_fields rfl rfl rfl rfl

/-! ### Operations of the Sheet Monitor -/

theorem ResurfaceKept.putSheet (hs : ResurfaceKept s) (b : Bool) {sh : Fin 2} {r : SheetRun} (h : r.ResurfaceKept) :
    ResurfaceKept (s.putSheet b sh r).state :=
  (hs.setSheet h).of_kept ((sheetNotice_heat _ sh _).trans (handAlarm_heat _ sh _)).shm

theorem ResurfaceKept.evaluateHeave (hs : ResurfaceKept s) (sh : Fin 2) : ResurfaceKept (s.evaluateHeave sh) := by
  have h (x : Heave) : ResurfaceKept (s.setSheet sh { s.shm.get sh with heave := x }) :=
    hs.setSheet ((hs sh).of_fields rfl rfl rfl rfl)
  simp only [State.evaluateHeave]
  split
  · exact hs
  · exact (h _).of_kept (recomputeKinds_heat _ _).shm

theorem ResurfaceKept.informSheets (hs : ResurfaceKept s) (p : Nat) : ResurfaceKept (s.informSheets p).state := by
  refine forEachTriggered_induct _ s hs fun sh x hx => ?_
  have he : ResurfaceKept (if (x.cfg.sheets.get sh).surfaces.contains p || (x.cfg.sheets.get sh).brine == some p
      then x.evaluateSheet sh else ⟨x, 0⟩).state := by
    split
    · exact hx.putSheet false (hx.evaluated sh)
    · exact hx
  simp only
  split
  · exact he.evaluateHeave sh
  · exact he

theorem ResurfaceKept.finish {x : Triggered} (hs : ResurfaceKept x.state) : ResurfaceKept x.finish :=
  hs.of_kept x.finish_heat.shm

theorem ResurfaceKept.informPoint (hs : ResurfaceKept s) (p : Fin 64) : ResurfaceKept (s.informPoint p).state := by
  have h := (hs.informSheets p.val).of_kept (informZones_zone p.val _).shm
  simp only [State.informPoint, Triggered.andThen_state, Triggered.and_state]
  exact h.of_kept (informSinks_heat p.val _).shm

theorem ResurfaceKept.setTank (hs : ResurfaceKept s) (sh : Fin 2) (n : Nat) : ResurfaceKept (s.setTank sh n) := by
  have h : ResurfaceKept (s.setSheet sh { s.shm.get sh with tank := n }) := hs.setSheet ((hs sh).of_fields rfl rfl rfl rfl)
  exact h.of_eq (by rw [setTank_eq]; rfl)

theorem SheetRun.ResurfaceKept.started {r : SheetRun} (hst : r.state = .resurface) {w : Nat} (hold : 1 ≤ r.hold)
    (hf : r.frozen = some w) (hb : r.budget = .watts w) : r.ResurfaceKept :=
  ⟨fun _ => ⟨hold, w, hf, hb⟩, fun k => absurd hst k, fun k => by rw [hst] at k; rcases k with k | k <;> cases k⟩

/-- A start freezes the budget, and its hold is never 0 (R54). -/
theorem ResurfaceKept.resurface (hs : ResurfaceKept s) {sh : Fin 2} (hold : 1 ≤ (s.cfg.sheets.get sh).resurfaceHold)
    (h : s.resurface sh = some t) : ResurfaceKept t := by
  have goes (hst : (s.shm.get sh).state = .normal ∨ (s.shm.get sh).state = .soft) : ResurfaceKept t := by
    obtain ⟨w, hw⟩ := (hs sh).finite hst
    rewrite [resurface_start hst hw, Option.some.injEq] at h
    have h1 : ResurfaceKept (s.resurfaceSet sh w) := 
      (hs.setSheet (r := (s.shm.get sh).resurfacing (s.cfg.sheets.get sh) w) (.started rfl hold rfl hw)).setTank sh _
    have h2 := ResurfaceKept.finish (h1.of_kept (informFlood_zone sh true _).shm)
    exact h ▸ h2.of_kept (sheetNotice_heat _ sh _).shm
  cases hst : (s.shm.get sh).state with
  | normal => exact goes (.inl hst)
  | soft => exact goes (.inr hst)
  | resurface =>
    obtain ⟨-, w, hf, hb⟩ := (hs sh).during hst
    rewrite [resurface_repeat hst, Option.some.injEq] at h
    have h1 : ResurfaceKept (s.holdAgain sh) := hs.setSheet (.started hst hold hf hb)
    exact h ▸ h1.setTank sh _
  | critical => cases (resurface_refused (.inl hst)).symm.trans h
  | blind => cases (resurface_refused (.inr (.inl hst))).symm.trans h
  | covered => cases (resurface_refused (.inr (.inr (.inl hst)))).symm.trans h
  | off => cases (resurface_refused (.inr (.inr (.inr hst)))).symm.trans h

theorem ResurfaceKept.endResurface (hs : ResurfaceKept s) (sh : Fin 2) : ResurfaceKept (s.endResurface sh) := by
  have h := (hs.of_kept (informFlood_zone sh false s).shm).putSheet true (sh := sh) (hs.fresh sh)
  rewrite [endResurface_eq]
  exact ResurfaceKept.finish h

/-- The record of a sheet under its cover (R59). -/
def SheetRun.underCover (r : SheetRun) : SheetRun :=
  { r with state := .covered, budget := .unlimited, criticalTime := 0, trigger := false }

/-- COVER on from a state that it covers. -/
theorem coverOn_some {sh : Fin 2} (h : s.coverOn sh = some t) :
    (s.shm.get sh).state = .covered ∧ t = s ∨ (s.shm.get sh).state ≠ .resurface ∧
      t = (Triggered.finish ⟨(s.setSheet sh (s.shm.get sh).underCover).handAlarm (s.shm.get sh).state sh, 1⟩).sheetNotice
        (s.shm.get sh).state sh := by
  unfold State.coverOn at h
  dsimp only at h
  split at h
  iterate 4
    next hst => exact .inr ⟨by rw [hst]; decide, (Option.some.inj h).symm⟩
  · next hst => exact .inl ⟨hst, (Option.some.inj h).symm⟩
  · cases h

theorem ResurfaceKept.coverOn (hs : ResurfaceKept s) {sh : Fin 2} (h : s.coverOn sh = some t) : ResurfaceKept t := by
  rcases coverOn_some h with ⟨-, rfl⟩ | ⟨hst, rfl⟩
  · exact hs
  · obtain ⟨hold, hf⟩ := (hs sh).outside hst
    have hr : (s.shm.get sh).underCover.ResurfaceKept := .other (fun k => nomatch k) (fun k => nomatch k) (fun k => nomatch k) hold hf
    have h1 := (hs.setSheet (sh := sh) hr).of_kept (handAlarm_heat (s.shm.get sh).state sh _).shm
    exact (ResurfaceKept.finish (x := ⟨(s.setSheet sh (s.shm.get sh).underCover).handAlarm (s.shm.get sh).state sh, 1⟩) h1).of_kept
      (sheetNotice_heat _ sh _).shm

theorem ResurfaceKept.coverOff (hs : ResurfaceKept s) {sh : Fin 2} (h : s.coverOff sh = some t) : ResurfaceKept t := by
  have hf : ResurfaceKept ((s.setSheet sh (s.freshSheet sh)).handAlarm (s.shm.get sh).state sh) :=
    (hs.setSheet (hs.fresh sh)).of_kept (handAlarm_heat _ sh _).shm
  unfold State.coverOff at h
  dsimp only at h
  split at h
  · exact Option.some.inj h ▸ (ResurfaceKept.finish (x := Triggered.triggerIf _ ⟨_, 1⟩) hf).of_kept (sheetNotice_heat _ sh _).shm
  · cases h

theorem ResurfaceKept.expireTank (hs : ResurfaceKept s) (sh : Fin 2) : ResurfaceKept (s.expireTank sh) := by
  unfold State.expireTank
  split
  · exact hs
  · exact hs.setTank sh 0

theorem ResurfaceKept.recheckTrigger (hs : ResurfaceKept s) (sh : Fin 2) : ResurfaceKept (s.recheckTrigger sh) := by
  have h (b : Bool) : ResurfaceKept (s.setSheet sh { s.shm.get sh with trigger := b }) :=
    hs.setSheet ((hs sh).of_fields rfl rfl rfl rfl)
  simp only [State.recheckTrigger]
  split
  · exact (h _).of_kept (raise_protect _ _).shm
  · exact h _

theorem ResurfaceKept.sheetWritten (hs : ResurfaceKept s) (sh : Fin 2) : ResurfaceKept (s.sheetWritten sh) := by
  have h : ResurfaceKept (s.sheetRewritten sh).state := by
    have hp := hs.putSheet false (sh := sh) (hs.rewritten sh)
    simp only [State.sheetRewritten, Triggered.triggerIf_state]
    split
    · rewrite [Triggered.and_state]
      exact hp.of_kept (informFlood_zone sh false _).shm
    · exact hp
  rewrite [sheetWritten_eq]
  exact ((ResurfaceKept.finish h).recheckTrigger sh).evaluateHeave sh

theorem ResurfaceKept.loadSheet (hs : ResurfaceKept s) (sh : Fin 2) : ResurfaceKept (s.loadSheet sh).state := by
  have h {r : SheetRun} (hr : r.ResurfaceKept) : ResurfaceKept
      (((s.setSheet sh r).sheetNotice (s.shm.get sh).state sh).recheckTrigger sh |>.evaluateHeave sh) :=
    (((hs.setSheet hr).of_kept (sheetNotice_heat _ sh _).shm).recheckTrigger sh).evaluateHeave sh
  simp only [State.loadSheet, Triggered.triggerIf_state]
  refine h ?_
  split
  · exact (hs.rewritten sh).of_fields rfl rfl rfl rfl
  · exact hs.rewritten sh

theorem ResurfaceKept.expireCritical (hs : ResurfaceKept s) (sh : Fin 2) : ResurfaceKept (s.expireCritical sh) := by
  have h (n : Nat) : ResurfaceKept (s.setSheet sh { s.shm.get sh with criticalTime := n, trigger := true }) :=
    hs.setSheet ((hs sh).of_fields rfl rfl rfl rfl)
  simp only [State.expireCritical]
  split
  · exact (h _).of_kept (raise_protect _ _).shm
  · exact hs

/-! ### Operations of the Point Table -/

theorem ResurfaceKept.completePoint (hs : ResurfaceKept s) (n : Nat) (b : Bool) (i : Fin 64) (r : PointRun) :
    ResurfaceKept (s.completePoint n b i r) := by
  have h : ResurfaceKept (((s.setPoint i r).pointNotices (s.ptb.points.get i) i).pointsRaised n) :=
    (hs.of_eq (t := (s.setPoint i r).pointNotices (s.ptb.points.get i) i)
      (pointNotices_output (s.ptb.points.get i) i (s.setPoint i r)).shm).of_kept (pointsRaised_protect n _).shm
  simp only [State.completePoint]
  split
  · exact ResurfaceKept.finish (h.informPoint i)
  · exact h

theorem agePoint_shm (i : Fin 64) (s : State) : (s.agePoint i).shm = s.shm := by
  have h := (pointNotices_output (s.ptb.points.get i) i (s.setPoint i ((s.ptb.points.get i).aged (s.cfg.points.get i)))).shm
  simp only [State.agePoint]
  split
  · exact (requestPoll_output _ _).shm.trans h
  · exact h

theorem ResurfaceKept.ageAll (hs : ResurfaceKept s) : ResurfaceKept s.ageAll := by
  have h1 : ResurfaceKept (forEach 64 State.agePoint s) :=
    forEach_induct _ s hs fun i x hx => hx.of_eq (agePoint_shm i x)
  refine ResurfaceKept.finish (forEachTriggered_induct _ _ h1 fun i x hx => ?_)
  simp only
  split
  · exact hx.informPoint i
  · exact hx

/-! ### The moves -/

theorem hold_pos {c : Configuration} (h : c.Valid) (sh : Fin 2) : 1 ≤ (c.sheets.get sh).resurfaceHold := by
  have hr := h.ranges
  simp only [Configuration.inRange, Bool.and_eq_true, Table.all_iff] at hr
  obtain ⟨⟨⟨⟨⟨⟨⟨⟨⟨⟨⟨⟨⟨⟨-, -⟩, -⟩, sheets⟩, -⟩, -⟩, -⟩, -⟩, -⟩, -⟩, -⟩, -⟩, -⟩, -⟩, -⟩ := hr
  have hv := sheets sh
  simp only [SheetConfig.valid, Bool.and_eq_true, within_iff] at hv
  omega

theorem SheetMove.resurfaceKept (h : SheetMove s t) (hc : s.cfg.Valid) (hs : ResurfaceKept s) : ResurfaceKept t :=
  h.casesOn (motive := fun t _ => ResurfaceKept t)
    (resurface := fun _ sh h => hs.resurface (hold_pos hc sh) h)
    (endResurface := fun sh => hs.endResurface sh)
    (coverOn := fun _ _ h => hs.coverOn h)
    (coverOff := fun _ _ h => hs.coverOff h)
    (expireTank := fun sh => hs.expireTank sh)

theorem PointMove.resurfaceKept (h : PointMove s t) (hs : ResurfaceKept s) : ResurfaceKept t :=
  h.casesOn (motive := fun t _ => ResurfaceKept t)
    (update := fun i _ => hs.completePoint _ _ i _)
    (clearLatch := fun i => hs.completePoint _ _ i _)
    (age := hs.ageAll)
    (heldAging := fun _ => hs.of_eq rfl)
    (popEntry := hs.of_eq rfl)
    (unbound := fun _ => hs.of_eq rfl)
    (expireCritical := fun sh => hs.expireCritical sh)

theorem takeMode_shm (m : ArenaMode) (s : State) : SheetsKept s (s.takeMode m) :=
  (((recomputeKinds_heat [.stands] (s.setScu { s.scu with mode := m })).zone.trans (recomputeDemands_zone _)).shm).trans
    (SheetsKept.of_eq (recallEntryScene_light _).shm)

theorem changeMode_shm (m : ArenaMode) (s : State) : SheetsKept s (s.changeMode m) :=
  (takeMode_shm m s).trans (((passTrigger_heat _).trans (settleRemotes_heat _ _)).trans (notice_heat ..)).shm

theorem ScheduleMove.shm (h : ScheduleMove s t) : SheetsKept s t :=
  h.casesOn (motive := fun t _ => SheetsKept s t)
    (changeMode := fun m => changeMode_shm m s)
    (clock := fun _ _ => .of_eq rfl)
    (remove := fun _ => .of_eq rfl)
    (insert := fun _ _ _ => .of_eq rfl)

theorem StoreMove.shm (h : StoreMove s t) : t.shm = s.shm :=
  h.casesOn (motive := fun t _ => t.shm = s.shm)
    (capture := fun _ => rfl)
    (beginSave := fun _ _ => rfl)
    (beginLoad := fun _ _ _ => rfl)
    (endSave := fun _ => by
      unfold State.endSave
      split <;> rfl)
    (endSnapshot := fun _ => by
      unfold State.endSnapshot
      split <;> rfl)

theorem profileWritten_shm (i : Fin 5) (p : Profile) (s : State) : SheetsKept s (s.profileWritten i p) := by
  have hk (b : Prop) [Decidable b] (x : State) : ZoneEvent x (if b then x.recomputeKinds [.stands] else x) := by
    split
    · exact (recomputeKinds_heat _ x).zone
    · exact .refl x
  have h0 : SheetsKept s (s.setCfg { s.cfg with profiles := s.cfg.profiles.set i p }) := .of_eq rfl
  simp only [State.profileWritten]
  split
  · exact h0
  · split
    · exact h0.trans ((hk _ _).trans ((recomputeDemands_zone _).trans (handRemotes_heat _).zone)).shm
    · exact h0.trans (hk _ _).shm

theorem sinkWritten_shm (i : Fin 12) (c : SinkConfig) (s : State) : SheetsKept s (s.sinkWritten i c) := by
  have h1 : SheetsKept s ((s.setCfg { s.cfg with sinks := s.cfg.sinks.set i c }).recomputeSink i) := .of_eq rfl
  simp only [State.sinkWritten]
  refine SheetsKept.trans ?_ (settleRemotes_heat _ _).shm
  split
  · exact h1.trans ((handOn_heat _ _).trans (passTrigger_heat _)).shm
  · exact h1.trans (passTrigger_heat _).shm

theorem WriteMove.resurfaceKept (h : WriteMove s t) (hs : ResurfaceKept s) : ResurfaceKept t := by
  have written (c : Configuration) : ResurfaceKept (s.setCfg c) := hs.of_eq rfl
  cases h with
  | point i c _ _ => exact (written { s.cfg with points := s.cfg.points.set i c }).completePoint _ _ i _
  | bus receiving c _ => exact (written _).of_eq (applyLineWhenIdle_frame receiving _).shm
  | window i c _ => exact written _
  | sheet sh c _ => exact (written _).sheetWritten sh
  | zone z c _ => exact (written _).of_kept (zoneWritten_zone _ z _).shm
  | sink i c _ => exact hs.of_kept (sinkWritten_shm i c s)
  | allocator c _ => exact written _
  | channel i c _ => exact (written _).of_eq (channelWritten_light _ i _).shm
  | scene i c _ => exact written _
  | output i c w _ => exact (written _).of_eq (outputWritten_event w i _).shm
  | stage full _ => exact (written _).of_kept ((handOn_heat _ _).trans (handRemotes_heat _)).shm
  | remote i c w _ => exact (written _).of_eq (remoteWritten_event w i _).shm
  | profile i p _ => exact hs.of_kept (profileWritten_shm i p s)
  | protect p _ => exact written _
  | notice c _ => exact written _

theorem sheetAfterReset_kept (c : SheetConfig) : (sheetAfterReset c).ResurfaceKept := by
  unfold sheetAfterReset
  cases c.enabled with
  | true => exact .other (fun k => nomatch k) (fun k => nomatch k) (fun k => nomatch k) rfl rfl
  | false => exact .other (fun k => nomatch k) (fun k => nomatch k) (fun k => nomatch k) rfl rfl

theorem samplePins_shm (s : State) : s.samplePins.shm = s.shm := (sampleHand_frame _ s).shm

theorem PhaseMove.resurfaceKept (h : PhaseMove s t) (hs : ResurfaceKept s) : ResurfaceKept t :=
  h.casesOn (motive := fun t _ => ResurfaceKept t)
    (beginSettle := fun strap soft => by
      intro sh
      have he : ((s.beginSettle strap soft).shm.get sh) = {} := Table.get_const _ sh
      rewrite [he]
      exact .other (fun k => nomatch k) (fun k => nomatch k) (fun k => nomatch k) rfl rfl)
    (resetBlocks := fun c _ _ => by
      have he : (s.resetBlocks c).samplePins.shm = c.sheets.mapIdx fun _ d => sheetAfterReset d := samplePins_shm _
      intro sh
      rewrite [he, Table.get_mapIdx]
      exact sheetAfterReset_kept _)
    (run := fun _ => hs.of_eq rfl)
    (passMs := hs.of_eq rfl)
    (passSecond := by
      intro sh
      have he : (s.passSecond.shm.get sh) = (s.shm.get sh).passSecond (s.cfg.sheets.get sh) := Table.get_mapIdx ..
      obtain ⟨during, outside, finite⟩ := hs sh
      rewrite [he]
      refine ⟨fun h => ?_, fun h => ?_, finite⟩
      · obtain ⟨hold, hw⟩ := during h
        refine ⟨?_, hw⟩
        simp only [SheetRun.passSecond, countDown]
        split <;> omega
      · obtain ⟨hold, hf⟩ := outside h
        exact ⟨by simp [SheetRun.passSecond, countDown, hold], hf⟩)

theorem LoadMove.resurfaceKept (h : LoadMove s t) (hs : ResurfaceKept s) : ResurfaceKept t :=
  h.casesOn (motive := fun t _ => ResurfaceKept t)
    (takeImage := fun receiving c _ _ => by
      have h1 : ResurfaceKept (((s.setCfg c).loadPoints).applyLineWhenIdle receiving) :=
        (hs.of_eq rfl : ResurfaceKept (s.setCfg c).loadPoints).of_eq (applyLineWhenIdle_frame receiving _).shm
      have h2 := (h1.loadSheet 0).loadSheet 1
      have h3 := h2.of_kept ((loadZones_zone s.cfg _).trans (recompute_heat (fun _ => true) _).zone).shm
      have h4 := (h3.of_eq (loadChannels_light _).shm).of_eq (loadOutputs_event _).shm
      exact h4.of_kept (passes_heat false _ _).shm)
    (ends := hs.of_eq rfl)
    (deferredTrip := hs.of_kept (deferredTrip_protect s).shm)
    (evaluate := fun _ => hs.of_kept (evaluateProtect_protect s).shm)

theorem Move.resurfaceKept (h : Move s t) (hc : s.cfg.Valid) (hs : ResurfaceKept s) : ResurfaceKept t :=
  h.casesOn (motive := fun _ => ResurfaceKept t)
    (link := fun h => hs.of_eq h.blocks.shm)
    (bus := fun h => hs.of_eq h.frame.shm)
    (light := fun h => hs.of_eq h.event.shm)
    (output := fun h => hs.of_eq h.event.shm)
    (heat := fun h => hs.of_kept h.event.shm)
    (sheet := fun h => h.resurfaceKept hc hs)
    (protect := fun h => hs.of_kept h.event.shm)
    (point := fun h => h.resurfaceKept hs)
    (schedule := fun h => hs.of_kept h.shm)
    (store := fun h => hs.of_eq h.shm)
    (write := fun h => h.resurfaceKept hs)
    (phase := fun h => h.resurfaceKept hs)

theorem Piece.resurfaceKept (h : Piece s t) (hc : s.cfg.Valid) (hs : ResurfaceKept s) : ResurfaceKept t :=
  h.casesOn (motive := fun _ => ResurfaceKept t)
    (move := fun h => h.resurfaceKept hc hs)
    (load := fun h => h.resurfaceKept hs)

end Resurface

/-- Settles O54: with the configuration valid along the chain of pieces, a start never takes a hold of 0. -/
theorem resurfaceKeptByStep : Obligations.ResurfaceKeptByStep := fun _ _ hc hr h =>
  (step_keeps_pieces (P := fun x => ConfigurationsValid x ∧ ResurfaceKept x)
    (fun _ _ h => ⟨⟨h.1.running, h.1.image, h.1.saving⟩, h.2⟩) (fun _ _ hx hp => ⟨hp.configurationsValid hx.1, hp.resurfaceKept hx.1.running hx.2⟩) ⟨hc, hr⟩ h).2

/-! PROOF. The allocation pass (R96 to R102): what taking one member, a list of members, and the four classes does to pool, caps and
records. -/

section Allocation

/-! ### One decision (R98) -/

theorem decideGrant_held (pool : Nat) (k : SinkRun) (m : Nat) : decideGrant true pool k m = (0, .held, 0) := rfl

theorem decideGrant_idle {k : SinkRun} (pool m : Nat) (h : k.reqMax = 0) : decideGrant false pool k m = (0, .idle, 0) := by
  simp [decideGrant, h]

theorem decideGrant_capped {k : SinkRun} (pool : Nat) {m : Nat} (h : k.reqMax ≠ 0) (hm : m < k.reqMin) :
    decideGrant false pool k m = (0, .capped, 0) := by
  simp [decideGrant, h, hm]

theorem decideGrant_served {k : SinkRun} {pool m : Nat} (h : k.reqMax ≠ 0) (hm : k.reqMin ≤ m) (hp : k.reqMin ≤ pool) :
    decideGrant false pool k m = (min pool m, if min pool m = k.reqMax then .served else .partly, 0) := by
  simp [decideGrant, h, Nat.not_lt.mpr hm, hp]

theorem decideGrant_short {k : SinkRun} {pool m : Nat} (h : k.reqMax ≠ 0) (hm : k.reqMin ≤ m) (hp : pool < k.reqMin) :
    decideGrant false pool k m = match k.cls with
      | .protective => (pool, .short, k.reqMin - pool)
      | .event => (0, .short, k.reqMin)
      | .comfort => (0, .short, 0)
      | .store => (0, .short, 0) := by
  cases hc : k.cls <;> simp [decideGrant, h, hc, Nat.not_lt.mpr hm, Nat.not_le.mpr hp]

/-- No grant is above the pool or the effective max. -/
theorem decideGrant_le (held : Bool) (pool : Nat) (k : SinkRun) (m : Nat) :
    (decideGrant held pool k m).1 ≤ pool ∧ (decideGrant held pool k m).1 ≤ m := by
  cases held with
  | true => exact ⟨Nat.zero_le _, Nat.zero_le _⟩
  | false =>
    by_cases h : k.reqMax = 0
    · simp [decideGrant_idle _ _ h]
    · by_cases hm : m < k.reqMin
      · simp [decideGrant_capped _ h hm]
      · rewrite [Nat.not_lt] at hm
        by_cases hp : k.reqMin ≤ pool
        · rewrite [decideGrant_served h hm hp]
          exact ⟨Nat.min_le_left .., Nat.min_le_right ..⟩
        · rw [decideGrant_short h hm (Nat.not_le.mp hp)]
          cases k.cls with
          | protective => exact ⟨le_rfl, by simp only; omega⟩
          | event => exact ⟨Nat.zero_le _, Nat.zero_le _⟩
          | comfort => exact ⟨Nat.zero_le _, Nat.zero_le _⟩
          | store => exact ⟨Nat.zero_le _, Nat.zero_le _⟩

/-! ### One member -/

variable {hold : Bool} {cfg : Table SinkConfig 12} {r : Round}

/-- The decision that a round takes on a sink. -/
def Round.decision (hold : Bool) (c : SinkConfig) (i : Fin 12) (r : Round) : Nat × SinkStatus × Nat :=
  decideGrant (hold && c.kind == .stands) r.pool (r.sinks.get i) (r.effectiveMax c (r.sinks.get i).reqMax)

theorem takeMember_sinks (hold : Bool) (c : SinkConfig) (i : Fin 12) (r : Round) :
    (r.takeMember hold c i).sinks = r.sinks.set i { r.sinks.get i with
      grant := (r.decision hold c i).1, status := (r.decision hold c i).2.1, shortfall := (r.decision hold c i).2.2 } := by
  unfold Round.takeMember
  dsimp only
  split <;> rfl

theorem takeMember_pool (hold : Bool) (c : SinkConfig) (i : Fin 12) (r : Round) :
    (r.takeMember hold c i).pool = r.pool - (r.decision hold c i).1 := by
  unfold Round.takeMember
  dsimp only
  split <;> rfl

/-- The sheet whose cap a sink's spill uses: that of a STANDS sink (R98). -/
def SinkConfig.spillsOn (c : SinkConfig) (sh : Fin 2) : Bool := c.kind == .stands && c.sheet == some sh

theorem capOf_eq_some {r : Round} {c : SinkConfig} {sh : Fin 2} {w : Nat} :
    r.capOf c = some (sh, w) ↔ c.spillsOn sh = true ∧ r.caps.get sh = .watts w := by
  unfold Round.capOf SinkConfig.spillsOn
  split
  · next k hk hs =>
    split
    · next x hx =>
      simp only [hk, hs, Option.some.injEq, Prod.mk.injEq, beq_self_eq_true, Bool.true_and, beq_iff_eq]
      constructor
      · rintro ⟨rfl, rfl⟩
        exact ⟨rfl, hx⟩
      · rintro ⟨rfl, h⟩
        exact ⟨rfl, Power.watts.inj (hx.symm.trans h)⟩
    · next hx =>
      simp only [hk, hs, Bool.and_eq_true, beq_iff_eq, Option.some.injEq]
      constructor
      · intro h; cases h
      · rintro ⟨⟨-, rfl⟩, h⟩
        rw [hx] at h; cases h
  · next hn =>
    simp only [Bool.and_eq_true, beq_iff_eq]
    constructor
    · intro h; cases h
    · rintro ⟨⟨hk, hs⟩, -⟩
      exact absurd hs (hn sh hk)

theorem SinkConfig.spillsOn_unique {c : SinkConfig} {a b : Fin 2} (ha : c.spillsOn a = true) (hb : c.spillsOn b = true) : a = b := by
  simp only [SinkConfig.spillsOn, Bool.and_eq_true, beq_iff_eq] at ha hb
  exact Option.some.inj (ha.2.symm.trans hb.2)

/-- The spill of the sink a round takes on a sheet of finite cap (R99). -/
def Round.spillOn (hold : Bool) (c : SinkConfig) (i : Fin 12) (sh : Fin 2) (r : Round) : Nat :=
  if c.spillsOn sh then spillOf (r.decision hold c i).1 c.spill else 0

theorem takeMember_finite (hold : Bool) (c : SinkConfig) (i : Fin 12) {sh : Fin 2} {w : Nat} (h : r.caps.get sh = .watts w) :
    (r.takeMember hold c i).caps.get sh = .watts (w - r.spillOn hold c i sh) ∧
      (r.takeMember hold c i).spills.get sh = r.spills.get sh + r.spillOn hold c i sh := by
  unfold Round.takeMember Round.spillOn
  dsimp only
  split
  · next a v hcap =>
    obtain ⟨ha, hv⟩ := capOf_eq_some.mp hcap
    by_cases e : a = sh
    · subst e
      cases Power.watts.inj (hv.symm.trans h)
      rewrite [if_pos ha]
      exact ⟨Table.get_set_self .., Table.get_modify_self ..⟩
    · have hn : c.spillsOn sh = false := Bool.eq_false_iff.mpr fun hb => e (SinkConfig.spillsOn_unique ha hb)
      rewrite [hn]
      exact ⟨(Table.get_set_ne _ e _).trans h, Table.get_modify_ne _ e _⟩
  · next hcap =>
    have hn : c.spillsOn sh = false := Bool.eq_false_iff.mpr fun hb => by
      rw [capOf_eq_some.mpr ⟨hb, h⟩] at hcap
      cases hcap
    rewrite [hn]
    exact ⟨h, rfl⟩

theorem takeMember_unlimited (hold : Bool) (c : SinkConfig) (i : Fin 12) {sh : Fin 2} (h : r.caps.get sh = .unlimited) :
    (r.takeMember hold c i).caps.get sh = .unlimited := by
  unfold Round.takeMember
  dsimp only
  split
  · next a v hcap =>
    have e : a ≠ sh := by
      rintro rfl
      rw [(capOf_eq_some.mp hcap).2] at h
      cases h
    exact (Table.get_set_ne _ e _).trans h
  · exact h

/-- A spill never exceeds the cap it leaves: the effective max holds the grant to it (R98, R99). -/
theorem spillOn_le (hold : Bool) (c : SinkConfig) (i : Fin 12) {sh : Fin 2} {w : Nat} (h : r.caps.get sh = .watts w) :
    r.spillOn hold c i sh ≤ w := by
  unfold Round.spillOn
  split
  · next hs =>
    have hd := (decideGrant_le (hold && c.kind == .stands) r.pool (r.sinks.get i) (r.effectiveMax c (r.sinks.get i).reqMax)).2
    change (r.decision hold c i).1 ≤ _ at hd
    rewrite [spillOf, ceilDiv_le_iff (by omega)]
    by_cases h0 : 0 < c.spill
    · have he : r.effectiveMax c (r.sinks.get i).reqMax ≤ w * 10 / c.spill := by
        simp only [Round.effectiveMax, capOf_eq_some.mpr ⟨hs, h⟩, if_pos h0]
        exact Nat.min_le_right ..
      calc (r.decision hold c i).1 * c.spill ≤ w * 10 / c.spill * c.spill := Nat.mul_le_mul_right _ (hd.trans he)
        _ ≤ w * 10 := Nat.div_mul_le_self ..
    · simp [Nat.eq_zero_of_not_pos h0]
  · exact Nat.zero_le w

/-! ### A list of members -/

theorem takeMembers_cons (i : Fin 12) (ms : List (Fin 12)) (r : Round) :
    takeMembers hold cfg (i :: ms) r = takeMembers hold cfg ms (r.takeMember hold (cfg.get i) i) := rfl

theorem takeMembers_append (a b : List (Fin 12)) (r : Round) :
    takeMembers hold cfg (a ++ b) r = takeMembers hold cfg b (takeMembers hold cfg a r) := List.foldl_append

/-- A request and its class do not change in a pass. -/
theorem takeMember_request (c : SinkConfig) (i j : Fin 12) (r : Round) :
    ((r.takeMember hold c i).sinks.get j).reqMin = (r.sinks.get j).reqMin ∧
      ((r.takeMember hold c i).sinks.get j).reqMax = (r.sinks.get j).reqMax ∧
      ((r.takeMember hold c i).sinks.get j).cls = (r.sinks.get j).cls := by
  rewrite [takeMember_sinks, Table.get_set]
  split
  · next h => subst h; exact ⟨rfl, rfl, rfl⟩
  · exact ⟨rfl, rfl, rfl⟩

theorem takeMembers_request (ms : List (Fin 12)) (j : Fin 12) (r : Round) :
    ((takeMembers hold cfg ms r).sinks.get j).reqMin = (r.sinks.get j).reqMin ∧
      ((takeMembers hold cfg ms r).sinks.get j).reqMax = (r.sinks.get j).reqMax ∧
      ((takeMembers hold cfg ms r).sinks.get j).cls = (r.sinks.get j).cls := by
  induction ms generalizing r with
  | nil => exact ⟨rfl, rfl, rfl⟩
  | cons i ms ih =>
    obtain ⟨a1, a2, a3⟩ := ih (r.takeMember hold (cfg.get i) i)
    obtain ⟨b1, b2, b3⟩ := takeMember_request (hold := hold) (cfg.get i) i j r
    exact ⟨a1.trans b1, a2.trans b2, a3.trans b3⟩

/-- A sink that the list does not name keeps its record. -/
theorem takeMembers_other {ms : List (Fin 12)} {j : Fin 12} (h : j ∉ ms) (r : Round) :
    (takeMembers hold cfg ms r).sinks.get j = r.sinks.get j := by
  induction ms generalizing r with
  | nil => rfl
  | cons i ms ih =>
    simp only [List.mem_cons, not_or] at h
    rw [takeMembers_cons, ih h.2, takeMember_sinks, Table.get_set_ne _ (Ne.symm h.1)]

/-- The grant of each member is the decision on what the members before it have left (R98). -/
theorem takeMembers_decision {before after : List (Fin 12)} {i : Fin 12} (h : (before ++ i :: after).Nodup) (r : Round) :
    let k := (takeMembers hold cfg (before ++ i :: after) r).sinks.get i
    (k.grant, k.status, k.shortfall) = (takeMembers hold cfg before r).decision hold (cfg.get i) i := by
  obtain ⟨-, hi, -⟩ := List.nodup_append.mp h
  rw [takeMembers_append, takeMembers_cons, takeMembers_other (List.nodup_cons.mp hi).1, takeMember_sinks, Table.get_set_self]

/-- What members are granted leaves the pool, and is in it. -/
theorem takeMembers_pool {ms : List (Fin 12)} (h : ms.Nodup) (r : Round) :
    (ms.map fun j => ((takeMembers hold cfg ms r).sinks.get j).grant).sum + (takeMembers hold cfg ms r).pool = r.pool := by
  induction ms generalizing r with
  | nil => simp [takeMembers]
  | cons i ms ih =>
    obtain ⟨hi, hms⟩ := List.nodup_cons.mp h
    have hg : ((takeMembers hold cfg (i :: ms) r).sinks.get i).grant = (r.decision hold (cfg.get i) i).1 := by
      rw [takeMembers_cons, takeMembers_other hi, takeMember_sinks, Table.get_set_self]
    have hp := (decideGrant_le (hold && (cfg.get i).kind == .stands) r.pool (r.sinks.get i)
      (r.effectiveMax (cfg.get i) (r.sinks.get i).reqMax)).1
    change (r.decision hold (cfg.get i) i).1 ≤ _ at hp
    have := ih hms (r.takeMember hold (cfg.get i) i)
    rewrite [takeMember_pool] at this
    rewrite [List.map_cons, List.sum_cons, hg, takeMembers_cons]
    omega

/-- The spill of a sink's grant on a sheet (R99). -/
def spillFor (cfg : Table SinkConfig 12) (sinks : Table SinkRun 12) (sh : Fin 2) (j : Fin 12) : Nat :=
  if (cfg.get j).spillsOn sh then spillOf (sinks.get j).grant (cfg.get j).spill else 0

/-- What members spill on a sheet of finite cap leaves that cap, and is in it (R99). -/
theorem takeMembers_finite {ms : List (Fin 12)} (h : ms.Nodup) {r : Round} {sh : Fin 2} {w : Nat} (hw : r.caps.get sh = .watts w) :
    let out := takeMembers hold cfg ms r
    let total := (ms.map (spillFor cfg out.sinks sh)).sum
    out.caps.get sh = .watts (w - total) ∧ total ≤ w ∧ out.spills.get sh = r.spills.get sh + total := by
  induction ms generalizing r w with
  | nil => simp [takeMembers, hw]
  | cons i ms ih =>
    obtain ⟨hi, hms⟩ := List.nodup_cons.mp h
    obtain ⟨hc, hs⟩ := takeMember_finite hold (cfg.get i) i hw
    have hle := spillOn_le hold (cfg.get i) i hw
    obtain ⟨a1, a2, a3⟩ := ih hms hc
    have hg : spillFor cfg (takeMembers hold cfg (i :: ms) r).sinks sh i = r.spillOn hold (cfg.get i) i sh := by
      rw [spillFor, Round.spillOn, takeMembers_cons, takeMembers_other hi, takeMember_sinks, Table.get_set_self]
    intro out total
    have ht : total = r.spillOn hold (cfg.get i) i sh +
        (ms.map (spillFor cfg (takeMembers hold cfg ms (r.takeMember hold (cfg.get i) i)).sinks sh)).sum := by
      simp only [total, out, List.map_cons, List.sum_cons, hg]
      rfl
    refine ⟨?_, by omega, ?_⟩
    · rewrite [ht, ← Nat.sub_sub]
      exact a1
    · rewrite [ht, ← Nat.add_assoc, ← hs]
      exact a3

theorem takeMembers_unlimited (ms : List (Fin 12)) {r : Round} {sh : Fin 2} (h : r.caps.get sh = .unlimited) :
    (takeMembers hold cfg ms r).caps.get sh = .unlimited := by
  induction ms generalizing r with
  | nil => exact h
  | cons i ms ih => exact ih (takeMember_unlimited hold (cfg.get i) i h)

/-! ### The four classes -/

theorem mem_rotated (start : Nat) (i : Fin 12) : i ∈ rotated start := by
  by_cases h : start ≤ i.val
  · exact List.mem_append_left _ (by simpa using h)
  · exact List.mem_append_right _ (by simpa using h)

theorem rotated_nodup (start : Nat) : (rotated start).Nodup := by
  refine List.nodup_append.mpr ⟨(List.nodup_finRange 12).filter _, (List.nodup_finRange 12).filter _, fun a ha b hb => ?_⟩
  simp only [List.mem_filter, decide_eq_true_eq] at ha hb
  rintro rfl
  omega

theorem mem_members {sinks : Table SinkRun 12} {cls : SinkClass} {start : Nat} {i : Fin 12} :
    i ∈ members cfg sinks cls start ↔ (cfg.get i).enabled = true ∧ (sinks.get i).cls = cls := by
  simp [members, mem_rotated]

theorem members_nodup (sinks : Table SinkRun 12) (cls : SinkClass) (start : Nat) : (members cfg sinks cls start).Nodup :=
  (rotated_nodup start).filter _

theorem members_congr {a b : Table SinkRun 12} (h : ∀ i, (a.get i).cls = (b.get i).cls) (cls : SinkClass) (start : Nat) :
    members cfg a cls start = members cfg b cls start := by
  simp [members, h]

theorem classIndex_inj {a b : SinkClass} (h : classIndex a = classIndex b) : a = b := by
  cases a <;> cases b <;> simp [classIndex] at h <;> rfl

/-- The order in which a pass takes the members of some classes (R97). -/
def takenOrder (cfg : Table SinkConfig 12) (sinks : Table SinkRun 12) (rotation : Table Nat 4) (cs : List SinkClass) : List (Fin 12) :=
  cs.flatMap fun cls => members cfg sinks cls (rotation.get (classIndex cls))

theorem mem_takenOrder {sinks : Table SinkRun 12} {rotation : Table Nat 4} {cs : List SinkClass} {i : Fin 12} :
    i ∈ takenOrder cfg sinks rotation cs ↔ (cfg.get i).enabled = true ∧ (sinks.get i).cls ∈ cs := by
  simp [takenOrder, mem_members, and_comm]

theorem takenOrder_nodup (sinks : Table SinkRun 12) (rotation : Table Nat 4) {cs : List SinkClass} (h : cs.Nodup) :
    (takenOrder cfg sinks rotation cs).Nodup := by
  induction cs with
  | nil => exact List.nodup_nil
  | cons c cs ih =>
    obtain ⟨hc, hcs⟩ := List.nodup_cons.mp h
    refine List.nodup_append.mpr ⟨members_nodup .., ih hcs, fun a ha b hb => ?_⟩
    rintro rfl
    exact hc ((mem_members.mp ha).2 ▸ (mem_takenOrder.mp hb).2)

theorem nextStart_congr {a b : Table SinkRun 12} {ms : List (Fin 12)} (h : ∀ i ∈ ms, a.get i = b.get i) (start : Nat) :
    nextStart a ms start = nextStart b ms start := by
  cases ms with
  | nil => rfl
  | cons i ms =>
    have he : fullyServed a (i :: ms) = fullyServed b (i :: ms) := by
      rewrite [Bool.eq_iff_iff]
      simp only [fullyServed, List.all_eq_true]
      exact forall₂_congr fun j hj => by rw [h j hj]
    simp only [nextStart, he]

/-- The classes one after the other take their members in one round; each rotation start is that of its own class (R97, R100). -/
theorem takeClass_foldl {cs : List SinkClass} (hcs : cs.Nodup) (r : Round) (rotation : Table Nat 4) (acc : List (Fin 12)) :
    let out := cs.foldl (takeClass hold cfg) (r, rotation, acc)
    let order := takenOrder cfg r.sinks rotation cs
    out.1 = takeMembers hold cfg order r ∧ out.2.2 = acc ++ order ∧
      (∀ c ∈ cs, out.2.1.get (classIndex c) =
        nextStart out.1.sinks (members cfg r.sinks c (rotation.get (classIndex c))) (rotation.get (classIndex c))) ∧
      ∀ c, c ∉ cs → out.2.1.get (classIndex c) = rotation.get (classIndex c) := by
  induction cs generalizing r rotation acc with
  | nil => exact ⟨rfl, (List.append_nil acc).symm, fun c hc => absurd hc List.not_mem_nil, fun c _ => rfl⟩
  | cons c cs ih =>
    obtain ⟨hc, hnd⟩ := List.nodup_cons.mp hcs
    let ms := members cfg r.sinks c (rotation.get (classIndex c))
    let r1 := takeMembers hold cfg ms r
    let rot1 := rotation.modify (classIndex c) (nextStart r1.sinks ms)
    have hcls (i : Fin 12) : (r1.sinks.get i).cls = (r.sinks.get i).cls := (takeMembers_request ms i r).2.2
    have hrot (d : SinkClass) (hd : d ∈ cs) : rot1.get (classIndex d) = rotation.get (classIndex d) :=
      Table.get_modify_ne _ (fun e => hc (by rw [classIndex_inj e]; exact hd)) _
    have hord : takenOrder cfg r1.sinks rot1 cs = takenOrder cfg r.sinks rotation cs :=
      List.flatMap_congr fun d hd => by rw [hrot d hd, members_congr hcls]
    obtain ⟨h1, h2, h3, h4⟩ := ih hnd r1 rot1 (acc ++ ms)
    rewrite [hord] at h1 h2
    refine ⟨?_, ?_, fun d hd => ?_, fun d hd => ?_⟩
    · exact h1.trans (takeMembers_append ms _ r).symm
    · exact h2.trans (List.append_assoc ..)
    · rcases List.mem_cons.mp hd with rfl | hd
      · refine (h4 d hc).trans ((Table.get_modify_self ..).trans (nextStart_congr (fun i hi => ?_) _))
        refine (congrArg (fun x : Round => x.sinks.get i) h1).trans (takeMembers_other ?_ r1) |>.symm
        exact fun hm => hc ((mem_members.mp hi).2 ▸ (mem_takenOrder.mp hm).2)
      · have := h3 d hd
        rwa [hrot d hd, members_congr hcls] at this
    · simp only [List.mem_cons, not_or] at hd
      exact (h4 d hd.2).trans (Table.get_modify_ne _ (fun e => hd.1 (classIndex_inj e).symm) _)

/-! ### The pass -/

variable {s t : State}

/-- The round that a pass begins with: the pool, the caps of R96, no spills, and the records with their energies credited. -/
def State.openRound (s : State) : Round :=
  { pool := poolOf s.heatValue s.cfg.allocator.reserve
    caps := (Table.ofFn fun sh => sheetFigures (s.shm.get sh).budget (s.lsq.sheets.get sh).lUp s.profile.lightingShare
      (s.hra.sheets.get sh)).mapIdx fun _ f => f.cap.getD (.watts 0)
    spills := Table.const 2 0
    sinks := s.hra.sinks.mapIdx fun _ k => k.credit (s.ms - s.hra.credited) }

/-- The sinks in the order in which a pass takes them (R97). -/
def State.passOrder (s : State) : List (Fin 12) := takenOrder s.cfg.sinks s.hra.sinks s.hra.rotation sinkClasses

/-- The round that a pass ends with. -/
def State.closedRound (s : State) : Round := takeMembers s.hra.hold s.cfg.sinks s.passOrder s.openRound

theorem openRound_request (s : State) (i : Fin 12) :
    (s.openRound.sinks.get i).reqMin = (s.hra.sinks.get i).reqMin ∧ (s.openRound.sinks.get i).reqMax = (s.hra.sinks.get i).reqMax ∧
      (s.openRound.sinks.get i).cls = (s.hra.sinks.get i).cls := by
  simp [State.openRound, SinkRun.credit]

theorem takenOrder_open (s : State) : takenOrder s.cfg.sinks s.openRound.sinks s.hra.rotation sinkClasses = s.passOrder :=
  List.flatMap_congr fun _ _ => members_congr (fun i => (openRound_request s i).2.2) _ _

theorem passOrder_nodup (s : State) : s.passOrder.Nodup := takenOrder_nodup _ _ (by decide)

theorem mem_passOrder {i : Fin 12} : i ∈ s.passOrder ↔ (s.cfg.sinks.get i).enabled = true := by
  have hc (c : SinkClass) : c ∈ sinkClasses := by cases c <;> decide
  simp [State.passOrder, mem_takenOrder, hc]

/-- The caps of the opening round: what a finite budget leaves above the lighting's reserve (R96). -/
theorem openRound_finite {sh : Fin 2} {w : Nat} (h : (s.shm.get sh).budget = .watts w) :
    s.openRound.caps.get sh = .watts (w - min (s.lsq.sheets.get sh).lUp (w * s.profile.lightingShare / 1000)) := by
  simp [State.openRound, sheetFigures, h]

theorem openRound_unlimited {sh : Fin 2} (h : (s.shm.get sh).budget = .unlimited) : s.openRound.caps.get sh = .unlimited := by
  simp [State.openRound, sheetFigures, h]

/-- The allocator after a pass, in the terms of its closing round (R96 to R102). -/
theorem allocate_fields (s : State) :
    s.allocate.2 = s.passOrder ∧
      s.allocate.1.sinks = settleDisabled s.hra.hold s.cfg.sinks s.closedRound.sinks ∧
      s.allocate.1.pool = s.openRound.pool ∧ s.allocate.1.rejected = s.closedRound.pool ∧
      s.allocate.1.hold = s.hra.hold ∧ s.allocate.1.timer = s.cfg.allocator.period ∧
      (∀ sh, (s.allocate.1.sheets.get sh).allowance = allowanceOf (s.shm.get sh).budget (s.closedRound.spills.get sh)) ∧
      ∀ c, s.allocate.1.rotation.get (classIndex c) =
        nextStart s.closedRound.sinks (members s.cfg.sinks s.hra.sinks c (s.hra.rotation.get (classIndex c)))
          (s.hra.rotation.get (classIndex c)) := by
  obtain ⟨h1, h2, h3, -⟩ :=
    takeClass_foldl (hold := s.hra.hold) (cfg := s.cfg.sinks) (cs := sinkClasses) (by decide) s.openRound s.hra.rotation []
  rewrite [takenOrder_open] at h1 h2
  refine ⟨h2, congrArg (fun r : Round => settleDisabled s.hra.hold s.cfg.sinks r.sinks) h1, rfl, congrArg Round.pool h1, rfl, rfl,
    fun sh => ?_, fun c => ?_⟩
  · have hs := congrArg (fun r : Round => allowanceOf (s.shm.get sh).budget (r.spills.get sh)) h1
    exact (congrArg SheetHeat.allowance (Table.get_mapIdx ..)).trans hs
  · have hr := h3 c (by cases c <;> decide)
    rewrite [h1, members_congr fun i => (openRound_request s i).2.2] at hr
    exact hr

/-- A sink that the pass takes keeps the record of the closing round; a disabled one gets what R98 gives it. -/
theorem allocate_enabled {i : Fin 12} (h : (s.cfg.sinks.get i).enabled = true) :
    s.allocate.1.sinks.get i = s.closedRound.sinks.get i := by
  rewrite [(allocate_fields s).2.1]
  simp [settleDisabled, h]

theorem allocate_disabled {i : Fin 12} (h : (s.cfg.sinks.get i).enabled = false) :
    s.allocate.1.sinks.get i = (s.closedRound.sinks.get i).disabledAtPass s.hra.hold (s.cfg.sinks.get i) := by
  rewrite [(allocate_fields s).2.1]
  simp [settleDisabled, h]

theorem allocate_passOrder {i : Fin 12} (h : i ∈ s.passOrder) : s.allocate.1.sinks.get i = s.closedRound.sinks.get i :=
  allocate_enabled (mem_passOrder.mp h)

/-- The round in which a sink of the order is taken, behind `before` (R98). -/
theorem closedRound_decision {before after : List (Fin 12)} {i : Fin 12} (h : s.passOrder = before ++ i :: after) :
    let k := s.allocate.1.sinks.get i
    (k.grant, k.status, k.shortfall) =
      (takeMembers s.hra.hold s.cfg.sinks before s.openRound).decision s.hra.hold (s.cfg.sinks.get i) i := by
  have hnd := passOrder_nodup s
  rewrite [allocate_passOrder (s := s) (i := i) (by simp [h])]
  rewrite [h] at hnd
  have := takeMembers_decision (hold := s.hra.hold) (cfg := s.cfg.sinks) hnd s.openRound
  rwa [← h] at this

/-- While the heat hold stands a pass holds every STANDS sink at grant 0, disabled or not (R98, R106). -/
theorem allocate_held (hold : s.hra.hold = true) {i : Fin 12} (hk : (s.cfg.sinks.get i).kind = .stands) :
    (s.allocate.1.sinks.get i).grant = 0 ∧ (s.allocate.1.sinks.get i).status = .held := by
  cases he : (s.cfg.sinks.get i).enabled with
  | false =>
    rewrite [allocate_disabled he]
    simp [SinkRun.disabledAtPass, hold, hk]
  | true =>
    obtain ⟨before, after, ho⟩ := List.append_of_mem (mem_passOrder.mpr he)
    have hd := closedRound_decision ho
    simp only [Round.decision, hold, hk, beq_self_eq_true, Bool.and_true, decideGrant_held, Prod.mk.injEq] at hd
    exact ⟨hd.1, hd.2.1⟩

end Allocation

/-! PROOF. The bounds of a pass (R96 to R102): the order it takes, the row of R98 each sink gets, the rotation, and that pool, grants,
allowance and spills add up. -/

section AllocationBounds

/-! ### Sums over sinks -/

/-- A figure that is 0 outside a list of distinct indices sums to the list's sum. -/
theorem sumOver_eq_list_sum {n : Nat} {l : List (Fin n)} (h : l.Nodup) {f : Fin n → Nat} (h0 : ∀ i, i ∉ l → f i = 0) :
    sumOver n f = (l.map f).sum := by
  rewrite [sumOver, ← Fin.sum_univ_def, ← List.sum_toFinset f h]
  exact (Finset.sum_subset (Finset.subset_univ _) fun i _ hi => h0 i fun hm => hi (List.mem_toFinset.mpr hm)).symm

theorem sum_filter_eq_sum_ite {n : Nat} (l : List (Fin n)) (p : Fin n → Bool) (f : Fin n → Nat) :
    ((l.filter p).map f).sum = (l.map fun i => if p i then f i else 0).sum := by
  induction l with
  | nil => rfl
  | cons a l ih => cases h : p a <;> simp [h, ih]

/-! ### The effective max (R98) -/

variable {r : Round} {c : SinkConfig} {sh : Fin 2} {hold : Bool} {cfg : Table SinkConfig 12} {s : State} {i : Fin 12}

theorem effectiveMax_finite {w : Nat} (m : Nat) (hs : c.spillsOn sh = true) (hw : r.caps.get sh = .watts w) :
    r.effectiveMax c m = if 0 < c.spill then min m (w * 10 / c.spill) else m := by
  rw [Round.effectiveMax, capOf_eq_some.mpr ⟨hs, hw⟩]

theorem effectiveMax_uncapped (m : Nat) (h : ∀ sh w, c.spillsOn sh = true → r.caps.get sh ≠ .watts w) : r.effectiveMax c m = m := by
  unfold Round.effectiveMax
  split
  · next hcap =>
    obtain ⟨h1, h2⟩ := capOf_eq_some.mp hcap
    exact absurd h2 (h _ _ h1)
  · rfl

theorem effectiveMax_le (r : Round) (c : SinkConfig) (m : Nat) : r.effectiveMax c m ≤ m := by
  unfold Round.effectiveMax
  split
  · split
    · exact Nat.min_le_left ..
    · exact le_rfl
  · exact le_rfl

/-! ### What the members before a sink have got -/

/-- A member's record is final once it has been taken. -/
theorem takeMembers_prefix {before rest : List (Fin 12)} (h : (before ++ rest).Nodup) {j : Fin 12} (hj : j ∈ before) :
    (takeMembers hold cfg (before ++ rest) r).sinks.get j = (takeMembers hold cfg before r).sinks.get j := by
  rewrite [takeMembers_append]
  exact takeMembers_other (fun hr => (List.nodup_append.mp h).2.2 j hj j hr rfl) _

/-- The round in which the sinks of `before` have been taken. -/
def State.roundAfter (s : State) (before : List (Fin 12)) : Round := takeMembers s.hra.hold s.cfg.sinks before s.openRound

variable {before after : List (Fin 12)}

theorem passOrder_prefix (h : s.passOrder = before ++ after) : before.Nodup :=
  (List.nodup_append.mp (h ▸ passOrder_nodup s)).1

/-- A sink taken before another has its grant of the whole pass. -/
theorem roundAfter_grant (h : s.passOrder = before ++ after) {j : Fin 12} (hj : j ∈ before) :
    (s.roundAfter before).sinks.get j = s.allocate.1.sinks.get j := by
  rw [allocate_passOrder (s := s) (by rw [h]; exact List.mem_append_left _ hj), State.closedRound, h]
  exact (takeMembers_prefix (h ▸ passOrder_nodup s) hj).symm

theorem roundAfter_pool (h : s.passOrder = before ++ after) :
    (s.roundAfter before).pool = s.allocate.1.pool - (before.map fun j => (s.allocate.1.sinks.get j).grant).sum := by
  have hp := takeMembers_pool (hold := s.hra.hold) (cfg := s.cfg.sinks) (passOrder_prefix h) s.openRound
  have hg : (before.map fun j => ((s.roundAfter before).sinks.get j).grant) =
      before.map fun j => (s.allocate.1.sinks.get j).grant :=
    List.map_congr_left fun j hj => by rw [roundAfter_grant h hj]
  rewrite [← hg, (allocate_fields s).2.2.1]
  exact Nat.eq_sub_of_add_eq' hp

/-- The spills that the sinks of `before` have on a sheet, by their grants of the whole pass (R99). -/
theorem roundAfter_spill (h : s.passOrder = before ++ after) (sh : Fin 2) :
    (before.map (spillFor s.cfg.sinks (s.roundAfter before).sinks sh)).sum =
      (before.map (spillFor s.cfg.sinks s.allocate.1.sinks sh)).sum :=
  congrArg List.sum (List.map_congr_left fun j hj => by simp only [spillFor, roundAfter_grant h hj])

theorem roundAfter_finite (h : s.passOrder = before ++ after) {w : Nat} (hw : (s.shm.get sh).budget = .watts w) :
    (s.roundAfter before).caps.get sh =
      .watts (w - min (s.lsq.sheets.get sh).lUp (w * s.profile.lightingShare / 1000) -
        (before.map (spillFor s.cfg.sinks s.allocate.1.sinks sh)).sum) := by
  obtain ⟨hc, -, -⟩ := takeMembers_finite (hold := s.hra.hold) (cfg := s.cfg.sinks) (passOrder_prefix h) (openRound_finite hw)
  rewrite [← roundAfter_spill h]
  exact hc

theorem roundAfter_unlimited (before : List (Fin 12)) (hu : (s.shm.get sh).budget = .unlimited) :
    (s.roundAfter before).caps.get sh = .unlimited :=
  takeMembers_unlimited _ (openRound_unlimited hu)

/-- A sink's request is that of the beginning when it is taken, and so is what its class grants it. -/
theorem roundAfter_request (s : State) (before : List (Fin 12)) (i : Fin 12) :
    ((s.roundAfter before).sinks.get i).reqMin = (s.hra.sinks.get i).reqMin ∧
      ((s.roundAfter before).sinks.get i).reqMax = (s.hra.sinks.get i).reqMax ∧
      ((s.roundAfter before).sinks.get i).cls = (s.hra.sinks.get i).cls := by
  obtain ⟨a1, a2, a3⟩ := takeMembers_request (hold := s.hra.hold) (cfg := s.cfg.sinks) before i s.openRound
  obtain ⟨b1, b2, b3⟩ := openRound_request s i
  exact ⟨a1.trans b1, a2.trans b2, a3.trans b3⟩

/-- A decision depends on a sink's request and class alone. -/
theorem decideGrant_congr {a b : SinkRun} (h1 : a.reqMin = b.reqMin) (h2 : a.reqMax = b.reqMax) (h3 : a.cls = b.cls)
    (held : Bool) (pool m : Nat) : decideGrant held pool a m = decideGrant held pool b m := by
  simp only [decideGrant, h1, h2, h3]

/-- Each sink of the order gets the row of R98 that applies to the pool and the cap which the sinks before it have left. -/
theorem allocate_decision (h : s.passOrder = before ++ i :: after) :
    ((s.allocate.1.sinks.get i).grant, (s.allocate.1.sinks.get i).status, (s.allocate.1.sinks.get i).shortfall) =
      decideGrant (s.hra.hold && (s.cfg.sinks.get i).kind == .stands)
        (s.allocate.1.pool - (before.map fun j => (s.allocate.1.sinks.get j).grant).sum) (s.hra.sinks.get i)
        ((s.roundAfter before).effectiveMax (s.cfg.sinks.get i) (s.hra.sinks.get i).reqMax) := by
  obtain ⟨h1, h2, h3⟩ := roundAfter_request s before i
  rewrite [← roundAfter_pool h, ← h2]
  exact (closedRound_decision h).trans (decideGrant_congr h1 h2 h3 ..)

/-! ### The pass as a whole -/

theorem allocate_disabled_grant (h : (s.cfg.sinks.get i).enabled = false) :
    (s.allocate.1.sinks.get i).grant = 0 := by rw [allocate_disabled h]; rfl

theorem passOrder_grant_zero (h : i ∉ s.passOrder) : (s.allocate.1.sinks.get i).grant = 0 :=
  allocate_disabled_grant (Bool.eq_false_iff.mpr fun he => h (mem_passOrder.mpr he))

/-- The grants and the rejected heat make up the pool (R101). -/
theorem allocate_pool (s : State) : sumOver 12 (fun i => (s.allocate.1.sinks.get i).grant) + s.allocate.1.rejected = s.allocate.1.pool := by
  obtain ⟨-, -, h3, h4, -⟩ := allocate_fields s
  have hp := takeMembers_pool (hold := s.hra.hold) (cfg := s.cfg.sinks) (passOrder_nodup s) s.openRound
  have hg : (s.passOrder.map fun j => (s.closedRound.sinks.get j).grant) = s.passOrder.map fun j => (s.allocate.1.sinks.get j).grant :=
    List.map_congr_left fun j hj => by rw [allocate_passOrder hj]
  rewrite [sumOver_eq_list_sum (passOrder_nodup s) fun i hi => passOrder_grant_zero hi, ← hg, h3, h4]
  exact hp

/-- A sink is granted at most its request max (R98). -/
theorem allocate_grant_le (s : State) (i : Fin 12) : (s.allocate.1.sinks.get i).grant ≤ (s.hra.sinks.get i).reqMax := by
  by_cases hi : i ∈ s.passOrder
  · obtain ⟨before, after, ho⟩ := List.append_of_mem hi
    have hd := congrArg Prod.fst (allocate_decision ho)
    exact hd.le.trans ((decideGrant_le _ _ _ _).2.trans (effectiveMax_le ..))
  · rewrite [passOrder_grant_zero hi]
    exact Nat.zero_le _

/-- The allowance of a finite budget is what the spills leave, and never less than the lighting's reserve (R96, R102). -/
theorem allocate_allowance {w : Nat} (hw : (s.shm.get sh).budget = .watts w) :
    let spills := sumOver 12 (spillFor s.cfg.sinks s.allocate.1.sinks sh)
    (s.allocate.1.sheets.get sh).allowance = .watts (w - spills) ∧
      spills ≤ w - min (s.lsq.sheets.get sh).lUp (w * s.profile.lightingShare / 1000) := by
  obtain ⟨-, -, -, -, -, -, ha, -⟩ := allocate_fields s
  obtain ⟨-, hle, hs⟩ := takeMembers_finite (hold := s.hra.hold) (cfg := s.cfg.sinks) (passOrder_nodup s) (openRound_finite hw)
  have he := roundAfter_spill (List.append_nil s.passOrder).symm sh
  have hsum : sumOver 12 (spillFor s.cfg.sinks s.allocate.1.sinks sh) =
      (s.passOrder.map (spillFor s.cfg.sinks s.allocate.1.sinks sh)).sum :=
    sumOver_eq_list_sum (passOrder_nodup s) fun i hi => by simp [spillFor, passOrder_grant_zero hi, spillOf, ceilDiv]
  rewrite [hsum, ← he]
  refine ⟨?_, hle⟩
  rewrite [ha, hw]
  have h0 : s.openRound.spills.get sh = 0 := Table.get_const ..
  rewrite [h0, Nat.zero_add] at hs
  exact congrArg (fun x => Power.watts (w - x)) hs

theorem allocate_rotation (s : State) (c : SinkClass) :
    s.allocate.1.rotation.get (classIndex c) =
      nextStart s.allocate.1.sinks (members s.cfg.sinks s.hra.sinks c (s.hra.rotation.get (classIndex c)))
        (s.hra.rotation.get (classIndex c)) := by
  obtain ⟨-, -, -, -, -, -, -, hr⟩ := allocate_fields s
  rw [hr, nextStart_congr fun i hi => allocate_enabled (mem_members.mp hi).1]

/-- A pass takes no request away. -/
theorem allocate_request_max (s : State) (i : Fin 12) : (s.allocate.1.sinks.get i).reqMax = (s.hra.sinks.get i).reqMax := by
  have hc : (s.closedRound.sinks.get i).reqMax = (s.hra.sinks.get i).reqMax := (roundAfter_request s s.passOrder i).2.1
  cases he : (s.cfg.sinks.get i).enabled with
  | true => rw [allocate_enabled he, hc]
  | false => rw [allocate_disabled he]; exact hc

end AllocationBounds

/-- Settles O57. -/
theorem allocationBounds : Obligations.AllocationBounds := by
  refine ⟨fun held pool k effective => ?_, fun s => ?_⟩
  · refine ⟨(decideGrant_le ..).1, (decideGrant_le ..).2, ?_, ?_, ?_, ?_, ?_⟩
    · rintro rfl
      exact decideGrant_held ..
    · rintro rfl h
      exact decideGrant_idle _ _ h
    · rintro rfl h hm
      exact decideGrant_capped _ h hm
    · rintro rfl h hm hp
      exact decideGrant_served h hm hp
    · rintro rfl h hm hp
      rewrite [decideGrant_short h hm hp]
      refine ⟨fun hc => by rw [hc], fun hc => by rw [hc], ?_⟩
      rintro (hc | hc) <;> rw [hc]
  · refine ⟨(allocate_fields s).1, fun before i after ho => ?_, fun i hi => ?_, fun cls => ?_, allocate_pool s,
      fun i _ => allocate_grant_le s i, fun sh w hw hshare => ?_⟩
    · have ho' := (allocate_fields s).1.symm.trans ho
      refine (allocate_decision ho').trans (congrArg _ ?_)
      split
      · next sh hk hs =>
        have hon : (s.cfg.sinks.get i).spillsOn sh = true := by simp [SinkConfig.spillsOn, hk, hs]
        split
        · next w hw =>
          rewrite [effectiveMax_finite _ hon (roundAfter_finite ho' hw), sum_filter_eq_sum_ite]
          rfl
        · next hu =>
          refine effectiveMax_uncapped _ fun a w ha hw => ?_
          rw [SinkConfig.spillsOn_unique ha hon, roundAfter_unlimited before hu] at hw
          cases hw
      · next hn =>
        refine effectiveMax_uncapped _ fun a w ha => ?_
        simp only [SinkConfig.spillsOn, Bool.and_eq_true, beq_iff_eq] at ha
        exact absurd ha.2 (hn a ha.1)
    · rewrite [allocate_disabled hi]
      simp [SinkRun.disabledAtPass]
    · rewrite [allocate_rotation]
      change nextStart _ (members ..) _ = match members s.cfg.sinks s.hra.sinks cls _ with | [] => _ | _ :: _ => _
      cases members s.cfg.sinks s.hra.sinks cls (s.hra.rotation.get (classIndex cls)) with
      | nil => rfl
      | cons a l => simp only [nextStart, fullyServed, allocate_request_max]
    · obtain ⟨ha, hle⟩ := allocate_allowance hw
      have hspill : sumOver 12 (fun i => if (s.cfg.sinks.get i).kind = .stands ∧ (s.cfg.sinks.get i).sheet = some sh then
          ceilDiv ((s.allocate.1.sinks.get i).grant * (s.cfg.sinks.get i).spill) 10 else 0) =
          sumOver 12 (spillFor s.cfg.sinks s.allocate.1.sinks sh) := by
        congr 1
        funext i
        simp only [spillFor, SinkConfig.spillsOn, Bool.and_eq_true, beq_iff_eq, spillOf]
      have hr : min (s.lsq.sheets.get sh).lUp (w * s.profile.lightingShare / 1000) ≤ w :=
        (Nat.min_le_right ..).trans (Nat.div_le_of_le_mul (by rw [Nat.mul_comm 1000]; exact Nat.mul_le_mul_left w hshare))
      refine ⟨_, ha, by omega, ?_⟩
      rewrite [hspill]
      omega

/-! PROOF. What the blocks inform each other of: every event of the zones, sheets, points and the schedule that raises no trigger is a chain
of a few primitive steps, so that an invariant need only be checked on those. -/

section InformChains

variable {s t u : State}

/-- One primitive step: new records of zones, sheets or points, a recomputed request, figures handed on, a notice, a pass, the requests of the
remote entries, a POLL, the mode, and a scene recalled while ARMED. -/
inductive Inform (s : State) : State → Prop
  | zones (x : Table ZoneRun 4) : Inform s { s with cdm := x }
  | sheets (x : Table SheetRun 2) : Inform s { s with shm := x }
  | points (x : Table PointRun 64) : Inform s { s with ptb := { s.ptb with points := x } }
  | tank (sh : Fin 2) (running : Bool) : Inform s { s with hra := { s.hra with
      sheets := s.hra.sheets.modify sh fun h => { h with tankRunning := running } } }
  | recompute (chosen : SinkConfig → Bool) : Inform s (s.recompute chosen)
  | handOn (bs : List OutputBinding) : Inform s (s.handOn bs)
  | notice (k : NoticeKind) (subject : Nat) (value : Int) : Inform s (s.notice k subject value)
  | pass (jumps : Bool) : Inform s (s.passWith jumps)
  | settle (moved : Fin 32 → Bool) : Inform s (s.settleRemotes moved)
  | poll (c : PointConfig) : Inform s (s.requestPoll c)
  | mode (m : ArenaMode) : Inform s (s.setScu { s.scu with mode := m })
  | remove (id : Nat) : Inform s (s.removeEntry id)
  | scene (k : Fin 24) (fade : Option Nat) (armed : s.armed = true) : Inform s (s.recallLights k fade)

abbrev Informs : State → State → Prop := Relation.ReflTransGen Inform

theorem Inform.chain (h : Inform s t) : Informs s t := .single h

/-- What each step keeps, a chain keeps. -/
theorem Informs.keep {P : State → Prop} (h : ∀ s t, P s → Inform s t → P t) (c : Informs s t) (hs : P s) : P t := by
  induction c with
  | refl => exact hs
  | tail _ k ih => exact h _ _ ih k

/-! ### Passes, requests and notices -/

theorem notice_informs (k : NoticeKind) (x : Nat) (v : Int) (s : State) : Informs s (s.notice k x v) := (Inform.notice k x v).chain

theorem noticeIf_informs (c : Bool) (k : NoticeKind) (x : Nat) (v : Int) (s : State) : Informs s (s.noticeIf c k x v) := by
  cases c with
  | false => exact .refl
  | true => exact notice_informs k x v s

theorem recompute_informs (chosen : SinkConfig → Bool) (s : State) : Informs s (s.recompute chosen) := (Inform.recompute chosen).chain

theorem recomputeKinds_informs (ks : List SinkKind) (s : State) : Informs s (s.recomputeKinds ks) := recompute_informs ..

theorem passWith_informs (jumps : Bool) (s : State) : Informs s (s.passWith jumps) := (Inform.pass jumps).chain

theorem settleRemotes_informs (moved : Fin 32 → Bool) (s : State) : Informs s (s.settleRemotes moved) := (Inform.settle moved).chain

theorem handRemotes_informs (s : State) : Informs s s.handRemotes := by
  rewrite [← settleRemotes_none]
  exact settleRemotes_informs ..

theorem handOn_informs (bs : List OutputBinding) (s : State) : Informs s (s.handOn bs) := (Inform.handOn bs).chain

theorem passes_informs (jumps : Bool) (n : Nat) (s : State) : Informs s (s.passes jumps n) := by
  induction n generalizing s with
  | zero => exact .refl
  | succ n ih =>
    refine Relation.ReflTransGen.trans ?_ (ih _)
    split
    · exact (passWith_informs jumps s).trans (handRemotes_informs _)
    · exact .refl

theorem Triggered.finish_informs (x : Triggered) : Informs x.state x.finish := (passes_informs ..).trans (handRemotes_informs _)

theorem passTrigger_informs (s : State) : Informs s s.passTrigger := by
  unfold State.passTrigger
  split
  · exact passWith_informs true s
  · exact .refl

theorem informTank_informs (sh : Fin 2) (b : Bool) (s : State) : Informs s (s.informTank sh b) :=
  ((Inform.tank sh b).chain : Informs s _).trans (recomputeKinds_informs ..)

/-! ### Loops -/

theorem forEach_informs {n : Nat} (f : Fin n → State → State) (h : ∀ i x, Informs x (f i x)) (s : State) :
    Informs s (forEach n f s) :=
  forEach_induct (P := Informs s) f s (.refl) fun i _ hx => hx.trans (h i _)

theorem forEachTriggered_informs {n : Nat} (f : Fin n → State → Triggered) (h : ∀ i x, Informs x (f i x).state) (s : State) :
    Informs s (forEachTriggered n f s).state :=
  forEachTriggered_induct (P := Informs s) f s (.refl) fun i _ hx => hx.trans (h i _)

/-! ### Zones -/

theorem putZone_informs (z : Fin 4) (r : ZoneRun) (s : State) : Informs s (s.putZone z r) :=
  ((Inform.zones (s.cdm.set z r)).chain : Informs s _).trans (noticeIf_informs ..)

theorem handZone_informs (config : Bool) (old : ZoneRun) (z : Fin 4) (s : State) : Informs s (s.handZone config old z) := by
  unfold State.handZone
  extract_lets r s1
  have h1 : Informs s s1 := by
    unfold s1
    split
    · exact recomputeKinds_informs ..
    · exact .refl
  split
  · exact h1.trans (handOn_informs ..)
  · exact h1

theorem replaceZone_informs (config : Bool) (z : Fin 4) (r : ZoneRun) (s : State) : Informs s (s.replaceZone config z r).state :=
  (putZone_informs z r s).trans (handZone_informs ..)

theorem evaluateZone_informs (flood : Bool) (z : Fin 4) (s : State) : Informs s (s.evaluateZone flood z).state := replaceZone_informs ..

theorem informZones_informs (p : Nat) (s : State) : Informs s (s.informZones p).state := by
  refine forEachTriggered_informs _ (fun z x => ?_) s
  dsimp only
  split
  · exact evaluateZone_informs ..
  · exact .refl

theorem informFlood_informs (sh : Fin 2) (on : Bool) (s : State) : Informs s (s.informFlood sh on).state := by
  refine forEachTriggered_informs _ (fun z x => ?_) s
  dsimp only
  split
  · exact evaluateZone_informs ..
  · exact .refl

theorem recomputeDemands_informs (s : State) : Informs s s.recomputeDemands := by
  refine forEach_informs _ (fun z x => ?_) s
  extract_lets c r d
  split
  · have h : Informs x { x with cdm := x.cdm.set z { r with demand := d } } := (Inform.zones _).chain
    exact h.trans (handZone_informs ..)
  · exact .refl

theorem zoneWritten_informs (before : ZoneConfig) (z : Fin 4) (s : State) : Informs s (s.zoneWritten before z) :=
  (replaceZone_informs ..).trans (Triggered.finish_informs _)

/-! ### Sheets -/

theorem setSheet_informs (sh : Fin 2) (r : SheetRun) (s : State) : Informs s (s.setSheet sh r) := (Inform.sheets _).chain

theorem sheetNotice_informs (old : SheetState) (sh : Fin 2) (s : State) : Informs s (s.sheetNotice old sh) :=
  noticeIf_informs ..

theorem handAlarm_informs (old : SheetState) (sh : Fin 2) (s : State) : Informs s (s.handAlarm old sh) := by
  unfold State.handAlarm
  split
  · exact handOn_informs ..
  · exact .refl

theorem putSheet_informs (always : Bool) (sh : Fin 2) (r : SheetRun) (s : State) : Informs s (s.putSheet always sh r).state :=
  ((setSheet_informs sh r s).trans (sheetNotice_informs ..)).trans (handAlarm_informs ..)

theorem evaluateSheet_informs (sh : Fin 2) (s : State) : Informs s (s.evaluateSheet sh).state := putSheet_informs ..

theorem evaluateHeave_informs (sh : Fin 2) (s : State) : Informs s (s.evaluateHeave sh) := by
  unfold State.evaluateHeave
  dsimp only
  split
  · exact .refl
  · exact (setSheet_informs ..).trans (recomputeKinds_informs ..)

theorem informSheets_informs (p : Nat) (s : State) : Informs s (s.informSheets p).state := by
  refine forEachTriggered_informs _ (fun sh x => ?_) s
  extract_lets c y
  have hy : Informs x y.state := by
    unfold y
    split
    · exact evaluateSheet_informs ..
    · exact .refl
  split
  · exact hy.trans (evaluateHeave_informs ..)
  · exact hy

theorem setTank_informs (sh : Fin 2) (n : Nat) (s : State) : Informs s (s.setTank sh n) := by
  unfold State.setTank
  extract_lets r s1
  split
  · exact setSheet_informs ..
  · exact (setSheet_informs sh _ s).trans (informTank_informs ..)

theorem resurface_informs {sh : Fin 2} (h : s.resurface sh = some t) : Informs s t := by
  unfold State.resurface at h
  extract_lets c r frozen s1 at h
  have flooded : Informs s ((s1.setTank sh c.tankTime).informFlood sh true).state :=
    ((setSheet_informs sh _ s).trans (setTank_informs ..)).trans (informFlood_informs ..)
  have start : Informs s ((((s1.setTank sh c.tankTime).informFlood sh true).finish).sheetNotice r.state sh) :=
    (flooded.trans (Triggered.finish_informs _)).trans (sheetNotice_informs ..)
  split at h
  · cases h
    exact start
  · cases h
    exact start
  · cases h
    exact (setSheet_informs ..).trans (setTank_informs ..)
  · cases h

theorem endResurface_informs (sh : Fin 2) (s : State) : Informs s (s.endResurface sh) := by
  unfold State.endResurface
  refine Relation.ReflTransGen.trans ?_ (Triggered.finish_informs _)
  rewrite [Triggered.and_state]
  exact (informFlood_informs sh false s).trans (putSheet_informs ..)

theorem coverOn_informs {sh : Fin 2} (h : s.coverOn sh = some t) : Informs s t := by
  unfold State.coverOn at h
  extract_lets r r1 s1 at h
  have alarmed : Informs s s1 := (setSheet_informs sh r1 s).trans (handAlarm_informs ..)
  have cover : Informs s ((Triggered.finish ⟨s1, 1⟩).sheetNotice r.state sh) :=
    (alarmed.trans (Triggered.finish_informs ⟨s1, 1⟩)).trans (sheetNotice_informs ..)
  split at h
  iterate 4
    · cases h
      exact cover
  · cases h
    exact .refl
  · cases h

theorem coverOff_informs {sh : Fin 2} (h : s.coverOff sh = some t) : Informs s t := by
  unfold State.coverOff at h
  extract_lets r r1 s1 x at h
  have alarmed : Informs s x.state := (setSheet_informs sh r1 s).trans (handAlarm_informs ..)
  split at h
  · cases h
    exact (alarmed.trans (Triggered.finish_informs x)).trans (sheetNotice_informs ..)
  · cases h

theorem expireTank_informs (sh : Fin 2) (s : State) : Informs s (s.expireTank sh) := by
  unfold State.expireTank
  split
  · exact .refl
  · exact setTank_informs ..

/-! ### Points and the schedule -/

theorem informPoint_informs (p : Fin 64) (s : State) : Informs s (s.informPoint p).state := by
  simp only [State.informPoint, Triggered.andThen_state, Triggered.and_state]
  exact ((informSheets_informs ..).trans (informZones_informs ..)).trans (recompute_informs ..)

theorem setPoint_informs (i : Fin 64) (r : PointRun) (s : State) : Informs s (s.setPoint i r) := (Inform.points _).chain

theorem pointNotices_informs (old : PointRun) (i : Fin 64) (s : State) : Informs s (s.pointNotices old i) :=
  (noticeIf_informs ..).trans (noticeIf_informs ..)

theorem agePoint_informs (i : Fin 64) (s : State) : Informs s (s.agePoint i) := by
  unfold State.agePoint
  extract_lets c old new s1
  have h1 : Informs s s1 := (setPoint_informs i new s).trans (pointNotices_informs ..)
  split
  · exact h1.trans (Inform.poll c).chain
  · exact h1

theorem ageAll_informs (s : State) : Informs s s.ageAll := by
  unfold State.ageAll
  extract_lets before changed
  refine ((forEach_informs _ agePoint_informs s).trans (forEachTriggered_informs _ (fun i x => ?_) _)).trans (Triggered.finish_informs _)
  split
  · exact informPoint_informs i x
  · exact .refl

theorem recallEntryScene_informs (s : State) : Informs s s.recallEntryScene := by
  unfold State.recallEntryScene
  split
  · split
    · next h => exact (Inform.scene _ none h).chain
    · exact .refl
  · exact .refl

theorem takeMode_informs (m : ArenaMode) (s : State) : Informs s (s.takeMode m) :=
  ((((Inform.mode m).chain : Informs s _).trans (recomputeKinds_informs ..)).trans (recomputeDemands_informs _)).trans
    (recallEntryScene_informs _)

theorem changeMode_informs (m : ArenaMode) (s : State) : Informs s (s.changeMode m) :=
  (((takeMode_informs m s).trans (passTrigger_informs _)).trans (settleRemotes_informs ..)).trans (notice_informs ..)

theorem recall_informs (k : Fin 24) (fade : Option Nat) (s : State) (armed : s.armed = true) : Informs s (s.recall k fade) :=
  ((Inform.scene k fade armed).chain : Informs s _).trans (handRemotes_informs _)

theorem outcomeOf_informs {o : Option State} (h : ∀ t, o = some t → Informs s t) : Informs s (outcomeOf s o).2 := by
  cases o with
  | none => exact .refl
  | some t => exact h t rfl

theorem perform_informs (a : ProgramAction) (s : State) : Informs s (s.perform a).2 := by
  cases a with
  | mode m => exact changeMode_informs m s
  | scene k fade =>
    simp only [State.perform, apply_ite Prod.snd]
    split
    · next h => exact recall_informs k fade s h
    · exact .refl
  | resurface sh => exact outcomeOf_informs fun _ => resurface_informs
  | cover sh on =>
    refine outcomeOf_informs fun t ht => ?_
    split at ht
    · exact coverOn_informs ht
    · exact coverOff_informs ht
  | allocate =>
    unfold State.perform
    dsimp only
    split
    · exact (passWith_informs true s).trans (handRemotes_informs _)
    · exact .refl

theorem takeProgramEntry_informs (execute : Bool) (e : ProgramEntry) (s : State) : Informs s (s.takeProgramEntry execute e) := by
  have h : Informs s (s.removeEntry e.id) := (Inform.remove _).chain
  unfold State.takeProgramEntry
  dsimp only
  split
  · exact (h.trans (perform_informs ..)).trans (notice_informs ..)
  · exact h.trans (notice_informs ..)

theorem takeHeld_informs (s : State) : Informs s s.takeHeld := by
  unfold State.takeHeld State.takeDue
  split
  · exact foldl_induct (P := Informs s) _ _ _ .refl fun _ _ h => h.trans (takeProgramEntry_informs ..)
  · exact .refl

/-! ### Records after a WRITE or a LOAD -/

theorem sheetRewritten_informs (sh : Fin 2) (s : State) : Informs s (s.sheetRewritten sh).state := by
  have h := putSheet_informs false sh (s.rewrittenSheet sh) s
  simp only [State.sheetRewritten, Triggered.triggerIf_state]
  split
  · rewrite [Triggered.and_state]
    exact h.trans (informFlood_informs ..)
  · exact h

theorem loadZones_informs (before : Configuration) (s : State) : Informs s (s.loadZones before) :=
  (forEach_informs _ (fun z x => putZone_informs z _ x) s).trans (recomputeKinds_informs ..)

/-! ### Moves that are such chains -/

theorem SheetMove.informs (h : SheetMove s t) : Informs s t :=
  h.casesOn (motive := fun t _ => Informs s t)
    (resurface := fun _ _ h => resurface_informs h)
    (endResurface := fun sh => endResurface_informs sh s)
    (coverOn := fun _ _ h => coverOn_informs h)
    (coverOff := fun _ _ h => coverOff_informs h)
    (expireTank := fun sh => expireTank_informs sh s)

end InformChains

/-! PROOF. The heat hold stands exactly while protect is not ARMED (R106, R107, R171): the invariant, over the moves and the ends of LOAD and
SETTLE. -/

section HeatHold

variable {s t u : State}

/-! ### What leaves the hold alone -/

/-- Every STANDS sink is HELD at grant 0 (R106). -/
def State.StandsHeld (s : State) : Prop :=
  ∀ i, (s.cfg.sinks.get i).kind = .stands → (s.hra.sinks.get i).grant = 0 ∧ (s.hra.sinks.get i).status = .held

/-- The hold stays as it is, with what it keeps, and so do protect, phase and store as far as they bear on it. -/
structure HoldFrame (s t : State) : Prop where
  phase : t.phase = s.phase
  op : t.stc.op = s.stc.op
  state : t.pru.state = .armed ↔ s.pru.state = .armed
  deferred : t.pru.deferred = s.pru.deferred
  hold : t.hra.hold = s.hra.hold
  stands : s.hra.hold = true → s.StandsHeld → t.StandsHeld

theorem HoldFrame.refl (s : State) : HoldFrame s s := ⟨rfl, rfl, .rfl, rfl, rfl, fun _ h => h⟩

theorem HoldFrame.trans (h : HoldFrame s t) (k : HoldFrame t u) : HoldFrame s u :=
  ⟨k.phase.trans h.phase, k.op.trans h.op, k.state.trans h.state, k.deferred.trans h.deferred, k.hold.trans h.hold,
    fun hh hs => k.stands (h.hold.trans hh) (h.stands hh hs)⟩

/-- An operation that leaves the allocator and protect alone. -/
theorem HoldFrame.of_eq (hphase : t.phase = s.phase) (hcfg : t.cfg.sinks = s.cfg.sinks) (hop : t.stc.op = s.stc.op)
    (hpru : t.pru = s.pru) (hhra : t.hra = s.hra) : HoldFrame s t :=
  ⟨hphase, hop, by rw [hpru], by rw [hpru], by rw [hhra], fun _ h => by rwa [State.StandsHeld, hcfg, hhra]⟩

/-- An operation that leaves protect alone, and of the allocator at least the hold, the grants and the statuses. -/
theorem HoldFrame.of_sinks (hs : SetupKept s t) (hop : t.stc.op = s.stc.op) (hpru : t.pru = s.pru) (hold : t.hra.hold = s.hra.hold)
    (hsinks : ∀ i, (t.hra.sinks.get i).grant = (s.hra.sinks.get i).grant ∧ (t.hra.sinks.get i).status = (s.hra.sinks.get i).status) :
    HoldFrame s t := by
  refine ⟨hs.phase, hop, by rw [hpru], by rw [hpru], hold, fun _ h i hi => ?_⟩
  rewrite [(hsinks i).1, (hsinks i).2]
  exact h i (by rwa [hs.cfg] at hi)

theorem OutputEvent.hold (h : OutputEvent s t) : HoldFrame s t :=
  .of_eq h.inner.setup.phase (by rw [h.inner.setup.cfg]) (by rw [h.stc]) h.pru h.hra

theorem LightEvent.hold (h : LightEvent s t) : HoldFrame s t :=
  .of_eq h.inner.setup.phase (by rw [h.inner.setup.cfg]) (by rw [h.stc]) h.pru h.hra

theorem BlocksKept.hold (h : BlocksKept s t) : HoldFrame s t := .of_eq h.phase (by rw [h.cfg]) (by rw [h.stc]) h.pru h.hra

/-- A bus event may bring a tripped part to HELD, and it stays so not ARMED (R172). -/
theorem BusKeeps.hold (h : BusKeeps s t) : HoldFrame s t := by
  refine ⟨h.setup.phase, by rw [h.stc], ?_, ?_, by rw [h.hra], fun _ k => by rwa [State.StandsHeld, h.setup.cfg, h.hra]⟩
  · rcases h.pru with e | ⟨hs, e⟩
    · rw [e]
    · simp [e, hs]
  · rcases h.pru with e | ⟨-, e⟩ <;> rw [e]

/-! ### The allocator -/

theorem recompute_hold (chosen : SinkConfig → Bool) (s : State) : HoldFrame s (s.recompute chosen) := by
  refine .of_sinks (recompute_heat ..).inner.setup rfl rfl rfl fun i => ?_
  simp only [State.recompute, State.setSinks, Table.get_mapIdx]
  split <;> exact ⟨rfl, rfl⟩

/-- A pass under the hold holds every STANDS sink (R98, R106). -/
theorem passWith_standsHeld (jumps : Bool) (hold : s.hra.hold = true) : (s.passWith jumps).StandsHeld := by
  intro i hi
  rewrite [(passWith_heat jumps s).inner.setup.cfg] at hi
  rewrite [passWith_hra]
  exact allocate_held hold hi

theorem passWith_hold_eq (jumps : Bool) (s : State) : (s.passWith jumps).hra.hold = s.hra.hold := by
  rewrite [passWith_hra]
  exact (allocate_fields s).2.2.2.2.1

theorem passWith_hold (jumps : Bool) (s : State) : HoldFrame s (s.passWith jumps) :=
  have h := passWith_heat jumps s
  ⟨h.inner.setup.phase, by rw [h.stc], by rw [h.pru], by rw [h.pru], passWith_hold_eq jumps s,
    fun hh _ => passWith_standsHeld jumps hh⟩

theorem handRemotes_hold (s : State) : HoldFrame s s.handRemotes := (handRemotes_event s).1.hold

theorem clearEnergy_hold (s : State) : HoldFrame s s.clearEnergy := by
  unfold State.clearEnergy
  split
  · exact .of_sinks ⟨rfl, rfl, rfl, rfl, rfl, rfl, rfl, rfl⟩ rfl rfl rfl fun i => by simp
  · exact .refl s

theorem HeatMove.hold (h : HeatMove s t) : HoldFrame s t :=
  h.casesOn (motive := fun t _ => HoldFrame s t)
    (passWith := passWith_hold true s)
    (clearEnergy := clearEnergy_hold s)

/-- No step by which the blocks inform each other touches the hold. -/
theorem Inform.hold (h : Inform s t) : HoldFrame s t := by
  cases h with
  | zones x => exact .of_eq rfl rfl rfl rfl rfl
  | sheets x => exact .of_eq rfl rfl rfl rfl rfl
  | points x => exact .of_eq rfl rfl rfl rfl rfl
  | tank sh b => exact ⟨rfl, rfl, .rfl, rfl, rfl, fun _ k => k⟩
  | recompute chosen => exact recompute_hold chosen s
  | handOn bs => exact (handOn_event bs s).1.hold
  | notice k x v => exact (notice_event ..).hold
  | pass jumps => exact passWith_hold jumps s
  | settle moved => exact (settleRemotes_event ..).1.hold
  | poll c => exact (enqueue_event ..).1.hold
  | mode m => exact .of_eq rfl rfl rfl rfl rfl
  | remove id => exact .of_eq rfl rfl rfl rfl rfl
  | scene k fade _ => exact (recallLights_light k fade s).hold

theorem Informs.hold (h : Informs s t) : HoldFrame s t :=
  h.keep (P := HoldFrame s) (fun _ _ f k => f.trans k.hold) (.refl s)

theorem ScheduleMove.hold (h : ScheduleMove s t) : HoldFrame s t := by
  cases h with
  | changeMode m => exact (changeMode_informs m s).hold
  | clock c e => exact .of_eq rfl rfl rfl rfl rfl
  | remove id => exact .of_eq rfl rfl rfl rfl rfl
  | insert start a room => exact .of_eq rfl rfl rfl rfl rfl

end HeatHold

section HeatHoldInvariant

variable {s t u : State} {strict : Prop}

/-- The invariant of the hold. Inside the end of a LOAD a trigger may stand deferred though the LOAD is over, so that `strict` says whether
a deferred trigger needs a LOAD. -/
structure HoldKept (strict : Prop) (s : State) : Prop where
  hold : s.hra.hold = true ↔ s.pru.state ≠ .armed
  run : s.hra.hold = true → s.phase = .run
  settle : s.phase = .settle → s.stc.op = .none
  load : s.stc.op = .load → s.pru.state = .armed
  deferred : s.pru.deferred ≠ [] → (strict → s.stc.op = .load) ∧ s.phase = .run
  stands : s.hra.hold = true → s.StandsHeld

theorem heatHoldKept_iff : HeatHoldKept s ↔ HoldKept True s :=
  ⟨fun h => ⟨h.hold, h.run, h.settle, h.load, fun d => ⟨fun _ => (h.deferred d).1, (h.deferred d).2⟩, h.stands⟩,
    fun h => ⟨h.hold, h.run, h.settle, h.load, fun d => ⟨(h.deferred d).1 trivial, (h.deferred d).2⟩, h.stands⟩⟩

theorem HoldKept.weaken (h : HoldKept True s) : HoldKept strict s :=
  ⟨h.hold, h.run, h.settle, h.load, fun d => ⟨fun _ => (h.deferred d).1 trivial, (h.deferred d).2⟩, h.stands⟩

theorem HoldKept.strengthen (h : HoldKept strict s) (d : s.pru.deferred = []) : HoldKept True s :=
  ⟨h.hold, h.run, h.settle, h.load, fun k => absurd d k, h.stands⟩

theorem HoldKept.of_frame (h : HoldKept strict s) (f : HoldFrame s t) : HoldKept strict t where
  hold := by rw [f.hold, h.hold, ne_eq, ne_eq, not_iff_not]; exact f.state.symm
  run := fun k => f.phase.trans (h.run (f.hold ▸ k))
  settle := fun k => f.op.trans (h.settle (f.phase ▸ k))
  load := fun k => f.state.mpr (h.load (f.op ▸ k))
  deferred := fun k => by rw [f.op, f.phase]; exact h.deferred (f.deferred ▸ k)
  stands := fun k => f.stands (f.hold ▸ k) (h.stands (f.hold ▸ k))

/-- The hold does not stand while protect is ARMED. -/
theorem HoldKept.free (h : HoldKept strict s) (armed : s.pru.state = .armed) : s.hra.hold = false :=
  Bool.eq_false_iff.mpr fun k => h.hold.mp k armed

/-! ### The trip -/

theorem notice_hold (k : NoticeKind) (x : Nat) (v : Int) (s : State) : HoldFrame s (s.notice k x v) := (notice_event ..).hold

theorem tripChannels_hra (s : State) : s.tripChannels.hra = s.hra := by
  simp only [State.tripChannels, State.mapChannels_hra]
  exact (relight_light [0, 1] (s.mapChannels fun _ r => r.stopEffect)).hra

theorem tripChannels_pru (s : State) : s.tripChannels.pru.state = s.pru.state ∧ s.tripChannels.pru.deferred = s.pru.deferred := by
  have h : ((s.mapChannels fun _ r => r.stopEffect).relight [0, 1]).pru = s.pru :=
    (relight_light [0, 1] (s.mapChannels fun _ r => r.stopEffect)).pru
  unfold State.tripChannels
  dsimp only
  rewrite [State.mapChannels_pru, h]
  exact ⟨rfl, rfl⟩

theorem captureAtTrip_rest (ts : List Trigger) (s : State) :
    (s.captureAtTrip ts).pru = s.pru ∧ (s.captureAtTrip ts).hra = s.hra ∧ (s.captureAtTrip ts).phase = s.phase := by
  unfold State.captureAtTrip
  split <;> exact ⟨rfl, rfl, rfl⟩

/-- The trip before its heat hold (R170). -/
def State.tripUnheld (ts : List Trigger) (s : State) : State := ((s.tripBegun ts).captureAtTrip ts).tripChannels.tripOutputs

theorem tripUnheld_pru (ts : List Trigger) (s : State) :
    (s.tripUnheld ts).pru.state = .tripped ∧ (s.tripUnheld ts).pru.deferred = s.pru.deferred := by
  have hb := (tripBegun_output ts s).pru
  obtain ⟨hc1, hc2⟩ := tripChannels_pru ((s.tripBegun ts).captureAtTrip ts)
  rewrite [(captureAtTrip_rest ts _).1, hb] at hc1 hc2
  rewrite [State.tripUnheld, (tripOutputs_event ((s.tripBegun ts).captureAtTrip ts).tripChannels).pru]
  exact ⟨hc1, hc2⟩

theorem tripUnheld_phase (ts : List Trigger) (s : State) : (s.tripUnheld ts).phase = s.phase := by
  have hb := (tripBegun_output ts s).inner.setup.phase
  have hc := (captureAtTrip_rest ts (s.tripBegun ts)).2.2
  have hl := (tripChannels_protect ((s.tripBegun ts).captureAtTrip ts)).inner.setup.phase
  have ho := (tripOutputs_event ((s.tripBegun ts).captureAtTrip ts).tripChannels).inner.setup.phase
  rewrite [State.tripUnheld, ho, hl, hc, hb]
  rfl

theorem trip_eq_held (ts : List Trigger) (s : State) : s.trip ts = ((s.tripUnheld ts).setHold true).heldTest := rfl

/-- The hold of a part in RUN is set with a pass (R106). -/
theorem setHold_run (on : Bool) (s : State) (run : s.phase = .run) :
    s.setHold on = ({ s with hra := { s.hra with hold := on } } : State).passWith true := by
  unfold State.setHold State.passTrigger
  exact if_pos run

theorem setHold_hold (on : Bool) (s : State) : (s.setHold on).hra.hold = on := (passTrigger_informs _).hold.hold

theorem op_of_captureAtTrip (ts : List Trigger) (op : s.stc.op ≠ .load) : (s.captureAtTrip ts).stc.op ≠ .load := by
  unfold State.captureAtTrip
  split
  · exact op
  · unfold State.capture
    extract_lets base c
    dsimp only
    split
    · simp [Stc.beginWrite, c]
    · exact op

/-- A trip in RUN sets the hold, with every STANDS sink held (R106, R170). -/
theorem trip_holdKept (ts : List Trigger) (run : s.phase = .run) (op : s.stc.op ≠ .load) (deferred : strict → s.pru.deferred = []) :
    HoldKept strict (s.trip ts) := by
  have ⟨hstate, hdeferred⟩ := tripUnheld_pru ts s
  have hrun : (s.tripUnheld ts).phase = .run := (tripUnheld_phase ts s).trans run
  have hheat := setHold_heat true (s.tripUnheld ts)
  have hop : ((s.tripUnheld ts).setHold true).stc.op ≠ .load := by
    have hs := trip_stc ts s
    rewrite [trip_eq_held, heldTest_stc] at hs
    rewrite [hs]
    exact op_of_captureAtTrip ts op
  have held : HoldKept strict ((s.tripUnheld ts).setHold true) := by
    refine ⟨?_, fun _ => hheat.inner.setup.phase.trans hrun, fun k => ?_, fun k => absurd k hop, fun k => ?_, fun _ => ?_⟩
    · rewrite [setHold_hold, hheat.pru, hstate]
      decide
    · rw [hheat.inner.setup.phase, hrun] at k
      cases k
    · rewrite [hheat.pru, hdeferred] at k
      exact ⟨fun hs => absurd (deferred hs) k, hheat.inner.setup.phase.trans hrun⟩
    · rewrite [setHold_run true _ hrun]
      exact passWith_standsHeld true rfl
  rewrite [trip_eq_held]
  exact held.of_frame (heldTest_frame _).hold

/-- A change of the Protect Unit's figures that are no part of the hold. -/
theorem setPru_hold (p : Pru) (s : State) (h1 : p.state = s.pru.state) (h2 : p.deferred = s.pru.deferred) : HoldFrame s (s.setPru p) :=
  ⟨rfl, rfl, by rw [← h1]; rfl, h2, rfl, fun _ h => h⟩

theorem raise_holdKept (h : HoldKept strict s) (x : Trigger) : HoldKept strict (s.raise x) := by
  unfold State.raise
  split
  · exact h
  · next hrun =>
    rewrite [not_ne_iff] at hrun
    split
    · next hop => exact ⟨h.hold, h.run, h.settle, h.load, fun _ => ⟨fun _ => hop, hrun⟩, h.stands⟩
    · next hop =>
      split
      · refine trip_holdKept [x] hrun hop fun hs => ?_
        by_contra hd
        exact hop ((h.deferred hd).1 hs)
      · split
        · exact h
        · exact (h.of_frame (setPru_hold { s.pru with triggers := insertTrigger x s.pru.triggers } s rfl rfl)).of_frame (notice_hold ..)

/-! ### The clear -/

/-- A clear ends the hold, with nothing left to hold (R107, R173). -/
theorem clear_holdKept (h : HoldKept strict s) (tripped : s.armed = false) : HoldKept strict s.clearProtect := by
  have hstate : s.pru.state ≠ .armed := by simpa [State.armed] using tripped
  have hrun : s.phase = .run := h.run (h.hold.mpr hstate)
  have hop : s.stc.op ≠ .load := fun k => hstate (h.load k)
  have hdeferred (hs : strict) : s.pru.deferred = [] := by
    by_contra k
    exact hop ((h.deferred k).1 hs)
  set p : Pru := { s.pru with state := .armed, triggers := [], arrived := false }
  have hn := notice_event .protect noTrigger (codeOf protectStates .armed) (s.setPru p)
  have hc := clearChannels_light ((s.setPru p).protectNotice noTrigger)
  have ho := clearOutputs_event ((s.setPru p).protectNotice noTrigger).clearChannels
  have hpru : (((s.setPru p).protectNotice noTrigger).clearChannels).clearOutputs.pru = p := ho.pru.trans (hc.pru.trans hn.pru)
  have hphase : (((s.setPru p).protectNotice noTrigger).clearChannels).clearOutputs.phase = .run :=
    ho.inner.setup.phase.trans (hc.inner.setup.phase.trans (hn.inner.setup.phase.trans hrun))
  have hstc : (((s.setPru p).protectNotice noTrigger).clearChannels).clearOutputs.stc = s.stc := ho.stc.trans (hc.stc.trans hn.stc)
  have hh := setHold_heat false (((s.setPru p).protectNotice noTrigger).clearChannels).clearOutputs
  have cleared : HoldKept strict ((((s.setPru p).protectNotice noTrigger).clearChannels).clearOutputs.setHold false) := by
    refine ⟨?_, fun k => ?_, fun k => ?_, fun k => ?_, fun k => ?_, fun k => ?_⟩
    · rewrite [setHold_hold, hh.pru, hpru]
      simp [p]
    · rw [setHold_hold] at k
      cases k
    · rw [hh.inner.setup.phase, hphase] at k
      cases k
    · rewrite [hh.stc, hstc] at k
      exact absurd k hop
    · rewrite [hh.pru, hpru] at k
      exact ⟨fun hs => absurd (hdeferred hs) k, hh.inner.setup.phase.trans hphase⟩
    · rw [setHold_hold] at k
      cases k
  exact cleared.of_frame (handRemotes_informs _).hold

/-! ### Protect moves -/

theorem keySpent_holdKept (h : HoldKept strict s) : HoldKept strict s.keySpent :=
  raise_holdKept (h.of_frame (setPru_hold { s.pru with key := .spent, keyTimer := 0 } s rfl rfl)) .key

theorem pressCounted_holdKept (h : HoldKept strict s) : HoldKept strict s.pressCounted := by
  unfold State.pressCounted
  split
  · exact keySpent_holdKept h
  · exact h.of_frame (setPru_hold _ s rfl rfl)

theorem pressKey_holdKept (h : HoldKept strict s) : HoldKept strict s.pressKey := by
  unfold State.pressKey
  split
  · split
    · exact pressCounted_holdKept h
    · exact h.of_frame (setPru_hold _ s rfl rfl)
  · exact h

theorem releaseKey_holdKept (h : HoldKept strict s) : HoldKept strict s.releaseKey := by
  unfold State.releaseKey
  split
  · exact h
  · exact h.of_frame (setPru_hold _ s rfl rfl)

theorem expireKey_holdKept (h : HoldKept strict s) : HoldKept strict s.expireKey := by
  unfold State.expireKey
  split
  · exact keySpent_holdKept h
  · exact h

theorem reportArrival_holdKept (h : HoldKept strict s) : HoldKept strict s.reportArrival := by
  unfold State.reportArrival
  split
  · exact (h.of_frame (setPru_hold { s.pru with arrived := true } s rfl rfl)).of_frame (heldTest_frame _).hold
  · exact h

theorem levelTrip_holdKept (h : HoldKept strict s) (run : s.phase = .run) (op : s.stc.op ≠ .load) : HoldKept strict s.levelTrip := by
  unfold State.levelTrip
  split
  · exact h
  · refine trip_holdKept _ run op fun hs => ?_
    by_contra hd
    exact op ((h.deferred hd).1 hs)

theorem evaluateProtect_holdKept (h : HoldKept strict s) (run : s.phase = .run) (op : s.stc.op ≠ .load) :
    HoldKept strict s.evaluateProtect := by
  have h1 := levelTrip_holdKept h run op
  rewrite [evaluateProtect_eq]
  split
  · exact pressCounted_holdKept h1
  · exact h1

theorem ProtectMove.holdKept (m : ProtectMove s t) (h : HoldKept strict s) : HoldKept strict t :=
  m.casesOn (motive := fun t _ => HoldKept strict t)
    (raise := fun x => raise_holdKept h x)
    (pin := fun active => h.of_frame (setPru_hold { s.pru with pin := active } s rfl rfl))
    (pressKey := pressKey_holdKept h)
    (releaseKey := releaseKey_holdKept h)
    (expireKey := expireKey_holdKept h)
    (clear := fun tripped => clear_holdKept h tripped)
    (reportArrival := reportArrival_holdKept h)
    (evaluate := fun run op => evaluateProtect_holdKept h run op)

/-! ### Point moves -/

theorem completePoint_holdKept (n : Nat) (stored : Bool) (i : Fin 64) (r : PointRun) (h : HoldKept strict s) :
    HoldKept strict (s.completePoint n stored i r) := by
  have h1 : HoldKept strict ((s.setPoint i r).pointNotices (s.ptb.points.get i) i) :=
    h.of_frame (Informs.hold ((setPoint_informs i r s).trans (pointNotices_informs ..)))
  have h2 : HoldKept strict (((s.setPoint i r).pointNotices (s.ptb.points.get i) i).pointsRaised n) := by
    unfold State.pointsRaised
    split
    · exact raise_holdKept h1 .point
    · exact h1
  unfold State.completePoint
  dsimp only
  split
  · exact h2.of_frame (Informs.hold ((informPoint_informs ..).trans (Triggered.finish_informs _)))
  · exact h2

theorem expireCritical_holdKept (sh : Fin 2) (h : HoldKept strict s) : HoldKept strict (s.expireCritical sh) := by
  unfold State.expireCritical
  dsimp only
  split
  · exact raise_holdKept (h.of_frame (setSheet_informs ..).hold) _
  · exact h

theorem PointMove.holdKept (m : PointMove s t) (h : HoldKept strict s) : HoldKept strict t :=
  m.casesOn (motive := fun t _ => HoldKept strict t)
    (update := fun i _ => completePoint_holdKept _ _ i _ h)
    (clearLatch := fun i => completePoint_holdKept _ _ i _ h)
    (age := h.of_frame (ageAll_informs s).hold)
    (heldAging := fun _ => h.of_frame (.of_eq rfl rfl rfl rfl rfl))
    (popEntry := h.of_frame (.of_eq rfl rfl rfl rfl rfl))
    (unbound := fun _ => h.of_frame (.of_eq rfl rfl rfl rfl rfl))
    (expireCritical := fun sh => expireCritical_holdKept sh h)

/-! ### Store moves -/

/-- A store operation that is no LOAD, before it and after it, bears on the hold only through SETTLE. -/
theorem HoldKept.store (h : HoldKept strict s) (f : HoldFrame { s with stc := t.stc } t) (before : s.stc.op ≠ .load)
    (after : t.stc.op ≠ .load) (settle : s.phase = .settle → t.stc.op = .none) : HoldKept strict t := by
  have h1 : HoldKept strict { s with stc := t.stc } :=
    ⟨h.hold, h.run, settle, fun k => absurd k after, fun k => ⟨fun hs => absurd ((h.deferred k).1 hs) before, (h.deferred k).2⟩, h.stands⟩
  exact h1.of_frame f

theorem capture_op (ts : List Trigger) (s : State) :
    (s.capture ts).stc.op = s.stc.op ∨ s.stc.op = .none ∧ (s.capture ts).stc.op = .snapshot := by
  unfold State.capture
  extract_lets base c
  dsimp only
  split
  · next hc => exact .inr ⟨hc, by simp [Stc.beginWrite, c]⟩
  · exact .inl rfl

theorem beginWrite_op (c : Stc) : c.beginWrite.op = c.op ∨ c.beginWrite.op = .snapshot := by
  unfold Stc.beginWrite
  split
  · exact .inr rfl
  · exact .inl rfl

theorem StoreMove.holdKept (m : StoreMove s t) (h : HoldKept strict s) : HoldKept strict t :=
  m.casesOn (motive := fun t _ => HoldKept strict t)
    (capture := fun live => by
      rcases capture_op [] s with e | ⟨e, e'⟩
      · exact h.of_frame (.of_eq rfl rfl e rfl rfl)
      · exact h.store (.of_eq rfl rfl rfl rfl rfl) (by simp [e]) (by simp [e']) fun k => absurd k live)
    (beginSave := fun live free => h.store (.of_eq rfl rfl rfl rfl rfl) (by simp [free]) (by simp [State.beginSave, State.setStc]) fun k => absurd k live)
    (beginLoad := fun live _ armed => by
      refine ⟨h.hold, h.run, fun k => absurd k live, fun _ => ?_, fun k => ⟨fun _ => rfl, (h.deferred k).2⟩, h.stands⟩
      simpa [State.armed] using armed)
    (endSave := fun check => by
      unfold State.endSave
      split
      · next hop =>
        have hw := beginWrite_op (s.stc.afterSave check)
        refine h.store (notice_hold ..) (by simp [hop]) ?_ fun k => ?_
        · change (s.stc.afterSave check).beginWrite.op ≠ .load
          rcases hw with e | e <;> rw [e]
          · exact fun k => nomatch k
          · exact fun k => nomatch k
        · rw [h.settle k] at hop
          cases hop
      · exact h)
    (endSnapshot := fun _ => by
      unfold State.endSnapshot
      split
      · next hop _ => exact h.store (notice_hold ..) (by simp [hop]) (by simp [State.storeNotice, State.setStc]) fun k => rfl
      · exact h)

/-! ### WRITEs -/

theorem setCfg_sinks_hold (c : Configuration) (h : c.sinks = s.cfg.sinks) : HoldFrame s (s.setCfg c) := .of_eq rfl h rfl rfl rfl

theorem writePoint_holdKept (i : Fin 64) (c : PointConfig) (h : HoldKept strict s) : HoldKept strict (s.writePoint i c) :=
  completePoint_holdKept _ _ i _ (h.of_frame (setCfg_sinks_hold { s.cfg with points := s.cfg.points.set i c } rfl))

theorem recheckTrigger_holdKept (sh : Fin 2) (h : HoldKept strict s) : HoldKept strict (s.recheckTrigger sh) := by
  unfold State.recheckTrigger
  extract_lets r hold on s1
  have h1 : HoldKept strict s1 := h.of_frame (setSheet_informs ..).hold
  split
  · exact raise_holdKept h1 _
  · exact h1

theorem sheetWritten_holdKept (sh : Fin 2) (h : HoldKept strict s) : HoldKept strict (s.sheetWritten sh) := by
  rewrite [sheetWritten_eq]
  exact (recheckTrigger_holdKept sh (h.of_frame (Informs.hold ((sheetRewritten_informs sh s).trans (Triggered.finish_informs _))))).of_frame
    (evaluateHeave_informs ..).hold

/-- A WRITE of a sink under the hold ends with a pass, in RUN, which holds the sink of its new kind too (R87, R106). -/
theorem sinkWritten_holdKept (i : Fin 12) (c : SinkConfig) (h : HoldKept strict s) : HoldKept strict (s.sinkWritten i c) := by
  unfold State.sinkWritten
  extract_lets changed base s1
  set s2 : State := if changed then s1.handOn [.sink] else s1
  have h2 : OutputEvent s1 s2 := by
    unfold s2
    split
    · exact (handOn_event ..).1
    · exact .refl s1
  have hold : s2.hra.hold = s.hra.hold := by
    rewrite [h2.hra]
    rfl
  have hphase : s2.phase = s.phase := h2.inner.setup.phase
  have hpru : s2.pru = s.pru := h2.pru
  have hstc : s2.stc = s.stc := h2.stc
  have hp := passTrigger_heat s2
  have passed : HoldKept strict s2.passTrigger := by
    have hold' := (passTrigger_informs s2).hold.hold.trans hold
    refine ⟨?_, fun k => ?_, fun k => ?_, fun k => ?_, fun k => ?_, fun k => ?_⟩
    · rewrite [hold', hp.pru, hpru]
      exact h.hold
    · rewrite [hp.inner.setup.phase, hphase]
      exact h.run (hold' ▸ k)
    · rewrite [hp.stc, hstc]
      exact h.settle (by rwa [hp.inner.setup.phase, hphase] at k)
    · rewrite [hp.pru, hpru]
      exact h.load (by rwa [hp.stc, hstc] at k)
    · rewrite [hp.stc, hstc, hp.inner.setup.phase, hphase]
      exact h.deferred (by rwa [hp.pru, hpru] at k)
    · rewrite [hold'] at k
      have hrun : s2.phase = .run := hphase.trans (h.run k)
      have he : s2.passTrigger = s2.passWith true := by
        unfold State.passTrigger
        exact if_pos hrun
      rewrite [he]
      exact passWith_standsHeld true (hold.trans k)
  exact passed.of_frame (settleRemotes_event ..).1.hold

theorem profileWritten_hold (i : Fin 5) (p : Profile) (s : State) : HoldFrame s (s.profileWritten i p) := by
  unfold State.profileWritten
  extract_lets old base s1 s2
  have h1 : HoldFrame s s1 := setCfg_sinks_hold _ rfl
  have h2 : HoldFrame s s2 := by
    unfold s2
    split
    · exact h1.trans (recomputeKinds_informs ..).hold
    · exact h1
  split
  · exact h1
  · split
    · exact h2.trans (Informs.hold ((recomputeDemands_informs _).trans (handRemotes_informs _)))
    · exact h2

theorem WriteMove.holdKept (m : WriteMove s t) (h : HoldKept strict s) : HoldKept strict t := by
  have set (c : Configuration) (hc : c.sinks = s.cfg.sinks) : HoldKept strict (s.setCfg c) := h.of_frame (setCfg_sinks_hold c hc)
  cases m with
  | point i c _ _ => exact writePoint_holdKept i c h
  | bus receiving c _ => exact (set { s.cfg with bus := c } rfl).of_frame (applyLineWhenIdle_frame ..).hold
  | window i c _ => exact set _ rfl
  | sheet sh c _ => exact sheetWritten_holdKept sh (set { s.cfg with sheets := s.cfg.sheets.set sh c } rfl)
  | zone z c _ => exact (set { s.cfg with zones := s.cfg.zones.set z c } rfl).of_frame (zoneWritten_informs ..).hold
  | sink i c _ => exact sinkWritten_holdKept i c h
  | allocator c _ => exact set _ rfl
  | channel i c _ => exact (set { s.cfg with channels := s.cfg.channels.set i c } rfl).of_frame (channelWritten_light ..).hold
  | scene i c _ => exact set _ rfl
  | output i c wasNone _ => exact (set { s.cfg with outputs := s.cfg.outputs.set i c } rfl).of_frame (outputWritten_event ..).hold
  | stage full _ => exact (set { s.cfg with backupFull := full } rfl).of_frame (Informs.hold ((handOn_informs ..).trans (handRemotes_informs _)))
  | remote i c wasNone _ => exact (set { s.cfg with remotes := s.cfg.remotes.set i c } rfl).of_frame (remoteWritten_event ..).hold
  | profile i p _ => exact h.of_frame (profileWritten_hold i p s)
  | protect p _ => exact set _ rfl
  | notice c _ => exact set _ rfl

/-! ### Phases and time -/

theorem samplePins_hold (s : State) : HoldFrame s s.samplePins :=
  have h := (sampleHand_frame s.pins.hand s).hold
  ⟨h.phase, h.op, .rfl, rfl, h.hold, h.stands⟩

/-- A part with no hold, ARMED, with nothing deferred and no store operation. -/
theorem HoldKept.fresh (hold : s.hra.hold = false) (state : s.pru.state = .armed) (deferred : s.pru.deferred = [])
    (op : s.stc.op = .none) : HoldKept strict s := by
  refine ⟨by simp [hold, state], fun k => ?_, fun _ => op, fun _ => state, fun k => absurd deferred k, fun k => ?_⟩
  · rw [hold] at k
    cases k
  · rw [hold] at k
    cases k

theorem PhaseMove.holdKept (m : PhaseMove s t) (h : HoldKept strict s) : HoldKept strict t :=
  m.casesOn (motive := fun t _ => HoldKept strict t)
    (beginSettle := fun _ _ => .fresh rfl rfl rfl rfl)
    (resetBlocks := fun c settle _ => by
      have fresh : HoldKept strict (s.resetBlocks c) := .fresh rfl rfl rfl (h.settle settle)
      exact fresh.of_frame (samplePins_hold _))
    (run := fun _ => ⟨h.hold, fun _ => rfl, (fun k => nomatch k), h.load, fun k => ⟨(h.deferred k).1, rfl⟩, h.stands⟩)
    (passMs := h.of_frame ⟨rfl, rfl, .rfl, rfl, rfl, fun _ k => k⟩)
    (passSecond := h.of_frame ⟨rfl, rfl, .rfl, rfl, rfl, fun _ k => k⟩)

/-- Every move keeps the invariant. -/
theorem Move.holdKept (m : Move s t) (h : HoldKept strict s) : HoldKept strict t :=
  m.casesOn (motive := fun _ => HoldKept strict t)
    (link := fun m => h.of_frame m.blocks.hold)
    (bus := fun m => h.of_frame m.frame.hold)
    (light := fun m => h.of_frame m.event.hold)
    (output := fun m => h.of_frame m.event.hold)
    (heat := fun m => h.of_frame m.hold)
    (sheet := fun m => h.of_frame m.informs.hold)
    (protect := fun m => m.holdKept h)
    (point := fun m => m.holdKept h)
    (schedule := fun m => h.of_frame m.hold)
    (store := fun m => m.holdKept h)
    (write := fun m => m.holdKept h)
    (phase := fun m => m.holdKept h)

theorem Moves.holdKept (c : Moves s t) (h : HoldKept strict s) : HoldKept strict t := by
  induction c with
  | refl => exact h
  | tail _ m ih => exact m.holdKept ih

/-! ### The end of a LOAD -/

theorem loadSheet_holdKept (sh : Fin 2) (h : HoldKept strict s) : HoldKept strict (s.loadSheet sh).state :=
  (recheckTrigger_holdKept sh (h.of_frame (Informs.hold ((setSheet_informs ..).trans (sheetNotice_informs ..))))).of_frame (evaluateHeave_informs ..).hold

/-- A LOAD runs only while protect is ARMED, so that no hold stands on the sinks it replaces (R107). -/
theorem takeImage_holdKept (receiving : Bool) (image : Configuration) (h : HoldKept strict s) (loading : s.stc.op = .load) :
    HoldKept strict (s.takeImage receiving image) := by
  have free := h.free (h.load loading)
  have replaced : HoldFrame s (({ s with cfg := image } : State).loadPoints) :=
    ⟨rfl, rfl, .rfl, rfl, rfl, fun k => by rw [free] at k; cases k⟩
  have lined : HoldKept strict ((({ s with cfg := image } : State).loadPoints).applyLineWhenIdle receiving) :=
    h.of_frame (replaced.trans (applyLineWhenIdle_frame ..).hold)
  have sheets := loadSheet_holdKept 1 (loadSheet_holdKept 0 lined)
  unfold State.takeImage
  extract_lets s1 a b s2
  have loaded : HoldFrame b.state s2 :=
    ((Informs.hold ((loadZones_informs ..).trans (recompute_informs ..))).trans (loadChannels_light _).hold).trans (loadOutputs_event _).hold
  exact (sheets.of_frame loaded).of_frame (passes_informs ..).hold

/-- The deferred triggers trip or join the set, and none stays deferred (R171). -/
theorem deferredTrip_holdKept (h : HoldKept False s) (op : s.stc.op ≠ .load) : HoldKept True s.deferredTrip := by
  unfold State.deferredTrip
  extract_lets ts p s1
  have h1 : HoldKept True s1 := ⟨h.hold, h.run, h.settle, h.load, fun k => absurd rfl k, h.stands⟩
  split
  · exact h1
  · next hts =>
    split
    · refine trip_holdKept ts (h.deferred fun k => hts ?_).2 op fun _ => rfl
      simp [ts, k]
    · exact foldl_induct (P := HoldKept True) _ _ _ h1 fun _ x k => raise_holdKept k x

theorem afterLoad_holdKept (h : HoldKept False s) (op : s.stc.op ≠ .load) : HoldKept True s.afterLoad := by
  have tripFirst (x : State) (hx : HoldKept False x) (hop : x.stc.op ≠ .load) : HoldKept True x.deferredTrip.takeHeld :=
    (deferredTrip_holdKept hx hop).of_frame (takeHeld_informs _).hold
  have heldFirst (x : State) (hx : HoldKept False x) (hop : x.stc.op ≠ .load) : HoldKept True x.takeHeld.deferredTrip :=
    deferredTrip_holdKept (hx.of_frame (takeHeld_informs _).hold) fun k => hop ((takeHeld_informs x).hold.op ▸ k)
  have hchoice : HoldKept False { s with choices := s.choices + 1 } := h.of_frame (.of_eq rfl rfl rfl rfl rfl)
  unfold State.afterLoad
  split
  · dsimp only
    split
    · exact tripFirst _ hchoice op
    · exact heldFirst _ hchoice op
  · exact tripFirst s h op

theorem endLoad_holdKept (receiving : Bool) (h : HoldKept True s) : HoldKept True (s.endLoad receiving) := by
  unfold State.endLoad
  split
  · next loading =>
    have ends (x : State) (hx : HoldKept True x) : HoldKept True (x.setStc { x.stc with op := .none }).afterLoad := by
      exact afterLoad_holdKept ⟨hx.hold, hx.run, fun _ => rfl, (fun k => nomatch k), fun k => ⟨False.elim, (hx.deferred k).2⟩, hx.stands⟩ (fun k => nomatch k)
    dsimp only
    split
    · next image _ => exact ends _ ((takeImage_holdKept receiving image h loading).of_frame (notice_hold ..))
    · exact ends _ (h.of_frame (notice_hold ..))
  · exact h

theorem Turn.holdKept (m : Turn s t) (h : HoldKept True s) : HoldKept True t :=
  m.casesOn (motive := fun _ => HoldKept True t)
    (move := fun m => m.holdKept h)
    (load := fun receiving e => e ▸ endLoad_holdKept receiving h)
    (settle := fun settling e => by
      rewrite [e]
      refine (endSettle_moves s settling fun k => ?_).holdKept h
      rw [h.settle settling] at k
      cases k)

end HeatHoldInvariant

/-- Settles O53. -/
theorem heatHoldKeptByStep : Obligations.HeatHoldKeptByStep := by
  intro s t h hst
  rewrite [heatHoldKept_iff] at h ⊢
  exact step_keeps (P := HoldKept True) (fun _ _ h => h.of_frame (.of_eq rfl rfl rfl rfl rfl)) (fun _ _ h m => m.holdKept h) h hst

/-! PROOF. Laws of the lighting: what recomputing demand and derate, setting targets and aiming leave, and that L_up, D and the effective
targets stay current (R123 to R125). -/

section Lighting

variable {s t u : State} {sh : Fin 2} {i : Fin 32}

/-! ### L_up and D -/

theorem lUp_congr (h : ∀ i, ((t.cfg.channels.get i).sheet = some sh ∨ (s.cfg.channels.get i).sheet = some sh) →
    t.cfg.channels.get i = s.cfg.channels.get i ∧
      (t.lsq.channels.get i).demandLevel = (s.lsq.channels.get i).demandLevel) : t.lUp sh = s.lUp sh := by
  unfold State.lUp
  congr 1
  funext i
  dsimp only
  by_cases ht : (t.cfg.channels.get i).sheet = some sh
  · obtain ⟨hc, hd⟩ := h i (.inl ht)
    rw [demandLoad, demandLoad, hd, hc]
  · by_cases hs : (s.cfg.channels.get i).sheet = some sh
    · obtain ⟨hc, hd⟩ := h i (.inr hs)
      rw [demandLoad, demandLoad, hd, hc]
    · rw [if_neg ht, if_neg hs]

/-- The record of a sheet with its L_up and D recomputed (R123 to R125). -/
def State.relit (s : State) (sh : Fin 2) : SheetLight :=
  { s.lsq.sheets.get sh with lUp := s.lUp sh, derate := derateOf (s.lsq.sheets.get sh).allowance (s.lUp sh) }

theorem relightSheet_lsq (sh : Fin 2) (s : State) :
    (s.relightSheet sh).lsq = { s.lsq with sheets := s.lsq.sheets.set sh (s.relit sh) } := (noticeIf_event ..).lsq

theorem relightSheet_cfg (sh : Fin 2) (s : State) : (s.relightSheet sh).cfg = s.cfg := (relightSheet_heat sh s).inner.setup.cfg

/-- Recomputing one sheet leaves what another sheet's L_up and D come from. -/
theorem relit_relightSheet {a b : Fin 2} (h : a ≠ b) (s : State) : (s.relightSheet a).relit b = s.relit b := by
  have hl := relightSheet_lsq a s
  have hup : (s.relightSheet a).lUp b = s.lUp b := lUp_congr fun i _ => by rw [relightSheet_cfg, hl]; exact ⟨rfl, rfl⟩
  simp only [State.relit, hup, hl, Table.get_set_ne _ h]

theorem forEach_two {σ : Type} (f : Fin 2 → σ → σ) (x : σ) : forEach 2 f x = f 1 (f 0 x) := rfl

/-- The given sheets are recomputed, each from what stood before. -/
theorem relight_lsq (shs : List (Fin 2)) (s : State) :
    (s.relight shs).lsq.channels = s.lsq.channels ∧
      ∀ sh, (s.relight shs).lsq.sheets.get sh = if shs.contains sh then s.relit sh else s.lsq.sheets.get sh := by
  have step (a : Fin 2) (x : State) : (if shs.contains a then x.relightSheet a else x).lsq.channels = x.lsq.channels ∧
      ∀ sh, (if shs.contains a then x.relightSheet a else x).lsq.sheets.get sh =
        if sh = a ∧ shs.contains a then x.relit a else x.lsq.sheets.get sh := by
    by_cases hc : shs.contains a = true
    · rewrite [if_pos hc]
      refine ⟨by rw [relightSheet_lsq], fun sh => ?_⟩
      rewrite [relightSheet_lsq]
      dsimp only
      rewrite [Table.get_set]
      by_cases e : a = sh
      · simp only [e, ← e ▸ hc, and_self, if_true]
      · rw [if_neg e, if_neg fun k => e k.1.symm]
    · rewrite [if_neg hc]
      exact ⟨rfl, fun sh => by rw [if_neg fun k => hc k.2]⟩
  have hrelit : (if shs.contains 0 then s.relightSheet 0 else s).relit 1 = s.relit 1 := by
    split
    · exact relit_relightSheet (by decide) s
    · rfl
  unfold State.relight
  rewrite [forEach_two]
  obtain ⟨c0, s0⟩ := step 0 s
  obtain ⟨c1, s1⟩ := step 1 (if shs.contains 0 then s.relightSheet 0 else s)
  refine ⟨c1.trans c0, fun sh => ?_⟩
  rewrite [s1, s0, hrelit]
  match sh with
  | 0 => simp
  | 1 => simp

theorem relight_cfg (shs : List (Fin 2)) (s : State) : (s.relight shs).cfg = s.cfg := (relight_light shs s).inner.setup.cfg

theorem relight_armed (shs : List (Fin 2)) (s : State) : (s.relight shs).armed = s.armed := by
  unfold State.armed
  rw [(relight_light shs s).pru]

/-! ### Targets and fades -/

theorem setTargets_get (chosen : Fin 32 → Bool) (s : State) (i : Fin 32) :
    (s.setTargets chosen).lsq.channels.get i =
      if s.armed = true ∧ chosen i = true then { s.lsq.channels.get i with target := s.effectiveTarget i }
      else s.lsq.channels.get i := by
  unfold State.setTargets
  by_cases h : s.armed = true
  · simp [h, State.mapChannels]
  · simp [h]

theorem setTargets_rest (chosen : Fin 32 → Bool) (s : State) :
    (s.setTargets chosen).lsq.sheets = s.lsq.sheets ∧ (s.setTargets chosen).cfg = s.cfg ∧ (s.setTargets chosen).pru = s.pru := by
  unfold State.setTargets
  split <;> exact ⟨rfl, rfl, rfl⟩

theorem aimChannels_get (jumps : Bool) (chosen : Fin 32 → Bool) (s : State) (i : Fin 32) :
    (s.aimChannels jumps chosen).lsq.channels.get i =
      if chosen i then (s.lsq.channels.get i).aim (s.phase == .run) jumps else s.lsq.channels.get i := by
  simp [State.aimChannels, State.mapChannels]

/-- A channel's derate factor comes from its own sheet alone. -/
theorem channelDerate_congr {c : ChannelConfig}
    (h : ∀ sh, c.sheet = some sh → (t.lsq.sheets.get sh).derate = (s.lsq.sheets.get sh).derate) :
    t.channelDerate c = s.channelDerate c := by
  unfold State.channelDerate
  cases hs : c.sheet with
  | none => rfl
  | some sh => exact h sh hs

theorem setChannel_get (i j : Fin 32) (r : ChannelRun) (s : State) :
    (s.setChannel i r).lsq.channels.get j = if i = j then r else s.lsq.channels.get j := Table.get_set ..

theorem setChannel_rest (i : Fin 32) (r : ChannelRun) (s : State) :
    (s.setChannel i r).lsq.sheets = s.lsq.sheets ∧ (s.setChannel i r).cfg = s.cfg ∧ (s.setChannel i r).pru = s.pru := ⟨rfl, rfl, rfl⟩

/-- Channels off the sheets are on none of them. -/
theorem onSheets_eq_false {shs : List (Fin 2)} {i : Fin 32} (h : s.onSheets shs i = false) {sh : Fin 2}
    (hs : (s.cfg.channels.get i).sheet = some sh) : shs.contains sh = false := by
  simpa only [State.onSheets, hs] using h

/-! ### What leaves the figures current -/

/-- What bears on L_up, D and the targets stays. -/
structure LightFrame (s t : State) : Prop where
  channels : t.cfg.channels = s.cfg.channels
  sheets : t.lsq.sheets = s.lsq.sheets
  demand : ∀ i, (t.lsq.channels.get i).demandLevel = (s.lsq.channels.get i).demandLevel
  base : ∀ i, (t.lsq.channels.get i).base = (s.lsq.channels.get i).base
  target : ∀ i, (t.lsq.channels.get i).target = (s.lsq.channels.get i).target
  armed : t.pru.state = .armed → s.pru.state = .armed

theorem LightFrame.of_eq (hc : t.cfg.channels = s.cfg.channels) (hl : t.lsq = s.lsq)
    (hp : t.pru.state = .armed → s.pru.state = .armed) : LightFrame s t :=
  ⟨hc, by rw [hl], fun _ => by rw [hl], fun _ => by rw [hl], fun _ => by rw [hl], hp⟩

theorem LightFrame.effectiveTarget (h : LightFrame s t) (i : Fin 32) : t.effectiveTarget i = s.effectiveTarget i := by
  simp only [State.effectiveTarget, State.channelDerate, h.channels, h.sheets, h.base]

theorem LightingCurrent.of_frame (h : LightingCurrent s) (f : LightFrame s t) : LightingCurrent t := by
  have hup (sh : Fin 2) : t.lUp sh = s.lUp sh := lUp_congr fun i _ => ⟨by rw [f.channels], f.demand i⟩
  refine ⟨fun sh => ?_, fun sh => ?_, fun ha i => ?_⟩
  · rewrite [f.sheets, hup]
    exact h.lUp sh
  · rewrite [f.sheets]
    exact h.derate sh
  · rewrite [f.target, f.effectiveTarget]
    exact h.targets (f.armed ha) i

theorem BusKeeps.lightFrame (h : BusKeeps s t) : LightFrame s t := by
  refine .of_eq (by rw [h.setup.cfg]) h.lsq fun ha => ?_
  rcases h.pru with e | ⟨-, e⟩
  · rwa [e] at ha
  · rw [e] at ha
    cases ha

theorem OutputEvent.lightFrame (h : OutputEvent s t) : LightFrame s t :=
  .of_eq (by rw [h.inner.setup.cfg]) h.lsq fun ha => by rwa [h.pru] at ha

theorem BlocksKept.lightFrame (h : BlocksKept s t) : LightFrame s t :=
  .of_eq (by rw [h.cfg]) h.lsq fun ha => by rwa [h.pru] at ha

theorem aimChannels_lightFrame (jumps : Bool) (chosen : Fin 32 → Bool) (s : State) : LightFrame s (s.aimChannels jumps chosen) := by
  have h (i : Fin 32) : ((s.aimChannels jumps chosen).lsq.channels.get i).base = (s.lsq.channels.get i).base ∧
      ((s.aimChannels jumps chosen).lsq.channels.get i).effect = (s.lsq.channels.get i).effect ∧
      ((s.aimChannels jumps chosen).lsq.channels.get i).target = (s.lsq.channels.get i).target := by
    rewrite [aimChannels_get]
    split
    · obtain ⟨h1, h2, -, -, -, h6⟩ := ChannelRun.aim_kept (s.phase == .run) jumps (s.lsq.channels.get i)
      exact ⟨h1, h2, h6⟩
    · exact ⟨rfl, rfl, rfl⟩
  exact ⟨rfl, rfl, fun i => by rw [ChannelRun.demandLevel, (h i).1, (h i).2.1]; rfl, fun i => (h i).1, fun i => (h i).2.2, id⟩

theorem handOn_lightFrame (bs : List OutputBinding) (s : State) : LightFrame s (s.handOn bs) := (handOn_event bs s).1.lightFrame

theorem handRemotes_lightFrame (s : State) : LightFrame s s.handRemotes := (handRemotes_event s).1.lightFrame

/-! ### What makes them current -/

/-- Current but on some sheets, and but for the targets of some channels. -/
structure CurrentBut (shs : List (Fin 2)) (also : Fin 32 → Bool) (s : State) : Prop where
  lUp : ∀ sh, shs.contains sh = false → (s.lsq.sheets.get sh).lUp = s.lUp sh
  derate : ∀ sh, shs.contains sh = false →
    (s.lsq.sheets.get sh).derate = derateOf (s.lsq.sheets.get sh).allowance (s.lsq.sheets.get sh).lUp
  targets : s.pru.state = .armed → ∀ i, s.onSheets shs i = false → also i = false →
    (s.lsq.channels.get i).target = s.effectiveTarget i

/-- With both sheets and every channel excepted nothing is asked. -/
theorem CurrentBut.all (s : State) : CurrentBut [0, 1] (fun _ => true) s :=
  ⟨fun sh h => absurd h (by match sh with | 0 => decide | 1 => decide),
    fun sh h => absurd h (by match sh with | 0 => decide | 1 => decide), fun _ _ _ h => nomatch h⟩

theorem armed_iff : s.armed = true ↔ s.pru.state = .armed := by simp [State.armed]

/-- The excepted sheets recomputed and the targets of the excepted channels set, everything is current. -/
theorem CurrentBut.settled {shs : List (Fin 2)} {also chosen : Fin 32 → Bool} (h : CurrentBut shs also s)
    (hch : ∀ i, s.onSheets shs i = true ∨ also i = true → chosen i = true) :
    LightingCurrent ((s.relight shs).setTargets chosen) := by
  obtain ⟨hchan, hsheet⟩ := relight_lsq shs s
  obtain ⟨h1, h2, h3⟩ := setTargets_rest chosen (s.relight shs)
  have hcfg := h2.trans (relight_cfg shs s)
  have hkept (i : Fin 32) : (((s.relight shs).setTargets chosen).lsq.channels.get i).base = (s.lsq.channels.get i).base ∧
      (((s.relight shs).setTargets chosen).lsq.channels.get i).effect = (s.lsq.channels.get i).effect := by
    rewrite [setTargets_get, hchan]
    split <;> exact ⟨rfl, rfl⟩
  have hup (sh : Fin 2) : ((s.relight shs).setTargets chosen).lUp sh = s.lUp sh :=
    lUp_congr fun i _ => ⟨by rw [hcfg], by rw [ChannelRun.demandLevel, (hkept i).1, (hkept i).2]; rfl⟩
  refine ⟨fun sh => ?_, fun sh => ?_, fun ha i => ?_⟩
  · rewrite [h1, hsheet, hup]
    split
    · rfl
    · next hn => exact h.lUp sh (Bool.eq_false_iff.mpr hn)
  · rewrite [h1, hsheet]
    split
    · simp only [State.relit]
    · next hn => exact h.derate sh (Bool.eq_false_iff.mpr hn)
  · rewrite [h3, (relight_light shs s).pru] at ha
    have heff : ((s.relight shs).setTargets chosen).effectiveTarget i = (s.relight shs).effectiveTarget i := by
      simp only [State.effectiveTarget, State.channelDerate, h1, h2, (hkept i).1, hchan]
    rewrite [heff, setTargets_get]
    split
    · rfl
    · next hn =>
      have harmed : (s.relight shs).armed = true := by rw [relight_armed, armed_iff]; exact ha
      have hnot : ¬ (s.onSheets shs i = true ∨ also i = true) := fun k => hn ⟨harmed, hch i k⟩
      simp only [not_or, Bool.not_eq_true] at hnot
      rewrite [hchan, h.targets ha i hnot.1 hnot.2]
      have hd : (s.relight shs).channelDerate (s.cfg.channels.get i) = s.channelDerate (s.cfg.channels.get i) := by
        refine channelDerate_congr fun sh hs => ?_
        rewrite [hsheet, onSheets_eq_false hnot.1 hs]
        simp
      simp only [State.effectiveTarget, relight_cfg, hd, hchan]

theorem onSheets_congr (h : t.cfg.channels = s.cfg.channels) (shs : List (Fin 2)) (i : Fin 32) :
    t.onSheets shs i = s.onSheets shs i := by
  simp only [State.onSheets, h]

theorem CurrentBut.relightAndAim {shs : List (Fin 2)} {also : Fin 32 → Bool} (h : CurrentBut shs also s) (jumps : Bool) :
    LightingCurrent (s.relightAndAim jumps shs also) := by
  unfold State.relightAndAim
  extract_lets s1 chosen s2
  have h2 : LightingCurrent s2 := h.settled fun i hi => by
    unfold chosen
    rewrite [onSheets_congr (congrArg Configuration.channels (relight_cfg shs s))]
    simpa using hi
  split
  · exact h2.of_frame (aimChannels_lightFrame ..)
  · exact h2

/-- Recomputed and under protect, the figures are current. -/
theorem CurrentBut.relight {shs : List (Fin 2)} (h : CurrentBut shs (fun _ => true) s) (ha : s.armed = false) :
    LightingCurrent (s.relight shs) := by
  have hs := h.settled (chosen := fun _ => true) fun _ _ => rfl
  unfold State.setTargets at hs
  rwa [relight_armed, ha] at hs

end Lighting

/-! PROOF. L_up, D and, while ARMED, every effective target are current after every step (R123 to R125, R128, R131, R134). -/

section LightingInvariant

variable {s t u : State} {sh : Fin 2} {i : Fin 32}

/-! ### The allowance and the pass -/

theorem receiveAllowance_current (jumps : Bool) (sh : Fin 2) (a : Power) (h : LightingCurrent s) :
    LightingCurrent (s.receiveAllowance jumps sh a) := by
  unfold State.receiveAllowance
  extract_lets l base s1
  have hother (sh' : Fin 2) (hn : [sh].contains sh' = false) : s1.lsq.sheets.get sh' = s.lsq.sheets.get sh' :=
    Table.get_set_ne _ (fun e => by simp [e] at hn) _
  have but : CurrentBut [sh] (fun _ => false) s1 := by
    refine ⟨fun sh' hn => ?_, fun sh' hn => ?_, fun ha i hn _ => ?_⟩
    · rewrite [hother sh' hn]
      exact h.lUp sh'
    · rewrite [hother sh' hn]
      exact h.derate sh'
    · have hd : s1.channelDerate (s.cfg.channels.get i) = s.channelDerate (s.cfg.channels.get i) :=
        channelDerate_congr fun sh' hs => congrArg SheetLight.derate (hother sh' (onSheets_eq_false (s := s) hn hs))
      have ht : s1.effectiveTarget i = s.effectiveTarget i := by
        unfold State.effectiveTarget
        dsimp only
        rw [hd]
      rewrite [ht]
      exact h.targets ha i
  exact (but.relightAndAim jumps).of_frame (handOn_lightFrame ..)

theorem noticeIf_lightFrame (c : Bool) (k : NoticeKind) (x : Nat) (v : Int) (s : State) : LightFrame s (s.noticeIf c k x v) :=
  (noticeIf_event ..).lightFrame

theorem takeBudgets_lightFrame (x : Hra) (s : State) : LightFrame s { s.takeBudgets with hra := x } := .of_eq rfl rfl id

theorem passWith_current (jumps : Bool) (h : LightingCurrent s) : LightingCurrent (s.passWith jumps) := by
  unfold State.passWith
  extract_lets before wasBackup out base s1 s2 s3 s4
  have h1 : LightingCurrent s1 := h.of_frame (takeBudgets_lightFrame out.1 s)
  have h2 : LightingCurrent s2 := forEach_induct (P := LightingCurrent) _ _ h1 fun sh _ hx => receiveAllowance_current jumps sh _ hx
  have h3 : LightingCurrent s3 := h2.of_frame (handOn_lightFrame ..)
  have h4 : LightingCurrent s4 := foldl_induct (P := LightingCurrent) _ _ _ h3 fun _ _ hx => hx.of_frame (noticeIf_lightFrame ..)
  exact h4.of_frame (noticeIf_lightFrame ..)

/-! ### Scenes -/

theorem recallLights_current (k : Fin 24) (fade : Option Nat) (s : State) : LightingCurrent (s.recallLights k fade) := by
  unfold State.recallLights
  extract_lets scene f present s1 s2 s3
  have h2 : LightingCurrent s2 := (CurrentBut.all s1).settled fun _ _ => rfl
  have h3 : LightFrame s2 s3 := by
    have h (i : Fin 32) : (s3.lsq.channels.get i).base = (s2.lsq.channels.get i).base ∧
        (s3.lsq.channels.get i).effect = (s2.lsq.channels.get i).effect ∧
        (s3.lsq.channels.get i).target = (s2.lsq.channels.get i).target := by
      simp only [s3, State.mapChannels, Table.get_mapIdx]
      split <;> exact ⟨rfl, rfl, rfl⟩
    exact ⟨rfl, rfl, fun i => by rw [ChannelRun.demandLevel, (h i).1, (h i).2.1]; rfl, fun i => (h i).1, fun i => (h i).2.2, id⟩
  exact ((h2.of_frame h3).of_frame (aimChannels_lightFrame ..)).of_frame (handOn_lightFrame ..)

/-! ### Informs -/

theorem Inform.current (h : LightingCurrent s) (m : Inform s t) : LightingCurrent t := by
  cases m with
  | zones x => exact h.of_frame (.of_eq rfl rfl id)
  | sheets x => exact h.of_frame (.of_eq rfl rfl id)
  | points x => exact h.of_frame (.of_eq rfl rfl id)
  | tank sh b => exact h.of_frame (.of_eq rfl rfl id)
  | recompute chosen => exact h.of_frame (.of_eq rfl rfl id)
  | handOn bs => exact h.of_frame (handOn_lightFrame bs s)
  | notice k x v => exact h.of_frame (notice_event ..).lightFrame
  | pass jumps => exact passWith_current jumps h
  | settle moved => exact h.of_frame (settleRemotes_event ..).1.lightFrame
  | poll c => exact h.of_frame (enqueue_event ..).1.lightFrame
  | mode m => exact h.of_frame (.of_eq rfl rfl id)
  | remove id' => exact h.of_frame (.of_eq rfl rfl id)
  | scene k fade _ => exact recallLights_current k fade s

theorem Informs.current (m : Informs s t) (h : LightingCurrent s) : LightingCurrent t := m.keep (fun _ _ => Inform.current) h

/-! ### One channel -/

/-- A change of one channel leaves the other sheets' figures and the other channels' targets. -/
theorem setChannel_but (i : Fin 32) (r : ChannelRun) (h : LightingCurrent s) :
    CurrentBut (s.sheetsOf i) (· == i) (s.setChannel i r) := by
  have hget (j : Fin 32) (hj : j ≠ i) : (s.setChannel i r).lsq.channels.get j = s.lsq.channels.get j := by
    rw [setChannel_get, if_neg hj.symm]
  obtain ⟨hsheets, hcfg, hpru⟩ := setChannel_rest i r s
  have hup (sh : Fin 2) (hn : (s.sheetsOf i).contains sh = false) : (s.setChannel i r).lUp sh = s.lUp sh := by
    refine lUp_congr fun j hj => ⟨rfl, ?_⟩
    rw [hget j]
    rintro rfl
    have hs : (s.cfg.channels.get j).sheet = some sh := hj.elim id id
    simp [State.sheetsOf, hs] at hn
  refine ⟨fun sh hn => ?_, fun sh _ => ?_, fun ha j _ hj => ?_⟩
  · rewrite [hsheets, hup sh hn]
    exact h.lUp sh
  · rewrite [hsheets]
    exact h.derate sh
  · have hne : j ≠ i := by simpa using hj
    have ht : (s.setChannel i r).effectiveTarget j = s.effectiveTarget j := by
      simp only [State.effectiveTarget, State.channelDerate, hget j hne, hcfg, hsheets]
    rewrite [hget j hne, ht]
    exact h.targets ha j

theorem setBase_current (i : Fin 32) (level : Nat) (h : LightingCurrent s) : LightingCurrent (s.setBase i level) :=
  (((setChannel_but i _ h).relightAndAim true).of_frame (handOn_lightFrame ..)).of_frame (handRemotes_lightFrame _)

/-- A change of a level alone, or of what an effect remembers of its phase. -/
theorem setChannel_lightFrame (i : Fin 32) {r : ChannelRun} (hb : r.base = (s.lsq.channels.get i).base)
    (hd : r.demandLevel = (s.lsq.channels.get i).demandLevel) (ht : r.target = (s.lsq.channels.get i).target) :
    LightFrame s (s.setChannel i r) := by
  refine ⟨rfl, rfl, fun j => ?_, fun j => ?_, fun j => ?_, id⟩ <;> rw [setChannel_get] <;> split
  · next e => rw [hd, e]
  · rfl
  · next e => rw [hb, e]
  · rfl
  · next e => rw [ht, e]
  · rfl

theorem takeSample_lightFrame (i : Fin 32) (s : State) : LightFrame s (s.takeSample i) := by
  unfold State.takeSample
  dsimp only
  split
  · next e he => exact setChannel_lightFrame i rfl (by simp only [ChannelRun.demandLevel, he]) rfl
  · exact .of_eq rfl rfl id

theorem startEffect_current (i : Fin 32) (e : Effect) (h : LightingCurrent s) : LightingCurrent (s.startEffect i e) := by
  unfold State.startEffect
  extract_lets r s1 s2
  have h2 : LightingCurrent s2 := (setChannel_but i { r with effect := some e, timer := none } h).relightAndAim true
  refine LightingCurrent.of_frame ?_ (handRemotes_lightFrame _)
  split
  · exact (h2.of_frame (takeSample_lightFrame ..)).of_frame (handOn_lightFrame ..)
  · exact h2.of_frame (handOn_lightFrame ..)

theorem nextSample_current (i : Fin 32) (h : LightingCurrent s) : LightingCurrent (s.nextSample i) := by
  unfold State.nextSample
  dsimp only
  split
  · next e he =>
    have h1 : LightFrame s (s.setChannel i { s.lsq.channels.get i with effect := some e.advance }) :=
      setChannel_lightFrame i rfl (by simp only [ChannelRun.demandLevel, he, Effect.advance]) rfl
    exact (((h.of_frame h1).of_frame (takeSample_lightFrame ..)).of_frame (handOn_lightFrame ..)).of_frame (handRemotes_lightFrame _)
  · exact h

theorem startChannels_current (h : LightingCurrent s) : LightingCurrent s.startChannels := by
  unfold State.startChannels
  dsimp only
  refine LightingCurrent.of_frame ?_ (handOn_lightFrame ..)
  exact forEach_induct (P := LightingCurrent) _ _ (h.of_frame (aimChannels_lightFrame ..)) fun i x hx =>
    hx.of_frame (takeSample_lightFrame i x)

theorem LightMove.current (m : LightMove s t) (h : LightingCurrent s) : LightingCurrent t :=
  m.casesOn (motive := fun t _ => LightingCurrent t)
    (scene := fun k fade armed => (recall_informs k fade s armed).current h)
    (setBase := fun i level => setBase_current i level h)
    (startEffect := fun i e _ => startEffect_current i e h)
    (nextSample := fun i => nextSample_current i h)
    (stepFade := fun i => by
      have hs : LightFrame s (s.setChannel i (s.lsq.channels.get i).stepFade) := setChannel_lightFrame i rfl rfl rfl
      exact ((h.of_frame hs).of_frame (handOn_lightFrame ..)).of_frame (handRemotes_lightFrame _))
    (startChannels := startChannels_current h)

/-! ### The trip, the clear, a LOAD -/

/-- Taking a protect action leaves base target and effect (R128). -/
theorem takeAction_kept (c : ChannelConfig) (p : ProtectSettings) (r : ChannelRun) :
    ((r.takeAction c p).aim true true).base = r.base ∧ ((r.takeAction c p).aim true true).effect = r.effect := by
  obtain ⟨hb, he, -⟩ := ChannelRun.aim_kept true true (r.takeAction c p)
  rewrite [hb, he]
  unfold ChannelRun.takeAction
  dsimp only
  split <;> exact ⟨rfl, rfl⟩

/-- Under protect no target is an effective one: L_up and D alone are at stake (R128). -/
theorem LightingCurrent.under_protect (h : LightingCurrent s) (hcfg : t.cfg.channels = s.cfg.channels)
    (hsheets : t.lsq.sheets = s.lsq.sheets)
    (hkept : ∀ i, (t.lsq.channels.get i).base = (s.lsq.channels.get i).base ∧ (t.lsq.channels.get i).effect = (s.lsq.channels.get i).effect)
    (ha : t.pru.state ≠ .armed) : LightingCurrent t := by
  have hup (sh : Fin 2) : t.lUp sh = s.lUp sh :=
    lUp_congr fun i _ => ⟨by rw [hcfg], by rw [ChannelRun.demandLevel, (hkept i).1, (hkept i).2]; rfl⟩
  refine ⟨fun sh => ?_, fun sh => ?_, fun k => absurd k ha⟩
  · rewrite [hsheets, hup]
    exact h.lUp sh
  · rewrite [hsheets]
    exact h.derate sh

theorem tripChannels_current (ha : s.pru.state ≠ .armed) : LightingCurrent s.tripChannels := by
  unfold State.tripChannels
  generalize hu : (s.mapChannels fun _ r => r.stopEffect) = u
  have hpru : u.pru = s.pru := by rw [← hu]; rfl
  have hfalse : u.armed = false := by
    simp only [State.armed, hpru]
    exact beq_eq_false_iff_ne.mpr ha
  have h1 : LightingCurrent (u.relight [0, 1]) := (CurrentBut.all u).relight hfalse
  have hpru1 : (u.relight [0, 1]).pru = u.pru := (relight_light [0, 1] u).pru
  generalize u.relight [0, 1] = x at h1 hpru1
  refine h1.under_protect rfl rfl (fun i => ?_) ?_
  · simp only [State.mapChannels, Table.get_mapIdx, takeAction_kept, and_self]
  · change x.pru.state ≠ .armed
    rewrite [hpru1, hpru]
    exact ha

theorem setHold_current (on : Bool) (h : LightingCurrent s) : LightingCurrent (s.setHold on) :=
  (passTrigger_informs _).current (h.of_frame (.of_eq rfl rfl id) : LightingCurrent { s with hra := { s.hra with hold := on } })

theorem trip_current (ts : List Trigger) (s : State) : LightingCurrent (s.trip ts) := by
  have hb := (tripBegun_output ts s).pru
  have ha : ((s.tripBegun ts).captureAtTrip ts).pru.state ≠ .armed := by
    rewrite [(captureAtTrip_rest ts _).1, hb]
    exact fun k => nomatch k
  have h1 := (tripChannels_current ha).of_frame (tripOutputs_event _).lightFrame
  rewrite [trip_eq_held]
  exact (setHold_current true h1).of_frame (heldTest_frame _).lightFrame

/-- Under protect or not, a LOAD and a clear set every target there is to set. -/
theorem loadChannels_current (s : State) : LightingCurrent s.loadChannels :=
  ((CurrentBut.all _).settled (chosen := fun _ => true) fun _ _ => rfl).of_frame (aimChannels_lightFrame ..)

theorem clearChannels_current (s : State) : LightingCurrent s.clearChannels :=
  ((CurrentBut.all _).settled (chosen := fun _ => true) fun _ _ => rfl).of_frame (aimChannels_lightFrame ..)

theorem clearProtect_current (s : State) : LightingCurrent s.clearProtect := by
  unfold State.clearProtect
  extract_lets p s1
  exact (setHold_current false ((clearChannels_current s1).of_frame (clearOutputs_event _).lightFrame)).of_frame (handRemotes_lightFrame _)

/-! ### Protect moves -/

theorem setPru_current {p : Pru} (h : LightingCurrent s) (hp : p.state = s.pru.state) : LightingCurrent (s.setPru p) :=
  h.of_frame (.of_eq rfl rfl fun ha => hp ▸ ha)

theorem raise_current (x : Trigger) (h : LightingCurrent s) : LightingCurrent (s.raise x) := by
  unfold State.raise
  split
  · exact h
  · split
    · exact setPru_current h rfl
    · split
      · exact trip_current [x] s
      · split
        · exact h
        · exact (setPru_current (p := { s.pru with triggers := insertTrigger x s.pru.triggers }) h rfl).of_frame
            (notice_event ..).lightFrame

theorem keySpent_current (h : LightingCurrent s) : LightingCurrent s.keySpent :=
  raise_current .key (setPru_current (p := { s.pru with key := .spent, keyTimer := 0 }) h rfl)

theorem pressCounted_current (h : LightingCurrent s) : LightingCurrent s.pressCounted := by
  unfold State.pressCounted
  split
  · exact keySpent_current h
  · exact setPru_current h rfl

theorem evaluateProtect_current (h : LightingCurrent s) : LightingCurrent s.evaluateProtect := by
  have h1 : LightingCurrent s.levelTrip := by
    unfold State.levelTrip
    split
    · exact h
    · exact trip_current _ s
  rewrite [evaluateProtect_eq]
  split
  · exact pressCounted_current h1
  · exact h1

theorem ProtectMove.current (m : ProtectMove s t) (h : LightingCurrent s) : LightingCurrent t :=
  m.casesOn (motive := fun t _ => LightingCurrent t)
    (raise := fun x => raise_current x h)
    (pin := fun _ => setPru_current h rfl)
    (pressKey := by
      unfold State.pressKey
      split
      · split
        · exact pressCounted_current h
        · exact setPru_current h rfl
      · exact h)
    (releaseKey := by
      unfold State.releaseKey
      split
      · exact h
      · exact setPru_current h rfl)
    (expireKey := by
      unfold State.expireKey
      split
      · exact keySpent_current h
      · exact h)
    (clear := fun _ => clearProtect_current s)
    (reportArrival := by
      unfold State.reportArrival
      split
      · exact (setPru_current (p := { s.pru with arrived := true }) h rfl).of_frame (heldTest_frame _).lightFrame
      · exact h)
    (evaluate := fun _ _ => evaluateProtect_current h)

/-! ### Points, store, WRITEs, phases -/

theorem completePoint_current (n : Nat) (stored : Bool) (i : Fin 64) (r : PointRun) (h : LightingCurrent s) :
    LightingCurrent (s.completePoint n stored i r) := by
  have h1 : LightingCurrent ((s.setPoint i r).pointNotices (s.ptb.points.get i) i) :=
    Informs.current ((setPoint_informs i r s).trans (pointNotices_informs ..)) h
  have h2 : LightingCurrent (((s.setPoint i r).pointNotices (s.ptb.points.get i) i).pointsRaised n) := by
    unfold State.pointsRaised
    split
    · exact raise_current .point h1
    · exact h1
  unfold State.completePoint
  dsimp only
  split
  · exact Informs.current ((informPoint_informs ..).trans (Triggered.finish_informs _)) h2
  · exact h2

theorem PointMove.current (m : PointMove s t) (h : LightingCurrent s) : LightingCurrent t :=
  m.casesOn (motive := fun t _ => LightingCurrent t)
    (update := fun i _ => completePoint_current _ _ i _ h)
    (clearLatch := fun i => completePoint_current _ _ i _ h)
    (age := (ageAll_informs s).current h)
    (heldAging := fun _ => h.of_frame (.of_eq rfl rfl id))
    (popEntry := h.of_frame (.of_eq rfl rfl id))
    (unbound := fun _ => h.of_frame (.of_eq rfl rfl id))
    (expireCritical := fun _ => by
      unfold State.expireCritical
      dsimp only
      split
      · exact raise_current _ ((setSheet_informs ..).current h)
      · exact h)

theorem ScheduleMove.current (m : ScheduleMove s t) (h : LightingCurrent s) : LightingCurrent t :=
  m.casesOn (motive := fun t _ => LightingCurrent t)
    (changeMode := fun m => (changeMode_informs m s).current h)
    (clock := fun _ _ => h.of_frame (.of_eq rfl rfl id))
    (remove := fun _ => h.of_frame (.of_eq rfl rfl id))
    (insert := fun _ _ _ => h.of_frame (.of_eq rfl rfl id))

/-- Store operations and their notices touch no light. -/
theorem StoreMove.lightFrame (m : StoreMove s t) : LightFrame s t :=
  m.casesOn (motive := fun t _ => LightFrame s t)
    (capture := fun _ => .of_eq rfl rfl id)
    (beginSave := fun _ _ => .of_eq rfl rfl id)
    (beginLoad := fun _ _ _ => .of_eq rfl rfl id)
    (endSave := fun _ => by
      unfold State.endSave
      split
      · exact .of_eq rfl rfl id
      · exact .of_eq rfl rfl id)
    (endSnapshot := fun _ => by
      unfold State.endSnapshot
      split
      · exact .of_eq rfl rfl id
      · exact .of_eq rfl rfl id)

/-- A WRITE of a channel changes the figures of the sheets it names and named, and under protect no target (R111). -/
theorem channelWritten_current (i : Fin 32) (c : ChannelConfig) (h : LightingCurrent s) :
    LightingCurrent ((s.setCfg { s.cfg with channels := s.cfg.channels.set i c }).channelWritten (s.cfg.channels.get i).sheet i) := by
  set w := s.setCfg { s.cfg with channels := s.cfg.channels.set i c }
  have hcfg (j : Fin 32) (hj : j ≠ i) : w.cfg.channels.get j = s.cfg.channels.get j := Table.get_set_ne _ hj.symm _
  have hself : w.cfg.channels.get i = c := Table.get_set_self ..
  -- the figures of a sheet that the channel neither names nor named
  have hup (r : ChannelRun) (sh : Fin 2) (hn : (w.sheetsOf i ++ (s.cfg.channels.get i).sheet.toList).contains sh = false) :
      (w.setChannel i r).lUp sh = s.lUp sh := by
    refine lUp_congr fun j hj => ?_
    have hne : j ≠ i := by
      rintro rfl
      simp only [State.sheetsOf, hself, List.contains_eq_mem, List.mem_append, Option.mem_toList, decide_eq_false_iff_not,
        not_or] at hn
      refine hj.elim (fun k => hn.1 ?_) hn.2
      rwa [← hself]
    exact ⟨hcfg j hne, congrArg ChannelRun.demandLevel (Table.get_set_ne _ hne.symm _)⟩
  have but (r : ChannelRun) : CurrentBut (w.sheetsOf i ++ (s.cfg.channels.get i).sheet.toList) (· == i) (w.setChannel i r) := by
    refine ⟨fun sh hn => (h.lUp sh).trans (hup r sh hn).symm, fun sh _ => h.derate sh, fun ha j _ hj => ?_⟩
    have hne : j ≠ i := by simpa using hj
    have hget : (w.setChannel i r).lsq.channels.get j = s.lsq.channels.get j := Table.get_set_ne _ hne.symm _
    have hc : (w.setChannel i r).cfg.channels.get j = s.cfg.channels.get j := hcfg j hne
    simp only [State.effectiveTarget, hget, hc]
    exact h.targets ha j
  unfold State.channelWritten
  extract_lets shs s1
  split
  · exact (((but _).relightAndAim true).of_frame (handOn_lightFrame ..)).of_frame (handRemotes_lightFrame _)
  · next ha =>
    have hw : CurrentBut shs (fun _ => true) w := by
      have hb := but (w.lsq.channels.get i)
      have he : w.setChannel i (w.lsq.channels.get i) = w := by simp [State.setChannel]
      rewrite [he] at hb
      exact ⟨hb.lUp, hb.derate, fun _ _ _ k => nomatch k⟩
    exact hw.relight (Bool.eq_false_iff.mpr ha)

theorem setCfg_current {c : Configuration} (h : LightingCurrent s) (hc : c.channels = s.cfg.channels) : LightingCurrent (s.setCfg c) :=
  h.of_frame (.of_eq hc rfl id)

theorem recheckTrigger_current (sh : Fin 2) (h : LightingCurrent s) : LightingCurrent (s.recheckTrigger sh) := by
  unfold State.recheckTrigger
  extract_lets r hold on s1
  have h1 : LightingCurrent s1 := (setSheet_informs ..).current h
  split
  · exact raise_current _ h1
  · exact h1

theorem sheetWritten_current (sh : Fin 2) (h : LightingCurrent s) : LightingCurrent (s.sheetWritten sh) := by
  rewrite [sheetWritten_eq]
  exact (evaluateHeave_informs ..).current (recheckTrigger_current sh
    (Informs.current ((sheetRewritten_informs sh s).trans (Triggered.finish_informs _)) h))

theorem sinkWritten_current (i : Fin 12) (c : SinkConfig) (h : LightingCurrent s) : LightingCurrent (s.sinkWritten i c) := by
  unfold State.sinkWritten
  extract_lets changed base s1
  have h1 : LightingCurrent s1 := h.of_frame (.of_eq rfl rfl id)
  refine (settleRemotes_informs ..).current ((passTrigger_informs _).current ?_)
  split
  · exact h1.of_frame (handOn_lightFrame ..)
  · exact h1

theorem profileWritten_current (i : Fin 5) (p : Profile) (h : LightingCurrent s) : LightingCurrent (s.profileWritten i p) := by
  unfold State.profileWritten
  extract_lets old base s1 s2
  have h1 : LightingCurrent s1 := setCfg_current h rfl
  have h2 : LightingCurrent s2 := by
    unfold s2
    split
    · exact (recomputeKinds_informs ..).current h1
    · exact h1
  split
  · exact h1
  · split
    · exact Informs.current ((recomputeDemands_informs _).trans (handRemotes_informs _)) h2
    · exact h2

theorem WriteMove.current (m : WriteMove s t) (h : LightingCurrent s) : LightingCurrent t := by
  have set (c : Configuration) (hc : c.channels = s.cfg.channels) : LightingCurrent (s.setCfg c) := setCfg_current h hc
  cases m with
  | point i c _ _ => exact completePoint_current _ _ i _ (set { s.cfg with points := s.cfg.points.set i c } rfl)
  | bus receiving c _ => exact (set { s.cfg with bus := c } rfl).of_frame (applyLineWhenIdle_frame ..).lightFrame
  | window i c _ => exact set _ rfl
  | sheet sh c _ => exact sheetWritten_current sh (set { s.cfg with sheets := s.cfg.sheets.set sh c } rfl)
  | zone z c _ => exact (zoneWritten_informs ..).current (set { s.cfg with zones := s.cfg.zones.set z c } rfl)
  | sink i c _ => exact sinkWritten_current i c h
  | allocator c _ => exact set _ rfl
  | channel i c _ => exact channelWritten_current i c h
  | scene i c _ => exact set _ rfl
  | output i c wasNone _ => exact (set { s.cfg with outputs := s.cfg.outputs.set i c } rfl).of_frame (outputWritten_event ..).lightFrame
  | stage full _ =>
    exact Informs.current ((handOn_informs ..).trans (handRemotes_informs _)) (set { s.cfg with backupFull := full } rfl)
  | remote i c wasNone _ => exact (set { s.cfg with remotes := s.cfg.remotes.set i c } rfl).of_frame (remoteWritten_event ..).lightFrame
  | profile i p _ => exact profileWritten_current i p h
  | protect p _ => exact set _ rfl
  | notice c _ => exact set _ rfl

/-- Lights that demand nothing, with targets at their floors, are current. -/
theorem LightingCurrent.dark (hrecord : ∀ sh, t.lsq.sheets.get sh = {}) (hdemand : ∀ i, (t.lsq.channels.get i).demandLevel = 0)
    (hbase : ∀ i, (t.lsq.channels.get i).base = 0) (htarget : ∀ i, (t.lsq.channels.get i).target = (t.cfg.channels.get i).floor) :
    LightingCurrent t := by
  have hup (sh : Fin 2) : t.lUp sh = 0 := by
    refine List.sum_eq_zero fun n hn => ?_
    obtain ⟨i, -, rfl⟩ := List.mem_map.mp hn
    simp [demandLoad, hdemand, ceilDiv]
  refine ⟨fun sh => ?_, fun sh => ?_, fun _ i => ?_⟩
  · rw [hrecord, hup]
  · rewrite [hrecord]
    rfl
  · simp [htarget, State.effectiveTarget, derated, hbase]

/-- The default lights on the default configuration. -/
theorem dark_reset (hl : t.lsq = State.reset.lsq) (hc : t.cfg = State.reset.cfg) : LightingCurrent t := by
  have hrun (i : Fin 32) : t.lsq.channels.get i = {} := by rw [hl]; exact Table.get_const ..
  have hcfg (i : Fin 32) : t.cfg.channels.get i = {} := by rw [hc]; exact Table.get_const ..
  refine .dark (fun sh => by rw [hl]; exact Table.get_const ..) (fun i => ?_) (fun i => ?_) fun i => ?_
  · rewrite [hrun]
    rfl
  · rw [hrun]
  · rw [hrun, hcfg]

theorem PhaseMove.current (m : PhaseMove s t) (h : LightingCurrent s) : LightingCurrent t :=
  m.casesOn (motive := fun t _ => LightingCurrent t)
    (beginSettle := fun _ _ => dark_reset rfl rfl)
    (resetBlocks := fun c _ _ => by
      have hget (i : Fin 32) : (s.resetBlocks c).lsq.channels.get i = channelAfterReset (c.channels.get i) := Table.get_mapIdx ..
      have h0 : LightingCurrent (s.resetBlocks c) := by
        refine .dark (Table.get_const _) (fun i => ?_) (fun i => ?_) fun i => ?_ <;> rw [hget] <;> rfl
      have h1 := h0.of_frame (sampleHand_frame (s.resetBlocks c).pins.hand _).lightFrame
      exact h1.of_frame (.of_eq rfl rfl fun _ => (sampleHand_frame (s.resetBlocks c).pins.hand _).hold.state.mpr rfl))
    (run := fun _ => h.of_frame (.of_eq rfl rfl id))
    (passMs := by
      have hget (i : Fin 32) : (s.passMs.lsq.channels.get i).base = (s.lsq.channels.get i).base ∧
          (s.passMs.lsq.channels.get i).demandLevel = (s.lsq.channels.get i).demandLevel ∧
          (s.passMs.lsq.channels.get i).target = (s.lsq.channels.get i).target := by
        unfold State.passMs
        dsimp only
        split
        · simp only [Table.get_mapIdx, ChannelRun.passMs, ChannelRun.demandLevel, true_and, and_true]
          cases (s.lsq.channels.get i).effect <;> rfl
        · exact ⟨rfl, rfl, rfl⟩
      have hsheets : s.passMs.lsq.sheets = s.lsq.sheets := by
        unfold State.passMs
        dsimp only
        split <;> rfl
      exact h.of_frame ⟨rfl, hsheets, fun i => (hget i).2.1, fun i => (hget i).1, fun i => (hget i).2.2, id⟩)
    (passSecond := h.of_frame (.of_eq rfl rfl id))

theorem clearEnergy_lightFrame (s : State) : LightFrame s s.clearEnergy := by
  unfold State.clearEnergy
  split
  · exact .of_eq rfl rfl id
  · exact .of_eq rfl rfl id

theorem HeatMove.current (m : HeatMove s t) (h : LightingCurrent s) : LightingCurrent t :=
  m.casesOn (motive := fun t _ => LightingCurrent t)
    (passWith := passWith_current true h)
    (clearEnergy := h.of_frame (clearEnergy_lightFrame s))

/-- Every move keeps the figures current. -/
theorem Move.current (m : Move s t) (h : LightingCurrent s) : LightingCurrent t :=
  m.casesOn (motive := fun _ => LightingCurrent t)
    (link := fun m => h.of_frame m.blocks.lightFrame)
    (bus := fun m => h.of_frame m.frame.lightFrame)
    (light := fun m => m.current h)
    (output := fun m => h.of_frame m.event.lightFrame)
    (heat := fun m => m.current h)
    (sheet := fun m => m.informs.current h)
    (protect := fun m => m.current h)
    (point := fun m => m.current h)
    (schedule := fun m => m.current h)
    (store := fun m => h.of_frame m.lightFrame)
    (write := fun m => m.current h)
    (phase := fun m => m.current h)

theorem LoadMove.current (m : LoadMove s t) (h : LightingCurrent s) : LightingCurrent t :=
  m.casesOn (motive := fun t _ => LightingCurrent t)
    (takeImage := fun _ _ _ _ => by
      unfold State.takeImage
      extract_lets s1 a b s2
      have h2 : LightingCurrent s2 := (loadChannels_current _).of_frame (loadOutputs_event _).lightFrame
      exact (passes_informs ..).current h2)
    (ends := h.of_frame (.of_eq rfl rfl id))
    (deferredTrip := by
      unfold State.deferredTrip
      extract_lets ts p s1
      have h1 : LightingCurrent s1 := setPru_current h rfl
      split
      · exact h1
      · split
        · exact trip_current ts s1
        · exact foldl_induct (P := LightingCurrent) _ _ _ h1 fun _ x hx => raise_current x hx)
    (evaluate := fun _ => evaluateProtect_current h)

theorem Piece.current (m : Piece s t) (h : LightingCurrent s) : LightingCurrent t :=
  m.casesOn (motive := fun _ => LightingCurrent t)
    (move := fun m => m.current h)
    (load := fun m => m.current h)

end LightingInvariant

/-- Settles O52. -/
theorem lightingCurrentKept : Obligations.LightingCurrentKept :=
  fun _ _ h hst => step_keeps_pieces (P := LightingCurrent) (fun _ _ h => h.of_frame (.of_eq rfl rfl id)) (fun _ _ h m => m.current h) h hst

/-! PROOF. The capacities of the queues and counters (R27 to R43, R183, R187): what a notice, a count, a request to the transmit queue and an
own frame's end leave within them. -/

section Capacities

variable {s t u : State} {f g : Fbc} {l m : Lnk}

/-! ### The link -/

/-- The request buffer, the notice queue and the lost count are within their capacities (R183, R187). -/
structure Lnk.Fits (l : Lnk) : Prop where
  requests : l.requests.length ≤ 2
  notices : l.notices.length ≤ 32
  lost : l.lost ≤ 255

theorem Lnk.Fits.of_eq (h : l.Fits) (h1 : m.requests = l.requests) (h2 : m.notices = l.notices) (h3 : m.lost = l.lost) : m.Fits :=
  ⟨h1 ▸ h.requests, h2 ▸ h.notices, h3 ▸ h.lost⟩

/-- A notice joins a queue with room, or is counted as lost (R187). -/
theorem Lnk.Fits.offer (h : l.Fits) (enabled : Bool) (n : Notice) : (l.offer enabled n).Fits := by
  obtain ⟨h1, h2, h3⟩ := h
  unfold Lnk.offer
  split
  · exact ⟨h1, h2, h3⟩
  · split
    · next hlt =>
      refine ⟨h1, ?_, h3⟩
      rewrite [List.length_append, List.length_singleton]
      omega
    · exact ⟨h1, h2, Nat.min_le_left ..⟩

theorem Lnk.Fits.waitOver (h : l.Fits) (c : Nat) : (l.waitOver c).Fits := by
  obtain ⟨h1, h2, h3⟩ := h
  unfold Lnk.waitOver
  split
  · exact ⟨h1, (List.length_map ..).trans_le h2, h3⟩
  · exact ⟨h1, h2, h3⟩

/-! ### The bus -/

/-- No two waiting entries share their key (R28). -/
def distinctKeys (q : List TxEntry) : Prop := q.Pairwise fun a b => a.sameKey b = false

/-- The bus queues and counters are within their capacities (R27, R28, R28a, R33, R42). -/
structure Fbc.Fits (f : Fbc) : Prop where
  received : f.rxQueue.length ≤ 8
  slots : f.slots ≤ 16
  keys : distinctKeys (f.txProtect ++ f.txOrdinary)
  txe : f.txe ≤ 256
  rxe : f.rxe ≤ 255
  counters : ∀ i, f.counters.get i ≤ 65535

/-- The queues, the frame in flight and the counters stay. -/
structure Fbc.SameLoad (f g : Fbc) : Prop where
  rxQueue : g.rxQueue = f.rxQueue
  txProtect : g.txProtect = f.txProtect
  txOrdinary : g.txOrdinary = f.txOrdinary
  inFlight : g.inFlight = f.inFlight
  txe : g.txe = f.txe
  rxe : g.rxe = f.rxe
  counters : g.counters = f.counters

theorem Fbc.SameLoad.refl (f : Fbc) : f.SameLoad f := ⟨rfl, rfl, rfl, rfl, rfl, rfl, rfl⟩

theorem Fbc.SameLoad.trans {a b c : Fbc} (h : a.SameLoad b) (k : b.SameLoad c) : a.SameLoad c :=
  ⟨k.rxQueue.trans h.rxQueue, k.txProtect.trans h.txProtect, k.txOrdinary.trans h.txOrdinary, k.inFlight.trans h.inFlight,
    k.txe.trans h.txe, k.rxe.trans h.rxe, k.counters.trans h.counters⟩

theorem Fbc.Fits.of_same (h : f.Fits) (k : f.SameLoad g) : g.Fits := by
  obtain ⟨k1, k2, k3, k4, k5, k6, k7⟩ := k
  obtain ⟨h1, h2, h3, h4, h5, h6⟩ := h
  refine ⟨k1 ▸ h1, ?_, by rw [k2, k3]; exact h3, k5 ▸ h4, k6 ▸ h5, fun i => by rw [k7]; exact h6 i⟩
  simpa only [Fbc.slots, k2, k3, k4] using h2

theorem Fbc.Fits.count (h : f.Fits) (held : Bool) (c : Counter) : (f.count held c).Fits := by
  cases held with
  | true => exact h.of_same ⟨rfl, rfl, rfl, rfl, rfl, rfl, rfl⟩
  | false =>
    refine ⟨h.received, h.slots, h.keys, h.txe, h.rxe, fun i => ?_⟩
    by_cases e : counterIndex c = i
    · subst e
      simp [Fbc.count, saturate16]
    · exact (Table.get_modify_ne _ e _).trans_le (h.counters i)

theorem Fbc.Fits.mergeTallies (h : f.Fits) : f.mergeTallies.Fits :=
  ⟨h.received, h.slots, h.keys, h.txe, h.rxe, fun i => by simp [Fbc.mergeTallies, saturate16]⟩

/-! ### Keys -/

theorem TxEntry.sameKey_iff {a b : TxEntry} : a.sameKey b = true ↔ a.kind = b.kind ∧ a.target = b.target ∧ a.point = b.point := by
  simp [TxEntry.sameKey, and_assoc]

theorem TxEntry.sameKey_comm (a b : TxEntry) : a.sameKey b = b.sameKey a := by
  rewrite [Bool.eq_iff_iff, TxEntry.sameKey_iff, TxEntry.sameKey_iff]
  exact ⟨fun ⟨x, y, z⟩ => ⟨x.symm, y.symm, z.symm⟩, fun ⟨x, y, z⟩ => ⟨x.symm, y.symm, z.symm⟩⟩

theorem distinctKeys_perm {a b : List TxEntry} (p : a.Perm b) : distinctKeys a ↔ distinctKeys b :=
  p.pairwise_iff fun {x y} h => (TxEntry.sameKey_comm y x).trans h

theorem distinctKeys_sublist {a b : List TxEntry} (h : distinctKeys b) (k : a.Sublist b) : distinctKeys a := List.Pairwise.sublist k h

theorem distinctKeys_cons {q : List TxEntry} {e : TxEntry} (h : distinctKeys q) (hq : q.any (·.sameKey e) = false) :
    distinctKeys (e :: q) :=
  List.pairwise_cons.mpr ⟨fun x hx => (TxEntry.sameKey_comm ..).trans (Bool.eq_false_iff.mpr (List.any_eq_false.mp hq x hx)), h⟩

theorem distinctKeys_head {a b : List TxEntry} {e : TxEntry} (h : distinctKeys (a ++ b)) (ha : a.any (·.sameKey e) = false)
    (hb : b.any (·.sameKey e) = false) : distinctKeys ((e :: a) ++ b) := by
  have hq : (a ++ b).any (·.sameKey e) = false := by rw [List.any_append, ha, hb]; rfl
  exact distinctKeys_cons h hq

/-- An entry whose key none of the waiting ones has may join them. -/
theorem distinctKeys_insert {a b : List TxEntry} {e : TxEntry} (h : distinctKeys (a ++ b)) (ha : a.any (·.sameKey e) = false)
    (hb : b.any (·.sameKey e) = false) : distinctKeys (a ++ e :: b) :=
  (distinctKeys_perm List.perm_middle).mpr (distinctKeys_head h ha hb)

theorem any_filter_not (e : TxEntry) (q : List TxEntry) : (q.filter fun w => !w.sameKey e).any (·.sameKey e) = false := by
  rewrite [List.any_eq_false]
  intro x hx
  simpa using (List.mem_filter.mp hx).2

/-- Coalescing leaves every key. -/
theorem coalesceIn_sameKey (e : TxEntry) (a b : List TxEntry) :
    distinctKeys (coalesceIn e a ++ b) ↔ distinctKeys (a ++ b) := by
  have hk (w x : TxEntry) : (if w.sameKey e then { w with value := e.value, priority := e.priority, owner := e.owner } else w).sameKey x =
      w.sameKey x := by
    split <;> rfl
  have hk' (w x : TxEntry) : x.sameKey (if w.sameKey e then { w with value := e.value, priority := e.priority, owner := e.owner } else w) =
      x.sameKey w := by
    split <;> rfl
  unfold distinctKeys coalesceIn
  simp only [List.pairwise_append, List.pairwise_map, List.mem_map, forall_exists_index, and_imp, forall_apply_eq_imp_iff₂, hk, hk']

theorem coalesceIn_sameKey_right (e : TxEntry) (a b : List TxEntry) :
    distinctKeys (a ++ coalesceIn e b) ↔ distinctKeys (a ++ b) :=
  (distinctKeys_perm List.perm_append_comm).trans ((coalesceIn_sameKey e b a).trans (distinctKeys_perm List.perm_append_comm))

/-! ### Requests and returns -/

/-- What a change of the two sections alone must keep. -/
theorem Fbc.Fits.sections (h : f.Fits) {a b : List TxEntry} (keys : distinctKeys (a ++ b))
    (room : a.length + b.length + (if f.inFlight.isSome then 1 else 0) ≤ 16) :
    ({ f with txProtect := a, txOrdinary := b } : Fbc).Fits :=
  ⟨h.received, room, keys, h.txe, h.rxe, h.counters⟩

theorem filter_key_length {e : TxEntry} {q : List TxEntry} (h : q.any (·.sameKey e) = true) :
    (q.filter fun w => !w.sameKey e).length < q.length := by
  obtain ⟨x, hx, hk⟩ := List.any_eq_true.mp h
  exact List.length_filter_lt_length_iff_exists.mpr ⟨x, hx, by simpa using hk⟩

/-- A request to the transmit queue keeps to the 16 slots and to one entry per key (R28, R28a). -/
theorem Fbc.Fits.request (h : f.Fits) (protect : Bool) (e : TxEntry) : (f.request protect e).2.1.Fits := by
  have hslots := h.slots
  have hkeys := h.keys
  unfold Fbc.slots at hslots
  unfold Fbc.request
  split
  · split
    · refine h.sections ((coalesceIn_sameKey ..).mpr hkeys) ?_
      rewrite [coalesceIn, List.length_map]
      exact hslots
    · exact h
  · next hp =>
    rewrite [Bool.not_eq_true] at hp
    split
    · next ho =>
      split
      · refine h.sections ?_ ?_
        · rewrite [List.append_assoc, List.singleton_append]
          exact distinctKeys_insert (distinctKeys_sublist hkeys ((List.Sublist.refl _).append List.filter_sublist)) hp (any_filter_not ..)
        · have := filter_key_length ho
          rewrite [List.length_append, List.length_singleton]
          omega
      · refine h.sections ((coalesceIn_sameKey_right ..).mpr hkeys) ?_
        rewrite [coalesceIn, List.length_map]
        exact hslots
    · next ho =>
      rewrite [Bool.not_eq_true] at ho
      split
      · next hlt =>
        unfold Fbc.slots at hlt
        split
        · refine h.sections ?_ ?_
          · rewrite [List.append_assoc, List.singleton_append]
            exact distinctKeys_insert hkeys hp ho
          · rewrite [List.length_append, List.length_singleton]
            omega
        · refine h.sections ?_ ?_
          · rewrite [← List.append_assoc]
            exact distinctKeys_insert (b := []) (by rwa [List.append_nil]) (by rw [List.any_append, hp, ho]; rfl) rfl
          · rewrite [List.length_append, List.length_singleton]
            omega
      · split
        · split
          · next w hw =>
            have hne : f.txOrdinary ≠ [] := by
              intro e
              simp [e] at hw
            have hpos := List.length_pos_of_ne_nil hne
            have hsub : f.txOrdinary.dropLast.Sublist f.txOrdinary := List.dropLast_sublist _
            refine h.sections ?_ ?_
            · rewrite [List.append_assoc, List.singleton_append]
              refine distinctKeys_insert (distinctKeys_sublist hkeys ((List.Sublist.refl _).append hsub)) hp ?_
              rewrite [List.any_eq_false] at ho ⊢
              exact fun x hx => ho x (hsub.subset hx)
            · rewrite [List.length_append, List.length_singleton, List.length_dropLast]
              omega
          · exact h
        · exact h

/-- Without its frame in flight the queue has a slot more (R30). -/
theorem Fbc.Fits.noFlight (h : f.Fits) : ({ f with inFlight := none } : Fbc).Fits := by
  have := h.slots
  unfold Fbc.slots at this
  exact ⟨h.received, by simp only [Fbc.slots, Option.isSome_none, Bool.false_eq_true, if_false]; omega, h.keys, h.txe, h.rxe, h.counters⟩

theorem slots_noFlight (h : f.Fits) {x : InFlight} (hx : f.inFlight = some x) :
    f.txProtect.length + f.txOrdinary.length < 16 := by
  have := h.slots
  simp only [Fbc.slots, hx, Option.isSome_some, if_true] at this
  omega

theorem erase_sections (e : TxEntry) (q : List TxEntry) (he : e ∈ q) : (q.erase e).length + 1 = q.length :=
  List.length_erase_add_one he

/-- An entry that goes into flight leaves its section (R23). -/
theorem Fbc.Fits.launch (h : f.Fits) {e : TxEntry} {protect : Bool} (he : e ∈ (if protect then f.txProtect else f.txOrdinary))
    (free : f.inFlight.isNone = true) : (f.launch e protect).Fits := by
  have hslots := h.slots
  have hnone : f.inFlight = none := by simpa using free
  simp only [Fbc.slots, hnone, Option.isSome_none, Bool.false_eq_true, if_false] at hslots
  cases protect with
  | true =>
    have := erase_sections e f.txProtect he
    refine ⟨h.received, ?_, distinctKeys_sublist h.keys (List.erase_sublist.append (List.Sublist.refl _)), h.txe, h.rxe, h.counters⟩
    simp only [Fbc.slots, Fbc.launch, Option.isSome_some, if_true]
    omega
  | false =>
    have := erase_sections e f.txOrdinary he
    refine ⟨h.received, ?_, distinctKeys_sublist h.keys ((List.Sublist.refl _).append List.erase_sublist), h.txe, h.rxe, h.counters⟩
    simp only [Fbc.slots, Fbc.launch, Option.isSome_some, if_true, Bool.false_eq_true, if_false]
    omega

/-! ### Operations of the part -/

/-- The link and the bus stay within their capacities. -/
structure FitKept (s t : State) : Prop where
  link : s.lnk.Fits → t.lnk.Fits
  bus : s.fbc.Fits → t.fbc.Fits

theorem FitKept.refl (s : State) : FitKept s s := ⟨id, id⟩

theorem FitKept.trans (h : FitKept s t) (k : FitKept t u) : FitKept s u := ⟨k.link ∘ h.link, k.bus ∘ h.bus⟩

theorem FitKept.of_eq (h1 : t.lnk = s.lnk) (h2 : t.fbc = s.fbc) : FitKept s t :=
  ⟨fun h => by rw [h1]; exact h, fun h => by rw [h2]; exact h⟩

theorem FitKept.of_same (h1 : t.lnk = s.lnk) (h2 : s.fbc.SameLoad t.fbc) : FitKept s t :=
  ⟨fun h => by rw [h1]; exact h, fun h => h.of_same h2⟩

theorem notice_fit (k : NoticeKind) (x : Nat) (v : Int) (s : State) : FitKept s (s.notice k x v) := ⟨fun h => h.offer _ _, id⟩

theorem noticeIf_fit (c : Bool) (k : NoticeKind) (x : Nat) (v : Int) (s : State) : FitKept s (s.noticeIf c k x v) :=
  match c with
  | .false => .refl s
  | .true => notice_fit k x v s

theorem count_fit (c : Counter) (s : State) : FitKept s (s.count c) := ⟨id, fun h => h.count _ c⟩

theorem enqueue_fit (protect : Bool) (e : TxEntry) (s : State) : FitKept s (s.enqueue protect e).2 := by
  have h1 : FitKept s { s with fbc := (s.fbc.request protect e).2.1 } := ⟨id, fun h => h.request protect e⟩
  unfold State.enqueue
  generalize s.fbc.request protect e = x at h1 ⊢
  obtain ⟨answer, f, displaced⟩ := x
  dsimp only at h1 ⊢
  have h2 : FitKept s (if answer = .dropped then ({ s with fbc := f } : State).count .txDrop else { s with fbc := f }) := by
    split
    · exact h1.trans (count_fit ..)
    · exact h1
  cases displaced with
  | none => exact h2
  | some w => exact (h2.trans (count_fit .txDrop _)).trans (.of_eq rfl rfl)

theorem setErrors_fit (txe rxe : Nat) (s : State) (h1 : s.fbc.txe ≤ 256 → txe ≤ 256) (h2 : s.fbc.rxe ≤ 255 → rxe ≤ 255) :
    FitKept s (s.setErrors txe rxe) := by
  unfold State.setErrors
  extract_lets level before after txWarn rxWarn base s1
  have h : FitKept s s1 := ⟨id, fun h => ⟨h.received, h.slots, h.keys, h1 h.txe, h2 h.rxe, h.counters⟩⟩
  exact ((h.trans (noticeIf_fit ..)).trans (noticeIf_fit ..)).trans (noticeIf_fit ..)

theorem heldTest_fit (s : State) : FitKept s s.heldTest := by
  unfold State.heldTest
  split
  · exact (FitKept.of_eq rfl rfl : FitKept s (s.setPru { s.pru with state := .held })).trans (notice_fit ..)
  · exact .refl s

end Capacities

/-! PROOF. Every step keeps the queues and counters to their capacities, and the transmit queue to one entry per key. -/

section CapacityInvariant

variable {s t u : State}

theorem forEach_fit {n : Nat} (f : Fin n → State → State) (h : ∀ i x, FitKept x (f i x)) (s : State) : FitKept s (forEach n f s) :=
  forEach_induct (P := FitKept s) f s (.refl s) fun i _ hx => hx.trans (h i _)

/-! ### The Output Stage -/

theorem setRemote_fit (i : Fin 32) (r : RemoteRun) (s : State) : FitKept s (s.setRemote i r) := .of_eq rfl rfl

theorem setOutput_fit (i : Fin 16) (o : OutputRun) (s : State) : FitKept s (s.setOutput i o) := .of_eq rfl rfl

theorem handOutput_fit (i : Fin 16) (s : State) : FitKept s (s.handOutput i) := .of_eq rfl rfl

theorem requestRemote_fit (protect : Bool) (i : Fin 32) (s : State) : FitKept s (s.requestRemote protect i) := by
  unfold State.requestRemote
  extract_lets c
  split
  · exact .refl s
  · extract_lets e
    have h := enqueue_fit protect e s
    generalize s.enqueue protect e = x at h ⊢
    obtain ⟨answer, s1⟩ := x
    dsimp only at h ⊢
    split
    · exact h.trans (setRemote_fit ..)
    · exact h.trans (setRemote_fit ..)

theorem newRemoteValue_fit (i : Fin 32) (v : Nat) (s : State) : FitKept s (s.newRemoteValue i v) := by
  unfold State.newRemoteValue
  dsimp only
  split
  · exact .refl s
  · split
    · exact (setRemote_fit i _ s).trans (requestRemote_fit ..)
    · exact setRemote_fit ..

theorem handRemote_fit (i : Fin 32) (s : State) : FitKept s (s.handRemote i) := by
  unfold State.handRemote
  split
  · split
    · exact .refl s
    · exact newRemoteValue_fit ..
  · split
    · split
      · exact newRemoteValue_fit ..
      · exact .refl s
    · exact .refl s

theorem settleRemotes_fit (moved : Fin 32 → Bool) (s : State) : FitKept s (s.settleRemotes moved) := by
  refine forEach_fit _ (fun i x => ?_) s
  unfold State.settleRemote
  split
  · exact requestRemote_fit ..
  · exact handRemote_fit i x

theorem handRemotes_fit (s : State) : FitKept s s.handRemotes := forEach_fit _ handRemote_fit s

theorem handOn_fit (bs : List OutputBinding) (s : State) : FitKept s (s.handOn bs) :=
  .of_eq (by rw [handOn_outputs]) (handOn_fbc bs s)

theorem tripRemote_fit (fresh : Bool) (i : Fin 32) (s : State) : FitKept s (s.tripRemote fresh i) := by
  unfold State.tripRemote
  extract_lets c r s1
  have h (x : RemoteRun) : FitKept s (s.setRemote i x) := setRemote_fit ..
  split
  · exact .refl s
  · split
    · exact (h _).trans (requestRemote_fit ..)
    · have h1 : FitKept s s1 := h _
      split
      · exact h1.trans (newRemoteValue_fit ..)
      · split
        · exact (h1.trans (setRemote_fit ..)).trans (requestRemote_fit ..)
        · split
          · exact h1.trans (setRemote_fit ..)
          · exact h1

theorem tripOutputs_fit (s : State) : FitKept s s.tripOutputs := by
  refine (forEach_fit _ (fun i x => ?_) s).trans (forEach_fit _ (fun i x => tripRemote_fit false i x) _)
  unfold State.tripOutput
  dsimp only
  split
  · exact .refl x
  · exact setOutput_fit ..

theorem clearOutputs_fit (s : State) : FitKept s s.clearOutputs := by
  refine (forEach_fit _ (fun i x => ?_) s).trans (forEach_fit _ (fun i x => ?_) _)
  · unfold State.clearOutput
    dsimp only
    split
    · exact setOutput_fit ..
    · exact setOutput_fit ..
  · unfold State.clearRemote
    dsimp only
    split
    · exact setRemote_fit ..
    · exact (setRemote_fit i _ x).trans (requestRemote_fit ..)

theorem outputWritten_fit (wasNone : Bool) (i : Fin 16) (s : State) : FitKept s (s.outputWritten wasNone i) := setOutput_fit ..

theorem remoteWritten_fit (wasNone : Bool) (i : Fin 32) (s : State) : FitKept s (s.remoteWritten wasNone i) := by
  unfold State.remoteWritten
  dsimp only
  split
  · exact setRemote_fit ..
  · split
    · exact setRemote_fit ..
    · split
      · exact (setRemote_fit i _ s).trans (requestRemote_fit ..)
      · split
        · exact (setRemote_fit i _ s).trans (tripRemote_fit ..)
        · exact .refl s

theorem startOutputs_fit (s : State) : FitKept s s.startOutputs := by
  unfold State.startOutputs
  refine (forEach_fit _ (fun i x => ?_) s).trans (forEach_fit _ (fun i x => ?_) _)
  · dsimp only
    split
    · exact .refl x
    · exact setOutput_fit ..
  · dsimp only
    split
    · exact .refl x
    · exact (setRemote_fit i _ x).trans (requestRemote_fit ..)

theorem loadOutputs_fit (s : State) : FitKept s s.loadOutputs := by
  unfold State.loadOutputs
  refine (forEach_fit _ (fun i x => outputWritten_fit false i x) s).trans (forEach_fit _ (fun i x => ?_) _)
  dsimp only
  split
  · exact setRemote_fit ..
  · split
    · exact (setRemote_fit i _ x).trans (requestRemote_fit ..)
    · exact setRemote_fit ..

theorem refreshRemote_fit (i : Fin 32) (s : State) : FitKept s (s.refreshRemote i) := by
  unfold State.refreshRemote
  extract_lets r c s1 clean
  have h1 : FitKept s s1 := setRemote_fit ..
  split
  · exact .refl s
  · split
    · split
      · exact h1.trans (requestRemote_fit ..)
      · split
        · exact h1.trans (requestRemote_fit ..)
        · exact h1
    · split
      · exact h1
      · exact h1.trans (requestRemote_fit ..)

theorem OutputMove.fit (m : OutputMove s t) : FitKept s t :=
  m.casesOn (motive := fun t _ => FitKept s t)
    (setFixed := fun i _ => by
      unfold State.setFixed
      exact (setOutput_fit i _ s).trans (handOutput_fit ..))
    (setRemoteFixed := fun i _ => by
      unfold State.setRemoteFixed
      exact (setRemote_fit i _ s).trans (handRemote_fit ..))
    (expireSlew := fun _ => by
      unfold State.expireSlew
      dsimp only
      split
      · exact setOutput_fit ..
      · exact .refl s)
    (refreshRemote := fun i => refreshRemote_fit i s)
    (startOutputs := startOutputs_fit s)
    (handRemotes := handRemotes_fit s)

/-! ### The Lighting Sequencer -/

theorem relight_fit (shs : List (Fin 2)) (s : State) : FitKept s (s.relight shs) := by
  refine forEach_fit _ (fun sh x => ?_) s
  split
  · exact (FitKept.of_eq rfl rfl : FitKept x { x with lsq := { x.lsq with sheets := x.lsq.sheets.set sh (x.relit sh) } }).trans
      (noticeIf_fit ..)
  · exact .refl x

theorem setTargets_fit (chosen : Fin 32 → Bool) (s : State) : FitKept s (s.setTargets chosen) := by
  unfold State.setTargets
  split
  · exact .of_eq rfl rfl
  · exact .refl s

theorem aimChannels_fit (jumps : Bool) (chosen : Fin 32 → Bool) (s : State) : FitKept s (s.aimChannels jumps chosen) := .of_eq rfl rfl

theorem setChannel_fit (i : Fin 32) (r : ChannelRun) (s : State) : FitKept s (s.setChannel i r) := .of_eq rfl rfl

theorem mapChannels_fit (f : Fin 32 → ChannelRun → ChannelRun) (s : State) : FitKept s (s.mapChannels f) := .of_eq rfl rfl

theorem relightAndAim_fit (jumps : Bool) (shs : List (Fin 2)) (also : Fin 32 → Bool) (s : State) :
    FitKept s (s.relightAndAim jumps shs also) := by
  unfold State.relightAndAim
  extract_lets s1 chosen s2
  have h2 : FitKept s s2 := (relight_fit shs s).trans (setTargets_fit ..)
  split
  · exact h2.trans (aimChannels_fit ..)
  · exact h2

theorem receiveAllowance_fit (jumps : Bool) (sh : Fin 2) (a : Power) (s : State) : FitKept s (s.receiveAllowance jumps sh a) := by
  unfold State.receiveAllowance
  extract_lets l base s1
  have h1 : FitKept s s1 := .of_eq rfl rfl
  exact (h1.trans (relightAndAim_fit ..)).trans (handOn_fit ..)

theorem recallLights_fit (k : Fin 24) (fade : Option Nat) (s : State) : FitKept s (s.recallLights k fade) := by
  unfold State.recallLights
  extract_lets scene f present s1 s2 s3
  have h1 : FitKept s s1 := mapChannels_fit ..
  have h2 : FitKept s1 s2 := (relight_fit ..).trans (setTargets_fit ..)
  have h3 : FitKept s2 s3 := mapChannels_fit ..
  exact ((h1.trans h2).trans h3).trans ((aimChannels_fit ..).trans (handOn_fit ..))

theorem setBase_fit (i : Fin 32) (level : Nat) (s : State) : FitKept s (s.setBase i level) :=
  (((setChannel_fit i _ s).trans (relightAndAim_fit ..)).trans (handOn_fit ..)).trans (handRemotes_fit _)

theorem takeSample_fit (i : Fin 32) (s : State) : FitKept s (s.takeSample i) := by
  unfold State.takeSample
  dsimp only
  split
  · exact setChannel_fit ..
  · exact .refl s

theorem startEffect_fit (i : Fin 32) (e : Effect) (s : State) : FitKept s (s.startEffect i e) := by
  unfold State.startEffect
  extract_lets r s1 s2
  have h2 : FitKept s s2 := (setChannel_fit i _ s).trans (relightAndAim_fit ..)
  refine FitKept.trans ?_ (handRemotes_fit _)
  split
  · exact (h2.trans (takeSample_fit ..)).trans (handOn_fit ..)
  · exact h2.trans (handOn_fit ..)

theorem nextSample_fit (i : Fin 32) (s : State) : FitKept s (s.nextSample i) := by
  unfold State.nextSample
  dsimp only
  split
  · exact (((setChannel_fit i _ s).trans (takeSample_fit ..)).trans (handOn_fit ..)).trans (handRemotes_fit _)
  · exact .refl s

theorem channelWritten_fit (old : Option (Fin 2)) (i : Fin 32) (s : State) : FitKept s (s.channelWritten old i) := by
  unfold State.channelWritten
  dsimp only
  split
  · exact (((setChannel_fit i _ s).trans (relightAndAim_fit ..)).trans (handOn_fit ..)).trans (handRemotes_fit _)
  · exact relight_fit ..

theorem startChannels_fit (s : State) : FitKept s s.startChannels := by
  unfold State.startChannels
  extract_lets s1
  have h1 : FitKept s s1 := aimChannels_fit ..
  exact (h1.trans (forEach_fit _ takeSample_fit s1)).trans (handOn_fit ..)

theorem tripChannels_fit (s : State) : FitKept s s.tripChannels := by
  unfold State.tripChannels
  extract_lets s1 s2
  have h1 : FitKept s s1 := (mapChannels_fit _ s).trans (relight_fit ..)
  have h2 : FitKept s s2 := h1.trans (mapChannels_fit _ s1)
  exact ⟨h2.link, h2.bus⟩

theorem clearChannels_fit (s : State) : FitKept s s.clearChannels :=
  (((mapChannels_fit _ s).trans (relight_fit ..)).trans (setTargets_fit ..)).trans (aimChannels_fit ..)

theorem loadChannels_fit (s : State) : FitKept s s.loadChannels :=
  (((mapChannels_fit _ s).trans (relight_fit ..)).trans (setTargets_fit ..)).trans (aimChannels_fit ..)

theorem LightMove.fit (m : LightMove s t) : FitKept s t :=
  m.casesOn (motive := fun t _ => FitKept s t)
    (scene := fun _ _ _ => (recallLights_fit ..).trans (handRemotes_fit _))
    (setBase := fun i level => setBase_fit i level s)
    (startEffect := fun i e _ => startEffect_fit i e s)
    (nextSample := fun i => nextSample_fit i s)
    (stepFade := fun i => ((setChannel_fit i _ s).trans (handOn_fit ..)).trans (handRemotes_fit _))
    (startChannels := startChannels_fit s)

/-! ### Passes and informs -/

theorem passWith_fit (jumps : Bool) (s : State) : FitKept s (s.passWith jumps) := by
  unfold State.passWith
  extract_lets before wasBackup out base s1 s2 s3 s4
  have h1 : FitKept s s1 := .of_eq rfl rfl
  have h2 : FitKept s s2 := h1.trans (forEach_fit _ (fun sh x => receiveAllowance_fit jumps sh _ x) s1)
  have h3 : FitKept s s3 := h2.trans (handOn_fit ..)
  have h4 : FitKept s s4 := foldl_induct (P := FitKept s) _ _ _ h3 fun _ _ hx => hx.trans (noticeIf_fit ..)
  exact h4.trans (noticeIf_fit ..)

theorem Inform.fit (m : Inform s t) : FitKept s t := by
  cases m with
  | zones x => exact .of_eq rfl rfl
  | sheets x => exact .of_eq rfl rfl
  | points x => exact .of_eq rfl rfl
  | tank sh b => exact .of_eq rfl rfl
  | recompute chosen => exact .of_eq rfl rfl
  | handOn bs => exact handOn_fit bs s
  | notice k x v => exact notice_fit k x v s
  | pass jumps => exact passWith_fit jumps s
  | settle moved => exact settleRemotes_fit moved s
  | poll c => exact enqueue_fit ..
  | mode m => exact .of_eq rfl rfl
  | remove id' => exact .of_eq rfl rfl
  | scene k fade _ => exact recallLights_fit k fade s

theorem Informs.fit (m : Informs s t) : FitKept s t := m.keep (P := FitKept s) (fun _ _ f k => f.trans k.fit) (.refl s)

theorem HeatMove.fit (m : HeatMove s t) : FitKept s t := by
  cases m with
  | passWith => exact passWith_fit true s
  | clearEnergy =>
    unfold State.clearEnergy
    split
    · exact .of_eq rfl rfl
    · exact .refl s

/-! ### Protect -/

theorem captureAtTrip_fit (ts : List Trigger) (s : State) : FitKept s (s.captureAtTrip ts) := by
  unfold State.captureAtTrip
  split
  · exact .refl s
  · exact .of_eq rfl rfl

theorem setPru_fit (p : Pru) (s : State) : FitKept s (s.setPru p) := .of_eq rfl rfl

theorem setHold_fit (on : Bool) (s : State) : FitKept s (s.setHold on) :=
  (FitKept.of_eq rfl rfl : FitKept s { s with hra := { s.hra with hold := on } }).trans (passTrigger_informs _).fit

theorem tripBegun_fit (ts : List Trigger) (s : State) : FitKept s (s.tripBegun ts) :=
  foldl_induct (P := FitKept s) _ _ _ (setPru_fit ..) fun _ _ hx => hx.trans (notice_fit ..)

theorem trip_fit (ts : List Trigger) (s : State) : FitKept s (s.trip ts) := by
  rewrite [trip_eq]
  have h1 := (tripBegun_fit ts s).trans (captureAtTrip_fit ts _)
  have h2 := (h1.trans (tripChannels_fit _)).trans (tripOutputs_fit _)
  exact (h2.trans (setHold_fit true _)).trans (heldTest_fit _)

theorem raise_fit (x : Trigger) (s : State) : FitKept s (s.raise x) := by
  unfold State.raise
  split
  · exact .refl s
  · split
    · exact setPru_fit ..
    · split
      · exact trip_fit [x] s
      · split
        · exact .refl s
        · exact (setPru_fit { s.pru with triggers := insertTrigger x s.pru.triggers } s).trans (notice_fit ..)

theorem clearProtect_fit (s : State) : FitKept s s.clearProtect := by
  unfold State.clearProtect
  extract_lets p s1
  have h1 : FitKept s s1 := (setPru_fit ..).trans (notice_fit ..)
  exact (((h1.trans (clearChannels_fit s1)).trans (clearOutputs_fit _)).trans (setHold_fit false _)).trans (handRemotes_fit _)

theorem keySpent_fit (s : State) : FitKept s s.keySpent := (setPru_fit ..).trans (raise_fit ..)

theorem pressCounted_fit (s : State) : FitKept s s.pressCounted := by
  unfold State.pressCounted
  split
  · exact keySpent_fit s
  · exact setPru_fit ..

theorem evaluateProtect_fit (s : State) : FitKept s s.evaluateProtect := by
  have h1 : FitKept s s.levelTrip := by
    unfold State.levelTrip
    split
    · exact .refl s
    · exact trip_fit _ s
  rewrite [evaluateProtect_eq]
  split
  · exact h1.trans (pressCounted_fit _)
  · exact h1

theorem ProtectMove.fit (m : ProtectMove s t) : FitKept s t :=
  m.casesOn (motive := fun t _ => FitKept s t)
    (raise := fun x => raise_fit x s)
    (pin := fun _ => setPru_fit ..)
    (pressKey := by
      unfold State.pressKey
      split
      · split
        · exact pressCounted_fit s
        · exact setPru_fit ..
      · exact .refl s)
    (releaseKey := by
      unfold State.releaseKey
      split
      · exact .refl s
      · exact setPru_fit ..)
    (expireKey := by
      unfold State.expireKey
      split
      · exact keySpent_fit s
      · exact .refl s)
    (clear := fun _ => clearProtect_fit s)
    (reportArrival := by
      unfold State.reportArrival
      split
      · exact (setPru_fit { s.pru with arrived := true } s).trans (heldTest_fit _)
      · exact .refl s)
    (evaluate := fun _ _ => evaluateProtect_fit s)

/-! ### Points, schedule, store, WRITEs -/

theorem completePoint_fit (n : Nat) (stored : Bool) (i : Fin 64) (r : PointRun) (s : State) : FitKept s (s.completePoint n stored i r) := by
  have h1 : FitKept s ((s.setPoint i r).pointNotices (s.ptb.points.get i) i) :=
    Informs.fit ((setPoint_informs i r s).trans (pointNotices_informs ..))
  have h2 : FitKept s (((s.setPoint i r).pointNotices (s.ptb.points.get i) i).pointsRaised n) := by
    unfold State.pointsRaised
    split
    · exact h1.trans (raise_fit ..)
    · exact h1
  unfold State.completePoint
  dsimp only
  split
  · exact h2.trans (Informs.fit ((informPoint_informs ..).trans (Triggered.finish_informs _)))
  · exact h2

theorem PointMove.fit (m : PointMove s t) : FitKept s t :=
  m.casesOn (motive := fun t _ => FitKept s t)
    (update := fun i _ => completePoint_fit _ _ i _ s)
    (clearLatch := fun i => completePoint_fit _ _ i _ s)
    (age := (ageAll_informs s).fit)
    (heldAging := fun _ => .of_eq rfl rfl)
    (popEntry := by
      refine ⟨id, fun h => ⟨?_, h.slots, h.keys, h.txe, h.rxe, h.counters⟩⟩
      exact (List.tail_sublist _).length_le.trans h.received)
    (unbound := fun _ => .of_same rfl ⟨rfl, rfl, rfl, rfl, rfl, rfl, rfl⟩)
    (expireCritical := fun _ => by
      unfold State.expireCritical
      dsimp only
      split
      · exact (setSheet_informs ..).fit.trans (raise_fit ..)
      · exact .refl s)

theorem ScheduleMove.fit (m : ScheduleMove s t) : FitKept s t :=
  m.casesOn (motive := fun t _ => FitKept s t)
    (changeMode := fun m => (changeMode_informs m s).fit)
    (clock := fun _ _ => .of_eq rfl rfl)
    (remove := fun _ => .of_eq rfl rfl)
    (insert := fun _ _ _ => .of_eq rfl rfl)

theorem StoreMove.fit (m : StoreMove s t) : FitKept s t :=
  m.casesOn (motive := fun t _ => FitKept s t)
    (capture := fun _ => .of_eq rfl rfl)
    (beginSave := fun _ _ => .of_eq rfl rfl)
    (beginLoad := fun _ _ _ => .of_eq rfl rfl)
    (endSave := fun check => by
      unfold State.endSave
      split
      · exact (FitKept.of_eq rfl rfl : FitKept s (s.setStc (s.stc.afterSave check).beginWrite)).trans (notice_fit ..)
      · exact .refl s)
    (endSnapshot := fun good => by
      unfold State.endSnapshot
      split
      · next i x _ _ =>
        exact (FitKept.of_eq rfl rfl : FitKept s (s.setStc { s.stc with
          op := .none, writing := none, slots := if good then s.stc.slots.set i (some x) else s.stc.slots })).trans (notice_fit ..)
      · exact .refl s)

theorem recheckTrigger_fit (sh : Fin 2) (s : State) : FitKept s (s.recheckTrigger sh) := by
  unfold State.recheckTrigger
  extract_lets r hold on s1
  have h1 : FitKept s s1 := (setSheet_informs ..).fit
  split
  · exact h1.trans (raise_fit ..)
  · exact h1

theorem setCfg_fit (c : Configuration) (s : State) : FitKept s (s.setCfg c) := .of_eq rfl rfl

theorem sheetWritten_fit (sh : Fin 2) (s : State) : FitKept s (s.sheetWritten sh) := by
  rewrite [sheetWritten_eq]
  have h1 : FitKept s (s.sheetRewritten sh).finish := Informs.fit ((sheetRewritten_informs sh s).trans (Triggered.finish_informs _))
  exact (h1.trans (recheckTrigger_fit sh _)).trans (evaluateHeave_informs ..).fit

theorem sinkWritten_fit (i : Fin 12) (c : SinkConfig) (s : State) : FitKept s (s.sinkWritten i c) := by
  unfold State.sinkWritten
  extract_lets changed base s1
  have h1 : FitKept s s1 := .of_eq rfl rfl
  refine FitKept.trans ?_ (Informs.fit ((passTrigger_informs _).trans (settleRemotes_informs ..)))
  split
  · exact h1.trans (handOn_fit ..)
  · exact h1

theorem profileWritten_fit (i : Fin 5) (p : Profile) (s : State) : FitKept s (s.profileWritten i p) := by
  unfold State.profileWritten
  extract_lets old base s1 s2
  have h1 : FitKept s s1 := setCfg_fit ..
  have h2 : FitKept s s2 := by
    unfold s2
    split
    · exact h1.trans (recomputeKinds_informs ..).fit
    · exact h1
  split
  · exact h1
  · split
    · exact h2.trans (Informs.fit ((recomputeDemands_informs _).trans (handRemotes_informs _)))
    · exact h2

theorem applyLine_fit (s : State) : FitKept s s.applyLine := .of_same rfl ⟨rfl, rfl, rfl, rfl, rfl, rfl, rfl⟩

theorem applyLineWhenIdle_fit (receiving : Bool) (s : State) : FitKept s (s.applyLineWhenIdle receiving) := by
  unfold State.applyLineWhenIdle
  split
  · exact .refl s
  · exact applyLine_fit s

theorem WriteMove.fit (m : WriteMove s t) : FitKept s t :=
  m.casesOn (motive := fun t _ => FitKept s t)
    (point := fun i c _ _ => (setCfg_fit { s.cfg with points := s.cfg.points.set i c } s).trans (completePoint_fit ..))
    (bus := fun _ _ _ => (setCfg_fit ..).trans (applyLineWhenIdle_fit ..))
    (window := fun _ _ _ => setCfg_fit ..)
    (sheet := fun _ _ _ => (setCfg_fit ..).trans (sheetWritten_fit ..))
    (zone := fun _ _ _ => (setCfg_fit ..).trans (zoneWritten_informs ..).fit)
    (sink := fun i c _ => sinkWritten_fit i c s)
    (allocator := fun _ _ => setCfg_fit ..)
    (channel := fun _ _ _ => (setCfg_fit ..).trans (channelWritten_fit ..))
    (scene := fun _ _ _ => setCfg_fit ..)
    (output := fun _ _ _ _ => (setCfg_fit ..).trans (outputWritten_fit ..))
    (stage := fun _ _ => ((setCfg_fit ..).trans (handOn_fit ..)).trans (handRemotes_fit _))
    (remote := fun _ _ _ _ => (setCfg_fit ..).trans (remoteWritten_fit ..))
    (profile := fun i p _ => profileWritten_fit i p s)
    (protect := fun _ _ => setCfg_fit ..)
    (notice := fun _ _ => setCfg_fit ..)

/-! ### The link's own moves -/

theorem offerRequest_fit (p : Port) (r : Request) (s : State) : FitKept s (s.offerRequest p r) := by
  unfold State.offerRequest
  extract_lets base l0 l s1
  have hl : l.requests = s.lnk.requests ∧ l.notices = s.lnk.notices ∧ l.lost = s.lnk.lost := by
    unfold l
    split <;> exact ⟨rfl, rfl, rfl⟩
  obtain ⟨h1, h2, h3⟩ := hl
  split
  · next hlt =>
    refine ⟨fun h => ⟨?_, h2 ▸ h.notices, h3 ▸ h.lost⟩, id⟩
    rewrite [List.length_append, List.length_singleton]
    omega
  · have hs1 : FitKept s s1 := ⟨fun h => h.of_eq h1 h2 h3, id⟩
    have hplace : FitKept s1 (s1.place ⟨r.tag, .busy, [[]]⟩) := ⟨fun h => h.of_eq rfl rfl rfl, id⟩
    exact (hs1.trans hplace).trans (count_fit ..)

theorem LinkMove.fit (m : LinkMove s t) : FitKept s t :=
  m.casesOn (motive := fun t _ => FitKept s t)
    (choices := fun _ => .of_eq rfl rfl)
    (pins := fun _ => .of_eq rfl rfl)
    (intake := fun p _ => ⟨fun h => by cases p <;> exact h.of_eq rfl rfl rfl, id⟩)
    (offer := fun p r => offerRequest_fit p r s)
    (count := fun c => count_fit c s)
    (clockOut := fun n => by
      obtain ⟨-, -, -, h1, -, h2, h3, -⟩ := Lnk.clockOut_rest n s.lnk
      exact ⟨fun h => h.of_eq h1 h2 h3, id⟩)
    (deliver := by
      obtain ⟨-, -, -, h1, -, h2, h3, -⟩ := Lnk.deliver_rest s.lnk
      exact ⟨fun h => h.of_eq h1 h2 h3, id⟩)
    (reply := fun _ => ⟨fun h => ⟨(List.tail_sublist _).length_le.trans h.requests, h.notices, h.lost⟩, id⟩)
    (assembly := fun _ => ⟨fun h => h.of_eq rfl rfl rfl, id⟩)
    (mergeTallies := ⟨id, fun h => h.mergeTallies⟩)
    (clearCounters := by
      unfold State.clearCounters
      split
      · refine ⟨id, fun h => ⟨h.received, h.slots, h.keys, h.txe, h.rxe, fun i => ?_⟩⟩
        rewrite [Table.get_const]
        exact Nat.zero_le _
      · exact .refl s)
    (waitOver := ⟨fun h => h.waitOver _, id⟩)
    (fetch := fun _ => ⟨fun h => ⟨h.requests, (List.drop_sublist ..).length_le.trans h.notices, Nat.zero_le _⟩, id⟩)
    (awaitReset := ⟨fun h => h.of_eq rfl rfl rfl, id⟩)
    (notice := fun k x v => notice_fit k x v s)

/-! ### The bus's own moves -/

theorem setFbc_fit (f : Fbc) (s : State) (h : s.fbc.SameLoad f) : FitKept s (s.setFbc f) := by
  unfold State.setFbc
  extract_lets s1
  have h1 : FitKept s s1 := .of_same rfl h
  split
  · exact h1.trans (heldTest_fit _)
  · exact h1

theorem beginHold_same (f : Fbc) : f.SameLoad f.beginHold := by
  unfold Fbc.beginHold
  split <;> exact ⟨rfl, rfl, rfl, rfl, rfl, rfl, rfl⟩

theorem letGo_same (f : Fbc) : f.SameLoad f.letGo := by
  unfold Fbc.letGo
  split
  · split <;> exact ⟨rfl, rfl, rfl, rfl, rfl, rfl, rfl⟩
  · exact .refl f

theorem sampleHand_fit (held : Bool) (s : State) : FitKept s (s.sampleHand held) := by
  have hh (b : Bool) : s.fbc.SameLoad { s.fbc with hand := b } := ⟨rfl, rfl, rfl, rfl, rfl, rfl, rfl⟩
  unfold State.sampleHand
  split
  · split
    · exact .refl s
    · exact setFbc_fit _ s ((hh true).trans (beginHold_same _))
  · split
    · exact setFbc_fit _ s ((hh false).trans (letGo_same _))
    · exact .refl s

theorem frameEnded_fit (s : State) : FitKept s s.frameEnded := by
  refine .of_same rfl ?_
  unfold State.frameEnded Fbc.frameEnded
  split
  · exact ⟨rfl, rfl, rfl, rfl, rfl, rfl, rfl⟩
  · exact .refl _

theorem rxGood_fit (s : State) : FitKept s s.rxGood := setErrors_fit _ _ s id fun h => (Nat.sub_le ..).trans h

theorem rxError_fit (s : State) : FitKept s s.rxError := setErrors_fit _ _ s id fun _ => Nat.min_le_left ..

theorem txGood_fit (s : State) : FitKept s s.txGood := setErrors_fit _ _ s (fun h => (Nat.sub_le ..).trans h) id

theorem txError_fit (s : State) : FitKept s s.txError := setErrors_fit _ _ s (fun _ => Nat.min_le_left ..) id

theorem offerReading_fit (f : BusFrame) (s : State) : FitKept s (s.offerReading f) := by
  unfold State.offerReading
  split
  · next hlt =>
    refine ⟨id, fun h => ⟨?_, h.slots, h.keys, h.txe, h.rxe, h.counters⟩⟩
    rewrite [List.length_append, List.length_singleton]
    omega
  · exact count_fit ..

theorem pause_same (node : Nat) (value : Int) (f : Fbc) : f.SameLoad (f.pause node value) := by
  unfold Fbc.pause
  split
  · exact ⟨rfl, rfl, rfl, rfl, rfl, rfl, rfl⟩
  · exact .refl f

theorem goodFrame_fit (f : BusFrame) (s : State) : FitKept s (s.goodFrame f) := by
  unfold State.goodFrame
  extract_lets mine s1
  have h1 : FitKept s s1 := (count_fit ..).trans (rxGood_fit _)
  split
  · refine h1.trans ?_
    unfold State.sortFrame
    split
    · exact (FitKept.of_same rfl (pause_same f.source f.value s1.fbc) :
        FitKept s1 { s1 with fbc := s1.fbc.pause f.source f.value }).trans (count_fit ..)
    · split
      · exact (count_fit ..).trans (offerReading_fit ..)
      · exact count_fit ..
    · exact .refl s1
    · exact .refl s1
  · exact h1

theorem receiveFrame_fit (bits : List Bool) (s : State) : FitKept s (s.receiveFrame bits) := by
  have h (b : Bool) : FitKept s { s with fbc := { s.fbc with acked := b } } := .of_same rfl ⟨rfl, rfl, rfl, rfl, rfl, rfl, rfl⟩
  unfold State.receiveFrame
  split
  · exact (h _).trans (goodFrame_fit ..)
  · exact ((h false).trans (count_fit ..)).trans (rxError_fit _)

theorem endReceived_fit (bits : List Bool) (s : State) : FitKept s (s.endReceived bits) :=
  (receiveFrame_fit bits s).trans (applyLine_fit _)

theorem noFlight_fit (s : State) : FitKept s s.noFlight := ⟨id, fun h => h.noFlight⟩

theorem entriesFell_fit (n : Nat) (s : State) : FitKept s (s.entriesFell n) := by
  unfold State.entriesFell
  split
  · exact heldTest_fit s
  · exact .refl s

theorem ownDone_fit (s : State) : FitKept s s.ownDone := by
  unfold State.ownDone
  split
  · exact .refl s
  · next x _ =>
    extract_lets before s1 s2 s3 s4
    have h1 : FitKept s s1 := (noFlight_fit s).trans (count_fit ..)
    have h2 : FitKept s s2 := by
      unfold s2
      split
      · exact h1.trans (count_fit ..)
      · exact h1
    have h3 : FitKept s s3 := h2.trans ((txGood_fit _).trans (frameEnded_fit _))
    have h4 : FitKept s s4 := by
      unfold s4
      split
      · exact h3.trans (goodFrame_fit ..)
      · exact h3.trans (applyLine_fit _)
    exact h4.trans (entriesFell_fit ..)

/-- An entry that returns to the head of its section takes the slot that its flight held, unless its key is waiting (R30). -/
theorem returnEntry_fit (c : Counter) {x : InFlight} (hx : s.fbc.inFlight = some x) :
    FitKept s ((s.noFlight.count c).returnEntry x) := by
  refine ⟨fun h => ?_, fun h => ?_⟩
  · unfold State.returnEntry
    dsimp only
    split
    · exact h
    · split
      · split
        · exact h
        · exact h
      · split
        · exact h
        · exact h
  · have hroom := slots_noFlight h hx
    have hfit : (s.noFlight.count c).fbc.Fits := h.noFlight.count _ c
    have hp : (s.noFlight.count c).fbc.txProtect = s.fbc.txProtect := by
      unfold State.count Fbc.count
      split <;> rfl
    have ho : (s.noFlight.count c).fbc.txOrdinary = s.fbc.txOrdinary := by
      unfold State.count Fbc.count
      split <;> rfl
    have hn : (s.noFlight.count c).fbc.inFlight = none := by
      unfold State.count Fbc.count
      split <;> rfl
    generalize s.noFlight.count c = y at hfit hp ho hn
    rewrite [← hp, ← ho] at hroom
    have room : y.fbc.txProtect.length + y.fbc.txOrdinary.length + 1 + (if y.fbc.inFlight.isSome then 1 else 0) ≤ 16 := by
      rewrite [hn]
      simpa using hroom
    unfold State.returnEntry
    dsimp only
    split
    · exact hfit
    · next hprotect =>
      rewrite [Bool.not_eq_true] at hprotect
      split
      · next w hw =>
        split
        · have hany : y.fbc.txOrdinary.any (·.sameKey x.entry) = true :=
            List.any_eq_true.mpr ⟨w, List.mem_of_find?_eq_some hw, by simpa using List.find?_some hw⟩
          have hlt := filter_key_length hany
          have keys : distinctKeys (x.entry :: y.fbc.txProtect ++ y.fbc.txOrdinary.filter fun z => !z.sameKey x.entry) :=
            distinctKeys_head (distinctKeys_sublist hfit.keys ((List.Sublist.refl _).append List.filter_sublist)) hprotect
              (any_filter_not ..)
          have hs : ({ y.fbc with
              txProtect := x.entry :: y.fbc.txProtect
              txOrdinary := y.fbc.txOrdinary.filter fun z => !z.sameKey x.entry } : Fbc).Fits :=
            hfit.sections keys (by rw [List.length_cons]; omega)
          exact hs.count _ .txDrop
        · exact hfit
      · next hnone =>
        have hord : y.fbc.txOrdinary.any (·.sameKey x.entry) = false :=
          List.any_eq_false.mpr fun z hz => by simpa using List.find?_eq_none.mp hnone z hz
        split
        · exact hfit.sections (distinctKeys_head hfit.keys hprotect hord)
            (by rw [List.length_cons]; omega)
        · exact hfit.sections (distinctKeys_insert hfit.keys hprotect hord) (by rw [List.length_cons]; omega)

theorem ownLost_fit (s : State) : FitKept s s.ownLost := by
  unfold State.ownLost
  split
  · exact .refl s
  · next x hx =>
    split
    · exact .refl s
    · exact (returnEntry_fit .arbLost hx).trans (frameEnded_fit _)

theorem ownError_fit (s : State) : FitKept s s.ownError := by
  unfold State.ownError
  split
  · exact .refl s
  · next x hx =>
    split
    · exact .refl s
    · exact ((returnEntry_fit .txError hx).trans (txError_fit _)).trans ((frameEnded_fit _).trans (applyLine_fit _))

theorem endFrame_fit (bits : List Bool) (s : State) : FitKept s (s.endFrame bits) := by
  unfold State.endFrame
  split
  · split
    · exact (ownLost_fit s).trans (endReceived_fit ..)
    · exact ownError_fit s
    · exact ownDone_fit s
    · exact .refl s
  · exact endReceived_fit ..

/-- The entry that the queue offers waits in the section it is offered from (R29). -/
theorem eligible_mem {f : Fbc} {e : TxEntry} {protect : Bool} (h : f.eligible = some (e, protect)) :
    e ∈ if protect then f.txProtect else f.txOrdinary := by
  unfold Fbc.eligible at h
  split at h
  · next x hx =>
    cases h
    exact List.mem_of_find?_eq_some hx
  · split at h
    · next x hx =>
      cases h
      exact List.mem_of_find?_eq_some hx
    · cases h

theorem startFrame_fit (s : State) : FitKept s s.startFrame := by
  unfold State.startFrame
  split
  · next hc =>
    split
    · next e protect he =>
      rewrite [Bool.and_eq_true] at hc
      exact ⟨id, fun h => h.launch (eligible_mem he) hc.2⟩
    · exact .refl s
  · exact .refl s

theorem leaveIsolated_fit (s : State) : FitKept s s.leaveIsolated := by
  unfold State.leaveIsolated
  split
  · have h : FitKept s { s with fbc := { s.fbc with txe := 0, rxe := 0, idlePeriods := 0 } } :=
      ⟨id, fun h => ⟨h.received, h.slots, h.keys, Nat.zero_le _, Nat.zero_le _, h.counters⟩⟩
    exact (h.trans (notice_fit ..)).trans (heldTest_fit _)
  · exact .refl s

theorem BusMove.fit (m : BusMove s t) : FitKept s t :=
  m.casesOn (motive := fun t _ => FitKept s t)
    (endFrame := fun bits => endFrame_fit bits s)
    (startFrame := startFrame_fit s)
    (ownDone := ownDone_fit s)
    (ownLost := ownLost_fit s)
    (ownError := ownError_fit s)
    (leaveIsolated := leaveIsolated_fit s)
    (idlePeriod := by
      unfold State.idlePeriod
      split
      · exact .refl s
      · split
        · exact leaveIsolated_fit s
        · exact .of_same rfl ⟨rfl, rfl, rfl, rfl, rfl, rfl, rfl⟩)
    (expirePause := fun _ => .of_same rfl ⟨rfl, rfl, rfl, rfl, rfl, rfl, rfl⟩)
    (sampleHand := fun held => sampleHand_fit held s)
    (linkHold := by
      unfold State.linkHold
      split
      · exact .refl s
      · have hl : s.fbc.SameLoad { s.fbc with linkRequest := true } := ⟨rfl, rfl, rfl, rfl, rfl, rfl, rfl⟩
        exact setFbc_fit _ s (hl.trans (beginHold_same _)))
    (linkLetGo := by
      have hl : s.fbc.SameLoad { s.fbc with linkRequest := false } := ⟨rfl, rfl, rfl, rfl, rfl, rfl, rfl⟩
      exact setFbc_fit _ s (hl.trans (letGo_same _)))
    (testMode := fun _ => .of_same rfl ⟨rfl, rfl, rfl, rfl, rfl, rfl, rfl⟩)

/-! ### Phases -/

theorem Lnk.Fits.empty {l : Lnk} (h1 : l.requests = []) (h2 : l.notices = []) (h3 : l.lost = 0) : l.Fits :=
  ⟨by simp [h1], by simp [h2], by simp [h3]⟩

theorem Fbc.Fits.empty {f : Fbc} (h : ({} : Fbc).SameLoad f) : f.Fits := by
  have h0 : ({} : Fbc).Fits :=
    ⟨Nat.zero_le _, Nat.zero_le _, List.Pairwise.nil, Nat.zero_le _, Nat.zero_le _, fun i =>
      (Table.get_const (n := 15) 0 i).trans_le (Nat.zero_le _)⟩
  exact h0.of_same h

theorem PhaseMove.fit (m : PhaseMove s t) : FitKept s t :=
  m.casesOn (motive := fun t _ => FitKept s t)
    (beginSettle := fun _ _ => ⟨fun _ => .empty rfl rfl rfl, fun _ => .empty (.refl _)⟩)
    (resetBlocks := fun c _ _ => by
      have h : FitKept s (s.resetBlocks c) :=
        ⟨fun _ => .empty rfl rfl rfl, fun _ => .empty ⟨rfl, rfl, rfl, rfl, rfl, rfl, rfl⟩⟩
      exact (h.trans (sampleHand_fit (s.resetBlocks c).pins.hand _)).trans (.of_eq rfl rfl))
    (run := fun _ => .of_eq rfl rfl)
    (passMs := .of_same rfl ⟨rfl, rfl, rfl, rfl, rfl, rfl, rfl⟩)
    (passSecond := ⟨fun h => ⟨h.requests, (List.length_map ..).trans_le h.notices, h.lost⟩, id⟩)

theorem Move.fit (m : Move s t) : FitKept s t :=
  m.casesOn (motive := fun _ => FitKept s t)
    (link := fun m => m.fit)
    (bus := fun m => m.fit)
    (light := fun m => m.fit)
    (output := fun m => m.fit)
    (heat := fun m => m.fit)
    (sheet := fun m => m.informs.fit)
    (protect := fun m => m.fit)
    (point := fun m => m.fit)
    (schedule := fun m => m.fit)
    (store := fun m => m.fit)
    (write := fun m => m.fit)
    (phase := fun m => m.fit)

/-! ### LOADs -/

theorem loadSheet_fit (sh : Fin 2) (s : State) : FitKept s (s.loadSheet sh).state :=
  ((Informs.fit ((setSheet_informs sh _ s).trans (sheetNotice_informs ..))).trans (recheckTrigger_fit ..)).trans
    (evaluateHeave_informs ..).fit

theorem takeImage_fit (receiving : Bool) (c : Configuration) (s : State) : FitKept s (s.takeImage receiving c) := by
  have h1 : FitKept s ((({ s with cfg := c } : State).loadPoints).applyLineWhenIdle receiving) :=
    (FitKept.of_eq rfl rfl : FitKept s (({ s with cfg := c } : State).loadPoints)).trans (applyLineWhenIdle_fit ..)
  have h2 := (h1.trans (loadSheet_fit 0 _)).trans (loadSheet_fit 1 _)
  unfold State.takeImage
  extract_lets s1 a b s2
  have h3 : FitKept b.state s2 :=
    ((Informs.fit ((loadZones_informs ..).trans (recompute_informs ..))).trans (loadChannels_fit _)).trans (loadOutputs_fit _)
  exact (h2.trans h3).trans (passes_informs ..).fit

theorem LoadMove.fit (m : LoadMove s t) : FitKept s t :=
  m.casesOn (motive := fun t _ => FitKept s t)
    (takeImage := fun receiving c _ _ => takeImage_fit receiving c s)
    (ends := .of_eq rfl rfl)
    (deferredTrip := by
      unfold State.deferredTrip
      extract_lets ts p s1
      have h1 : FitKept s s1 := setPru_fit ..
      split
      · exact h1
      · split
        · exact h1.trans (trip_fit ..)
        · exact foldl_induct (P := FitKept s) _ _ _ h1 fun _ x hx => hx.trans (raise_fit x _))
    (evaluate := fun _ => evaluateProtect_fit s)

theorem Piece.fit (m : Piece s t) : FitKept s t :=
  m.casesOn (motive := fun _ => FitKept s t)
    (move := fun m => m.fit)
    (load := fun m => m.fit)

/-! ### The whole -/

theorem queuesFit_iff : QueuesFit s ↔ s.lnk.Fits ∧ s.fbc.Fits ∧ s.scu.program.length ≤ 48 :=
  ⟨fun h => ⟨⟨h.requests, h.notices, h.lost⟩, ⟨h.received, h.slots, h.keys, h.txe, h.rxe, h.counters⟩, h.program⟩,
    fun ⟨l, f, p⟩ => ⟨l.requests, l.notices, l.lost, f.received, f.slots, f.keys, p, f.txe, f.rxe, f.counters⟩⟩

theorem ProgramStep.length {a b : Scu} (m : ProgramStep a b) (h : a.program.length ≤ 48) : b.program.length ≤ 48 := by
  cases m with
  | same program _ => rwa [program]
  | remove id program _ =>
    rewrite [program]
    exact (List.length_filter_le ..).trans h
  | insert start action room program _ =>
    rewrite [program, insertEntry_length]
    omega
  | reset program _ =>
    rewrite [program]
    exact Nat.zero_le _

theorem Piece.queuesFit (m : Piece s t) (h : QueuesFit s) : QueuesFit t := by
  obtain ⟨hl, hf, hp⟩ := queuesFit_iff.mp h
  exact queuesFit_iff.mpr ⟨m.fit.link hl, m.fit.bus hf, m.program.length hp⟩

end CapacityInvariant

/-- Settles O49. -/
theorem queuesFitKept : Obligations.QueuesFitKept :=
  fun _ _ h hst => step_keeps_pieces (P := QueuesFit)
    (fun _ _ h => ⟨h.requests, h.notices, h.lost, h.received, h.slots, h.keys, h.program, h.txe, h.rxe, h.counters⟩)
    (fun _ _ h m => m.queuesFit h) h hst

/-! PROOF. Every command of its row completes; the queue of commands belongs to the host alone; resets, the turn on an empty queue, and the
part after reset. -/

section Completion

variable {s t : State}

/-! ### No turn touches the queue of commands -/

theorem offerRequest_pending (p : Port) (r : Request) (s : State) : (s.offerRequest p r).pending = s.pending := by
  unfold State.offerRequest
  exact (apply_ite State.pending _ _ _).trans (ite_self _)

theorem clearCounters_pending (s : State) : s.clearCounters.pending = s.pending := by
  unfold State.clearCounters
  exact (apply_ite State.pending _ _ _).trans (ite_self _)

theorem LinkMove.pending (h : LinkMove s t) : t.pending = s.pending :=
  h.casesOn (motive := fun t _ => t.pending = s.pending)
    (offer := fun p r => offerRequest_pending p r s)
    (clearCounters := clearCounters_pending s)
    (choices := fun _ => rfl)
    (pins := fun _ => rfl)
    (intake := fun _ _ => rfl)
    (count := fun _ => rfl)
    (clockOut := fun _ => rfl)
    (deliver := rfl)
    (reply := fun _ => rfl)
    (assembly := fun _ => rfl)
    (mergeTallies := rfl)
    (waitOver := rfl)
    (fetch := fun _ => rfl)
    (awaitReset := rfl)
    (notice := fun _ _ _ => rfl)

theorem ScheduleMove.pending (h : ScheduleMove s t) : t.pending = s.pending :=
  h.casesOn (motive := fun t _ => t.pending = s.pending)
    (changeMode := fun m => (changeMode_inner m s).setup.pending)
    (clock := fun _ _ => rfl)
    (remove := fun _ => rfl)
    (insert := fun _ _ _ => rfl)

theorem capture_pending (ts : List Trigger) (s : State) : (s.capture ts).pending = s.pending := rfl

theorem StoreMove.pending (h : StoreMove s t) : t.pending = s.pending :=
  h.casesOn (motive := fun t _ => t.pending = s.pending)
    (endSave := fun _ => by
      unfold State.endSave
      split
      · rfl
      · rfl)
    (endSnapshot := fun _ => by
      unfold State.endSnapshot
      split
      · rfl
      · rfl)
    (capture := fun _ => rfl)
    (beginSave := fun _ _ => rfl)
    (beginLoad := fun _ _ _ => rfl)

theorem samplePins_pending (s : State) : s.samplePins.pending = s.pending := (sampleHand_frame _ s).setup.pending

theorem PhaseMove.pending (h : PhaseMove s t) : t.pending = s.pending :=
  h.casesOn (motive := fun t _ => t.pending = s.pending)
    (resetBlocks := fun _ _ _ => samplePins_pending _)
    (beginSettle := fun _ _ => rfl)
    (run := fun _ => rfl)
    (passMs := rfl)
    (passSecond := rfl)

theorem LoadMove.pending (h : LoadMove s t) : t.pending = s.pending :=
  h.casesOn (motive := fun t _ => t.pending = s.pending)
    (takeImage := fun receiving c _ _ => (takeImage_setup receiving c s).pending)
    (ends := rfl)
    (deferredTrip := (deferredTrip_protect s).inner.setup.pending)
    (evaluate := fun _ => (evaluateProtect_protect s).inner.setup.pending)

theorem Piece.pending (h : Piece s t) : t.pending = s.pending :=
  h.casesOn (motive := fun _ => t.pending = s.pending)
    (load := fun h => h.pending)
    (move := fun h => by
      cases h with
      | link h => exact h.pending
      | bus h => exact h.frame.setup.pending
      | light h => exact h.event.inner.setup.pending
      | output h => exact h.event.inner.setup.pending
      | heat h => exact h.event.inner.setup.pending
      | sheet h => exact h.event.inner.setup.pending
      | protect h => exact h.event.inner.setup.pending
      | point h => exact h.setup.pending
      | schedule h => exact h.pending
      | store h => exact h.pending
      | write h =>
        obtain ⟨c, hc⟩ := h.setup
        exact hc.pending
      | phase h => exact h.pending)

theorem Turns.pending (h : Turns s t) : t.pending = s.pending :=
  h.keep (P := fun x => x.pending = s.pending)
    (fun _ _ hx m => m.pieces.keep (P := fun x => x.pending = s.pending) (fun _ _ hy p => p.pending.trans hy) hx) rfl

/-! ### Which commands complete -/

/-- A command answers a next state exactly when it is of its row. -/
def Completes (c : Instr) (s : State) : Prop :=
  (c.wellFormed = true → ∃ t, exec c s = .next t) ∧ (c.wellFormed = false → exec c s = .fault .illFormed)

theorem completes_always {c : Instr} (h : c.wellFormed = true) (ht : exec c s = .next t) : Completes c s :=
  ⟨fun _ => ⟨t, ht⟩, fun k => absurd (h.symm.trans k) Bool.noConfusion⟩

theorem completes_guarded {c : Instr} {bad : Prop} [Decidable bad] (h : c.wellFormed = !decide bad)
    (ht : exec c s = if bad then .fault .illFormed else .next t) : Completes c s := by
  by_cases hb : bad
  · exact ⟨fun k => absurd (h.symm.trans k) (by simp [hb]), fun _ => by rw [ht, if_pos hb]⟩
  · exact ⟨fun _ => ⟨t, by rw [ht, if_neg hb]⟩, fun k => absurd (h.symm.trans k) (by simp [hb])⟩

theorem completes_onIndex {c : Instr} {n k : Nat} {f : Fin n → State} (h : c.wellFormed = decide (k < n))
    (ht : exec c s = onIndex n k fun i => .next (f i)) : Completes c s := by
  by_cases hk : k < n
  · exact completes_always (h.trans (decide_eq_true hk)) (t := f ⟨k, hk⟩) (by rw [ht, onIndex, index, dif_pos hk])
  · exact ⟨fun e => absurd (h.symm.trans e) (by simp [hk]), fun _ => by rw [ht, onIndex, index, dif_neg hk]⟩

section WellFormed

variable {tag kind code length : Byte} {p : Port} {fields body rest : List Byte}

theorem wellFormed_unknownKind : (Instr.unknownKindRequest tag kind body).wellFormed = (kind.toNat == 0 || decide (5 < kind.toNat)) := rfl

theorem wellFormed_unknownCode : (Instr.unknownActCode tag code fields).wellFormed = (code.toNat == 0 || decide (24 < code.toNat)) := rfl

theorem wellFormed_lengthAbove : (Instr.lengthAbove200 p length).wellFormed = decide (200 < length.toNat) := rfl

theorem wellFormed_pointsConfig : (Instr.writePointsConfig tag rest).wellFormed = (rest.length != 3) := rfl

theorem wellFormed_pointValue : (Instr.writePointValue tag rest).wellFormed = (rest.length == 3) := rfl

theorem wellFormed_sinks : (Instr.writeSinks tag rest).wellFormed = (rest.head? != some 12) := rfl

theorem wellFormed_outputs : (Instr.writeOutputs tag rest).wellFormed = (rest.head? != some 16) := rfl

theorem wellFormed_coverOn : (Instr.coverOn tag fields).wellFormed = !(fields.length == 2 && fields.getD 1 0 == 1) := rfl

theorem wellFormed_coverOff : (Instr.coverOff tag fields).wellFormed = !(fields.length == 2 && fields.getD 1 0 == 0) := rfl

end WellFormed

theorem outside_eq (k n : Nat) : (k == 0 || decide (n < k)) = !decide (1 ≤ k ∧ k ≤ n) := by
  rewrite [Bool.eq_iff_iff]
  simp only [Bool.or_eq_true, beq_iff_eq, decide_eq_true_eq, Bool.not_eq_true', decide_eq_false_iff_not]
  omega

theorem write_wellFormed (tag : Byte) (body : List Byte) : (Instr.write tag body).wellFormed = !decide (namesWritable body = true) := by
  match body with
  | [] => rfl
  | [_] => rfl
  | t :: i :: _ =>
    change decide (writableRecords t.toNat ≤ i.toNat) = !decide (decide (i.toNat < writableRecords t.toNat) = true)
    simp only [decide_eq_true_eq, ← decide_not, not_lt]

theorem coverNames_iff (code : Nat) (hc : code < 256) (fields : List Byte) :
    coverNames code fields = (fields.length == 2 && fields.getD 1 0 == BitVec.ofNat 8 code) := by
  unfold coverNames u8At
  congr 1
  rewrite [Bool.eq_iff_iff, beq_iff_eq, beq_iff_eq]
  constructor
  · rintro rfl
    simp
  · intro h
    rw [h, BitVec.toNat_ofNat, Nat.mod_eq_of_lt hc]

theorem completes (c : Instr) (s : State) : Completes c s :=
  match c with
  | .powerOn .. => completes_always rfl rfl
  | .pinReset .. => completes_always rfl rfl
  | .settleEnd .. => completes_always rfl rfl
  | .hostFrame .. => completes_always rfl rfl
  | .gapTimeout .. => completes_always rfl rfl
  | .replyDelivered .. => completes_always rfl rfl
  | .unknownKindRequest _ kind _ =>
    completes_guarded (bad := 1 ≤ kind.toNat ∧ kind.toNat ≤ 5) ((wellFormed_unknownKind ..).trans (outside_eq _ _)) rfl
  | .readPoints .. => completes_always rfl rfl
  | .readCounters .. => completes_always rfl rfl
  | .readEnergy .. => completes_always rfl rfl
  | .writePointsConfig _ rest => completes_guarded (bad := rest.length = 3) (by simp [wellFormed_pointsConfig, bne, beq_eq_decide]) rfl
  | .writePointValue _ rest =>
    completes_guarded (bad := ¬ rest.length = 3) (by simp [wellFormed_pointValue, beq_eq_decide]) (ite_not ..).symm
  | .writeBusSettings .. => completes_always rfl rfl
  | .writeWindows .. => completes_always rfl rfl
  | .writeSheets .. => completes_always rfl rfl
  | .writeZones .. => completes_always rfl rfl
  | .writeSinks _ rest => completes_guarded (bad := rest.head? = some 12) (by simp [wellFormed_sinks, bne, beq_eq_decide]) rfl
  | .writeAllocatorSettings .. => completes_always rfl rfl
  | .writeChannels .. => completes_always rfl rfl
  | .writeScenes .. => completes_always rfl rfl
  | .writeOutputs _ rest => completes_guarded (bad := rest.head? = some 16) (by simp [wellFormed_outputs, bne, beq_eq_decide]) rfl
  | .writeStageSettings .. => completes_always rfl rfl
  | .writeRemotes .. => completes_always rfl rfl
  | .writeProfiles .. => completes_always rfl rfl
  | .writeProtectSettings .. => completes_always rfl rfl
  | .writeNoticeSettings .. => completes_always rfl rfl
  | .write tag body => completes_guarded (bad := namesWritable body = true) (write_wellFormed tag body) rfl
  | .fetch .. => completes_always rfl rfl
  | .status .. => completes_always rfl rfl
  | .sceneRecall .. => completes_always rfl rfl
  | .channelSet .. => completes_always rfl rfl
  | .effectStart .. => completes_always rfl rfl
  | .effectStop .. => completes_always rfl rfl
  | .outputSet .. => completes_always rfl rfl
  | .modeSet .. => completes_always rfl rfl
  | .resurfaceStart .. => completes_always rfl rfl
  | .resurfaceEnd .. => completes_always rfl rfl
  | .coverOn _ fields => completes_guarded (bad := coverNames 1 fields = true) (by rw [coverNames_iff 1 (by decide)]; simp [wellFormed_coverOn, beq_eq_decide]) rfl
  | .coverOff _ fields => completes_guarded (bad := coverNames 0 fields = true) (by rw [coverNames_iff 0 (by decide)]; simp [wellFormed_coverOff, beq_eq_decide]) rfl
  | .protectTrip .. => completes_always rfl rfl
  | .protectClear .. => completes_always rfl rfl
  | .latchClear .. => completes_always rfl rfl
  | .busRelease .. => completes_always rfl rfl
  | .busReclaim .. => completes_always rfl rfl
  | .busTest .. => completes_always rfl rfl
  | .allocateNow .. => completes_always rfl rfl
  | .snapshotTake .. => completes_always rfl rfl
  | .storeSave .. => completes_always rfl rfl
  | .storeLoad .. => completes_always rfl rfl
  | .clockSet .. => completes_always rfl rfl
  | .programAdd .. => completes_always rfl rfl
  | .programDelete .. => completes_always rfl rfl
  | .start .. => completes_always rfl rfl
  | .reset .. => completes_always rfl rfl
  | .softReset .. => completes_always rfl rfl
  | .noticeWaitExpiry .. => completes_always rfl rfl
  | .frameReceived .. => completes_always rfl rfl
  | .frameStart .. => completes_always rfl rfl
  | .ownFrameDone .. => completes_always rfl rfl
  | .arbitrationLost .. => completes_always rfl rfl
  | .transmitError .. => completes_always rfl rfl
  | .isolatedRecovery .. => completes_always rfl rfl
  | .pauseTimerExpiry .. => completes_onIndex rfl rfl
  | .handAsserted .. => completes_always rfl rfl
  | .handDeasserted .. => completes_always rfl rfl
  | .receiveEntryTaken .. => completes_always rfl rfl
  | .agingExpiry .. => completes_always rfl rfl
  | .holdExpiry .. => completes_onIndex rfl rfl
  | .tankReheatExpiry .. => completes_onIndex rfl rfl
  | .criticalHoldExpiry .. => completes_onIndex rfl rfl
  | .periodTimerExpiry .. => completes_always rfl rfl
  | .stepTimerExpiry .. => completes_onIndex rfl rfl
  | .effectSample .. => completes_onIndex rfl rfl
  | .slewStep .. => completes_onIndex rfl rfl
  | .refreshExpiry .. => completes_onIndex rfl rfl
  | .tick .. => completes_always rfl rfl
  | .protectAsserted .. => completes_always rfl rfl
  | .protectDeasserted .. => completes_always rfl rfl
  | .keyPress .. => completes_always rfl rfl
  | .keyRelease .. => completes_always rfl rfl
  | .keyHoldExpiry .. => completes_always rfl rfl
  | .saveComplete .. => completes_always rfl rfl
  | .loadComplete .. => completes_always rfl rfl
  | .snapshotWriteComplete .. => completes_always rfl rfl
  | .idlePeriod .. => completes_always rfl rfl
  | .lengthAbove200 _ length => completes_guarded (bad := length.toNat ≤ 200) (by rw [wellFormed_lengthAbove, ← decide_not, decide_eq_decide, not_le]) rfl
  | .unknownActCode _ code _ =>
    completes_guarded (bad := 1 ≤ code.toNat ∧ code.toNat ≤ 24) ((wellFormed_unknownCode ..).trans (outside_eq _ _)) rfl

end Completion

/-- Settles O3: a command that completes does so by a chain of turns, none of which touches the queue. -/
theorem commandsComplete : Obligations.CommandsComplete := by
  intro c s
  obtain ⟨hnext, hfault⟩ := completes c s
  refine ⟨fun h => ?_, hfault⟩
  obtain ⟨t, ht⟩ := hnext h
  exact ⟨t, ht, (exec_answers c s t ht).pending⟩

section Resets

variable {s t : State}

/-! ### Resets -/

/-- The greatest sequence number of the VALID slots, 0 with none. -/
def Stc.greatest (c : Stc) : Nat := (c.valid.map fun x => x.2.sequence).foldl max 0

theorem Stc.mem_valid {c : Stc} {i : Fin 4} {x : Snapshot} : (i, x) ∈ c.valid ↔ c.slots.get i = some x := by
  simp [Stc.valid]

theorem Stc.sequence_le_greatest {c : Stc} {i : Fin 4} {x : Snapshot} (h : c.slots.get i = some x) : x.sequence ≤ c.greatest :=
  (List.le_max_of_le' (l := c.valid.map fun x => x.2.sequence) 0 (List.mem_map.mpr ⟨_, Stc.mem_valid.mpr h, rfl⟩) le_rfl).trans
    (le_of_eq List.foldl_eq_foldr.symm)

theorem Stc.greatest_of_empty {c : Stc} (h : ∀ i, c.slots.get i = none) : c.greatest = 0 := by
  simp [Stc.greatest, Stc.valid, h]

theorem Stc.greatest_held {c : Stc} {i : Fin 4} (h : c.slots.get i ≠ none) : ∃ j x, c.slots.get j = some x ∧ x.sequence = c.greatest := by
  obtain ⟨x, hx⟩ := Option.ne_none_iff_exists'.mp h
  rcases foldl_max_mem (c.valid.map fun x => x.2.sequence) 0 with hz | hm
  · exact ⟨i, x, hx, le_antisymm (Stc.sequence_le_greatest hx) (hz.trans_le (Nat.zero_le _))⟩
  · obtain ⟨⟨j, y⟩, hy, he⟩ := List.mem_map.mp hm
    exact ⟨j, y, Stc.mem_valid.mp hy, he⟩

theorem attn_settle (h : s.phase = .settle) : s.attn = false := by simp [State.attn, h]

end Resets

/-- Settles O4: a reset keeps what R200 keeps by construction; the slots' greatest sequence number gives the next one. -/
theorem resetsBeginSettle : Obligations.ResetsBeginSettle := by
  refine ⟨fun strap s => ?resets, fun tag s h => ?act, fun r rest s hs ho => ?deliver⟩
  case resets =>
    intro kept
    have stored : ∃ greatest, s.stc.afterReset.nextSequence = min 4294967295 (greatest + 1) ∧
        (∀ i x, s.stc.slots.get i = some x → x.sequence ≤ greatest) ∧
        ((∀ i, s.stc.slots.get i = none) → greatest = 0) ∧
        (∀ i, s.stc.slots.get i ≠ none → ∃ j x, s.stc.slots.get j = some x ∧ x.sequence = greatest) :=
      ⟨s.stc.greatest, rfl, fun _ _ => Stc.sequence_le_greatest, Stc.greatest_of_empty, fun _ => Stc.greatest_held⟩
    have settled (soft : Bool) : kept soft (s.beginSettle strap soft) :=
      ⟨rfl, rfl, rfl, rfl, rfl, rfl, rfl, rfl, rfl, rfl, rfl, rfl, rfl, rfl, rfl, rfl, rfl, rfl, rfl, rfl, rfl, rfl, rfl,
        stored, attn_settle rfl⟩
    refine ⟨⟨_, rfl, settled false⟩, ⟨_, rfl, settled false⟩, fun h => ⟨_, ?_, settled true⟩⟩
    exact congrArg Host.Outcome.next (if_pos h)
  case act =>
    have ha : s.answerReset tag [] = (s.answered tag .done [0]).awaitReset := by
      unfold State.answerReset
      rewrite [act_ready h]
      rfl
    refine ⟨_, congrArg Host.Outcome.next ((takeRequest_ready h.ready (State.answerReset tag [])).trans ha), ?_⟩
    simp [State.awaitReset, State.answered]
  case deliver =>
    refine congrArg Host.Outcome.next ((if_neg hs).trans ?_)
    simp [State.deliver, Lnk.deliver, ho]

section Settling

variable {s t : State}

/-! ### The end of SETTLE -/

theorem Table.mapIdx_of_const {α β : Type} {n : Nat} {f : Fin n → α → β} {x : α} {y : β} {t : Table α n} {u : Table β n}
    (ht : ∀ i, t.get i = x) (hu : ∀ i, u.get i = y) (h : ∀ i, f i x = y) : t.mapIdx f = u :=
  Table.ext_get fun i => by rw [Table.get_mapIdx, ht, hu, h]

/-- The requests of the default sinks are those of a disabled one. -/
theorem recompute_default (hc : ∀ i, s.cfg.sinks.get i = {}) (hr : ∀ i, s.hra.sinks.get i = {}) : s.recompute (fun _ => true) = s := by
  have h : s.hra.sinks.mapIdx (fun i r => { r with
      reqMin := s.requestMin (s.cfg.sinks.get i), reqMax := s.requestMax (s.cfg.sinks.get i)
      cls := s.classInForce (s.cfg.sinks.get i) }) = s.hra.sinks :=
    Table.mapIdx_of_const hr hr fun i => by rw [hc]; rfl
  exact congrArg (State.setSinks · s) h

/-- Outputs and entries without a binding have the source code 0 and no value. -/
theorem startSources_default (ho : ∀ i, s.cfg.outputs.get i = {}) (hr : ∀ i, s.cfg.remotes.get i = {})
    (hrun : ∀ i, s.ost.outputs.get i = {}) (hremote : ∀ i, s.ost.remotes.get i = {}) : s.startSources = s := by
  have h1 : s.ost.outputs.mapIdx (fun i o => { o with source := s.outputSource i }) = s.ost.outputs :=
    Table.mapIdx_of_const hrun hrun fun i => by rw [State.outputSource, ho]; rfl
  have h2 : s.ost.remotes.mapIdx (fun i r =>
      { r with value := if (s.cfg.remotes.get i).binding = .none then none else some (s.remoteSource i : Int) }) = s.ost.remotes :=
    Table.mapIdx_of_const hremote hremote fun i => by rw [hr]; rfl
  unfold State.startSources
  rw [h1, h2]

/-- Every block's reset values, with the tables that a configuration gives, before requests and sources are computed. -/
def State.cleared (cfg : Configuration) (points : Table PointRun 64) (sheets : Table SheetRun 2) (zones : Table ZoneRun 4)
    (channels : Table ChannelRun 32) (s : State) : State :=
  { State.reset with
    pending := s.pending
    choices := s.choices
    strap := s.strap
    pins := s.pins
    cfg := cfg
    lnk := { locked := s.lnk.locked }
    fbc := { address := cfg.bus.ownAddress, bitRate := cfg.bus.bitRate }
    ptb := { points := points }
    shm := sheets
    cdm := zones
    lsq := { channels := channels }
    scu := { clock := s.scu.clock }
    stc := s.stc }

theorem resetBlocks_eq (c : Configuration) (s : State) :
    s.resetBlocks c = ((s.cleared c (c.points.mapIdx fun _ p => restarted p.binding) (c.sheets.mapIdx fun _ x => sheetAfterReset x)
      (c.zones.mapIdx fun _ z => zoneAfterReset z) (c.channels.mapIdx fun _ x => channelAfterReset x)).recompute fun _ => true).startSources :=
  rfl

/-- The part after reset, with what a reset of `s` keeps. -/
def State.keptReset (s : State) : State := s.cleared State.reset.cfg State.reset.ptb.points State.reset.shm State.reset.cdm State.reset.lsq.channels

/-- On the defaults every block's reset value is that of the part after reset (R198). -/
theorem cleared_default (s : State) :
    s.cleared State.reset.cfg (State.reset.cfg.points.mapIdx fun _ p => restarted p.binding)
      (State.reset.cfg.sheets.mapIdx fun _ x => sheetAfterReset x) (State.reset.cfg.zones.mapIdx fun _ z => zoneAfterReset z)
      (State.reset.cfg.channels.mapIdx fun _ x => channelAfterReset x) = s.keptReset := by
  have hp : State.reset.cfg.points.mapIdx (fun _ p => restarted p.binding) = State.reset.ptb.points :=
    Table.mapIdx_of_const (Table.get_const _) (Table.get_const _) fun _ => rfl
  have hs : State.reset.cfg.sheets.mapIdx (fun _ x => sheetAfterReset x) = State.reset.shm :=
    Table.mapIdx_of_const (Table.get_const _) (Table.get_const _) fun _ => rfl
  have hz : State.reset.cfg.zones.mapIdx (fun _ z => zoneAfterReset z) = State.reset.cdm :=
    Table.mapIdx_of_const (Table.get_const _) (Table.get_const _) fun _ => rfl
  have hl : State.reset.cfg.channels.mapIdx (fun _ x => channelAfterReset x) = State.reset.lsq.channels :=
    Table.mapIdx_of_const (Table.get_const _) (Table.get_const _) fun _ => rfl
  rw [hp, hs, hz, hl, State.keptReset]

theorem resetBlocks_default (s : State) : s.resetBlocks State.reset.cfg = s.keptReset := by
  rw [resetBlocks_eq, cleared_default, recompute_default (Table.get_const _) (Table.get_const _),
    startSources_default (Table.get_const _) (Table.get_const _) (Table.get_const _) (Table.get_const _)]

/-- A part whose bus is at its reset value samples HAND. -/
theorem sampleHand_fresh (h : s.fbc = State.reset.fbc) (held : Bool) : s.sampleHand held =
    { s with fbc := { hand := held, handOver := if held then .released else .owned } } := by
  have hs : s = { s with fbc := State.reset.fbc } := by rw [← h]
  rw [hs]
  cases held <;> rfl

theorem samplePins_fresh (h : s.fbc = State.reset.fbc) (hp : s.pru = State.reset.pru) : s.samplePins = { s with
    fbc := { hand := s.pins.hand, handOver := if s.pins.hand then .released else .owned }
    pru := { pin := s.pins.protect, key := if s.pins.egress then .timing else .released } } := by
  have hs : s = { s with pru := State.reset.pru } := by rw [← hp]
  unfold State.samplePins
  rewrite [sampleHand_fresh h, hs]
  rfl

theorem endSettle_attended (h : s.strap = .attended) : s.endSettle = (s.resetBlocks State.reset.cfg).samplePins := by
  unfold State.endSettle
  rewrite [h]
  rfl

theorem endSettle_bad (h : s.strap = .standalone) (hi : s.stc.goodImage = none) :
    s.endSettle = ((s.resetBlocks State.reset.cfg).samplePins).storeNotice 3 true := by
  unfold State.endSettle
  rewrite [h, hi]
  rfl

end Settling

/-- Settles O5. -/
theorem settleEndsWaiting : Obligations.SettleEndsWaiting := by
  intro s hs hb
  have hpins := (congrArg State.samplePins (resetBlocks_default s)).trans (samplePins_fresh rfl rfl)
  refine congrArg Host.Outcome.next ((if_pos hs).trans ?_)
  by_cases hst : s.strap = .standalone
  · have hi : s.stc.goodImage = none := hb.resolve_left fun h => nomatch hst.symm.trans h
    rewrite [if_pos hst]
    exact (endSettle_bad hst hi).trans (congrArg (State.storeNotice 3 true) hpins)
  · have ha : s.strap = .attended := by
      cases h : s.strap with
      | attended => rfl
      | standalone => exact absurd h hst
    rewrite [if_neg hst]
    exact (endSettle_attended ha).trans hpins

/-- Settles O55. -/
theorem resetMeetsInvariants : Obligations.ResetMeetsInvariants := by
  have keys (sh : Fin 2) : State.reset.shm.get sh = {} := Table.get_const ..
  refine ⟨queuesFit_iff.mpr ⟨.empty rfl rfl rfl, .empty (.refl _), Nat.zero_le _⟩, ⟨.nil, .nil, fun _ h => absurd h List.not_mem_nil, Nat.zero_le _, Nat.zero_le _⟩,
    ⟨Configuration.default_valid, fun _ h => absurd h.symm (Option.some_ne_none _), fun _ h => absurd h.symm (Option.some_ne_none _)⟩, dark_reset rfl rfl, heatHoldKept_iff.mpr (.fresh rfl rfl rfl rfl), fun sh => ?_⟩
  rewrite [keys sh]
  exact ⟨fun h => SheetState.noConfusion h, fun _ => ⟨rfl, rfl⟩,
    fun h => h.elim (fun k => SheetState.noConfusion k) fun k => SheetState.noConfusion k⟩

/-! PROOF. The turn of the part on an empty queue (log entries 2 to 4): what it keeps, and what a millisecond and a second do to every
timer. -/

section EmptyTurn

variable {s t : State}

/-! ### What a turn keeps -/

theorem endAssembly_setup (s : State) : SetupKept s s.endAssembly := by
  unfold State.endAssembly
  split
  · exact .refl s
  · next a _ =>
    have h1 : SetupKept s (({ s with lnk := { s.lnk with assembly := none } } : State).reply a.reply) :=
      ⟨rfl, rfl, rfl, rfl, rfl, rfl, rfl, rfl⟩
    simp only
    split
    · exact ⟨rfl, rfl, rfl, rfl, rfl, rfl, rfl, rfl⟩
    · exact h1.trans (applyHeldAging_inner _).setup
    · exact h1

theorem reply_setup (r : Reply) (s : State) : SetupKept s (s.reply r) := ⟨rfl, rfl, rfl, rfl, rfl, rfl, rfl, rfl⟩

theorem answerRowless_setup (r : Request) (s : State) : SetupKept s (s.answerRowless r) := by
  unfold State.answerRowless
  split
  · split <;> exact reply_setup ..
  · exact reply_setup ..

/-- Time changes no setting, and of the clock only the part of its second that has passed. -/
structure TimeKept (s t : State) : Prop where
  pending : t.pending = s.pending
  cfg : t.cfg = s.cfg
  phase : t.phase = s.phase
  clock : t.scu.clock = s.scu.clock
  program : t.scu.program = s.scu.program

theorem SetupKept.time (h : SetupKept s t) : TimeKept s t := ⟨h.pending, h.cfg, h.phase, by rw [h.scu], by rw [h.scu]⟩

theorem passTime_kept (s : State) : TimeKept s s.passTime := by
  unfold State.passTime
  split
  · exact ⟨rfl, rfl, rfl, rfl, rfl⟩
  · simp only
    split
    · exact ⟨rfl, rfl, rfl, rfl, rfl⟩
    · exact ⟨rfl, rfl, rfl, rfl, rfl⟩

theorem idle_kept (s : State) : TimeKept s s.idle := by
  unfold State.idle
  split
  · exact ⟨rfl, rfl, rfl, rfl, rfl⟩
  · split
    · exact (endAssembly_setup s).time
    · split
      · split
        · exact (answerRowless_setup _ s).time
        · exact passTime_kept s
      · exact passTime_kept s

/-! ### A millisecond -/

theorem idle_dead (h : s.live = false) : s.idle = s := if_pos (by simp [h])

/-- A live part with no assembly and no request of its own to answer lets a millisecond pass. -/
theorem idle_passes (live : s.live = true) (ha : s.lnk.assembly = none)
    (hr : ∀ r, s.lnk.requests.head? = some r → r.rowless = false) : s.idle = s.passTime := by
  unfold State.idle
  rewrite [if_neg (by simp [live]), if_neg (by simp [ha])]
  split
  · next r rest h =>
    rw [if_neg (by simp [hr r (by simp [h])])]
  · rfl

theorem passTime_live (live : s.live = true) :
    s.passTime = if (s.ms + 1) % 1000 = 0 then s.passMs.passSecond else s.passMs := if_neg (by simp [live])

/-- What a millisecond does to a live part, and the second it may end. -/
theorem passTime_eq (live : s.live = true) :
    s.passTime = { s with
      ms := s.ms + 1
      fbc := { s.fbc with pauses := s.passTime.fbc.pauses }
      scu := { s.scu with elapsed := min 999 (s.scu.elapsed + 1) }
      pru := { s.pru with keyTimer := countDown s.pru.keyTimer }
      lsq := { s.lsq with channels := s.passTime.lsq.channels }
      ost := s.passTime.ost
      shm := s.passTime.shm
      hra := { s.hra with timer := if (s.ms + 1) % 1000 = 0 then countDown s.hra.timer else s.hra.timer }
      lnk := { s.lnk with
        notices := if (s.ms + 1) % 1000 = 0 then s.lnk.notices.map (fun n => { n with waited := n.waited + 1 })
          else s.lnk.notices } } := by
  have hlights : s.passMs.lsq = { s.lsq with channels := s.passMs.lsq.channels } := by
    simp only [State.passMs]
    split <;> rfl
  rewrite [passTime_live live]
  split
  · exact congrArg (fun l => { s.passMs.passSecond with lsq := l }) hlights
  · exact congrArg (fun l => { s.passMs with lsq := l }) hlights

theorem passTime_pauses (live : s.live = true) (n : Fin 64) : s.passTime.fbc.pauses.get n = countDown (s.fbc.pauses.get n) := by
  have h : s.passTime.fbc.pauses = s.fbc.pauses.mapIdx fun _ t => countDown t := by
    rewrite [passTime_live live]
    split <;> rfl
  rw [h, Table.get_mapIdx]

theorem passTime_lsq (live : s.live = true) : s.passTime.lsq =
    if s.phase = .run then { s.lsq with channels := s.lsq.channels.mapIdx fun _ r => r.passMs } else s.lsq := by
  rewrite [passTime_live live]
  split <;> rfl

theorem passTime_channel (live : s.live = true) (i : Fin 32) :
    (s.phase ≠ .run → s.passTime.lsq.channels.get i = s.lsq.channels.get i) ∧
      (s.phase = .run → s.passTime.lsq.channels.get i = (s.lsq.channels.get i).passMs) := by
  rewrite [passTime_lsq live]
  refine ⟨fun h => by rw [if_neg h], fun h => ?_⟩
  rewrite [if_pos h]
  exact Table.get_mapIdx ..

theorem passTime_output (live : s.live = true) (i : Fin 16) : s.passTime.ost.outputs.get i =
    { s.ost.outputs.get i with timer := (s.ost.outputs.get i).timer.map countDown } := by
  have h : s.passTime.ost.outputs = s.ost.outputs.mapIdx fun _ o => { o with timer := o.timer.map countDown } := by
    rewrite [passTime_live live]
    split <;> rfl
  rw [h, Table.get_mapIdx]

theorem passTime_remote (live : s.live = true) (i : Fin 32) : s.passTime.ost.remotes.get i =
    { s.ost.remotes.get i with
      timer := if (s.ms + 1) % 1000 = 0 then countDown (s.ost.remotes.get i).timer else (s.ost.remotes.get i).timer } := by
  rewrite [passTime_live live]
  split
  · exact Table.get_mapIdx ..
  · rfl

theorem passTime_sheet (live : s.live = true) (sh : Fin 2) : s.passTime.shm.get sh =
    if (s.ms + 1) % 1000 = 0 then (s.shm.get sh).passSecond (s.cfg.sheets.get sh) else s.shm.get sh := by
  rewrite [passTime_live live]
  split
  · exact Table.get_mapIdx ..
  · rfl

/-- A second of a sheet, with the time in CRITICAL stopping short of the trip hold. -/
theorem passSecond_eq (c : SheetConfig) (r : SheetRun) :
    let time := min 65535 (r.criticalTime + 1)
    r.passSecond c = { r with
      hold := countDown r.hold
      tank := countDown r.tank
      criticalTime :=
        if r.state = .critical ∧ ¬ (c.criticalHold ≠ 0 ∧ r.trigger = false ∧ c.criticalHold ≤ time) then time
        else r.criticalTime } := by
  intro time
  have h : (if r.state ≠ .critical then r.criticalTime
      else if c.criticalHold ≠ 0 ∧ r.trigger = false ∧ c.criticalHold ≤ time then r.criticalTime else time) =
      if r.state = .critical ∧ ¬ (c.criticalHold ≠ 0 ∧ r.trigger = false ∧ c.criticalHold ≤ time) then time
      else r.criticalTime := by
    by_cases hs : r.state = .critical
    · by_cases hh : c.criticalHold ≠ 0 ∧ r.trigger = false ∧ c.criticalHold ≤ time
      · rw [if_neg (not_not_intro hs), if_pos hh, if_neg fun k => k.2 hh]
      · rw [if_neg (not_not_intro hs), if_neg hh, if_pos ⟨hs, hh⟩]
    · rw [if_pos hs, if_neg fun k => hs k.1]
  exact congrArg (fun n => { r with hold := countDown r.hold, tank := countDown r.tank, criticalTime := n }) h

end EmptyTurn

/-- Settles O2: a part that is not live stands still; a live one keeps its settings, and with nothing to answer a millisecond passes. -/
theorem emptyQueueTurn : Obligations.EmptyQueueTurn := by
  intro s hp
  obtain ⟨pending, cfg, phase, clock, program⟩ := idle_kept s
  have hstep : step s = .next s.idle := by simp [step, hp]
  refine ⟨s.idle, hstep, pending.trans hp, cfg, phase, clock, program, fun live ha hr => ?_, idle_dead⟩
  rewrite [idle_passes live ha hr]
  refine ⟨passTime_eq live, passTime_pauses live, passTime_channel live, passTime_output live, passTime_remote live, fun sh => ?_⟩
  rewrite [passTime_sheet live]
  exact ⟨fun h => if_neg h, fun h => (if_pos h).trans (passSecond_eq ..)⟩

/-! PROOF. The host link's frames and its reply output (R180 to R183). -/

section HostLink

variable {s : State} {l : Lnk}

/-! ### Frames -/

theorem crc16Bit_lt {c : Nat} (h : c < 65536) : crc16Bit c < 65536 := by
  unfold crc16Bit
  split
  · omega
  · exact Nat.xor_lt_two_pow (n := 16) (by omega) (by omega)

theorem crc16Byte_lt {c : Nat} (h : c < 65536) (b : Byte) : crc16Byte c b < 65536 := by
  have hb := b.isLt
  have h0 : c ^^^ (b.toNat * 256) < 65536 := Nat.xor_lt_two_pow (n := 16) h (by omega)
  exact Function.Iterate.rec (motive := fun n : Nat => n < 65536) h0 (fun _ hn => crc16Bit_lt hn) 8

theorem crc16_lt (bytes : List Byte) : crc16 bytes < 65536 :=
  foldl_induct (P := fun n : Nat => n < 65536) _ _ _ (by decide) fun _ b h => crc16Byte_lt h b

theorem u16At_append_u16 {n : Nat} (h : n < 65536) (a b : List Byte) : u16At (a ++ u16 n ++ b) a.length = n := by
  unfold u16At u8At u16
  simp
  omega

/-- The search finds exactly the frame that is there. -/
theorem scan_hostFrame (tag kind : Byte) {body : List Byte} (h : body.length ≤ 200) :
    scan (hostFrame tag kind body) = ([.good ⟨tag, kind, body⟩], []) := by
  have hlen : (BitVec.ofNat 8 body.length).toNat = body.length := by
    rewrite [BitVec.toNat_ofNat]
    omega
  generalize hcheck : crc16 (BitVec.ofNat 8 body.length :: tag :: kind :: body) = check
  have hrest : tag :: kind :: body ++ u16 check = tag :: kind :: (body ++ u16 check) := rfl
  have hat : u16At (tag :: kind :: (body ++ u16 check)) (body.length + 2) = check := by
    have := u16At_append_u16 (hcheck ▸ crc16_lt _) (tag :: kind :: body) []
    simpa using this
  have hframe : hostFrame tag kind body = syncByte :: BitVec.ofNat 8 body.length :: tag :: kind :: (body ++ u16 check) := by
    simp [hostFrame, hcheck]
  have htake : (tag :: kind :: (body ++ u16 check)).take (body.length + 2) = tag :: kind :: body := by simp
  have hdrop : (tag :: kind :: (body ++ u16 check)).drop (body.length + 4) = [] := by simp [u16]
  have hcount : (tag :: kind :: (body ++ u16 check)).length = body.length + 4 := by simp [u16]
  have hbody : ((tag :: kind :: (body ++ u16 check)).drop 2).take body.length = body := by simp
  rewrite [hframe]
  unfold scan
  rewrite [List.length_cons, scanFrom]
  simp only [List.dropWhile_cons, bne_self_eq_false, Bool.false_eq_true, if_false, hlen]
  rewrite [if_neg (by omega), if_neg (by omega), hat, htake, hcheck, if_pos rfl, hdrop, hbody, List.length_cons, scanFrom]
  rfl

/-! ### The reply output -/

/-- Clocking reply bytes out changes the output, the byte count and the count of a waiting RESET alone. -/
theorem clockOut_rest (n : Nat) (l : Lnk) : l.clockOut n = { l with
    output := (l.clockOut n).output, clocked := (l.clockOut n).clocked, resetWait := (l.clockOut n).resetWait } := by
  induction n generalizing l with
  | zero => rfl
  | succ n ih =>
    unfold Lnk.clockOut
    split
    · rfl
    · next r rest ho =>
      split
      · exact ih _
      · have hd : l.deliver = { l with output := rest, clocked := 0, resetWait := l.resetWait.map (· - 1) } := by
          simp [Lnk.deliver, ho]
        rewrite [hd]
        exact ih _

theorem hostFrame_ne_nil (tag kind : Byte) (body : List Byte) : hostFrame tag kind body ≠ [] := by simp [hostFrame]

theorem bytes_length_pos {r : Reply} (h : r.bodies ≠ []) : 0 < r.bytes.length := by
  obtain ⟨b, bs, hb⟩ := List.exists_cons_of_ne_nil h
  have := List.length_pos_of_ne_nil (hostFrame_ne_nil r.tag r.kind.code b)
  rewrite [Reply.bytes, hb, List.flatMap_cons, List.length_append]
  omega

/-- Every clock carries the next reply byte out (R182). -/
theorem clockOut_waitingBytes (n : Nat) (hb : ∀ r ∈ l.output, r.bodies ≠ [])
    (hc : ∀ r, l.output.head? = some r → l.clocked < r.bytes.length) :
    (l.clockOut n).waitingBytes = l.waitingBytes.drop n := by
  induction n generalizing l with
  | zero => rfl
  | succ n ih =>
    unfold Lnk.clockOut
    split
    · next ho => simp [Lnk.waitingBytes, ho]
    · next r rest ho =>
      have hr := hc r (by simp [ho])
      split
      · next hmore =>
        rw [ih (l := { l with clocked := l.clocked + 1 }) hb (fun x hx => ?_)]
        · simp only [Lnk.waitingBytes, List.drop_drop]
          congr 1
          omega
        · rw [ho] at hx
          cases hx
          exact hmore
      · next hlast =>
        have hd : l.deliver = { l with output := rest, clocked := 0, resetWait := l.resetWait.map (· - 1) } := by
          simp [Lnk.deliver, ho]
        rw [hd, ih (fun x hx => hb x (by simp [ho, hx])) (fun x hx => ?_)]
        · have hend : l.clocked + (n + 1) = r.bytes.length + n := by omega
          simp only [Lnk.waitingBytes, ho, List.drop_drop, List.flatMap_cons, hend, Nat.zero_add]
          rw [← List.drop_drop, List.drop_left]
        · exact bytes_length_pos (hb x (by simp [ho, List.mem_of_mem_head? hx]))

theorem State.clockOut_eq (p : Port) (n : Nat) (s : State) : s.clockOut p n = { s with lnk := (s.clockOut p n).lnk } := by
  unfold State.clockOut
  split <;> rfl

theorem State.clockOut_lnk (p : Port) (n : Nat) (s : State) : (s.clockOut p n).lnk = { s.lnk with
    output := (s.clockOut p n).lnk.output, clocked := (s.clockOut p n).lnk.clocked
    resetWait := (s.clockOut p n).lnk.resetWait } := by
  unfold State.clockOut
  split
  · exact clockOut_rest n s.lnk
  · rfl

theorem ignores_clockOut (p q : Port) (n : Nat) (s : State) : (s.clockOut q n).ignores p = s.ignores p := by
  unfold State.ignores
  rw [State.clockOut_lnk]

theorem intake_clockOut (p q : Port) (n : Nat) (s : State) : (s.clockOut q n).lnk.intake p = s.lnk.intake p := by
  rw [State.clockOut_lnk]
  cases p <;> rfl

theorem listens_of (hs : s.phase ≠ .settle) {p : Port} (hp : s.ignores p = false) : s.listens p = true := by
  simp [State.listens, hs, hp]

/-! ### A request joins the buffer -/

/-- The link with a port locked and both intakes empty. -/
def Lnk.lockedOn (p : Port) (l : Lnk) : Lnk := { l with locked := portLock p, uartIntake := [], spiIntake := [] }

theorem offerRequest_room (p : Port) (r : Request) (h : s.lnk.requests.length < 2) :
    (s.setIntake p []).offerRequest p r =
      { s with lnk := { s.lnk.lockedOn p with requests := s.lnk.requests ++ [r] } } := by
  cases p <;> exact if_pos h

theorem offerRequest_full (p : Port) (r : Request) (h : s.lnk.requests.length = 2) :
    (s.setIntake p []).offerRequest p r =
      { s with
        lnk := { s.lnk.lockedOn p with output := s.lnk.output ++ [⟨r.tag, .busy, [[]]⟩] }
        fbc := s.fbc.count s.holdsCounts .linkBusy } := by
  cases p <;> exact if_neg (by simp [State.setIntake, Lnk.setIntake, h])

/-- A whole frame on a port without an attempt under way brings its request. -/
theorem exec_hostFrame (p : Port) (tag kind : Byte) {body : List Byte} (hb : body.length ≤ 200) (hs : s.phase ≠ .settle)
    (hp : s.ignores p = false) (hi : s.lnk.intake p = []) : exec (.hostFrame p (hostFrame tag kind body)) s =
      .next (((s.clockOut p (body.length + 6)).setIntake p []).offerRequest p ⟨tag, kind, body⟩) := by
  have hlen : (hostFrame tag kind body).length = body.length + 6 := by simp [hostFrame, u16]
  refine congrArg Host.Outcome.next ((if_pos (listens_of hs hp)).trans ?_)
  unfold State.receiveBytes
  rewrite [hlen, intake_clockOut, hi, List.nil_append, scan_hostFrame tag kind hb]
  rfl

/-! ### Attempts that end -/

theorem receiveBytes_uart_left {bytes left : List Byte} (h : scan (s.lnk.uartIntake ++ bytes) = ([], left)) :
    s.receiveBytes .uart bytes = s.setIntake .uart left := by
  unfold State.receiveBytes
  rewrite [Lnk.intake, h]
  rfl

theorem endAttempt_underWay (h : s.lnk.uartIntake ≠ []) : s.endAttempt = (s.setIntake .uart []).count .linkTimeout :=
  if_neg (by simpa using h)

theorem clockOut_holdsCounts (p : Port) (n : Nat) (s : State) : (s.clockOut p n).holdsCounts = s.holdsCounts := by
  unfold State.holdsCounts
  rw [State.clockOut_lnk]

theorem setIntake_holdsCounts (p : Port) (b : List Byte) (s : State) : (s.setIntake p b).holdsCounts = s.holdsCounts := by
  cases p <;> rfl

end HostLink

/-- Settles O8: one frame found by the search; the ends of attempts; and the bytes on SDO and LTX. -/
theorem hostFrameTaken : Obligations.HostFrameTaken := by
  refine ⟨fun p tag kind body s hb hs hp hi => ?frame, fun bytes left s hs hp hscan hleft => ?gap,
    fun p length s hl hs hp hi => ?long, fun p n s => ⟨fun h => ?still, fun h hb hc => ⟨?bytes, ?sdo, ?ltx⟩, fun h => ?free, fun h => ⟨?uartSdo, ?uartLtx⟩⟩⟩
  case frame =>
    intro c l
    have hreq : c.lnk.requests = s.lnk.requests := by rw [State.clockOut_lnk]
    refine ⟨fun hr => ?_, fun hr => ?_⟩ <;> rw [exec_hostFrame p tag kind hb hs hp hi]
    · rewrite [offerRequest_room p _ (hreq ▸ hr), hreq, State.clockOut_eq]
      rfl
    · rewrite [offerRequest_full p _ (hreq ▸ hr), clockOut_holdsCounts, State.clockOut_eq]
      rfl
  case gap =>
    refine congrArg Host.Outcome.next ((if_pos (listens_of hs hp)).trans ?_)
    rewrite [receiveBytes_uart_left hscan, endAttempt_underWay hleft]
    rfl
  case long =>
    have hempty : (s.listens p && ((s.lnk.intake p).isEmpty || s.lnk.intake p == [syncByte])) = true := by
      rcases hi with hi | hi <;> simp [listens_of hs hp, hi]
    have hcount : 2 - (s.lnk.intake p).length = if s.lnk.intake p = [] then 2 else 1 := by
      rcases hi with hi | hi <;> simp [hi]
    refine (if_neg (by omega)).trans (congrArg Host.Outcome.next ((if_pos hempty).trans ?_))
    rewrite [hcount]
    simp only [State.count, setIntake_holdsCounts, clockOut_holdsCounts]
    rewrite [State.clockOut_eq]
    rfl
  case still => exact if_neg fun k => h.elim (fun e => by cases e.symm.trans k.1) fun e => e k.2
  case bytes =>
    have hlnk : (s.clockOut .spi n).lnk = s.lnk.clockOut n := congrArg State.lnk (if_pos ⟨rfl, h⟩)
    rewrite [hlnk]
    exact clockOut_waitingBytes n hb hc
  case sdo => simp [State.sdo, h]
  case ltx => simp [State.ltx, h]
  case free => simp [State.sdo, h]
  case uartSdo => simp [State.sdo, h]
  case uartLtx => simp [State.ltx, h]

/-! PROOF. Requests that are refused whatever the part does (R183, R184, R186). -/

section Refusals

variable {s : State} {tag : Byte}

theorem withRecord_bad {α : Type} {p : Option (α × Nat)} (h : p.isSome = false) (f : α → Nat → Decision) :
    withRecord p f = .error .badValue := by
  rewrite [Option.isSome_eq_false_iff, Option.isNone_iff_eq_none] at h
  rewrite [h]
  rfl

/-- The checks that every WRITE makes before its own rule, in the order of R184. -/
theorem write_refusals {n : Nat} {i : Byte} {record : List Byte} {fits : List Byte → Bool} (f : Fin n → List Byte → State → Decision) :
    (n ≤ i.toNat → s.write n (i :: record) fits f = .error .badIndex) ∧
      (i.toNat < n → fits record = false → s.write n (i :: record) fits f = .error .badLength) ∧
      (i.toNat < n → fits record = true → s.stc.op = .save ∨ s.stc.op = .load →
        s.write n (i :: record) fits f = .error .storeBusy) := by
  refine ⟨fun h => ?_, fun h hf => ?_, fun h hf hb => ?_⟩
  · simp [State.write, index_none.mpr h]
  · simp [State.write, index_val ⟨i.toNat, h⟩, hf]
  · have busy : s.storeBusy = true := by rcases hb with hb | hb <;> simp [State.storeBusy, hb]
    simp [State.write, index_val ⟨i.toNat, h⟩, hf, busy]

theorem write_own {n : Nat} {i : Byte} {record : List Byte} {fits : List Byte → Bool} (f : Fin n → List Byte → State → Decision)
    (h : i.toNat < n) (hf : fits record = true) (h1 : s.stc.op ≠ .save) (h2 : s.stc.op ≠ .load) :
    s.write n (i :: record) fits f = f ⟨i.toNat, h⟩ record s := by
  have busy : s.storeBusy = false := by simp [State.storeBusy, h1, h2]
  simp [State.write, index_val ⟨i.toNat, h⟩, hf, busy]

/-- The refusals of a WRITE to one of `n` records, whose own rule refuses codes outside their lists. -/
theorem row_refusals {c : Instr} {table n : Nat} {i : Byte} {record : List Byte} {fits codes : List Byte → Bool}
    {f : Fin n → List Byte → State → Decision}
    (h : Ready ⟨tag, kindWrite, BitVec.ofNat 8 table :: i :: record⟩ s)
    (he : exec c s = .next (s.serveWrite tag table (i :: record) fun st => st.write n (i :: record) fits f))
    (hf : codes record = false → ∀ k, f k record s = .error .badValue) :
    (n ≤ i.toNat → exec c s = .next (s.refusedFor tag .badIndex)) ∧
      (i.toNat < n → fits record = false → exec c s = .next (s.refusedFor tag .badLength)) ∧
      (i.toNat < n → fits record = true → s.stc.op = .save ∨ s.stc.op = .load →
        exec c s = .next (s.refusedFor tag .storeBusy)) ∧
      (i.toNat < n → fits record = true → s.stc.op ≠ .save → s.stc.op ≠ .load → codes record = false →
        exec c s = .next (s.refusedFor tag .badValue)) := by
  have hserve : exec c s = .next (s.conclude tag (s.write n (i :: record) fits f)) :=
    he.trans (congrArg Host.Outcome.next (serve_ready h _))
  obtain ⟨hindex, hlength, hbusy⟩ := write_refusals (s := s) (i := i) (record := record) (fits := fits) f
  rewrite [hserve]
  refine ⟨fun h1 => ?_, fun h1 h2 => ?_, fun h1 h2 h3 => ?_, fun h1 h2 h3 h4 hc => ?_⟩
  · rw [hindex h1, conclude_refused]
  · rw [hlength h1 h2, conclude_refused]
  · rw [hbusy h1 h2 h3, conclude_refused]
  · rw [write_own f h1 h2 h3 h4, hf hc, conclude_refused]

/-- The same with a parser, whose failure is a code outside its list. -/
theorem record_refusals {α : Type} {c : Instr} {table n : Nat} {i : Byte} {record : List Byte} {fits : List Byte → Bool}
    {parse : List Byte → Option (α × Nat)} {g : Fin n → State → α → Nat → Decision}
    (h : Ready ⟨tag, kindWrite, BitVec.ofNat 8 table :: i :: record⟩ s)
    (he : exec c s = .next (s.serveWrite tag table (i :: record) fun st =>
      st.write n (i :: record) fits fun k r st => withRecord (parse r) (g k st))) :
    (n ≤ i.toNat → exec c s = .next (s.refusedFor tag .badIndex)) ∧
      (i.toNat < n → fits record = false → exec c s = .next (s.refusedFor tag .badLength)) ∧
      (i.toNat < n → fits record = true → s.stc.op = .save ∨ s.stc.op = .load →
        exec c s = .next (s.refusedFor tag .storeBusy)) ∧
      (i.toNat < n → fits record = true → s.stc.op ≠ .save → s.stc.op ≠ .load → (parse record).isSome = false →
        exec c s = .next (s.refusedFor tag .badValue)) :=
  row_refusals (codes := fun r => (parse r).isSome) h he fun hc _ => withRecord_bad hc _

/-- The same for the one record of a table behind its indexed ones. -/
theorem lastRow_refusals {c : Instr} {table n length : Nat} {i : Byte} {record : List Byte} {codes : List Byte → Bool}
    {f : Fin n → List Byte → State → Decision} (hi : i.toNat < n)
    (h : Ready ⟨tag, kindWrite, BitVec.ofNat 8 table :: i :: record⟩ s)
    (he : exec c s = .next (s.serveWrite tag table (i :: record) fun st => st.write n (i :: record) (lengthIs length) f))
    (hf : codes record = false → ∀ k, f k record s = .error .badValue) :
    (record.length ≠ length → exec c s = .next (s.refusedFor tag .badLength)) ∧
      (record.length = length → s.stc.op = .save ∨ s.stc.op = .load → exec c s = .next (s.refusedFor tag .storeBusy)) ∧
      (record.length = length → s.stc.op ≠ .save → s.stc.op ≠ .load → codes record = false →
        exec c s = .next (s.refusedFor tag .badValue)) := by
  obtain ⟨-, hlength, hbusy, hvalue⟩ := row_refusals h he hf
  exact ⟨fun h1 => hlength hi (beq_eq_false_iff_ne.mpr h1), fun h1 => hbusy hi (beq_iff_eq.mpr h1),
    fun h1 => hvalue hi (beq_iff_eq.mpr h1)⟩

/-- A WRITE that names no writable record is refused by its body alone (R184). -/
theorem exec_write_refused {body : List Byte} (h : Ready ⟨tag, kindWrite, body⟩ s) (hn : namesWritable body = false) :
    exec (.write tag body) s = .next (s.refusedFor tag (refusedWrite body)) :=
  (if_neg (by simp [hn])).trans (congrArg Host.Outcome.next (serve_ready h _))

theorem writableCount_of_beyond {n : Nat} (h : n = 0 ∨ 17 < n) : writableCount n = 0 := by
  rcases h with rfl | h
  · rfl
  · obtain ⟨k, rfl⟩ := Nat.exists_eq_add_of_le' h
    rfl

/-- The refusals that a row of the table of WRITEs promises. -/
def RowRefused (row : (Byte → List Byte → Instr) × Nat × Nat × (List Byte → Bool) × (List Byte → Bool)) : Prop :=
  ∀ (tag i : Byte) (record : List Byte) (s : State), (row.1 tag (i :: record)).wellFormed = true →
    Ready ⟨tag, kindWrite, BitVec.ofNat 8 row.2.1 :: i :: record⟩ s →
    (row.2.2.1 ≤ i.toNat → exec (row.1 tag (i :: record)) s = .next (s.refusedFor tag .badIndex)) ∧
    (i.toNat < row.2.2.1 → row.2.2.2.1 record = false → exec (row.1 tag (i :: record)) s = .next (s.refusedFor tag .badLength)) ∧
    (i.toNat < row.2.2.1 → row.2.2.2.1 record = true → s.stc.op = .save ∨ s.stc.op = .load →
      exec (row.1 tag (i :: record)) s = .next (s.refusedFor tag .storeBusy)) ∧
    (i.toNat < row.2.2.1 → row.2.2.2.1 record = true → s.stc.op ≠ .save → s.stc.op ≠ .load → row.2.2.2.2 record = false →
      exec (row.1 tag (i :: record)) s = .next (s.refusedFor tag .badValue))

theorem forall_mem_cons_of {α : Type} {p : α → Prop} {a : α} {l : List α} (h : p a) (hl : ∀ x ∈ l, p x) : ∀ x ∈ a :: l, p x :=
  List.forall_mem_cons.mpr ⟨h, hl⟩

end Refusals

/-- Settles O9: the unknown requests, the WRITEs of no writable record, and the checks of every row's WRITE. -/
theorem unknownRequestsRefused : Obligations.UnknownRequestsRefused := by
  refine ⟨fun tag kind body s hk h => ?kind, fun tag code fields s hc h => ?code, fun tag table rest s ht h => ?table,
    fun tag table index rest s h1 h17 hi h => ?index, fun tag table s h1 h17 h => ?short,
    fun receiving write table count fits codes hrow tag i record s hw h => ?row,
    fun write table i length codes hrow tag record s h => ?last⟩
  case kind => exact (if_neg (by omega)).trans (congrArg Host.Outcome.next (serve_ready h _))
  case code => exact (if_neg (by omega)).trans (congrArg Host.Outcome.next (serve_ready h _))
  case table =>
    have hn : namesWritable (table :: rest) = false := by
      cases rest with
      | nil => rfl
      | cons i rest => exact decide_eq_false (by rw [show writableRecords table.toNat = 0 from writableCount_of_beyond ht]; omega)
    rewrite [exec_write_refused h hn]
    simp only [refusedWrite, if_pos ht]
  case index =>
    rewrite [exec_write_refused h (decide_eq_false (Nat.not_lt.mpr hi))]
    simp only [refusedWrite, if_neg (show ¬ (table.toNat = 0 ∨ 17 < table.toNat) by omega)]
  case short =>
    rewrite [exec_write_refused h rfl]
    simp only [refusedWrite, if_neg (show ¬ (table.toNat = 0 ∨ 17 < table.toNat) by omega)]
  case row =>
    refine (?_ : ∀ row ∈ _, RowRefused row) _ hrow tag i record s hw h
    refine forall_mem_cons_of (fun _ _ _ _ hw h => record_refusals (n := 64) (fits := lengthIs 16) (parse := parsePoint) h (if_neg (by simpa [wellFormed_pointsConfig] using hw))) ?_
    refine forall_mem_cons_of (fun _ _ _ _ hw h => row_refusals (n := 64) (fits := lengthIs 2) (codes := fun _ => true) h
      (if_pos (by simpa [wellFormed_pointValue] using hw)) (fun k => nomatch k)) ?_
    refine forall_mem_cons_of (fun _ _ _ _ _ h => record_refusals (n := 4) (fits := lengthIs 6) (parse := parseWindow) h rfl) ?_
    refine forall_mem_cons_of (fun _ _ _ _ _ h => record_refusals (n := 1) (fits := lengthIs 5) (parse := parseBus) h rfl) ?_
    refine forall_mem_cons_of (fun _ _ _ _ _ h => record_refusals (n := 2) (fits := sheetLengthOk) (parse := parseSheet) h rfl) ?_
    refine forall_mem_cons_of (fun _ _ _ _ _ h => record_refusals (n := 4) (fits := lengthIs 20) (parse := parseZone) h rfl) ?_
    refine forall_mem_cons_of (fun _ _ _ _ hw h => record_refusals (n := 12) (fits := lengthIs 16) (parse := parseSink) h (if_neg (by simpa [wellFormed_sinks] using hw))) ?_
    refine forall_mem_cons_of (fun _ _ _ _ _ h => record_refusals (n := 32) (fits := lengthIs 11) (parse := parseChannel) h rfl) ?_
    refine forall_mem_cons_of (fun _ _ _ _ _ h => record_refusals (n := 24) (fits := lengthIs 99) (parse := parseScene) h rfl) ?_
    refine forall_mem_cons_of (fun _ _ _ _ hw h => record_refusals (n := 16) (fits := lengthIs 11) (parse := parseOutput) h (if_neg (by simpa [wellFormed_outputs] using hw))) ?_
    refine forall_mem_cons_of (fun _ _ _ _ _ h => record_refusals (n := 32) (fits := lengthIs 9) (parse := parseRemote) h rfl) ?_
    refine forall_mem_cons_of (fun _ _ _ _ _ h => record_refusals (n := 5) (fits := lengthIs 9) (parse := parseProfile) h rfl) ?_
    refine forall_mem_cons_of (fun _ _ _ _ _ h => row_refusals (n := 1) (fits := lengthIs 4) (codes := fun _ => true) h
      rfl (fun k => nomatch k)) ?_
    refine forall_mem_cons_of (fun _ _ _ _ _ h => record_refusals (n := 1) (fits := lengthIs 13) (parse := parseNotice) h rfl) ?_
    exact List.forall_mem_nil _
  case last =>
    simp only [List.mem_cons, Prod.mk.injEq, List.not_mem_nil, or_false] at hrow
    rcases hrow with ⟨rfl, rfl, rfl, rfl, rfl⟩ | ⟨rfl, rfl, rfl, rfl, rfl⟩
    · exact lastRow_refusals (table := 6) (n := 13) (length := 6) (codes := fun r => (parseAllocator r).isSome) (by decide) h
        (show exec (.writeAllocatorSettings tag record) s = _ from rfl) fun hc _ => withRecord_bad hc _
    · exact lastRow_refusals (table := 9) (n := 17) (length := 2) (codes := fun _ => true) (by decide) h
        (show exec (.writeStageSettings tag record) s = _ from rfl) fun k => nomatch k

/-! PROOF. The figures of a record in bytes, STATUS, the notice queue, FETCH and ATTN (R186 to R190). -/

section Figures

/-! ### Figures in bytes -/

theorem ofInt_natCast_div (n : Nat) {d : Int} {k : Nat} (h : d = k) : BitVec.ofInt 8 (n / d) = BitVec.ofNat 8 (n / k) := by
  rw [h, ← Int.natCast_ediv, BitVec.ofInt_natCast]

theorem bytesOf_one (v : Int) : bytesOf 1 v = [BitVec.ofInt 8 v] := by
  have h : bytesOf 1 v = [BitVec.ofInt 8 (v / 256 ^ 0)] := rfl
  simpa using h

theorem bytesOf_two (v : Int) : bytesOf 2 v = [BitVec.ofInt 8 (v / 256), BitVec.ofInt 8 v] := by
  have h : bytesOf 2 v = [BitVec.ofInt 8 (v / 256 ^ 1), BitVec.ofInt 8 (v / 256 ^ 0)] := rfl
  simpa using h

theorem bytesOf_four (v : Int) : bytesOf 4 v =
    [BitVec.ofInt 8 (v / 16777216), BitVec.ofInt 8 (v / 65536), BitVec.ofInt 8 (v / 256), BitVec.ofInt 8 v] := by
  have h : bytesOf 4 v = [BitVec.ofInt 8 (v / 256 ^ 3), BitVec.ofInt 8 (v / 256 ^ 2), BitVec.ofInt 8 (v / 256 ^ 1),
    BitVec.ofInt 8 (v / 256 ^ 0)] := rfl
  simpa using h

theorem bytesOf_eq_u8 (n : Nat) : bytesOf 1 n = u8 n := by
  rw [bytesOf_one, u8, BitVec.ofInt_natCast]

theorem bytesOf_eq_u16 (n : Nat) : bytesOf 2 n = u16 n := by
  rw [bytesOf_two, u16, ofInt_natCast_div n (d := 256) rfl, BitVec.ofInt_natCast]

theorem bytesOf_eq_u32 (n : Nat) : bytesOf 4 n = u32 n := by
  rewrite [bytesOf_four, ofInt_natCast_div n (d := 16777216) rfl, ofInt_natCast_div n (d := 65536) rfl, ofInt_natCast_div n (d := 256) rfl,
    BitVec.ofInt_natCast, u32, u16, u16, Nat.div_div_eq_div_mul]
  rfl

/-- The bytes of a figure are those of its two's complement value. -/
theorem bytesOf_add_mul (w : Nat) (v q : Int) : bytesOf w (v + 256 ^ w * q) = bytesOf w v := by
  refine List.map_congr_left fun k hk => BitVec.eq_of_toNat_eq ?_
  obtain ⟨d, rfl⟩ := Nat.exists_eq_add_of_lt (List.mem_range.mp (List.mem_reverse.mp hk))
  have hq : (256 : Int) ^ (k + d + 1) * q = 256 ^ k * (256 * (256 ^ d * q)) := by ring
  rewrite [hq, Int.add_mul_ediv_left _ _ (pow_ne_zero _ (by decide)), BitVec.toNat_ofInt, BitVec.toNat_ofInt]
  exact congrArg Int.toNat (Int.add_mul_emod_self_left ..)

theorem bytesOf_emod (w : Nat) {m : Int} (hm : m = 256 ^ w) (v : Int) : bytesOf w (v % m).toNat = bytesOf w v := by
  rw [Int.toNat_of_nonneg (Int.emod_nonneg _ (by rw [hm]; exact pow_ne_zero _ (by decide))), hm]
  exact (bytesOf_add_mul w _ _).symm.trans (congrArg (bytesOf w) (Int.emod_add_mul_ediv ..))

theorem bytesOf_eq_s16 (v : Int) : bytesOf 2 v = s16 v := (bytesOf_emod 2 rfl v).symm.trans (bytesOf_eq_u16 _)

theorem bytesOf_eq_s32 (v : Int) : bytesOf 4 v = s32 v := (bytesOf_emod 4 rfl v).symm.trans (bytesOf_eq_u32 _)

theorem s16_natCast (n : Nat) : s16 n = u16 n := (bytesOf_eq_s16 n).symm.trans (bytesOf_eq_u16 n)

theorem s32_natCast (n : Nat) : s32 n = u32 n := (bytesOf_eq_s32 n).symm.trans (bytesOf_eq_u32 n)

theorem layout_nil : layout [] = [] := rfl

theorem layout_cons (f : Nat × Int) (fs : List (Nat × Int)) : layout (f :: fs) = bytesOf f.1 f.2 ++ layout fs := rfl

end Figures

section Notices

variable {s : State} {tag : Byte}

/-! ### STATUS and notice records -/

theorem noticeIndex_eq (k : NoticeKind) : (noticeIndex k).val = noticeKinds.idxOf k := by cases k <;> rfl

theorem statusBody_length (s : State) : s.statusBody.length = 19 := rfl

theorem statusBody_layout (s : State) :
    s.statusBody = layout [
      (1, codeOf arenaModes s.scu.mode), (1, phaseCode s.phase), (1, codeOf protectStates s.pru.state),
      (1, codeOf sheetStates (s.shm.get 0).state), (1, codeOf sheetStates (s.shm.get 1).state),
      (1, codeOf zoneStates (s.cdm.get 0).state), (1, codeOf zoneStates (s.cdm.get 1).state),
      (1, codeOf zoneStates (s.cdm.get 2).state), (1, codeOf zoneStates (s.cdm.get 3).state),
      (1, codeOf busStates s.busState), (1, codeOf handOvers s.fbc.handOver), (1, codeOf storeOps s.stc.op),
      (1, s.lnk.notices.length), (1, s.lnk.lost), (1, codeOf portLocks s.lnk.locked), (4, s.scu.clock)] := by
  simp only [layout_cons, layout_nil, bytesOf_eq_u8, bytesOf_eq_u32, List.append_nil]
  rfl

theorem putNotice_layout (n : Notice) : putNotice n = layout [
    (1, (noticeKinds.idxOf n.kind + 1 : Nat)), (2, n.subject), (4, n.value), (4, n.clock)] := by
  simp only [layout_cons, layout_nil, bytesOf_eq_u8, bytesOf_eq_u16, bytesOf_eq_s32, s32_natCast, List.append_nil]
  rewrite [putNotice, noticeIndex_eq]
  simp only [List.append_assoc]

/-! ### The coalescing time -/

/-- The seconds that the oldest notice still lacks pass for every notice held. -/
theorem waitOver_notices {n : Notice} {rest : List Notice} (h : s.lnk.notices = n :: rest) (c : Nat) :
    s.lnk.waitOver c = { s.lnk with
      notices := (n :: rest).map fun x => { x with waited := x.waited + (c - n.waited) } } := by
  unfold Lnk.waitOver
  rw [h]

/-- The oldest notice's waiting time asserts ATTN (R190). -/
theorem attn_of_waited {n : Notice} {rest : List Notice} (hs : s.phase ≠ .settle) (hc : s.cfg.notice.coalescing ≠ 0)
    (h : s.lnk.notices = n :: rest) (hw : s.cfg.notice.coalescing ≤ n.waited) : s.attn = true := by
  simp [State.attn, hs, hc, h, hw]

theorem settled_of_live (h : s.live = true) : s.phase ≠ .settle := by
  intro hs
  simp [State.live, hs] at h

end Notices

/-- Settles O10: the bytes, the notice queue, FETCH, and the coalescing time. -/
theorem statusAndFetch : Obligations.StatusAndFetch := by
  refine ⟨fun tag s h => ⟨?status, statusBody_length s⟩, fun s => ?body, putNotice_layout, fun l n => ⟨rfl, fun h => ?room, fun h => ?full⟩,
    fun tag n s h => ?fetch, fun tag body s h hb => ?fetchLength, fun n rest s live hc hn => ?wait⟩
  case status => exact congrArg Host.Outcome.next (serve_ready h _)
  case body =>
    have hphase : (if s.phase = .run then 1 else 0 : Int) = phaseCode s.phase := by cases s.phase <;> rfl
    rewrite [hphase]
    exact statusBody_layout s
  case room => exact if_pos h
  case full => exact if_neg (Nat.not_lt.mpr h)
  case fetch =>
    refine ⟨_, (congrArg Host.Outcome.next (serve_ready h _)).trans ?_, rfl⟩
    rw [State.fetch, conclude_done, fetchBody, List.length_take]
  case fetchLength =>
    have hf : s.fetch body = .error .badLength := by
      match body with
      | [] => rfl
      | [_] => exact absurd rfl hb
      | _ :: _ :: _ => rfl
    exact (congrArg Host.Outcome.next (serve_ready h _)).trans (by rw [hf, conclude_refused])
  case wait =>
    have hnext : exec .noticeWaitExpiry s = .next { s with lnk := s.lnk.waitOver s.cfg.notice.coalescing } :=
      congrArg Host.Outcome.next (event_live live _)
    have hhead : n.waited + (s.cfg.notice.coalescing - n.waited) = max n.waited s.cfg.notice.coalescing := by omega
    have hs := settled_of_live live
    refine ⟨_, hnext, ?_, ?_⟩ <;> rw [waitOver_notices hn]
    · exact attn_of_waited hs hc rfl (hhead.trans_ge (le_max_right ..))
    · refine ⟨rfl, by simp [hhead], rfl, fun x more hr hx => ?_⟩
      subst hr
      exact attn_of_waited hs hc rfl (by
        simp only [hx, hhead]
        exact le_max_right ..)

/-! PROOF. READs and their assemblies (R17, R43, R105, R183 to R185). -/

section Reads

variable {s : State} {tag : Byte}

/-! ### The bytes of a READ -/

/-- Records of POINTS that the table has, one after the other. -/
theorem mapM_record_points {l : List Nat} (h : ∀ k ∈ l, k < 64) : l.mapM (s.record 1) =
    some ((l.filterMap (index 64)).map fun i => putPoint (s.cfg.points.get i) (s.ptb.points.get i)) := by
  induction l with
  | nil => rfl
  | cons k l ih =>
    have hk : index 64 k = some ⟨k, h k List.mem_cons_self⟩ := index_eq_some.mpr rfl
    have hr : s.record 1 k = some (putPoint (s.cfg.points.get ⟨k, h k List.mem_cons_self⟩)
        (s.ptb.points.get ⟨k, h k List.mem_cons_self⟩)) := by
      show (index 64 k).map _ = _
      rewrite [hk]
      rfl
    rewrite [List.mapM_cons, hr, ih fun j hj => h j (List.mem_cons_of_mem _ hj), List.filterMap_cons_some hk]
    rfl

/-- A record that the table does not have is no READ of it. -/
theorem mapM_record_none {α β : Type} {f : α → Option β} {l : List α} {a : α} (ha : a ∈ l) (h : f a = none) : l.mapM f = none := by
  induction l with
  | nil => cases ha
  | cons x l ih =>
    rewrite [List.mapM_cons]
    rcases List.mem_cons.mp ha with rfl | ha
    · rewrite [h]
      rfl
    · rw [ih ha]
      cases f x <;> rfl

theorem u8At_cons_zero (b : Byte) (l : List Byte) : u8At (b :: l) 0 = b.toNat := rfl

theorem length_guard {e : Reason} {k : Nat} {more : List Byte} {p : Prop} [Decidable p] {x : Except Reason (List Byte)} :
    (if more.length ≠ k then .error e else if p then .error e else x) = if more.length ≠ k ∨ p then .error e else x := by
  by_cases h : more.length ≠ k
  · rw [if_pos h, if_pos (Or.inl h)]
  · rewrite [if_neg h]
    exact if_congr (by simp [h]) rfl rfl

/-- A READ of POINTS that names a record beyond the table. -/
theorem readBytes_points_none {first : Byte} {more : List Byte}
    (h : (List.range' first.toNat (max 1 (u8At more 0))).mapM (s.record 1) = none) :
    s.readBytes (1 :: first :: more) = .error .badIndex := by
  have ht : (1 : Byte).toNat = 1 := rfl
  simp only [State.readBytes, tablePoints, ht, if_true, h]
  exact if_neg (by decide)

/-- A READ of POINTS by the records it names. -/
theorem readBytes_points_some {first : Byte} {more : List Byte} {records : List (List Byte)}
    (h : (List.range' first.toNat (max 1 (u8At more 0))).mapM (s.record 1) = some records) :
    s.readBytes (1 :: first :: more) =
      if more.length ≠ 1 ∨ u8At more 0 = 0 ∨ 16 < u8At more 0 then .error .badLength else .ok records.flatten := by
  have ht : (1 : Byte).toNat = 1 := rfl
  simp only [State.readBytes, tablePoints, ht, if_true, h]
  exact (if_neg (by decide)).trans length_guard

theorem mapM_singleton_record (t i : Nat) : (List.range' i (max 1 1)).mapM (s.record t) = (s.record t i).map fun b => [b] := by
  rw [max_self, List.range'_one, List.mapM_cons, List.mapM_nil]
  cases s.record t i <;> rfl

theorem readBytes_other_none {t i : Byte} {more : List Byte} (h0 : t.toNat ≠ 0) (h17 : t.toNat ≤ 17) (h1 : t.toNat ≠ 1)
    (h : s.record t.toNat i.toNat = none) : s.readBytes (t :: i :: more) = .error .badIndex := by
  simp only [State.readBytes, tablePoints, h1, if_false, mapM_singleton_record, h, Option.map_none]
  exact if_neg (by omega)

/-- A READ of one record of a table other than POINTS. -/
theorem readBytes_other_some {t i : Byte} {more bytes : List Byte} (h0 : t.toNat ≠ 0) (h17 : t.toNat ≤ 17) (h1 : t.toNat ≠ 1)
    (h : s.record t.toNat i.toNat = some bytes) :
    s.readBytes (t :: i :: more) = if more.length ≠ 1 ∨ u8At more 0 ≠ 1 then .error .badLength else .ok bytes := by
  simp only [State.readBytes, tablePoints, h1, if_false, mapM_singleton_record, h, Option.map_some, List.flatten_singleton]
  exact (if_neg (by omega)).trans length_guard

theorem readBytes_badTable {t : Byte} {rest : List Byte} (h : t.toNat = 0 ∨ 17 < t.toNat) :
    s.readBytes (t :: rest) = .error .badTable := if_pos h

/-- The records that a READ of POINTS names, when the table has them all. -/
def State.pointBytes (s : State) (first count : Nat) : List Byte :=
  ((List.range' first count).filterMap (index 64)).flatMap fun i => putPoint (s.cfg.points.get i) (s.ptb.points.get i)

theorem readBytes_points {first count : Byte} (h1 : 1 ≤ count.toNat) (h16 : count.toNat ≤ 16)
    (h : first.toNat + count.toNat ≤ 64) : s.readBytes [1, first, count] = .ok (s.pointBytes first.toNat count.toNat) := by
  have hn : max 1 (u8At [count] 0) = count.toNat := by rw [u8At_cons_zero]; omega
  have hm := mapM_record_points (s := s) (l := List.range' first.toNat (max 1 (u8At [count] 0))) fun k hk => by
    have := List.mem_range'_1.mp hk
    omega
  rw [readBytes_points_some hm, if_neg (by rw [u8At_cons_zero, List.length_singleton]; omega), hn]
  rfl

theorem record_beyond {t i : Nat} (h : t = 0 ∨ 17 < t) : s.record t i = none := by
  rcases h with rfl | h
  · rfl
  · obtain ⟨k, rfl⟩ := Nat.exists_eq_add_of_le h
    rewrite [Nat.add_comm]
    rfl

theorem record_one_none {k : Nat} (h : 64 ≤ k) : s.record 1 k = none := by
  show (index 64 k).map _ = none
  rewrite [index_none.mpr h]
  rfl

/-! ### Assemblies -/

/-- The reply handed over and the request gone (R183). -/
def State.handedOver (r : Reply) (s : State) : State :=
  { s with lnk := { s.lnk with assembly := none, output := s.lnk.output ++ [r], requests := s.lnk.requests.tail } }

/-- The assembly that a READ begins. -/
def State.assembling (kind : AssemblyKind) (tag : Byte) (bytes : List Byte) (s : State) : State :=
  { s with lnk := { s.lnk with assembly := some ⟨kind, ⟨tag, .done, segments bytes⟩⟩ } }

theorem assemble_ok {kind : AssemblyKind} {lasts : Bool} {body bytes : List Byte} {f : State → State}
    (h : s.readBytes body = .ok bytes) :
    s.assemble tag kind lasts body f =
      if lasts then f (s.assembling kind tag bytes) else (f (s.assembling kind tag bytes)).endAssembly := by
  simp only [State.assemble, h]
  rfl

theorem assemble_error {kind : AssemblyKind} {lasts : Bool} {body : List Byte} {f : State → State} {e : Reason}
    (h : s.readBytes body = .error e) : s.assemble tag kind lasts body f = s.refusedFor tag e := by
  simp only [State.assemble, h]
  rfl

theorem endAssembly_energy {r : Reply} (h : s.lnk.assembly = some ⟨.energy, r⟩) : s.endAssembly = s.handedOver r := by
  simp only [State.endAssembly, h]
  rfl

theorem endAssembly_counters {r : Reply} (h : s.lnk.assembly = some ⟨.counters, r⟩) :
    s.endAssembly = { s.handedOver r with fbc := s.fbc.mergeTallies } := by
  simp only [State.endAssembly, h]
  rfl

/-- Held aging expiries follow one by one (R17). -/
theorem endAssembly_points {r : Reply} (h : s.lnk.assembly = some ⟨.points, r⟩) :
    s.endAssembly = State.ageAll^[s.ptb.heldAging] { s.handedOver r with ptb := { s.ptb with heldAging := 0 } } := by
  simp only [State.endAssembly, h, State.applyHeldAging]
  rewrite [List.foldl_const, List.length_range]
  rfl

theorem mergeTallies_get (f : Fbc) (i : Fin 15) :
    f.mergeTallies.tallies.get i = 0 ∧ f.mergeTallies.counters.get i = min 65535 (f.counters.get i + f.tallies.get i) := by
  refine ⟨Table.get_const .., ?_⟩
  show (Table.mapIdx _ _).get i = _
  rewrite [Table.get_mapIdx]
  rfl

theorem handedOver_assembling (kind : AssemblyKind) (bytes : List Byte) (h : s.lnk.assembly = none) :
    (s.assembling kind tag bytes).handedOver ⟨tag, .done, segments bytes⟩ =
      { s with lnk := { s.lnk with
        output := s.lnk.output ++ [⟨tag, .done, segments bytes⟩], requests := s.lnk.requests.tail } } := by
  simp only [State.handedOver, State.assembling, h]

theorem serveRead_ready {table : Nat} {rest : List Byte} {kind : AssemblyKind} {lasts : Bool} {f : State → State}
    (h : Ready ⟨tag, kindRead, BitVec.ofNat 8 table :: rest⟩ s) :
    s.serveRead tag table rest kind lasts f = s.assemble tag kind lasts (BitVec.ofNat 8 table :: rest) f :=
  takeRequest_ready h _

/-! ### The turn that answers a READ without a row -/

theorem idle_rowless {r : Request} (h : Ready r s) (hr : r.rowless = true) : s.idle = s.answerRowless r := by
  obtain ⟨hphase, hwait, hasm, hhead⟩ := h
  obtain ⟨rest, hreq⟩ : ∃ rest, s.lnk.requests = r :: rest := List.head?_eq_some_iff.mp hhead
  have live : s.live = true := by simp [State.live, hphase, hwait]
  simp only [State.idle, live, hasm, hreq, hr, if_true, Bool.not_true, Bool.false_eq_true, if_false, Option.isSome_none]

theorem step_rowless {r : Request} (hp : s.pending = []) (h : Ready r s) (hr : r.rowless = true) :
    step s = .next (s.answerRowless r) := by
  simp only [step, hp, idle_rowless h hr]

theorem answerRowless_error {body : List Byte} {e : Reason} (h : s.readBytes body = .error e) :
    s.answerRowless ⟨tag, kindRead, body⟩ = s.refusedFor tag e := by
  simp only [State.answerRowless, if_true, h]
  rfl

theorem answerRowless_ok {body bytes : List Byte} (h : s.readBytes body = .ok bytes) :
    s.answerRowless ⟨tag, kindRead, body⟩ = { s with lnk := { s.lnk with
      output := s.lnk.output ++ [⟨tag, .done, segments bytes⟩], requests := s.lnk.requests.tail } } := by
  simp only [State.answerRowless, if_true, h]
  rfl

/-! ### The READs with a row -/

theorem exec_readPoints {first count : Byte} {lasts : Bool} (h1 : 1 ≤ count.toNat) (h16 : count.toNat ≤ 16)
    (h64 : first.toNat + count.toNat ≤ 64) (h : Ready ⟨tag, kindRead, [1, first, count]⟩ s) :
    exec (.readPoints tag [first, count] lasts) s =
      let t := s.assembling .points tag (s.pointBytes first.toNat count.toNat)
      .next (if lasts then t else t.endAssembly) :=
  congrArg Host.Outcome.next ((serveRead_ready h).trans (assemble_ok (readBytes_points h1 h16 h64)))

theorem readBytes_counters : s.readBytes [15, 0, 1] = .ok s.putCounters := by
  rw [readBytes_other_some (bytes := s.putCounters) (by decide) (by decide) (by decide) rfl, if_neg (by decide)]

theorem readBytes_energy : s.readBytes [16, 0, 1] = .ok s.putEnergy := by
  rw [readBytes_other_some (bytes := s.putEnergy) (by decide) (by decide) (by decide) rfl, if_neg (by decide)]

theorem exec_readCounters {lasts : Bool} (h : Ready ⟨tag, kindRead, [15, 0, 1]⟩ s) :
    exec (.readCounters tag [0, 1] lasts) s =
      let t := (s.assembling .counters tag s.putCounters).clearCounters
      .next (if lasts then t else t.endAssembly) :=
  congrArg Host.Outcome.next ((serveRead_ready h).trans (assemble_ok readBytes_counters))

theorem exec_readEnergy {lasts : Bool} (h : Ready ⟨tag, kindRead, [16, 0, 1]⟩ s) :
    exec (.readEnergy tag [0, 1] lasts) s =
      let t := (s.assembling .energy tag s.putEnergy).clearEnergy
      .next (if lasts then t else t.endAssembly) :=
  congrArg Host.Outcome.next ((serveRead_ready h).trans (assemble_ok readBytes_energy))

theorem clearCounters_whole (s : State) : s.clearCounters =
    { s with fbc := if s.cfg.bus.clearOnRead then { s.fbc with counters := Table.const 15 0 } else s.fbc } := by
  unfold State.clearCounters
  split <;> rfl

theorem clearCounters_eq (s : State) : s.clearCounters =
    { s with fbc := { s.fbc with counters := if s.cfg.bus.clearOnRead then Table.const 15 0 else s.fbc.counters } } := by
  unfold State.clearCounters
  split <;> rfl

/-- The accumulators zeroed, their remainders kept (R105). -/
def Hra.energyCleared (h : Hra) : Hra :=
  { h with
    sinks := h.sinks.mapIdx fun _ k => { k with energy := 0 }
    rejectedEnergy := { h.rejectedEnergy with total := 0 }
    backupEnergy := { h.backupEnergy with total := 0 } }

theorem clearEnergy_eq (s : State) : s.clearEnergy =
    { s with hra := if s.cfg.allocator.clearOnRead then s.hra.energyCleared else s.hra } := by
  unfold State.clearEnergy
  split <;> rfl

/-- A READ of one of the two records without a second. -/
theorem readBytes_single {t i : Byte} {more : List Byte} (ht : t = 15 ∨ t = 16) :
    (i ≠ 0 → s.readBytes (t :: i :: more) = .error .badIndex) ∧
      (i = 0 → more ≠ [1] → s.readBytes (t :: i :: more) = .error .badLength) := by
  have hrec (h : i ≠ 0) : s.record t.toNat i.toNat = none := by
    have hi : i.toNat ≠ 0 := fun e => h (BitVec.eq_of_toNat_eq e)
    rcases ht with rfl | rfl <;> exact if_neg hi
  have hzero : ∃ bytes, s.record t.toNat (0 : Byte).toNat = some bytes := by
    rcases ht with rfl | rfl
    · exact ⟨_, rfl⟩
    · exact ⟨_, rfl⟩
  have h0 : t.toNat ≠ 0 ∧ t.toNat ≤ 17 ∧ t.toNat ≠ 1 := by rcases ht with rfl | rfl <;> decide
  refine ⟨fun h => readBytes_other_none h0.1 h0.2.1 h0.2.2 (hrec h), fun h hm => ?_⟩
  obtain ⟨bytes, hb⟩ := hzero
  subst h
  rw [readBytes_other_some h0.1 h0.2.1 h0.2.2 hb, if_pos]
  by_contra hc
  obtain ⟨hlen, hone⟩ := not_or.mp hc
  obtain ⟨b, rfl⟩ := List.length_eq_one_iff.mp (not_not.mp hlen)
  exact hm (congrArg (fun x => [x]) (BitVec.eq_of_toNat_eq (not_not.mp hone)))

end Reads

/-- Settles O11: the answers, then the refusals of the READs with a row, and the turn that answers the others. -/
theorem readsAnswered : Obligations.ReadsAnswered := by
  refine ⟨fun tag first count s h1 h16 h64 ha h => ?points, fun tag s h => ?counters, fun tag s h => ?energy,
    fun tag first more lasts s h => ?pointsRefused, fun read table hrow tag i more lasts s h => ?singleRefused,
    fun tag table i n s hp ht h => ?others⟩
  case points =>
    intro bytes
    have hlnk : ({ s.ptb with heldAging := 0 } : Ptb) = s.ptb := by rw [← ha]
    rewrite [exec_readPoints h1 h16 h64 h]
    refine congrArg Host.Outcome.next ((if_neg Bool.false_ne_true).trans ((endAssembly_points rfl).trans ?_))
    rewrite [show (s.assembling .points tag (s.pointBytes first.toNat count.toNat)).ptb = s.ptb from rfl, ha, hlnk,
      Function.iterate_zero_apply, handedOver_assembling _ _ h.assembly]
    rfl
  case counters =>
    have hend := endAssembly_counters (s := (s.assembling .counters tag s.putCounters).clearCounters)
      (r := ⟨tag, .done, segments s.putCounters⟩) (by rw [clearCounters_eq]; rfl)
    refine ⟨_, (exec_readCounters h).trans (congrArg Host.Outcome.next ((if_neg Bool.false_ne_true).trans hend)), ?_, fun i => ?_, fun i => ?_⟩
    · rewrite [clearCounters_eq]
      simp only [State.handedOver, State.assembling, Fbc.mergeTallies, h.assembly]
    · exact (mergeTallies_get _ i).1
    · refine (mergeTallies_get _ i).2.trans ?_
      rewrite [clearCounters_eq]
      show min 65535 ((if s.cfg.bus.clearOnRead then Table.const 15 0 else s.fbc.counters).get i + s.fbc.tallies.get i) = _
      rw [apply_ite (fun t : Table Nat 15 => t.get i), Table.get_const]
  case energy =>
    refine ⟨s.clearEnergy, (exec_readEnergy h).trans (congrArg Host.Outcome.next ?_), fun hc => ?_, fun hc => ?_⟩
    · refine (if_neg Bool.false_ne_true).trans ((endAssembly_energy (r := ⟨tag, .done, segments s.putEnergy⟩) (by rw [clearEnergy_eq]; rfl)).trans ?_)
      rewrite [clearEnergy_eq, clearEnergy_eq]
      simp only [State.handedOver, State.assembling, h.assembly]
      rfl
    · exact if_neg (by simp [hc])
    · exact if_pos hc
  case pointsRefused =>
    intro count
    have hexec : exec (.readPoints tag (first :: more) lasts) s = .next (s.assemble tag .points lasts (1 :: first :: more) id) :=
      congrArg Host.Outcome.next (serveRead_ready h)
    rewrite [hexec]
    refine ⟨fun h64 => ?_, fun h64 hbad => ?_⟩
    · refine congrArg Host.Outcome.next (assemble_error (readBytes_points_none ?_))
      refine mapM_record_none (a := first.toNat + max 1 count - 1) (List.mem_range'_1.mpr (by omega)) (record_one_none (by omega))
    · have hm := mapM_record_points (s := s) (l := List.range' first.toNat (max 1 count)) fun k hk => by
        have := List.mem_range'_1.mp hk
        omega
      exact congrArg Host.Outcome.next (assemble_error ((readBytes_points_some hm).trans (if_pos hbad)))
  case singleRefused =>
    simp only [List.mem_cons, Prod.mk.injEq, List.not_mem_nil, or_false] at hrow
    rcases hrow with ⟨rfl, rfl⟩ | ⟨rfl, rfl⟩
    · obtain ⟨hindex, hlength⟩ := readBytes_single (s := s) (i := i) (more := more) (.inl rfl)
      refine ⟨fun hi => congrArg Host.Outcome.next ?_, fun hi hm => congrArg Host.Outcome.next ?_⟩
      · exact (serveRead_ready h).trans (assemble_error (hindex hi))
      · exact (serveRead_ready h).trans (assemble_error (hlength hi hm))
    · obtain ⟨hindex, hlength⟩ := readBytes_single (s := s) (i := i) (more := more) (.inr rfl)
      refine ⟨fun hi => congrArg Host.Outcome.next ?_, fun hi hm => congrArg Host.Outcome.next ?_⟩
      · exact (serveRead_ready h).trans (assemble_error (hindex hi))
      · exact (serveRead_ready h).trans (assemble_error (hlength hi hm))
  case others =>
    simp only [List.mem_cons, List.not_mem_nil, or_false, not_or] at ht
    obtain ⟨h1, h15, h16⟩ := ht
    have hrow : (⟨tag, kindRead, [table, i, n]⟩ : Request).rowless = true := by
      simp [Request.rowless, tablePoints, tableCounters, tableEnergy, h1, h15, h16]
    rewrite [step_rowless hp h hrow]
    refine ⟨fun hb => ?_, fun h0 h17 hn => ?_, fun bytes hb => ⟨fun hn => ?_, fun hn => ?_⟩⟩
    · rw [answerRowless_error (readBytes_badTable hb)]
    · rw [answerRowless_error (readBytes_other_none (by omega) h17 h1 hn)]
    all_goals
      have hrange : table.toNat ≠ 0 ∧ table.toNat ≤ 17 := by
        by_contra hc
        cases (record_beyond (by omega)).symm.trans hb
    · have hn' : u8At [n] 0 ≠ 1 := fun e => hn (BitVec.eq_of_toNat_eq e)
      rw [answerRowless_error ((readBytes_other_some hrange.1 hrange.2 h1 hb).trans (if_pos (.inr hn')))]
    · subst hn
      rw [answerRowless_ok ((readBytes_other_some hrange.1 hrange.2 h1 hb).trans (if_neg (by decide)))]

section Assemblies

variable {s : State}

theorem count_held (c : Counter) (h : s.holdsCounts = true) :
    (s.count c).fbc.counters = s.fbc.counters ∧
      (s.count c).fbc.tallies.get (counterIndex c) = s.fbc.tallies.get (counterIndex c) + 1 := by
  simp only [State.count, Fbc.count, h, if_true, Table.get_modify_self, and_self]

theorem takeEntry_reading (h : s.readsPoints = true) : s.takeEntry = s := by
  unfold State.takeEntry
  split
  · rfl
  · exact if_pos h

theorem idle_assembly (live : s.live = true) {a : Assembly} (h : s.lnk.assembly = some a) : s.idle = s.endAssembly := by
  simp only [State.idle, live, h, Bool.not_true, Bool.false_eq_true, if_false, Option.isSome_some, if_true]

end Assemblies

/-- Settles O12: the three READs that begin an assembly, what it holds, and its end. -/
theorem assemblyHolds : Obligations.AssemblyHolds := by
  refine ⟨fun tag first count s h1 h16 h64 h => exec_readPoints h1 h16 h64 h, fun tag s h => (exec_readCounters h).trans ?counters,
    fun tag s h => (exec_readEnergy h).trans ?energy, fun s live h => ⟨?entry, ?aging⟩, fun c s => count_held c,
    fun k r s live hp ha => ?ends⟩
  case counters =>
    exact congrArg Host.Outcome.next ((if_pos rfl).trans (clearCounters_whole _))
  case energy => exact congrArg Host.Outcome.next ((if_pos rfl).trans (clearEnergy_eq _))
  case entry => exact congrArg Host.Outcome.next ((event_live live _).trans (takeEntry_reading h))
  case aging => exact congrArg Host.Outcome.next ((event_live live _).trans (if_pos h))
  case ends =>
    intro u
    refine ⟨s.endAssembly, by simp only [step, hp, idle_assembly live ha], rfl, fun hk => ?_, fun hk => ?_, fun hk => ?_⟩ <;> subst hk
    · exact endAssembly_energy ha
    · rewrite [endAssembly_counters ha]
      exact ⟨rfl, fun i => (mergeTallies_get _ i).1, fun i => (mergeTallies_get _ i).2⟩
    · exact endAssembly_points ha

/-! PROOF. The records that WRITEs carry, field by field (10.5, R193): which codes refuse a record, what each field takes, and which clamps
count. -/

section RecordFields

variable {b : List Byte} {i n k : Nat} {α β : Type}

/-! ### Codes outside a list -/

theorem flagAt_none : flagAt b i = none ↔ 1 < u8At b i := by
  unfold flagAt
  split
  · simp; omega
  · split
    · simp; omega
    · simp; omega

theorem flagAt_some {e : Bool} (h : flagAt b i = some e) : e = (u8At b i == 1) := by
  unfold flagAt at h
  split at h
  · next h0 =>
    cases h
    simp [h0]
  · split at h
    · next h1 =>
      cases h
      simp [h1]
    · cases h

theorem nameAt_none {names : List α} : nameAt names b i = none ↔ names.length ≤ u8At b i := List.getElem?_eq_none_iff

theorem acceptAt_some {a : Bool} (h : nameAt acceptActions b i = some a) : a = (u8At b i == 0) := by
  unfold nameAt acceptActions at h
  match hv : u8At b i with
  | 0 => simpa [hv] using h.symm
  | 1 => simpa [hv] using h.symm
  | v + 2 => simp [hv] at h

theorem optionAt_none {get : List Byte → Nat → α} : optionAt get b i = none ↔ 1 < u8At b i := by
  rewrite [← flagAt_none]
  unfold optionAt
  split <;> simp [*]

theorem optionAt_some {get : List Byte → Nat → Nat} {o : Option Nat} (h : optionAt get b i = some o) :
    o = optionField get b i ∧ o.isSome = (u8At b i == 1) := by
  unfold optionAt at h
  split at h
  · next hf =>
    have h1 : u8At b i = 1 := by simpa using (flagAt_some hf).symm
    cases h
    simp [optionField, h1]
  · next hf =>
    have h1 : u8At b i ≠ 1 := by simpa using (flagAt_some hf).symm
    cases h
    simp [optionField, h1]
  · cases h

/-- A record is refused when one of its codes is. -/
theorem bind_none {x : Option α} {f : α → Option β} {P Q : Prop} (hx : x = none ↔ P) (hf : ∀ a, f a = none ↔ Q) :
    (x >>= f) = none ↔ P ∨ Q := by
  cases x with
  | none => simpa using Or.inl (hx.mp rfl)
  | some a =>
    have hp : ¬ P := fun p => nomatch hx.mpr p
    simpa [hp] using hf a

theorem bind_pure_none {x : Option α} {g : α → β} {P : Prop} (hx : x = none ↔ P) : (x >>= fun a => pure (g a)) = none ↔ P := by
  rw [← hx]
  cases x <;> simp

/-! ### Clamps that count -/

/-- One clamped field: the stored value is the clamp of the written one, and counts when it differs. -/
def Row (f : Int × (Int → Int) × Int) (k : Nat) : Prop := f.2.2 = f.2.1 f.1 ∧ k = if f.2.2 = f.1 then 0 else 1

theorem Row.taken {f : Int × (Int → Int) × Int} (h : Row f k) : Taken [f] k := by
  obtain ⟨hs, rfl⟩ := h
  refine ⟨fun g hg => ?_, ?_⟩
  · rewrite [List.mem_singleton.mp hg]
    exact hs
  · by_cases hf : f.2.2 = f.1 <;> simp [hf]

theorem Taken.append {fs gs : List (Int × (Int → Int) × Int)} {n k : Nat} (h : Taken fs n) (h' : Taken gs k) :
    Taken (fs ++ gs) (n + k) := by
  refine ⟨fun g hg => ?_, by rw [List.countP_append, h.clamped, h'.clamped]⟩
  exact (List.mem_append.mp hg).elim (h.stored g) (h'.stored g)

theorem Taken.snoc {fs : List (Int × (Int → Int) × Int)} {f : Int × (Int → Int) × Int} {n k : Nat} (h : Taken fs n) (h' : Row f k) :
    Taken (fs ++ [f]) (n + k) := h.append h'.taken

theorem Taken.map {m : Nat} {f : Fin m → Int × (Int → Int) × Int} {k : Fin m → Nat} (h : ∀ j, Row (f j) (k j)) :
    Taken ((List.finRange m).map f) (sumOver m k) := by
  unfold sumOver
  generalize List.finRange m = l
  induction l with
  | nil => exact ⟨nofun, rfl⟩
  | cons j l ih => exact (h j).taken.append ih

theorem clampedBy_eq_ite [DecidableEq α] (x y : α) : clampedBy x y = if y = x then 0 else 1 := by
  unfold clampedBy
  exact if_congr eq_comm rfl rfl

theorem between_eq_clampInt {lo hi : Int} (h : lo ≤ hi) (v : Int) : between lo hi v = clampInt lo hi v := by
  unfold between clampInt
  split
  next hlow => rw [min_eq_right (hlow.le.trans h), max_eq_left hlow.le]
  next hlow =>
    split
    next hhigh => rw [min_eq_left hhigh.le, max_eq_right h]
    next hhigh => rw [min_eq_right (not_lt.mp hhigh), max_eq_right (not_lt.mp hlow)]

theorem between_natCast {lo hi : Nat} (h : lo ≤ hi) (v : Nat) : between lo hi v = (clampNat lo hi v : Int) := by
  rw [between_eq_clampInt (Int.ofNat_le.mpr h), clampNat, Nat.cast_max, Nat.cast_min, clampInt]

theorem Row.of_nat {c : Int → Int} {w s : Nat} (h : (s : Int) = c w) : Row (w, c, s) (clampedBy w s) := by
  refine ⟨h, ?_⟩
  rewrite [clampedBy_eq_ite]
  exact if_congr Int.ofNat_inj.symm rfl rfl

theorem limited_row {lo hi : Nat} (h : lo ≤ hi) (v : Nat) : Row (v, between lo hi, (limited lo hi v).1) (limited lo hi v).2 :=
  Row.of_nat (between_natCast h v).symm

theorem temperature_row (v : Int) : Row (v, between (-5000) 10000, (temperature v).1) (temperature v).2 := by
  exact ⟨(between_eq_clampInt (by decide) v).symm, clampedBy_eq_ite ..⟩

theorem limitedOption_row (hi : Nat) (o : Option Nat) :
    Row (optionRow 0 hi o (limitedOption 0 hi o).1) (limitedOption 0 hi o).2 := by
  cases o with
  | none =>
    refine ⟨?_, rfl⟩
    show (0 : Int) = between 0 hi 0
    unfold between
    split
    · omega
    · split <;> omega
  | some v => exact limited_row (Nat.zero_le hi) v

theorem limitedOption_isSome (lo hi : Nat) (o : Option Nat) : (limitedOption lo hi o).1.isSome = o.isSome := by cases o <;> rfl

theorem le_foldl_max (l : List Nat) : ∀ a : Nat, a ≤ l.foldl max a ∧ ∀ x ∈ l, x ≤ l.foldl max a := by
  induction l with
  | nil => exact fun a => ⟨le_rfl, nofun⟩
  | cons y l ih =>
    intro a
    obtain ⟨ha, hl⟩ := ih (max a y)
    refine ⟨(Nat.le_max_left a y).trans ha, fun x hx => ?_⟩
    rcases List.mem_cons.mp hx with rfl | hx
    · exact (Nat.le_max_right a x).trans ha
    · exact hl x hx

/-- The listed period `p` next below `v`: none listed lies between it and some `q` above `v`. -/
theorem clampPeriod_of {p q v : Nat} (hp : Config.periods.contains p = true) (hle : p ≤ v) (hlt : v < q)
    (hgap : Config.periods.all (fun r => r ≤ p || q ≤ r) = true) : clampPeriod v = p := by
  have hmem : p ∈ Config.periods.filter (· ≤ v) := List.mem_filter.mpr ⟨List.contains_iff_mem.mp hp, decide_eq_true hle⟩
  refine Nat.le_antisymm ?_ ((le_foldl_max _ 0).2 p hmem)
  rcases foldl_max_mem (Config.periods.filter (· ≤ v)) 0 with h | h
  · exact h.trans_le (Nat.zero_le p)
  · obtain ⟨hq, hv⟩ := List.mem_filter.mp h
    rcases (Bool.or_eq_true ..).mp (List.all_eq_true.mp hgap _ hq) with hc | hc
    · exact of_decide_eq_true hc
    · exact absurd (of_decide_eq_true hv) (Nat.not_le.mpr (hlt.trans_le (of_decide_eq_true hc)))

theorem clampPeriod_eq (v : Nat) : (clampPeriod v : Int) = listedPeriod v := by
  have next {p q : Nat} (hp : Config.periods.contains p = true) (hle : p ≤ v) (hlt : ¬ q ≤ v)
      (hgap : Config.periods.all (fun r => r ≤ p || q ≤ r) = true) : (clampPeriod v : Int) = p :=
    congrArg Int.ofNat (clampPeriod_of hp hle (Nat.not_le.mp hlt) hgap)
  simp only [listedPeriod, Nat.ofNat_le_cast]
  split
  next h200 => exact next (p := 200) (q := v + 1) rfl h200 (Nat.not_succ_le_self v) rfl
  next h200 =>
  split
  next h100 => exact next (p := 100) (q := 200) rfl h100 h200 rfl
  next h100 =>
  split
  next h50 => exact next (p := 50) (q := 100) rfl h50 h100 rfl
  next h50 =>
  split
  next h20 => exact next (p := 20) (q := 50) rfl h20 h50 rfl
  next h20 =>
  split
  next h10 => exact next (p := 10) (q := 20) rfl h10 h20 rfl
  next h10 =>
  split
  next h5 => exact next (p := 5) (q := 10) rfl h5 h10 rfl
  next h5 =>
  split
  next h2 => exact next (p := 2) (q := 5) rfl h2 h5 rfl
  next h2 =>
  match v with
  | 0 => rfl
  | 1 => rfl
  | v + 2 => exact absurd (Nat.le_add_left 2 v) h2

theorem limitedPeriod_row (v : Nat) : Row (v, listedPeriod, (limitedPeriod v).1) (limitedPeriod v).2 :=
  Row.of_nat (clampPeriod_eq v)

theorem limitedRate_row (v : Nat) : Row (v, fun v => if v ≤ 187 then 125 else 250, (limitedRate v).1) (limitedRate v).2 := by
  refine Row.of_nat ?_
  show ((if v ≤ 187 then 125 else 250 : Nat) : Int) = if (v : Int) ≤ 187 then 125 else 250
  split <;> split <;> omega

theorem limitedHold_row (v : Nat) :
    Row (v, fun v => if v = 0 then 0 else between 10 3600 v, (limitedHold v).1) (limitedHold v).2 := by
  unfold limitedHold
  split
  · next h =>
    subst h
    exact ⟨rfl, rfl⟩
  · next h =>
    refine Row.of_nat ?_
    rewrite [if_neg (by omega)]
    exact (between_natCast (by decide) v).symm

theorem limitedIndex_row (x : OutputBinding) (v : Nat) : Row (v, bindingRange x, (limitedIndex x v).1) (limitedIndex x v).2 :=
  match x with
  | .none => ⟨rfl, (if_pos rfl).symm⟩
  | .backup => ⟨rfl, (if_pos rfl).symm⟩
  | .fixed => ⟨rfl, (if_pos rfl).symm⟩
  | .light => limited_row (by decide) v
  | .sink => limited_row (by decide) v
  | .zoneDemand => limited_row (by decide) v
  | .fan => limited_row (by decide) v
  | .sheetAlarm => limited_row (by decide) v

/-! ### Fields in a row -/

theorem mapM_none {f : α → Option β} {l : List α} : l.mapM f = none ↔ ∃ a ∈ l, f a = none := by
  refine ⟨fun h => ?_, fun ⟨a, ha, hf⟩ => mapM_record_none ha hf⟩
  induction l with
  | nil => cases h
  | cons x l ih =>
    rw [List.mapM_cons] at h
    cases hx : f x with
    | none => exact ⟨x, List.mem_cons_self, hx⟩
    | some y =>
      have hl : l.mapM f = none := by
        cases hm : l.mapM f with
        | none => rfl
        | some ys => simp [hx, hm] at h
      obtain ⟨a, ha, hf⟩ := ih hl
      exact ⟨a, List.mem_cons_of_mem _ ha, hf⟩

theorem mapM_some {f : α → Option β} {l : List α} {r : List β} (h : l.mapM f = some r) (i : Nat) : r[i]? = l[i]?.bind f := by
  induction l generalizing r i with
  | nil =>
    cases h
    rfl
  | cons x l ih =>
    simp only [List.mapM_cons, Option.bind_eq_bind, Option.bind_eq_some_iff, Option.pure_def, Option.some.injEq] at h
    obtain ⟨y, hy, ys, hys, rfl⟩ := h
    cases i with
    | zero => simpa using hy.symm
    | succ i => simpa using ih hys i

/-- Of fields read at the offsets of a range, field `i`. -/
theorem mapM_range_some {f : Nat → Option α} {r : List α} (h : (List.range n).mapM f = some r) (hi : i < n) (d : α) :
    f i = some (r.getD i d) := by
  have hr := mapM_some h i
  rewrite [List.getElem?_range hi, Option.bind_some] at hr
  obtain ⟨x, hx⟩ : ∃ x, r[i]? = some x := by
    rcases hf : f i with _ | x
    · cases h.symm.trans (mapM_none.mpr ⟨i, List.mem_range.mpr hi, hf⟩)
    · exact ⟨x, hr.trans hf⟩
  rewrite [List.getD_eq_getElem?_getD, hx, ← hr, hx]
  rfl

end RecordFields

/-! PROOF. Each record of 10.5 that a WRITE carries: its codes, fields, clamps and count. -/

section RecordLayouts

theorem parsePoint_fields (b : List Byte) :
    (parsePoint b = none ↔ 2 < u8At b 0 ∨ 9 < u8At b 3 ∨ 3 < u8At b 10) ∧
    (∀ c n, parsePoint b = some (c, n) →
      pointBindings[u8At b 0]? = some c.binding ∧ pointKinds[u8At b 3]? = some c.kind ∧ comparatorModes[u8At b 10]? = some c.mode ∧
      c.plausMin = s16At b 6 ∧ c.plausMax = s16At b 8 ∧ c.high = s16At b 11 ∧ c.low = s16At b 13 ∧
      c.latch = (u8At b 15 % 2 == 1) ∧ c.trip = (u8At b 15 / 2 % 2 == 1) ∧
      (c.binding ≠ .bus → c.node = 0 ∧ c.point = 0 ∧ Taken [(u16At b 4, between 1 600, c.stale)] n) ∧
      (c.binding = .bus → Taken [(u8At b 1, between 0 63, c.node), (u8At b 2, between 0 63, c.point),
        (u16At b 4, between 1 600, c.stale)] n)) := by
  refine ⟨bind_none nameAt_none fun _ => bind_none nameAt_none fun _ => bind_pure_none nameAt_none, fun c n h => ?_⟩
  simp only [parsePoint, Option.bind_eq_bind, Option.bind_eq_some_iff, Option.pure_def, Option.some.injEq, Prod.mk.injEq] at h
  obtain ⟨x, hx, y, hy, z, hz, rfl, rfl⟩ := h
  have stale := limited_row (show 1 ≤ 600 by decide) (u16At b 4)
  refine ⟨hx, hy, hz, rfl, rfl, rfl, rfl, ?_, ?_, fun hb => ?_, fun hb => ?_⟩
  · simp [Nat.testBit_zero, beq_eq_decide]
  · simp [Nat.testBit_succ, Nat.testBit_zero, beq_eq_decide]
  · have hb' : (x == PointBinding.bus) = false := beq_eq_false_iff_ne.mpr hb
    simp only [hb', Bool.false_eq_true, if_false, Nat.zero_add]
    exact ⟨trivial, trivial, stale.taken⟩
  · have hb' : (x == PointBinding.bus) = true := beq_iff_eq.mpr hb
    simp only [hb', if_true]
    exact ((limited_row (show 0 ≤ 63 by decide) (u8At b 1)).taken.snoc (limited_row (show 0 ≤ 63 by decide) (u8At b 2))).snoc stale

theorem parseWindow_fields (b : List Byte) :
    (parseWindow b = none ↔ 1 < u8At b 0 ∨ 1 < u8At b 5) ∧
    (∀ c n, parseWindow b = some (c, n) →
      c.enabled = (u8At b 0 == 1) ∧ c.accept = (u8At b 5 == 0) ∧
      Taken [(u8At b 1, between 0 63, c.matchSource), (u8At b 2, between 0 63, c.matchPoint),
        (u8At b 3, between 0 63, c.sourceMask), (u8At b 4, between 0 63, c.pointMask)] n) := by
  refine ⟨bind_none flagAt_none fun _ => bind_pure_none nameAt_none, fun c n h => ?_⟩
  simp only [parseWindow, Option.bind_eq_bind, Option.bind_eq_some_iff, Option.pure_def, Option.some.injEq, Prod.mk.injEq] at h
  obtain ⟨e, he, a, ha, rfl, rfl⟩ := h
  have row (i : Nat) := limited_row (show 0 ≤ 63 by decide) (u8At b i)
  exact ⟨flagAt_some he, acceptAt_some ha, (((row 1).taken.snoc (row 2)).snoc (row 3)).snoc (row 4)⟩

theorem parseAllocator_fields (b : List Byte) :
    (parseAllocator b = none ↔ 1 < u8At b 0 ∨ 1 < u8At b 5) ∧
    (∀ c n, parseAllocator b = some (c, n) →
      c.clearOnRead = (u8At b 5 == 1) ∧ c.heatPoint.isSome = (u8At b 0 == 1) ∧
      Taken [optionRow 0 63 (optionField u8At b 0) c.heatPoint, (u16At b 2, between 0 30000, c.reserve),
        (u8At b 4, between 2 60, c.period)] n) := by
  refine ⟨bind_none optionAt_none fun _ => bind_pure_none flagAt_none, fun c n h => ?_⟩
  simp only [parseAllocator, Option.bind_eq_bind, Option.bind_eq_some_iff, Option.pure_def, Option.some.injEq, Prod.mk.injEq] at h
  obtain ⟨o, ho, e, he, rfl, rfl⟩ := h
  obtain ⟨rfl, hs⟩ := optionAt_some ho
  exact ⟨flagAt_some he, (limitedOption_isSome ..).trans hs,
    ((limitedOption_row 63 _).taken.snoc (limited_row (by decide) _)).snoc (limited_row (by decide) _)⟩

theorem parseScene_fields (b : List Byte) :
    (parseScene b = none ↔ ∃ k, k < 33 ∧ 1 < u8At b (3 * k)) ∧
    (∀ c n, parseScene b = some (c, n) →
      (∀ i : Fin 32, (c.levels.get i).isSome = (u8At b (3 * i) == 1)) ∧ c.fade.isSome = (u8At b 96 == 1) ∧
      Taken ((List.finRange 32).map (fun i : Fin 32 => optionRow 0 4095 (optionField u16At b (3 * i)) (c.levels.get i)) ++
        [optionRow 0 600 (optionField u16At b 96) c.fade]) n) := by
  refine ⟨(bind_pure_none mapM_none).trans ?_, fun c n h => ?_⟩
  · simp only [List.mem_range, optionAt_none]
  · simp only [parseScene, Option.bind_eq_bind, Option.bind_eq_some_iff, Option.pure_def, Option.some.injEq, Prod.mk.injEq] at h
    obtain ⟨fields, hf, rfl, rfl⟩ := h
    have field {k : Nat} (hk : k < 33) : fields.getD k none = optionField u16At b (3 * k) ∧
        (fields.getD k none).isSome = (u8At b (3 * k) == 1) := optionAt_some (mapM_range_some hf hk none)
    have level (i : Fin 32) := field (k := i) (by omega)
    obtain ⟨hfade, hfadeSome⟩ := field (k := 32) (by decide)
    refine ⟨fun i => ?_, (limitedOption_isSome ..).trans hfadeSome, Taken.append (Taken.map fun i => ?_) (Row.taken ?_)⟩
    · rewrite [Table.get_ofFn]
      exact (limitedOption_isSome ..).trans (level i).2
    · rewrite [Table.get_ofFn, (level i).1]
      exact limitedOption_row 4095 _
    · rewrite [hfade]
      exact limitedOption_row 600 _

theorem parseProtect_fields (b : List Byte) :
    let p := (parseProtect b).1
    Taken [(u8At b 0, between 5 50, p.keyHold), (u16At b 1, between 1 4095, p.step), (u8At b 3, listedPeriod, p.period)]
      (parseProtect b).2 :=
  ((limited_row (by decide) _).taken.snoc (limited_row (by decide) _)).snoc (limitedPeriod_row _)

theorem parseNotice_fields (b : List Byte) :
    (parseNotice b = none ↔ ∃ k, k < 11 ∧ 1 < u8At b k) ∧
    (∀ c n, parseNotice b = some (c, n) →
      (∀ k : Fin 11, c.enables.get k = (u8At b k == 1)) ∧
      Taken [(u8At b 11, between 1 32, c.threshold), (u8At b 12, between 0 60, c.coalescing)] n) := by
  refine ⟨(bind_pure_none mapM_none).trans ?_, fun c n h => ?_⟩
  · simp only [List.mem_range, flagAt_none]
  · simp only [parseNotice, Option.bind_eq_bind, Option.bind_eq_some_iff, Option.pure_def, Option.some.injEq, Prod.mk.injEq] at h
    obtain ⟨enables, he, rfl, rfl⟩ := h
    refine ⟨fun k => ?_, (limited_row (by decide) _).taken.snoc (limited_row (by decide) _)⟩
    rewrite [Table.get_ofFn]
    exact flagAt_some (mapM_range_some he k.isLt true)

theorem parseBus_fields (b : List Byte) :
    (parseBus b = none ↔ 1 < u8At b 3 ∨ 1 < u8At b 4) ∧
    (∀ c n, parseBus b = some (c, n) →
      c.accept = (u8At b 3 == 0) ∧ c.clearOnRead = (u8At b 4 == 1) ∧
      Taken [(u8At b 0, between 0 62, c.ownAddress), (u8At b 1, fun v => if v ≤ 187 then 125 else 250, c.bitRate),
        (u8At b 2, between 1 255, c.warning)] n) := by
  refine ⟨bind_none nameAt_none fun _ => bind_pure_none flagAt_none, fun c n h => ?_⟩
  simp only [parseBus, Option.bind_eq_bind, Option.bind_eq_some_iff, Option.pure_def, Option.some.injEq, Prod.mk.injEq] at h
  obtain ⟨a, ha, e, he, rfl, rfl⟩ := h
  exact ⟨acceptAt_some ha, flagAt_some he,
    ((limited_row (by decide) _).taken.snoc (limitedRate_row _)).snoc (limited_row (by decide) _)⟩

theorem parseSheet_fields (b : List Byte) :
    let k := u8At b 1
    let r := b.drop (2 + k)
    let points := ((b.drop 2).take k).map BitVec.toNat
    (parseSheet b = none ↔ 1 < u8At b 0 ∨ 1 < u8At r 0 ∨ 1 < u8At r 2) ∧
    (∀ c n, parseSheet b = some (c, n) →
      c.enabled = (u8At b 0 == 1) ∧ c.surfaces = points.map (min 63) ∧
      c.brine.isSome = (u8At r 0 == 1) ∧ c.subsoil.isSome = (u8At r 2 == 1) ∧
      ∃ m, n = m + (if c.surfaces = points then 0 else 1) ∧
        Taken [optionRow 0 63 (optionField u8At r 0) c.brine, optionRow 0 63 (optionField u8At r 2) c.subsoil,
          (s16At r 4, between (-5000) 10000, c.tSet), (s16At r 6, between (-5000) 10000, c.tSoft),
          (s16At r 8, between (-5000) 10000, c.tLimit), (u8At r 10, between 0 200, c.hysteresis), (u32At r 11, between 0 200000, c.bMax),
          (u16At r 15, between 0 1000, c.fallback), (u16At r 17, between 0 2000, c.brineOffset),
          (u16At r 19, between 60 1800, c.resurfaceHold), (u16At r 21, between 0 3600, c.tankTime),
          (u16At r 23, fun v => if v = 0 then 0 else between 10 3600 v, c.criticalHold),
          (s16At r 25, between (-5000) 10000, c.subsoilMin), (u16At r 27, between 0 500, c.heaveHysteresis)] m) := by
  intro k r points
  refine ⟨bind_none flagAt_none fun _ => bind_none optionAt_none fun _ => bind_pure_none optionAt_none, fun c n h => ?_⟩
  simp only [parseSheet, Option.bind_eq_bind, Option.bind_eq_some_iff, Option.pure_def, Option.some.injEq, Prod.mk.injEq] at h
  obtain ⟨e, he, x, hx, y, hy, rfl, rfl⟩ := h
  obtain ⟨rfl, hxs⟩ := optionAt_some hx
  obtain ⟨rfl, hys⟩ := optionAt_some hy
  have temp (i : Nat) := temperature_row (s16At r i)
  have fields := (((((((((((((limitedOption_row 63 (optionField u8At r 0)).taken.snoc (limitedOption_row 63 (optionField u8At r 2))).snoc
    (temp 4)).snoc (temp 6)).snoc (temp 8)).snoc (limited_row (show 0 ≤ 200 by decide) (u8At r 10))).snoc
    (limited_row (show 0 ≤ 200000 by decide) (u32At r 11))).snoc (limited_row (show 0 ≤ 1000 by decide) (u16At r 15))).snoc
    (limited_row (show 0 ≤ 2000 by decide) (u16At r 17))).snoc (limited_row (show 60 ≤ 1800 by decide) (u16At r 19))).snoc
    (limited_row (show 0 ≤ 3600 by decide) (u16At r 21))).snoc (limitedHold_row (u16At r 23))).snoc (temp 25)).snoc
    (limited_row (show 0 ≤ 500 by decide) (u16At r 27))
  refine ⟨flagAt_some he, rfl, (limitedOption_isSome ..).trans hxs, (limitedOption_isSome ..).trans hys, _, ?_, fields⟩
  have hlist : (limitedList points).2 = if points.map (min 63) = points then 0 else 1 := clampedBy_eq_ite ..
  show (limitedList points).2 + _ + _ + _ + _ + _ + _ + _ + _ + _ + _ + _ + _ + _ + _ = _ +
    (if points.map (min 63) = points then 0 else 1)
  rewrite [← hlist]
  ring

theorem parseZone_fields (b : List Byte) :
    (parseZone b = none ↔ 1 < u8At b 0 ∨ 1 < u8At b 3 ∨ 1 < u8At b 5 ∨ 2 < u8At b 7 ∨ 1 < u8At b 18 ∨ 1 < u8At b 19) ∧
    (∀ c n, parseZone b = some (c, n) →
      c.enabled = (u8At b 0 == 1) ∧ c.nearIce.isSome = (u8At b 3 == 1) ∧ c.ceiling.isSome = (u8At b 5 == 1) ∧
      sheetChoices[u8At b 7]? = some c.sheet ∧ c.servedRegen = (u8At b 18 == 1) ∧ c.servedCeiling = (u8At b 19 == 1) ∧
      Taken [(u8At b 1, between 0 63, c.airTemp), (u8At b 2, between 0 63, c.airRh), optionRow 0 63 (optionField u8At b 3) c.nearIce,
        optionRow 0 63 (optionField u8At b 5) c.ceiling, (u16At b 8, between 0 2000, c.watch), (u16At b 10, between 0 2000, c.risk),
        (u16At b 12, between 0 500, c.hysteresis), (u16At b 14, between 0 1000, c.flood), (u16At b 16, between 0 1000, c.fallback)] n) := by
  refine ⟨bind_none flagAt_none fun _ => bind_none optionAt_none fun _ => bind_none optionAt_none fun _ =>
    bind_none nameAt_none fun _ => bind_none flagAt_none fun _ => bind_pure_none flagAt_none, fun c n h => ?_⟩
  simp only [parseZone, Option.bind_eq_bind, Option.bind_eq_some_iff, Option.pure_def, Option.some.injEq, Prod.mk.injEq] at h
  obtain ⟨e, he, x, hx, y, hy, z, hz, f, hf, g, hg, rfl, rfl⟩ := h
  obtain ⟨rfl, hxs⟩ := optionAt_some hx
  obtain ⟨rfl, hys⟩ := optionAt_some hy
  exact ⟨flagAt_some he, (limitedOption_isSome ..).trans hxs, (limitedOption_isSome ..).trans hys, hz, flagAt_some hf, flagAt_some hg,
    ((((((((limited_row (by decide) _).taken.snoc (limited_row (by decide) _)).snoc (limitedOption_row 63 _)).snoc
      (limitedOption_row 63 _)).snoc (limited_row (by decide) _)).snoc (limited_row (by decide) _)).snoc
      (limited_row (by decide) _)).snoc (limited_row (by decide) _)).snoc (limited_row (by decide) _)⟩

theorem parseSink_fields (b : List Byte) :
    (parseSink b = none ↔ 1 < u8At b 0 ∨ 5 < u8At b 1 ∨ 3 < u8At b 2 ∨ 2 < u8At b 3 ∨ 1 < u8At b 10) ∧
    (∀ c n, parseSink b = some (c, n) →
      c.enabled = (u8At b 0 == 1) ∧ sinkKinds[u8At b 1]? = some c.kind ∧ sinkClasses[u8At b 2]? = some c.cls ∧
      sheetChoices[u8At b 3]? = some c.sheet ∧ c.occupancy.isSome = (u8At b 10 == 1) ∧
      Taken [(u16At b 4, between 0 30000, c.min), (u16At b 6, between 0 30000, c.max), (u16At b 8, between 1 30000, c.fullOpen),
        optionRow 0 63 (optionField u8At b 10) c.occupancy, (u16At b 12, between 1 5000, c.occupancyFull),
        (u16At b 14, between 0 1000, c.spill)] n) := by
  refine ⟨bind_none flagAt_none fun _ => bind_none nameAt_none fun _ => bind_none nameAt_none fun _ =>
    bind_none nameAt_none fun _ => bind_pure_none optionAt_none, fun c n h => ?_⟩
  simp only [parseSink, Option.bind_eq_bind, Option.bind_eq_some_iff, Option.pure_def, Option.some.injEq, Prod.mk.injEq] at h
  obtain ⟨e, he, x, hx, y, hy, z, hz, o, ho, rfl, rfl⟩ := h
  obtain ⟨rfl, hos⟩ := optionAt_some ho
  exact ⟨flagAt_some he, hx, hy, hz, (limitedOption_isSome ..).trans hos,
    (((((limited_row (by decide) _).taken.snoc (limited_row (by decide) _)).snoc (limited_row (by decide) _)).snoc
      (limitedOption_row 63 _)).snoc (limited_row (by decide) _)).snoc (limited_row (by decide) _)⟩

theorem parseChannel_fields (b : List Byte) :
    (parseChannel b = none ↔ 2 < u8At b 0 ∨ 3 < u8At b 7) ∧
    (∀ c n, parseChannel b = some (c, n) →
      sheetChoices[u8At b 0]? = some c.sheet ∧ channelActions[u8At b 7]? = some c.action ∧
      Taken [(u16At b 1, between 0 20000, c.coefficient), (u16At b 3, between 0 4095, c.floor), (u16At b 5, between 0 4095, c.safe),
        (u16At b 8, between 1 4095, c.step), (u8At b 10, listedPeriod, c.period)] n) := by
  refine ⟨bind_none nameAt_none fun _ => bind_pure_none nameAt_none, fun c n h => ?_⟩
  simp only [parseChannel, Option.bind_eq_bind, Option.bind_eq_some_iff, Option.pure_def, Option.some.injEq, Prod.mk.injEq] at h
  obtain ⟨x, hx, y, hy, rfl, rfl⟩ := h
  exact ⟨hx, hy, ((((limited_row (by decide) _).taken.snoc (limited_row (by decide) _)).snoc (limited_row (by decide) _)).snoc
    (limited_row (by decide) _)).snoc (limitedPeriod_row _)⟩

theorem parseOutput_fields (b : List Byte) :
    (parseOutput b = none ↔ 3 < u8At b 0 ∨ 7 < u8At b 1 ∨ 2 < u8At b 8) ∧
    (∀ c n, parseOutput b = some (c, n) →
      outputKinds[u8At b 0]? = some c.kind ∧ outputBindings[u8At b 1]? = some c.binding ∧ outputActions[u8At b 8]? = some c.action ∧
      Taken [(u8At b 2, bindingRange c.binding, c.index), (u16At b 3, between 100 25000, c.pwm), (u16At b 5, between 1 4095, c.step),
        (u8At b 7, listedPeriod, c.period), (u16At b 9, between 0 4095, c.safe)] n) := by
  refine ⟨bind_none nameAt_none fun _ => bind_none nameAt_none fun _ => bind_pure_none nameAt_none, fun c n h => ?_⟩
  simp only [parseOutput, Option.bind_eq_bind, Option.bind_eq_some_iff, Option.pure_def, Option.some.injEq, Prod.mk.injEq] at h
  obtain ⟨x, hx, y, hy, z, hz, rfl, rfl⟩ := h
  exact ⟨hx, hy, hz, ((((limitedIndex_row y _).taken.snoc (limited_row (by decide) _)).snoc (limited_row (by decide) _)).snoc
    (limitedPeriod_row _)).snoc (limited_row (by decide) _)⟩

theorem parseRemote_fields (b : List Byte) :
    (parseRemote b = none ↔ 7 < u8At b 0 ∨ 1 < u8At b 6) ∧
    (∀ c n, parseRemote b = some (c, n) →
      outputBindings[u8At b 0]? = some c.binding ∧ remoteActions[u8At b 6]? = some c.action ∧ c.safe = s16At b 7 ∧
      Taken [(u8At b 1, bindingRange c.binding, c.index), (u8At b 2, between 0 63, c.node), (u8At b 3, between 0 63, c.point),
        (u8At b 4, between 0 7, c.priority), (u8At b 5, between 0 60, c.refresh)] n) := by
  refine ⟨bind_none nameAt_none fun _ => bind_pure_none nameAt_none, fun c n h => ?_⟩
  simp only [parseRemote, Option.bind_eq_bind, Option.bind_eq_some_iff, Option.pure_def, Option.some.injEq, Prod.mk.injEq] at h
  obtain ⟨x, hx, y, hy, rfl, rfl⟩ := h
  exact ⟨hx, hy, rfl, ((((limitedIndex_row x _).taken.snoc (limited_row (by decide) _)).snoc (limited_row (by decide) _)).snoc
    (limited_row (by decide) _)).snoc (limited_row (by decide) _)⟩

theorem parseProfile_fields (b : List Byte) :
    (parseProfile b = none ↔ 3 < u8At b 1 ∨ 1 < u8At b 6 ∨ 1 < u8At b 8) ∧
    (∀ p n, parseProfile b = some (p, n) →
      sinkClasses[u8At b 1]? = some p.standsClass ∧ p.entryScene.isSome = (u8At b 6 == 1) ∧ p.keyBypass = (u8At b 8 == 1) ∧
      Taken [(u8At b 0, between 0 100, p.standsPercent), (u16At b 2, between 0 1000, p.baseDemand),
        (u16At b 4, between 0 1000, p.lightingShare), optionRow 0 23 (optionField u8At b 6) p.entryScene] n) := by
  refine ⟨bind_none nameAt_none fun _ => bind_none optionAt_none fun _ => bind_pure_none flagAt_none, fun p n h => ?_⟩
  simp only [parseProfile, Option.bind_eq_bind, Option.bind_eq_some_iff, Option.pure_def, Option.some.injEq, Prod.mk.injEq] at h
  obtain ⟨x, hx, o, ho, e, he, rfl, rfl⟩ := h
  obtain ⟨rfl, hos⟩ := optionAt_some ho
  exact ⟨hx, (limitedOption_isSome ..).trans hos, flagAt_some he,
    (((limited_row (by decide) _).taken.snoc (limited_row (by decide) _)).snoc (limited_row (by decide) _)).snoc
      (limitedOption_row 23 _)⟩

end RecordLayouts

/-! PROOF. Accepted WRITEs, and those that only store (R184). -/

section AcceptedWrites

variable {s : State} {tag : Byte}

theorem index_byte {n : Nat} (hn : n ≤ 256) (i : Fin n) : index n (BitVec.ofNat 8 i).toNat = some i := by
  rw [index_eq_some, BitVec.toNat_ofNat, Nat.mod_eq_of_lt (by omega)]

theorem withRecord_good {α : Type} {p : Option (α × Nat)} {c : α} {m : Nat} (h : p = some (c, m)) (f : α → Nat → Decision) :
    withRecord p f = f c m := by
  rewrite [h]
  rfl

/-- A WRITE that passes the checks of R184 is decided by its table's own rule. -/
theorem exec_row {c : Instr} {table n : Nat} {i : Byte} {k : Fin n} {record : List Byte} {fits : List Byte → Bool}
    {f : Fin n → List Byte → State → Decision} (h : WriteReady tag table (i :: record) s)
    (he : exec c s = .next (s.serveWrite tag table (i :: record) fun st => st.write n (i :: record) fits f))
    (hk : index n i.toNat = some k) (hr : fits record = true) : exec c s = .next (s.conclude tag (f k record s)) := by
  refine he.trans (congrArg Host.Outcome.next ((serve_ready h.ready _).trans ?_))
  rw [write_ready h hk hr f]

/-- The same with a record whose codes are in their lists. -/
theorem exec_record {α : Type} {c : Instr} {table n : Nat} {i : Byte} {k : Fin n} {record : List Byte} {fits : List Byte → Bool}
    {parse : List Byte → Option (α × Nat)} {g : Fin n → State → α → Nat → Decision} {x : α} {m : Nat}
    (h : WriteReady tag table (i :: record) s)
    (he : exec c s = .next (s.serveWrite tag table (i :: record) fun st =>
      st.write n (i :: record) fits fun k r st => withRecord (parse r) (g k st)))
    (hk : index n i.toNat = some k) (hr : fits record = true) (hp : parse record = some (x, m)) :
    exec c s = .next (s.conclude tag (g k s x m)) := by
  rw [exec_row h he hk hr, withRecord_good hp]

theorem conclude_counted (tag : Byte) (n : Nat) (s t : State) : s.conclude tag (done n t) = t.answered tag .done (u8 n) := rfl

/-! ### The rows of the indexed tables -/

theorem exec_writeWindows {i : Fin 4} {record : List Byte} {c : WindowConfig} {n : Nat}
    (h : WriteReady tag 2 (BitVec.ofNat 8 i :: record) s) (hl : record.length = 6) (hp : parseWindow record = some (c, n)) :
    exec (.writeWindows tag (BitVec.ofNat 8 i :: record)) s =
      .next ((s.setCfg { s.cfg with windows := s.cfg.windows.set i c }).answered tag .done (u8 n)) :=
  (exec_record (c := .writeWindows tag (BitVec.ofNat 8 i :: record)) (fits := lengthIs 6) h rfl (index_byte (by decide) i) (beq_iff_eq.mpr hl) hp).trans rfl

theorem exec_writeAllocator {record : List Byte} {c : AllocatorSettings} {n : Nat} (h : WriteReady tag 6 (12 :: record) s)
    (hl : record.length = 6) (hp : parseAllocator record = some (c, n)) :
    exec (.writeAllocatorSettings tag record) s = .next ((s.setCfg { s.cfg with allocator := c }).answered tag .done (u8 n)) :=
  (exec_record (c := .writeAllocatorSettings tag record) (n := 13) (k := 12) (fits := lengthIs 6) h rfl rfl (beq_iff_eq.mpr hl) hp).trans rfl

theorem exec_writeScenes {i : Fin 24} {record : List Byte} {c : Scene} {n : Nat}
    (h : WriteReady tag 8 (BitVec.ofNat 8 i :: record) s) (hl : record.length = 99) (hp : parseScene record = some (c, n)) :
    exec (.writeScenes tag (BitVec.ofNat 8 i :: record)) s =
      .next ((s.setCfg { s.cfg with scenes := s.cfg.scenes.set i c }).answered tag .done (u8 n)) :=
  (exec_record (c := .writeScenes tag (BitVec.ofNat 8 i :: record)) (fits := lengthIs 99) h rfl (index_byte (by decide) i) (beq_iff_eq.mpr hl) hp).trans rfl

theorem exec_writeProtect {record : List Byte} (h : WriteReady tag 12 (0 :: record) s) (hl : record.length = 4) :
    exec (.writeProtectSettings tag (0 :: record)) s =
      .next ((s.setCfg { s.cfg with protect := (parseProtect record).1 }).answered tag .done (u8 (parseProtect record).2)) :=
  (exec_row (c := .writeProtectSettings tag (0 :: record)) (n := 1) (k := 0) (fits := lengthIs 4) h rfl rfl (beq_iff_eq.mpr hl)).trans rfl

theorem exec_writeNotice {record : List Byte} {c : NoticeSettings} {n : Nat} (h : WriteReady tag 13 (0 :: record) s)
    (hl : record.length = 13) (hp : parseNotice record = some (c, n)) :
    exec (.writeNoticeSettings tag (0 :: record)) s = .next ((s.setCfg { s.cfg with notice := c }).answered tag .done (u8 n)) :=
  (exec_record (c := .writeNoticeSettings tag (0 :: record)) (n := 1) (k := 0) (fits := lengthIs 13) h rfl rfl (beq_iff_eq.mpr hl) hp).trans rfl

theorem exec_writeBus {record : List Byte} {receiving : Bool} {c : BusSettings} {n : Nat} (h : WriteReady tag 3 (0 :: record) s)
    (hl : record.length = 5) (hp : parseBus record = some (c, n)) :
    exec (.writeBusSettings tag (0 :: record) receiving) s =
      .next (((s.setCfg { s.cfg with bus := c }).applyLineWhenIdle receiving).answered tag .done (u8 n)) :=
  (exec_record (c := .writeBusSettings tag (0 :: record) receiving) (n := 1) (k := 0) (fits := lengthIs 5) h rfl rfl (beq_iff_eq.mpr hl) hp).trans rfl

end AcceptedWrites

/-- Settles O13: each record replaces its predecessor; the bus settings come into force on an idle line. -/
theorem storingWritesReplaceRecord : Obligations.StoringWritesReplaceRecord := by
  refine ⟨fun _ _ _ _ _ _ h hl hp => exec_writeWindows h hl hp, fun _ _ _ _ _ h hl hp => exec_writeAllocator h hl hp,
    fun _ _ _ _ _ _ h hl hp => exec_writeScenes h hl hp, fun _ _ _ h hl => exec_writeProtect h hl,
    fun _ _ _ _ _ h hl hp => exec_writeNotice h hl hp, fun tag record receiving c n s h hl hp => ⟨fun hbusy => ?busy, fun hr hline => ?idle⟩,
    parseWindow_fields, parseAllocator_fields, parseScene_fields, parseProtect_fields, parseNotice_fields, parseBus_fields⟩
  case busy =>
    have hwait : (s.setCfg { s.cfg with bus := c }).applyLineWhenIdle receiving = s.setCfg { s.cfg with bus := c } :=
      if_pos (by rcases hbusy with hb | hb <;> simp [State.setCfg, hb])
    rewrite [exec_writeBus h hl hp, hwait]
    rfl
  case idle =>
    have happly : (s.setCfg { s.cfg with bus := c }).applyLineWhenIdle receiving = (s.setCfg { s.cfg with bus := c }).applyLine :=
      if_neg (by simp [State.setCfg, hr, hline])
    rewrite [exec_writeBus h hl hp, happly]
    rfl

/-! PROOF. The hand-over of the bus, its recovery, and the start of own frames (R22, R23, R29, R31, R35 to R41). -/

section BusStates

variable {s : State} {tag : Byte}

/-! ### Hand-over (R37, R38) -/

/-- The hand-over state after a requester begins to hold. -/
def Fbc.begun (f : Fbc) : HandOver :=
  if f.handOver = .owned then (if f.inFlight = none then .released else .releasePending) else f.handOver

theorem with_handOver_self {f : Fbc} {h : HandOver} (e : h = f.handOver) : ({ f with handOver := h } : Fbc) = f := by
  subst e
  rfl

theorem beginHold_eq (f : Fbc) : f.beginHold = { f with handOver := f.begun } := by
  unfold Fbc.beginHold Fbc.begun
  split
  next h => cases hf : f.inFlight <;> simp [h]
  next h => rw [if_neg h, with_handOver_self rfl]

theorem letGo_kept {f : Fbc} (h : f.handOver ≠ .released ∨ f.requested = true) : f.letGo = f := by
  unfold Fbc.letGo
  split
  next hr => rw [if_pos (h.resolve_left (not_not_intro hr))]
  next => rfl

theorem letGo_released {f : Fbc} (h : f.handOver = .released) (hr : f.requested = false) :
    f.letGo = { f with handOver := .owned } := by
  simp only [Fbc.letGo, h, hr]
  rfl

/-- A requester that begins to hold ends no RELEASED, so no HELD test follows. -/
theorem setFbc_begun (f : Fbc) (h : f.handOver = s.fbc.handOver) : s.setFbc f.beginHold = { s with fbc := { f with handOver := f.begun } } := by
  rewrite [beginHold_eq]
  refine setFbc_kept _ ?_
  by_cases hr : s.fbc.handOver = .released
  · exact .inr (by simp [Fbc.begun, h, hr])
  · exact .inl hr

theorem setFbc_letGo_kept (f : Fbc) (h : f.handOver = s.fbc.handOver) (hk : f.handOver ≠ .released ∨ f.requested = true) :
    s.setFbc f.letGo = { s with fbc := f } := by
  rewrite [letGo_kept hk]
  refine setFbc_kept _ ?_
  by_cases hr : s.fbc.handOver = .released
  · exact .inr (h.trans hr)
  · exact .inl hr

theorem setFbc_letGo_released (f : Fbc) (h : f.handOver = s.fbc.handOver) (hr : f.handOver = .released) (hq : f.requested = false) :
    HeldTested { s with fbc := { f with handOver := .owned } } (s.setFbc f.letGo) := by
  rewrite [letGo_released hr hq]
  exact setFbc_released _ (h.symm.trans hr) HandOver.noConfusion

/-- HAND's new level sampled while held already, or clear already, changes nothing. -/
theorem sampleHand_same {b : Bool} (h : s.fbc.hand = b) : s.sampleHand b = s := by
  cases b <;> simp [State.sampleHand, h]

theorem sampleHand_begins (h : s.fbc.hand = false) :
    s.sampleHand true = { s with fbc := { s.fbc with hand := true, handOver := s.fbc.begun } } :=
  (if_pos rfl).trans ((if_neg (by simp [h])).trans (setFbc_begun { s.fbc with hand := true } rfl))

theorem sampleHand_ends (h : s.fbc.hand = true) : s.sampleHand false = s.setFbc ({ s.fbc with hand := false } : Fbc).letGo :=
  (if_neg Bool.false_ne_true).trans (if_pos h)

/-- The state with the level on HAND changed and not yet sampled. -/
def State.handAt (b : Bool) (s : State) : State := { s with pins := { s.pins with hand := b } }

theorem exec_handAsserted (live : s.live = true) : exec .handAsserted s = .next ((s.handAt true).sampleHand true) :=
  congrArg Host.Outcome.next (event_live (s := s.handAt true) live _)

theorem exec_handDeasserted (live : s.live = true) : exec .handDeasserted s = .next ((s.handAt false).sampleHand false) :=
  congrArg Host.Outcome.next (event_live (s := s.handAt false) live _)

theorem exec_busRelease (h : ActReady tag 13 [] s) :
    exec (.busRelease tag []) s = .next (s.linkHold.answered tag .done [0]) :=
  congrArg Host.Outcome.next (serveAct_act h rfl _)

theorem exec_busReclaim (h : ActReady tag 14 [] s) :
    exec (.busReclaim tag []) s = .next (s.conclude tag (if s.fbc.linkRequest then done 0 s.linkLetGo else .error .notNow)) :=
  congrArg Host.Outcome.next (serveAct_act h rfl _)

theorem exec_busReclaim_held (h : ActReady tag 14 [] s) (hl : s.fbc.linkRequest = true) :
    exec (.busReclaim tag []) s = .next (s.linkLetGo.answered tag .done [0]) := by
  rewrite [exec_busReclaim h, if_pos hl]
  rfl

theorem exec_busTest (h : ActReady tag 15 (u8 (codeOf testModes m)) s) :
    exec (.busTest tag (u8 (codeOf testModes m))) s =
      .next (({ s with fbc := { s.fbc with testMode := m } } : State).answered tag .done [0]) := by
  have hm : nameAt testModes (u8 (codeOf testModes m)) 0 = some m := by cases m <;> rfl
  refine congrArg Host.Outcome.next ((serveAct_act h rfl _).trans ?_)
  rewrite [hm]
  rfl

/-! ### Recovery (R35, R36) -/

theorem isolated_iff : s.busState = .isolated ↔ s.fbc.txe = 256 := by
  unfold State.busState busStateOf
  split
  next h => simp [h]
  next h => split <;> simp [h]

theorem leaveIsolated_stays (h : s.fbc.txe = 256 → s.fbc.idlePeriods < 63) : s.leaveIsolated = s := by
  refine if_neg ?_
  rintro ⟨hi, hp⟩
  have := h (isolated_iff.mp hi)
  omega

theorem leaveIsolated_recovers (h : s.fbc.txe = 256) (hp : 63 ≤ s.fbc.idlePeriods) : s.leaveIsolated = s.recover.heldTest :=
  if_pos ⟨isolated_iff.mpr h, by omega⟩

theorem idlePeriod_outside (h : s.fbc.txe ≠ 256) : s.idlePeriod = s := if_pos fun hi => h (isolated_iff.mp hi)

theorem idlePeriod_counts (h : s.fbc.txe = 256) (hp : s.fbc.idlePeriods < 63) :
    s.idlePeriod = { s with fbc := { s.fbc with idlePeriods := s.fbc.idlePeriods + 1 } } :=
  (if_neg (not_not_intro (isolated_iff.mpr h))).trans (if_neg (by omega))

theorem idlePeriod_last (h : s.fbc.txe = 256) (hp : 63 ≤ s.fbc.idlePeriods) : s.idlePeriod = s.leaveIsolated :=
  (if_neg (not_not_intro (isolated_iff.mpr h))).trans (if_pos (by omega))

/-! ### The start of an own frame (R22, R23, R29) -/

/-- The pause timer of the entry's target runs (R29). -/
def Fbc.Paused (f : Fbc) (e : TxEntry) : Prop := ∃ n : Fin 64, n.val = e.target ∧ f.pauses.get n ≠ 0

theorem isPaused_iff (f : Fbc) (e : TxEntry) : f.isPaused e.target = true ↔ f.Paused e := by
  unfold Fbc.isPaused Fbc.Paused
  split
  next i h =>
    rewrite [index_eq_some] at h
    refine ⟨fun hp => ⟨i, h, by simpa using hp⟩, ?_⟩
    rintro ⟨n, hn, hp⟩
    obtain rfl : n = i := Fin.ext (hn.trans h.symm)
    simpa using hp
  next h =>
    rewrite [index_none] at h
    refine ⟨fun hp => absurd hp Bool.false_ne_true, ?_⟩
    rintro ⟨n, hn, -⟩
    omega

theorem eligibleIn_none {f : Fbc} {q : List TxEntry} (h : ∀ e ∈ q, f.Paused e) : f.eligibleIn q = none :=
  List.find?_eq_none.mpr fun e he => by simp [(isPaused_iff f e).mpr (h e he)]

theorem eligibleIn_first {f : Fbc} {before after : List TxEntry} {e : TxEntry} (h : ∀ x ∈ before, f.Paused x) (he : ¬ f.Paused e) :
    f.eligibleIn (before ++ e :: after) = some e := by
  refine List.find?_eq_some_iff_append.mpr ⟨?_, before, after, rfl, fun x hx => ?_⟩
  · simpa using mt (isPaused_iff f e).mp he
  · simpa using (isPaused_iff f x).mpr (h x hx)

theorem erase_first {before after : List TxEntry} {e : TxEntry} {P : TxEntry → Prop} (h : ∀ x ∈ before, P x) (he : ¬ P e) :
    (before ++ e :: after).erase e = before ++ after := by
  rw [List.erase_append_right _ fun hm => he (h e hm), List.erase_cons_head]

/-- What R22, R23 and R41 ask for an own frame to start. -/
def State.Allowed (s : State) : Prop :=
  s.phase = .run ∧ s.busState ≠ .isolated ∧ s.fbc.handOver = .owned ∧ s.fbc.testMode ≠ .listen ∧ s.fbc.inFlight = none

theorem allowed_iff : (s.mayStart && s.fbc.inFlight.isNone) = true ↔ s.Allowed := by
  simp [State.mayStart, State.maySend, State.Allowed, and_assoc]

theorem startFrame_refused (h : ¬ s.Allowed) : s.startFrame = s := if_neg fun ha => h (allowed_iff.mp ha)

theorem startFrame_none (h : s.fbc.eligible = none) : s.startFrame = s := by
  unfold State.startFrame
  split
  · rw [h]
  · rfl

theorem startFrame_some {e : TxEntry} {protect : Bool} (ha : s.Allowed) (h : s.fbc.eligible = some (e, protect)) :
    s.startFrame = { s with fbc := s.fbc.launch e protect } := by
  unfold State.startFrame
  rw [if_pos (allowed_iff.mpr ha), h]

theorem eligible_of_protect {f : Fbc} {e : TxEntry} (h : f.eligibleIn f.txProtect = some e) : f.eligible = some (e, true) := by
  simp only [Fbc.eligible, h]

theorem eligible_of_ordinary {f : Fbc} {e : TxEntry} (hp : f.eligibleIn f.txProtect = none)
    (h : f.eligibleIn f.txOrdinary = some e) : f.eligible = some (e, false) := by
  simp only [Fbc.eligible, hp, h]

theorem eligible_none {f : Fbc} (hp : f.eligibleIn f.txProtect = none) (h : f.eligibleIn f.txOrdinary = none) : f.eligible = none := by
  simp only [Fbc.eligible, hp, h]

end BusStates

/-- Settles O36: BUS_RELEASE, BUS_RECLAIM, BUS_TEST, and the two edges of HAND. -/
theorem busHandOver : Obligations.BusHandOver := by
  unfold Obligations.BusHandOver
  refine ⟨fun tag s h => ⟨fun hl => ?_, fun hl => ?_⟩, fun tag s h => ⟨fun hl => ?_, fun hl hk => ?_, fun hl hr hh => ?_⟩,
    fun tag m s h => exec_busTest h, fun s live => ⟨fun hh => ?_, fun hh => ?_⟩,
    fun s live => ⟨fun hh => ?_, fun hh hk => ?_, fun hh hr hl => ?_⟩⟩
  · rw [exec_busRelease h, State.linkHold, if_pos hl]
  · rewrite [exec_busRelease h, State.linkHold, if_neg (by simp [hl]), setFbc_begun { s.fbc with linkRequest := true } rfl]
    rfl
  · rewrite [exec_busReclaim h, hl]
    rfl
  · rw [exec_busReclaim_held h hl, State.linkLetGo, setFbc_letGo_kept { s.fbc with linkRequest := false } rfl (hk.imp_right fun hh => by simp [Fbc.requested, hh])]
  · exact ⟨_, exec_busReclaim_held h hl, setFbc_letGo_released { s.fbc with linkRequest := false } rfl hr (by simp [Fbc.requested, hh])⟩
  · exact (exec_handAsserted live).trans (congrArg Host.Outcome.next (sampleHand_same (s := s.handAt true) hh))
  · exact (exec_handAsserted live).trans (congrArg Host.Outcome.next (sampleHand_begins (s := s.handAt true) hh))
  · exact (exec_handDeasserted live).trans (congrArg Host.Outcome.next (sampleHand_same (s := s.handAt false) hh))
  · refine (exec_handDeasserted live).trans (congrArg Host.Outcome.next ((sampleHand_ends (s := s.handAt false) hh).trans ?_))
    exact (setFbc_letGo_kept (s := s.handAt false) { s.fbc with hand := false } rfl
      (hk.imp_right fun hl => by simp [Fbc.requested, hl]))
  · refine ⟨_, (exec_handDeasserted live).trans (congrArg Host.Outcome.next (sampleHand_ends (s := s.handAt false) hh)), ?_⟩
    exact setFbc_letGo_released (s := s.handAt false) { s.fbc with hand := false } rfl hr (by simp [Fbc.requested, hl])

/-- Settles O41: idle periods outside ISOLATED, before the 64th, and the 64th. -/
theorem busRecovery : Obligations.BusRecovery := by
  intro s live
  have leave : exec .isolatedRecovery s = .next s.leaveIsolated := congrArg Host.Outcome.next (event_live live _)
  have idle : exec .idlePeriod s = .next s.idlePeriod := congrArg Host.Outcome.next (event_live live _)
  rewrite [leave, idle]
  refine ⟨fun h => ?_, fun h => ⟨fun hp => ?_, fun hp => ?_⟩⟩
  · rewrite [idlePeriod_outside h, leaveIsolated_stays fun h' => absurd h' h]
    exact ⟨rfl, rfl⟩
  · rewrite [idlePeriod_counts h hp, leaveIsolated_stays fun _ => hp]
    exact ⟨rfl, rfl⟩
  · rewrite [idlePeriod_last h hp, leaveIsolated_recovers h hp]
    exact ⟨s.recover, _, rfl, rfl, rfl, rfl, heldTest_tested _⟩

/-- Settles O38: no frame while it is not allowed or every target is paused, else the first eligible entry's; and a pause's end. -/
theorem frameStart : Obligations.FrameStart := by
  refine ⟨fun s live => ?_, fun n s live => ?_⟩
  · have start : exec .frameStart s = .next s.startFrame := congrArg Host.Outcome.next (event_live live _)
    rewrite [start]
    refine ⟨fun h => ?_, fun h => ?_, fun before e after ha hq hb he => ?_, fun before e after ha hp hq hb he => ?_⟩
    · rw [startFrame_refused h]
    · have hp := eligibleIn_none fun e he => h e (List.mem_append_left _ he)
      have ho := eligibleIn_none fun e he => h e (List.mem_append_right _ he)
      rw [startFrame_none (eligible_none hp ho)]
    · have hf : s.fbc.eligibleIn s.fbc.txProtect = some e := by
        rewrite [hq]
        exact eligibleIn_first hb he
      rewrite [startFrame_some ha (eligible_of_protect hf)]
      simp only [Fbc.launch, hq, if_true, erase_first hb he]
    · have hf : s.fbc.eligibleIn s.fbc.txOrdinary = some e := by
        rewrite [hq]
        exact eligibleIn_first hb he
      rewrite [startFrame_some ha (eligible_of_ordinary (eligibleIn_none hp) hf)]
      simp only [Fbc.launch, hq, Bool.false_eq_true, if_false, erase_first hb he]
  · have index : index 64 n.val = some n := index_val n
    refine Eq.trans (b := onIndex 64 n.val fun n => .next (s.event (State.expirePause n))) rfl ?_
    simp only [onIndex, index, event_live live]
    rfl

/-! PROOF. Frames on the line: a frame of another node, and an own frame's end (R21 to R24, R27, R30, R31, R33, R34, R36, R37, R41). -/

/-! ### What a count leaves alone -/

section Count

variable (f : Fbc) (held : Bool) (c : Counter)

@[simp] theorem Fbc.count_txe : (f.count held c).txe = f.txe := by unfold Fbc.count; split <;> rfl
@[simp] theorem Fbc.count_rxe : (f.count held c).rxe = f.rxe := by unfold Fbc.count; split <;> rfl
@[simp] theorem Fbc.count_idlePeriods : (f.count held c).idlePeriods = f.idlePeriods := by unfold Fbc.count; split <;> rfl
@[simp] theorem Fbc.count_handOver : (f.count held c).handOver = f.handOver := by unfold Fbc.count; split <;> rfl
@[simp] theorem Fbc.count_hand : (f.count held c).hand = f.hand := by unfold Fbc.count; split <;> rfl
@[simp] theorem Fbc.count_linkRequest : (f.count held c).linkRequest = f.linkRequest := by unfold Fbc.count; split <;> rfl
@[simp] theorem Fbc.count_testMode : (f.count held c).testMode = f.testMode := by unfold Fbc.count; split <;> rfl
@[simp] theorem Fbc.count_address : (f.count held c).address = f.address := by unfold Fbc.count; split <;> rfl
@[simp] theorem Fbc.count_bitRate : (f.count held c).bitRate = f.bitRate := by unfold Fbc.count; split <;> rfl
@[simp] theorem Fbc.count_acked : (f.count held c).acked = f.acked := by unfold Fbc.count; split <;> rfl
@[simp] theorem Fbc.count_rxQueue : (f.count held c).rxQueue = f.rxQueue := by unfold Fbc.count; split <;> rfl
@[simp] theorem Fbc.count_txProtect : (f.count held c).txProtect = f.txProtect := by unfold Fbc.count; split <;> rfl
@[simp] theorem Fbc.count_txOrdinary : (f.count held c).txOrdinary = f.txOrdinary := by unfold Fbc.count; split <;> rfl
@[simp] theorem Fbc.count_inFlight : (f.count held c).inFlight = f.inFlight := by unfold Fbc.count; split <;> rfl
@[simp] theorem Fbc.count_pauses : (f.count held c).pauses = f.pauses := by unfold Fbc.count; split <;> rfl

end Count

section BusFigures

variable {s t u : State} {cs ds : List Counter}

theorem BusEvent.holdsCounts (h : BusEvent s t) : t.holdsCounts = s.holdsCounts := by
  simp only [State.holdsCounts, h.link.assembly]

theorem Counted.none (h1 : t.fbc.counters = s.fbc.counters) (h2 : t.fbc.tallies = s.fbc.tallies) : Counted [] s t := by
  intro c
  simp [h1, h2]

/-- Events one after the other count what each counts, when they count different things. -/
theorem Counted.trans (h : Counted cs s u) (k : Counted ds u t) (hh : u.holdsCounts = s.holdsCounts) (hd : ∀ c ∈ cs, c ∉ ds) :
    Counted (cs ++ ds) s t := by
  intro c
  obtain ⟨h1, h2⟩ := h c
  obtain ⟨k1, k2⟩ := k c
  rewrite [k1, k2, h1, h2, hh]
  by_cases hc : c ∈ cs
  · simp [hc, hd c hc]
  · simp [hc]

theorem Counted.congr (h : Counted cs s t) (e : ∀ c, c ∈ cs ↔ c ∈ ds) : Counted ds s t := by
  intro c
  simpa only [e] using h c

/-- A count behind others of which it is none. -/
theorem Counted.count (h : Counted cs s u) (e : BusEvent s u) {c : Counter} (hc : c ∉ cs) : Counted (cs ++ [c]) s (u.count c) :=
  h.trans (count_counted c u) e.holdsCounts fun _ hd hm => hc (List.mem_singleton.mp hm ▸ hd)

/-- A step that counts nothing behind others. -/
theorem Counted.quiet (h : Counted cs s u) (e : BusEvent s u) (h1 : t.fbc.counters = u.fbc.counters) (h2 : t.fbc.tallies = u.fbc.tallies) :
    Counted cs s t := by
  simpa using h.trans (Counted.none h1 h2) e.holdsCounts fun _ _ => List.not_mem_nil

/-! ### The BUS notices (R36) -/

/-- The link and the error counters stay. -/
structure ErrorsKept (s t : State) : Prop where
  cfg : t.cfg = s.cfg
  scu : t.scu = s.scu
  lnk : t.lnk = s.lnk
  txe : t.fbc.txe = s.fbc.txe
  rxe : t.fbc.rxe = s.fbc.rxe

/-- The event queued the BUS notices of its change of the error counters, and no other. -/
structure BusNoticed (s t : State) : Prop where
  cfg : t.cfg = s.cfg
  scu : t.scu = s.scu
  lnk : t.lnk = s.offered (busChanges s t)

theorem ErrorsKept.trans (h : ErrorsKept s u) (k : ErrorsKept u t) : ErrorsKept s t :=
  ⟨k.cfg.trans h.cfg, k.scu.trans h.scu, k.lnk.trans h.lnk, k.txe.trans h.txe, k.rxe.trans h.rxe⟩

/-- The notices of a change of the error counters, from `a` and `b` to `a'` and `b'`, at a warning level. -/
def errorNotices (level a b a' b' : Nat) : List Offer :=
  Offer.when (a < level ∧ level ≤ a') .bus 1 a' ++ Offer.when (b < level ∧ level ≤ b') .bus 2 b' ++
    Offer.when (busStateOf a b ≠ busStateOf a' b') .bus 0 (codeOf busStates (busStateOf a' b'))

theorem busChanges_eq (s t : State) : busChanges s t = errorNotices s.cfg.bus.warning s.fbc.txe s.fbc.rxe t.fbc.txe t.fbc.rxe := rfl

theorem offered_same {ns : List Offer} (h1 : t.cfg = s.cfg) (h2 : t.scu = s.scu) (h3 : t.lnk = s.lnk) : t.offered ns = s.offered ns := by
  simp only [State.offered, h1, h2, h3]

theorem BusNoticed.before (h : ErrorsKept s u) (k : BusNoticed u t) : BusNoticed s t := by
  refine ⟨k.cfg.trans h.cfg, k.scu.trans h.scu, k.lnk.trans ?_⟩
  rw [offered_same h.cfg h.scu h.lnk, busChanges_eq, busChanges_eq, h.cfg, h.txe, h.rxe]

theorem BusNoticed.after (h : BusNoticed s u) (k : ErrorsKept u t) : BusNoticed s t := by
  refine ⟨k.cfg.trans h.cfg, k.scu.trans h.scu, (k.lnk.trans h.lnk).trans ?_⟩
  rw [busChanges_eq, busChanges_eq, k.txe, k.rxe]

theorem setErrors_txe (a b : Nat) (s : State) : (s.setErrors a b).fbc.txe = a := by rw [setErrors_fbc]

theorem setErrors_rxe (a b : Nat) (s : State) : (s.setErrors a b).fbc.rxe = b := by rw [setErrors_fbc]

/-- Three notices one after the other. -/
theorem noticesIf_lnk (c1 c2 c3 : Bool) (k1 k2 k3 : NoticeKind) (x1 x2 x3 : Nat) (v1 v2 v3 : Int) :
    (((s.noticeIf c1 k1 x1 v1).noticeIf c2 k2 x2 v2).noticeIf c3 k3 x3 v3).lnk =
      s.offered (Offer.when (c1 = true) k1 x1 v1 ++ Offer.when (c2 = true) k2 x2 v2 ++ Offer.when (c3 = true) k3 x3 v3) := by
  have e1 := (noticeIf_event c1 k1 x1 v1 s).inner.setup
  have e2 := e1.trans (noticeIf_event c2 k2 x2 v2 (s.noticeIf c1 k1 x1 v1)).inner.setup
  have h2 := (noticeIf_lnk c2 k2 x2 v2 (s.noticeIf c1 k1 x1 v1)).trans (offered_append e1.cfg e1.scu (noticeIf_lnk c1 k1 x1 v1 s))
  exact (noticeIf_lnk ..).trans (offered_append e2.cfg e2.scu h2)

theorem setErrors_noticed (a b : Nat) (s : State) : BusNoticed s (s.setErrors a b) := by
  refine ⟨(setErrors_bus a b s).setup.cfg, (setErrors_bus a b s).setup.scu, ?_⟩
  have hx := setErrors_txe a b s
  have hr := setErrors_rxe a b s
  rewrite [busChanges_eq, hx, hr]
  let s1 : State := { s with fbc := { s.fbc with
    txe := a, rxe := b, idlePeriods := if s.busState = busStateOf a b then s.fbc.idlePeriods else 0 } }
  exact (noticesIf_lnk (s := s1) ..).trans (congrArg s.offered (by simp [errorNotices, Offer.when, State.busState]))

/-- Error counters that fall one behind the other, of which at most one changes the bus state. -/
theorem BusNoticed.trans_falling (h : BusNoticed s u) (k : BusNoticed u t) (htx : u.fbc.txe ≤ s.fbc.txe) (hrx : u.fbc.rxe ≤ s.fbc.rxe)
    (ktx : t.fbc.txe ≤ u.fbc.txe) (krx : t.fbc.rxe ≤ u.fbc.rxe) (hb : s.busState = u.busState ∨ u.busState = t.busState) :
    BusNoticed s t := by
  refine ⟨k.cfg.trans h.cfg, k.scu.trans h.scu, k.lnk.trans ?_⟩
  rewrite [offered_append h.cfg h.scu h.lnk]
  have none_rises {a b l : Nat} {x : Nat} (hab : b ≤ a) : Offer.when (a < l ∧ l ≤ b) .bus x b = [] := if_neg (by omega)
  simp only [busChanges, none_rises htx, none_rises hrx, none_rises ktx, none_rises krx, none_rises (ktx.trans htx),
    none_rises (krx.trans hrx), List.nil_append]
  rcases hb with hb | hb
  · simp [Offer.when, hb]
  · simp [Offer.when, ← hb]

/-! ### What reception leaves alone -/

/-- Reception changes RXE, the idle-period count, the acknowledge, the receive queue, the pause timers and the counters alone. -/
structure Heard (s t : State) : Prop where
  event : BusEvent s t
  bus : ∃ rxe idle acked queue pauses counters tallies, t.fbc = { s.fbc with
    rxe := rxe, idlePeriods := idle, acked := acked, rxQueue := queue, pauses := pauses, counters := counters, tallies := tallies }

theorem Heard.of_fbc {f : Fbc} (h : ∃ rxe idle acked queue pauses counters tallies, f = { s.fbc with
    rxe := rxe, idlePeriods := idle, acked := acked, rxQueue := queue, pauses := pauses, counters := counters, tallies := tallies }) :
    Heard s { s with fbc := f } := ⟨setFbcFields_bus s f, h⟩

theorem Heard.refl (s : State) : Heard s s := .of_fbc ⟨_, _, _, _, _, _, _, rfl⟩

theorem Heard.trans (h : Heard s u) (k : Heard u t) : Heard s t := by
  obtain ⟨a, b, c, d, e, f, g, hb⟩ := h.bus
  obtain ⟨a', b', c', d', e', f', g', kb⟩ := k.bus
  exact ⟨h.event.trans k.event, a', b', c', d', e', f', g', by rw [kb, hb]⟩

/-- What reception leaves alone, figure by figure. -/
structure SendingKept (f g : Fbc) : Prop where
  txe : g.txe = f.txe
  txProtect : g.txProtect = f.txProtect
  txOrdinary : g.txOrdinary = f.txOrdinary
  inFlight : g.inFlight = f.inFlight
  handOver : g.handOver = f.handOver
  testMode : g.testMode = f.testMode
  address : g.address = f.address
  bitRate : g.bitRate = f.bitRate

theorem Heard.sending (h : Heard s t) : SendingKept s.fbc t.fbc := by
  obtain ⟨_, _, _, _, _, _, _, hb⟩ := h.bus
  rewrite [hb]
  exact ⟨rfl, rfl, rfl, rfl, rfl, rfl, rfl, rfl⟩

theorem count_heard (c : Counter) (s : State) : Heard s (s.count c) := by
  refine .of_fbc ?_
  unfold Fbc.count
  split
  · exact ⟨_, _, _, _, _, _, _, rfl⟩
  · exact ⟨_, _, _, _, _, _, _, rfl⟩

theorem setRxe_heard (b : Nat) (s : State) : Heard s (s.setErrors s.fbc.txe b) :=
  ⟨setErrors_bus .., _, _, _, _, _, _, _, setErrors_fbc ..⟩

theorem offerReading_heard (f : BusFrame) (s : State) : Heard s (s.offerReading f) := by
  unfold State.offerReading
  split
  · exact .of_fbc ⟨_, _, _, _, _, _, _, rfl⟩
  · exact count_heard _ s

theorem pause_heard (node : Nat) (v : Int) (s : State) : Heard s { s with fbc := s.fbc.pause node v } := by
  refine .of_fbc ?_
  unfold Fbc.pause
  split
  · exact ⟨_, _, _, _, _, _, _, rfl⟩
  · exact ⟨_, _, _, _, _, _, _, rfl⟩

theorem sortFrame_heard (f : BusFrame) (s : State) : Heard s (s.sortFrame f) := by
  unfold State.sortFrame
  split
  · exact (pause_heard ..).trans (count_heard ..)
  · split
    · exact (count_heard ..).trans (offerReading_heard ..)
    · exact count_heard ..
  · exact .refl s
  · exact .refl s

/-- A good frame taken, before its target and kind are looked at (R33, R42). -/
def State.goodTaken (s : State) : State := (s.count .rxGood).rxGood

theorem goodFrame_eq (f : BusFrame) (s : State) :
    s.goodFrame f = if f.target == s.fbc.address || f.target == 63 then s.goodTaken.sortFrame f else s.goodTaken := rfl

theorem goodTaken_heard (s : State) : Heard s s.goodTaken := (count_heard ..).trans (setRxe_heard ..)

theorem goodFrame_heard (f : BusFrame) (s : State) : Heard s (s.goodFrame f) := by
  rewrite [goodFrame_eq]
  split
  · exact (goodTaken_heard s).trans (sortFrame_heard ..)
  · exact goodTaken_heard s

/-- The acknowledge slot driven or not. -/
def State.withAcked (b : Bool) (s : State) : State := { s with fbc := { s.fbc with acked := b } }

theorem receiveFrame_good {bits : List Bool} {f : BusFrame} (h : receiveBits bits = some f) :
    s.receiveFrame bits = (s.withAcked s.mayAcknowledge).goodFrame f := by
  simp only [State.receiveFrame, h]
  rfl

theorem receiveFrame_bad {bits : List Bool} (h : receiveBits bits = none) :
    s.receiveFrame bits = ((s.withAcked false).count .rxCheck).rxError := by
  simp only [State.receiveFrame, h]
  rfl

theorem withAcked_heard (b : Bool) (s : State) : Heard s (s.withAcked b) := .of_fbc ⟨_, _, _, _, _, _, _, rfl⟩

theorem receiveFrame_heard (bits : List Bool) (s : State) : Heard s (s.receiveFrame bits) := by
  cases h : receiveBits bits with
  | some f =>
    rewrite [receiveFrame_good h]
    exact (withAcked_heard ..).trans (goodFrame_heard ..)
  | none =>
    rewrite [receiveFrame_bad h]
    exact ((withAcked_heard ..).trans (count_heard ..)).trans (setRxe_heard ..)

/-! ### The notices of a reception -/

theorem ErrorsKept.of_fbc {f : Fbc} (h1 : f.txe = s.fbc.txe) (h2 : f.rxe = s.fbc.rxe) : ErrorsKept s { s with fbc := f } :=
  ⟨rfl, rfl, rfl, h1, h2⟩

theorem ErrorsKept.refl (s : State) : ErrorsKept s s := ⟨rfl, rfl, rfl, rfl, rfl⟩

theorem count_errors (c : Counter) (s : State) : ErrorsKept s (s.count c) := .of_fbc (by simp) (by simp)

theorem sortFrame_errors (f : BusFrame) (s : State) : ErrorsKept s (s.sortFrame f) := by
  have hoffer (x : State) : ErrorsKept x (x.offerReading f) := by
    unfold State.offerReading
    split
    · exact .of_fbc rfl rfl
    · exact count_errors _ x
  have hpause : ErrorsKept s { s with fbc := s.fbc.pause f.source f.value } := by
    refine .of_fbc ?_ ?_ <;> unfold Fbc.pause <;> split <;> rfl
  unfold State.sortFrame
  split
  · exact hpause.trans (count_errors ..)
  · split
    · exact (count_errors ..).trans (hoffer _)
    · exact count_errors ..
  · exact .refl s
  · exact .refl s

theorem goodTaken_noticed (s : State) : BusNoticed s s.goodTaken := .before (count_errors ..) (setErrors_noticed ..)

theorem goodFrame_noticed (f : BusFrame) (s : State) : BusNoticed s (s.goodFrame f) := by
  rewrite [goodFrame_eq]
  split
  · exact (goodTaken_noticed s).after (sortFrame_errors ..)
  · exact goodTaken_noticed s

theorem receiveFrame_noticed (bits : List Bool) (s : State) : BusNoticed s (s.receiveFrame bits) := by
  have hacked (b : Bool) : ErrorsKept s (s.withAcked b) := .of_fbc rfl rfl
  cases h : receiveBits bits with
  | some f =>
    rewrite [receiveFrame_good h]
    exact .before (hacked _) (goodFrame_noticed ..)
  | none =>
    rewrite [receiveFrame_bad h]
    exact .before ((hacked _).trans (count_errors ..)) (setErrors_noticed ..)

/-! ### A good frame by its target and kind (R24, R25, R27, R31) -/

theorem goodTaken_rxe (s : State) : s.goodTaken.fbc.rxe = s.fbc.rxe - 1 := by
  simp [State.goodTaken, State.rxGood, setErrors_fbc]

theorem goodTaken_rxQueue (s : State) : s.goodTaken.fbc.rxQueue = s.fbc.rxQueue := by
  simp [State.goodTaken, State.rxGood, setErrors_fbc]

theorem goodTaken_pauses (s : State) : s.goodTaken.fbc.pauses = s.fbc.pauses := by
  simp [State.goodTaken, State.rxGood, setErrors_fbc]

theorem goodTaken_acked (s : State) : s.goodTaken.fbc.acked = s.fbc.acked := by
  simp [State.goodTaken, State.rxGood, setErrors_fbc]

theorem setErrors_counted (a b : Nat) (h : Counted cs s u) (e : BusEvent s u) : Counted cs s (u.setErrors a b) :=
  h.quiet e (by rw [setErrors_fbc]) (by rw [setErrors_fbc])

theorem goodTaken_counted (s : State) : Counted [.rxGood] s s.goodTaken :=
  setErrors_counted _ _ (count_counted .rxGood s) (count_bus ..)

/-- A READING for the part, by the windows (R25, R27). -/
structure ReadingSorted (f : BusFrame) (s t : State) : Prop where
  pauses : t.fbc.pauses = s.fbc.pauses
  rejected : s.accepts f.source f.point = false → Counted [.rxGood, .rxRejected] s t ∧ t.fbc.rxQueue = s.fbc.rxQueue
  queued : s.accepts f.source f.point = true → s.fbc.rxQueue.length < 8 → Counted [.rxGood, .rxAccepted] s t ∧
    t.fbc.rxQueue = s.fbc.rxQueue ++ [⟨f.source, f.point, .reading, f.value, s.scu.clock⟩]
  full : s.accepts f.source f.point = true → 8 ≤ s.fbc.rxQueue.length →
    Counted [.rxGood, .rxAccepted, .rxOverrun] s t ∧ t.fbc.rxQueue = s.fbc.rxQueue

theorem sortFrame_reading {f : BusFrame} (hk : f.kind = .reading) : ReadingSorted f s (s.goodTaken.sortFrame f) := by
  have hc := goodTaken_counted s
  have he := (goodTaken_heard s).event
  have hq := goodTaken_rxQueue s
  have hp := goodTaken_pauses s
  have hscu := he.setup.scu
  have hacc : s.goodTaken.accepts f.source f.point = s.accepts f.source f.point := by
    simp only [State.accepts, he.setup.cfg]
  have hsort : s.goodTaken.sortFrame f = if s.accepts f.source f.point then (s.goodTaken.count .rxAccepted).offerReading f
      else s.goodTaken.count .rxRejected := by
    simp only [State.sortFrame, hk, hacc]
  rewrite [hsort]
  generalize s.goodTaken = g at hc he hq hp hscu
  have haccepted : Counted [.rxGood, .rxAccepted] s (g.count .rxAccepted) := hc.count he (by decide)
  cases ha : s.accepts f.source f.point with
  | false =>
    refine ⟨by simpa using hp, fun _ => ⟨hc.count he (by decide), by simpa using hq⟩, fun h => ?_, fun h => ?_⟩ <;>
      exact absurd (ha.symm.trans h) Bool.false_ne_true
  | true =>
    have hlen : (g.count .rxAccepted).fbc.rxQueue = s.fbc.rxQueue := by simpa using hq
    by_cases hr : s.fbc.rxQueue.length < 8
    · have ht : (g.count .rxAccepted).offerReading f = { g.count .rxAccepted with fbc := { (g.count .rxAccepted).fbc with
          rxQueue := s.fbc.rxQueue ++ [⟨f.source, f.point, .reading, f.value, s.scu.clock⟩] } } := by
        unfold State.offerReading
        rewrite [hlen, if_pos hr, hk, ← hscu]
        rfl
      simp only [if_true, ht]
      exact ⟨by simpa using hp, fun h => absurd (ha.symm.trans h) (by decide),
        fun _ _ => ⟨haccepted.quiet (he.trans (count_bus ..)) rfl rfl, rfl⟩, fun _ h => absurd hr (Nat.not_lt.mpr h)⟩
    · have ht : (g.count .rxAccepted).offerReading f = (g.count .rxAccepted).count .rxOverrun := by
        unfold State.offerReading
        rw [hlen, if_neg hr]
      simp only [if_true, ht]
      exact ⟨by simpa using hp, fun h => absurd (ha.symm.trans h) (by decide), fun _ h => absurd h hr,
        fun _ _ => ⟨haccepted.count (he.trans (count_bus ..)) (by decide), by simpa using hq⟩⟩

theorem pause_get (f : Fbc) (node : Nat) (v : Int) (n : Fin 64) :
    (f.pause node v).pauses.get n = if n.val = node then v.toNat else f.pauses.get n := by
  unfold Fbc.pause
  split
  next i h =>
    rewrite [index_eq_some] at h
    by_cases hn : n = i
    · simp [hn, h]
    · rw [Table.get_set_ne _ (Ne.symm hn), if_neg fun e => hn (Fin.ext (e.trans h.symm))]
  next h =>
    rewrite [index_none] at h
    rw [if_neg (by omega)]

theorem pause_rest (f : Fbc) (node : Nat) (v : Int) :
    (f.pause node v).rxQueue = f.rxQueue ∧ (f.pause node v).counters = f.counters ∧ (f.pause node v).tallies = f.tallies := by
  unfold Fbc.pause
  split <;> exact ⟨rfl, rfl, rfl⟩

/-- A PAUSE for the part sets its source's pause timer (R31). -/
theorem sortFrame_pause {f : BusFrame} (hk : f.kind = .pause) :
    let t := s.goodTaken.sortFrame f
    Counted [.rxGood, .pauses] s t ∧ t.fbc.rxQueue = s.fbc.rxQueue ∧
      ∀ n : Fin 64, t.fbc.pauses.get n = if n.val = f.source then f.value.toNat else s.fbc.pauses.get n := by
  have hsort : s.goodTaken.sortFrame f =
      ({ s.goodTaken with fbc := s.goodTaken.fbc.pause f.source f.value } : State).count .pauses := by
    simp only [State.sortFrame, hk]
  have he := (goodTaken_heard s).event
  obtain ⟨hqueue, hcounters, htallies⟩ := pause_rest s.goodTaken.fbc f.source f.value
  intro t
  simp only [t, hsort]
  refine ⟨?_, ?_, fun n => ?_⟩
  · exact ((goodTaken_counted s).quiet he hcounters htallies).count (he.trans (setFbcFields_bus ..)) (by decide)
  · simpa [goodTaken_rxQueue] using hqueue
  · simp [pause_get, goodTaken_pauses]

/-- A COMMAND or POLL for the part asks nothing of it (R24). -/
theorem sortFrame_other {f : BusFrame} (hk : f.kind = .command ∨ f.kind = .poll) : s.sortFrame f = s := by
  rcases hk with hk | hk <;> simp only [State.sortFrame, hk]

theorem goodFrame_mine {f : BusFrame} (h : f.target = s.fbc.address ∨ f.target = 63) : s.goodFrame f = s.goodTaken.sortFrame f := by
  rw [goodFrame_eq, if_pos (by simpa using h)]

theorem goodFrame_other {f : BusFrame} (h1 : f.target ≠ s.fbc.address) (h2 : f.target ≠ 63) : s.goodFrame f = s.goodTaken := by
  rw [goodFrame_eq, if_neg (by simp [h1, h2])]

theorem sortFrame_figures (f : BusFrame) (s : State) : (s.sortFrame f).fbc.rxe = s.fbc.rxe ∧ (s.sortFrame f).fbc.acked = s.fbc.acked := by
  have hoffer (x : State) : (x.offerReading f).fbc.acked = x.fbc.acked := by
    unfold State.offerReading
    split <;> simp
  have hpause (g : Fbc) : (g.pause f.source f.value).acked = g.acked := by
    unfold Fbc.pause
    split <;> rfl
  refine ⟨(sortFrame_errors f s).rxe, ?_⟩
  unfold State.sortFrame
  split
  · simp [hpause]
  · split <;> simp [hoffer]
  · rfl
  · rfl

theorem goodFrame_figures (f : BusFrame) (s : State) :
    (s.goodFrame f).fbc.rxe = s.fbc.rxe - 1 ∧ (s.goodFrame f).fbc.acked = s.fbc.acked := by
  rewrite [goodFrame_eq]
  split
  · rewrite [(sortFrame_figures f _).1, (sortFrame_figures f _).2, goodTaken_rxe, goodTaken_acked]
    exact ⟨rfl, rfl⟩
  · exact ⟨goodTaken_rxe s, goodTaken_acked s⟩

theorem mayAcknowledge_iff (s : State) : s.mayAcknowledge = true ↔
    s.phase = .run ∧ s.busState ≠ .isolated ∧ s.fbc.handOver = .owned ∧ s.fbc.testMode = .normal := by
  simp [State.mayAcknowledge, State.maySend, and_assoc]

theorem onLine_false (h : ∀ x, s.fbc.inFlight = some x → x.looped = true) : s.fbc.onLine = false := by
  unfold Fbc.onLine
  split
  next x hx => simp [h x hx]
  next => rfl

theorem endFrame_received (bits : List Bool) (h : ∀ x, s.fbc.inFlight = some x → x.looped = true) :
    s.endFrame bits = (s.receiveFrame bits).applyLine := if_neg (by simp [onLine_false h])

end BusFigures

/-- Settles O37: a frame with an error, and a good one by its target and kind. -/
theorem frameReceived : Obligations.FrameReceived := by
  intro bits s live hflight
  have ht : exec (.frameReceived bits) s = .next (s.receiveFrame bits).applyLine :=
    congrArg Host.Outcome.next ((event_live live _).trans (endFrame_received bits hflight))
  have hheard := receiveFrame_heard bits s
  have hnotice := (receiveFrame_noticed bits s).after (t := (s.receiveFrame bits).applyLine) (.of_fbc rfl rfl)
  have hcfg := hheard.event.setup.cfg
  refine ⟨_, ht, hheard.event.trans (setFbcFields_bus ..), hnotice.lnk, ?_⟩
  have hkept := hheard.sending
  refine ⟨hkept.txe, hkept.txProtect, hkept.txOrdinary, hkept.inFlight, hkept.handOver, hkept.testMode,
    congrArg (·.bus.ownAddress) hcfg, congrArg (·.bus.bitRate) hcfg, ?_, ?_⟩
  · intro hbits
    have hbad := receiveFrame_bad (s := s) hbits
    have hcounted : Counted [.rxCheck] s (s.receiveFrame bits) := by
      rewrite [hbad]
      exact setErrors_counted (s := s.withAcked false) _ _ (count_counted .rxCheck _) (count_bus ..)
    have hfbc : (s.receiveFrame bits).fbc.rxe = min 255 (s.fbc.rxe + 1) ∧ (s.receiveFrame bits).fbc.acked = false ∧
        (s.receiveFrame bits).fbc.rxQueue = s.fbc.rxQueue ∧ (s.receiveFrame bits).fbc.pauses = s.fbc.pauses := by
      rewrite [hbad]
      simp [State.rxError, setErrors_fbc, State.withAcked]
    exact ⟨hcounted, hfbc⟩
  · intro f hbits
    have hgood := receiveFrame_good (s := s) hbits
    obtain ⟨hrxe, hacked⟩ := goodFrame_figures f (s.withAcked s.mayAcknowledge)
    rewrite [← hgood] at hrxe hacked
    refine ⟨hrxe, ?_, fun h1 h2 => ?_, fun hmine => ⟨fun hk => ?_, fun hk => ?_, fun hk => ?_⟩⟩
    · rewrite [← mayAcknowledge_iff]
      exact Bool.eq_iff_iff.mp hacked
    · rewrite [hgood, goodFrame_other (s := s.withAcked s.mayAcknowledge) h1 h2]
      exact ⟨goodTaken_counted (s.withAcked s.mayAcknowledge), goodTaken_rxQueue _, goodTaken_pauses _⟩
    · rewrite [hgood, goodFrame_mine (s := s.withAcked s.mayAcknowledge) hmine, sortFrame_other hk]
      exact ⟨goodTaken_counted (s.withAcked s.mayAcknowledge), goodTaken_rxQueue _, goodTaken_pauses _⟩
    · rewrite [hgood, goodFrame_mine (s := s.withAcked s.mayAcknowledge) hmine]
      exact sortFrame_pause (s := s.withAcked s.mayAcknowledge) hk
    · rewrite [hgood, goodFrame_mine (s := s.withAcked s.mayAcknowledge) hmine]
      have hr := sortFrame_reading (s := s.withAcked s.mayAcknowledge) hk
      exact ⟨hr.pauses, hr.rejected, hr.queued, hr.full⟩

/-! PROOF. How an own frame ends (R21, R30, R33, R36, R37, R41, R172). -/

section OwnFrames

variable {s t u : State} {x : InFlight}

/-! ### The hand-over at the end of an own frame (R37) -/

/-- The hand-over state after the end of an own frame. -/
def Fbc.ended (f : Fbc) : HandOver :=
  if f.handOver = .releasePending then (if f.hand = true ∨ f.linkRequest = true then .released else .owned) else f.handOver

theorem frameEnded_eq (f : Fbc) : f.frameEnded = { f with handOver := f.ended } := by
  unfold Fbc.frameEnded Fbc.ended
  split
  next h => simp [h, Fbc.requested]
  next h => rw [if_neg h, with_handOver_self rfl]

theorem frameEnded_state (s : State) : s.frameEnded = { s with fbc := { s.fbc with handOver := s.fbc.ended } } := by
  rw [State.frameEnded, frameEnded_eq]

/-! ### An own frame is done -/

/-- The state after TX_DONE, POLLS, TXE and the hand-over of a frame that is done. -/
def State.sentDone (x : InFlight) (s : State) : State :=
  (if x.entry.kind = .poll then (s.noFlight.count .txDone).count .polls else s.noFlight.count .txDone).txGood.frameEnded

theorem ownDone_eq (h : s.fbc.inFlight = some x) :
    s.ownDone = (if x.looped then (s.sentDone x).goodFrame (x.entry.frame s.fbc.address)
      else (s.sentDone x).applyLine).entriesFell s.protectEntries := by
  simp only [State.ownDone, h]
  rfl

/-- The counters of a frame that is done. -/
def doneCounts (x : InFlight) : List Counter := if x.entry.kind = .poll then [.polls] else []

theorem sentDone_counted (x : InFlight) (s : State) : Counted (.txDone :: doneCounts x) s (s.sentDone x) := by
  have h1 : Counted [.txDone] s (s.noFlight.count .txDone) := count_counted .txDone s.noFlight
  have e1 : BusEvent s (s.noFlight.count .txDone) := setFbcFields_bus s _
  have hend {cs : List Counter} {y : State} (h : Counted cs s y) (e : BusEvent s y) : Counted cs s y.txGood.frameEnded := by
    have hg : Counted cs s y.txGood := setErrors_counted _ _ h e
    have eg : BusEvent s y.txGood := e.trans (setErrors_bus ..)
    rewrite [frameEnded_state]
    exact hg.quiet eg rfl rfl
  unfold State.sentDone doneCounts
  split
  · exact hend (h1.count e1 (by decide)) (e1.trans (count_bus ..))
  · exact hend h1 e1

theorem sentDone_event (x : InFlight) (s : State) : BusEvent s (s.sentDone x) := by
  have e1 : BusEvent s (s.noFlight.count .txDone) := setFbcFields_bus s _
  have hend (y : State) : BusEvent y y.txGood.frameEnded := (setErrors_bus ..).trans (setFbcFields_bus ..)
  unfold State.sentDone
  split
  · exact (e1.trans (count_bus ..)).trans (hend _)
  · exact e1.trans (hend _)

/-- What a frame that is done leaves of the bus, but for the counters. -/
theorem sentDone_fbc (x : InFlight) (s : State) : ∃ idle counters tallies, (s.sentDone x).fbc = { s.fbc with
    inFlight := none, txe := s.fbc.txe - 1, handOver := s.fbc.ended, idlePeriods := idle, counters := counters, tallies := tallies } := by
  have hcount (f : Fbc) (held : Bool) (c : Counter) :
      f.count held c = { f with counters := (f.count held c).counters, tallies := (f.count held c).tallies } := by
    unfold Fbc.count
    split <;> rfl
  have hend (y : State) : y.txGood.frameEnded.fbc = { y.fbc with
      txe := y.fbc.txe - 1, handOver := y.fbc.ended, idlePeriods := y.txGood.fbc.idlePeriods } := by
    show y.txGood.fbc.frameEnded = _
    rewrite [frameEnded_eq]
    unfold State.txGood
    rewrite [setErrors_fbc]
    rfl
  unfold State.sentDone
  rewrite [hend]
  split
  · rewrite [State.count_fbc, hcount, State.count_fbc, hcount]
    exact ⟨_, _, _, rfl⟩
  · rewrite [State.count_fbc, hcount]
    exact ⟨_, _, _, rfl⟩

theorem sentDone_noticed (x : InFlight) (s : State) : BusNoticed s (s.sentDone x) := by
  have h0 : ErrorsKept s s.noFlight := .of_fbc rfl rfl
  have h1 : ErrorsKept s (s.noFlight.count .txDone) := h0.trans (count_errors ..)
  have hend (y : State) : BusNoticed y y.txGood.frameEnded := by
    rewrite [frameEnded_state]
    exact (setErrors_noticed ..).after (.of_fbc rfl rfl)
  unfold State.sentDone
  split
  · exact .before (h1.trans (count_errors ..)) (hend _)
  · exact .before h1 (hend _)

/-- The part's own COMMAND or POLL, received back, asks nothing of it (R24, R41). -/
theorem goodFrame_own (e : TxEntry) (own : Nat) (s : State) : s.goodFrame (e.frame own) = s.goodTaken := by
  have hk : (e.frame own).kind = .command ∨ (e.frame own).kind = .poll := by
    unfold TxEntry.frame
    cases e.kind
    · exact .inl rfl
    · exact .inr rfl
  rw [goodFrame_eq, sortFrame_other hk, ite_self]

/-- TXE and RXE that fall by one each do not both change the bus state (R34). -/
theorem busState_falls (a b : Nat) : busStateOf a b = busStateOf (a - 1) b ∨ busStateOf (a - 1) b = busStateOf (a - 1) (b - 1) := by
  unfold busStateOf
  by_cases h1 : a = 256
  · subst h1
    exact .inr rfl
  · have h2 : a - 1 ≠ 256 ∨ a = 257 := by omega
    by_cases hb : 96 ≤ b
    · refine (h2.imp (fun h2 => ?_) fun h2 => ?_)
      · simp [h1, h2, hb]
      · simp [h2]
    · have hb' : ¬ 96 ≤ b - 1 := by omega
      exact .inr (by simp only [hb, hb'])

/-- The state at the end of an own frame, before the HELD test. -/
def State.doneFrame (x : InFlight) (s : State) : State := if x.looped then (s.sentDone x).goodTaken else (s.sentDone x).applyLine

theorem ownDone_entriesFell (h : s.fbc.inFlight = some x) : s.ownDone = (s.doneFrame x).entriesFell s.protectEntries := by
  rewrite [ownDone_eq h, goodFrame_own]
  rfl

/-- What a frame that is done leaves of the bus, on the line or looped. -/
structure FrameDone (x : InFlight) (s u : State) : Prop where
  event : BusEvent s u
  inFlight : u.fbc.inFlight = none
  txProtect : u.fbc.txProtect = s.fbc.txProtect
  txOrdinary : u.fbc.txOrdinary = s.fbc.txOrdinary
  rxQueue : u.fbc.rxQueue = s.fbc.rxQueue
  pauses : u.fbc.pauses = s.fbc.pauses
  txe : u.fbc.txe = s.fbc.txe - 1
  handOver : u.fbc.handOver = s.fbc.ended
  noticed : BusNoticed s u

theorem sentDone_done (x : InFlight) (s : State) : FrameDone x s (s.sentDone x) := by
  obtain ⟨_, _, _, hb⟩ := sentDone_fbc x s
  refine ⟨sentDone_event x s, ?_, ?_, ?_, ?_, ?_, ?_, ?_, sentDone_noticed x s⟩ <;> rw [hb]

theorem sentDone_rest (x : InFlight) (s : State) : (s.sentDone x).fbc.rxe = s.fbc.rxe ∧
    (s.sentDone x).fbc.address = s.fbc.address ∧ (s.sentDone x).fbc.bitRate = s.fbc.bitRate := by
  obtain ⟨_, _, _, hb⟩ := sentDone_fbc x s
  rewrite [hb]
  exact ⟨rfl, rfl, rfl⟩

theorem doneFrame_line (h : x.looped = false) : s.doneFrame x = (s.sentDone x).applyLine := by
  rewrite [State.doneFrame, h]
  rfl

theorem doneFrame_looped (h : x.looped = true) : s.doneFrame x = (s.sentDone x).goodTaken := by
  rewrite [State.doneFrame, h]
  rfl

theorem doneFrame_done (x : InFlight) (s : State) : FrameDone x s (s.doneFrame x) := by
  have hd := sentDone_done x s
  cases h : x.looped with
  | false =>
    rewrite [doneFrame_line h]
    exact ⟨hd.event.trans (setFbcFields_bus ..), hd.inFlight, hd.txProtect, hd.txOrdinary, hd.rxQueue, hd.pauses, hd.txe,
      hd.handOver, hd.noticed.after (.of_fbc rfl rfl)⟩
  | true =>
    rewrite [doneFrame_looped h]
    have hheard := goodTaken_heard (s.sentDone x)
    have hsame := hheard.sending
    have hrx : (s.sentDone x).fbc.rxe = s.fbc.rxe := (sentDone_rest x s).1
    refine ⟨hd.event.trans hheard.event, hsame.inFlight.trans hd.inFlight, hsame.txProtect.trans hd.txProtect,
      hsame.txOrdinary.trans hd.txOrdinary, (goodTaken_rxQueue _).trans hd.rxQueue, (goodTaken_pauses _).trans hd.pauses,
      hsame.txe.trans hd.txe, hsame.handOver.trans hd.handOver, ?_⟩
    refine hd.noticed.trans_falling (goodTaken_noticed _) ?_ hrx.le hsame.txe.le ?_ ?_
    · rewrite [hd.txe]
      exact Nat.sub_le ..
    · rewrite [goodTaken_rxe]
      exact Nat.sub_le ..
    · rewrite [State.busState, State.busState, State.busState, hsame.txe, goodTaken_rxe, hd.txe, hrx]
      exact busState_falls ..

theorem doneFrame_looped_counted (h : x.looped = true) :
    Counted (.txDone :: .rxGood :: doneCounts x) s (s.doneFrame x) := by
  rewrite [doneFrame_looped h]
  have hdisjoint : ∀ c ∈ Counter.txDone :: doneCounts x, c ∉ [Counter.rxGood] := by
    unfold doneCounts
    split <;> decide
  refine ((sentDone_counted x s).trans (goodTaken_counted _) (sentDone_event x s).holdsCounts hdisjoint).congr fun c => ?_
  simp only [List.mem_append, List.mem_cons, List.not_mem_nil, or_false]
  tauto

/-! ### The levels read back (R21) -/

theorem onLine_of {f : Fbc} (h : f.inFlight = some x) (hl : x.looped = false) : f.onLine = true := by
  simp only [Fbc.onLine, h, hl]
  rfl

theorem ownOutcome_of (h : s.fbc.inFlight = some x) (hl : x.looped = false) (levels : List Bool) :
    s.ownOutcome levels = (x.entry.frame s.fbc.address).outcome levels := by
  simp only [State.ownOutcome, h, hl]
  rfl

section Judged

variable {bits : List Bool} (h : s.fbc.inFlight = some x) (hl : x.looped = false)
include h hl

theorem endFrame_lost (ho : (x.entry.frame s.fbc.address).outcome bits = some .lost) :
    s.endFrame bits = s.ownLost.endReceived bits := by
  unfold State.endFrame
  rw [if_pos (onLine_of h hl), ownOutcome_of h hl, ho]

theorem endFrame_error (ho : (x.entry.frame s.fbc.address).outcome bits = some .error) : s.endFrame bits = s.ownError := by
  unfold State.endFrame
  rw [if_pos (onLine_of h hl), ownOutcome_of h hl, ho]

theorem endFrame_done (ho : (x.entry.frame s.fbc.address).outcome bits = some .done) : s.endFrame bits = s.ownDone := by
  unfold State.endFrame
  rw [if_pos (onLine_of h hl), ownOutcome_of h hl, ho]

theorem endFrame_going (ho : (x.entry.frame s.fbc.address).outcome bits = none) : s.endFrame bits = s := by
  unfold State.endFrame
  rw [if_pos (onLine_of h hl), ownOutcome_of h hl, ho]

end Judged

end OwnFrames

/-- Settles O39: the frame's end before the HELD test, the test, and the levels that bring it. -/
theorem ownFrameDone : Obligations.OwnFrameDone := by
  intro x s live hx
  have hd := doneFrame_done x s
  obtain ⟨hrxe, haddress, hrate⟩ := sentDone_rest x s
  have hdone : exec .ownFrameDone s = .next ((s.doneFrame x).entriesFell s.protectEntries) :=
    congrArg Host.Outcome.next ((event_live live _).trans (ownDone_entriesFell hx))
  refine ⟨s.doneFrame x, _, hdone, hd.event, hd.inFlight, hd.txProtect, hd.txOrdinary, hd.rxQueue, hd.pauses, hd.txe,
    hd.noticed.lnk, hd.handOver, fun hl => ?_, fun hl => ?_, fun h1 h2 => ?_, fun h12 => ?_, fun hl more => ?_⟩
  · rewrite [doneFrame_line hl]
    exact ⟨hrxe, congrArg (·.bus.ownAddress) (sentDone_event x s).setup.cfg, congrArg (·.bus.bitRate) (sentDone_event x s).setup.cfg,
      sentDone_counted x s⟩
  · have hcounted := doneFrame_looped_counted (s := s) hl
    rewrite [doneFrame_looped hl] at hcounted ⊢
    have hsame := (goodTaken_heard (s.sentDone x)).sending
    exact ⟨(goodTaken_rxe _).trans (by rw [hrxe]), hsame.address.trans haddress, hsame.bitRate.trans hrate, hcounted⟩
  · have htest : (s.doneFrame x).entriesFell s.protectEntries = (s.doneFrame x).heldTest := if_pos ⟨h1, h2⟩
    rewrite [htest]
    exact heldTest_tested _
  · refine if_neg ?_
    rintro ⟨h1, h2⟩
    exact h12.elim h1 fun h => h h2
  · refine congrArg Host.Outcome.next ((event_live live _).trans ((endFrame_done hx hl ?_).trans (ownDone_entriesFell hx)))
    exact judgeLevels_prefix ..

/-! PROOF. An own frame that fails (R21, R28, R30, R33, R36, R37, R144). -/

section Returned

variable {s t : State} {x : InFlight} {c : Counter}

/-- An entry with the key of `e` waits in a section (R28). -/
def Waits (q : List TxEntry) (e : TxEntry) : Prop := ∃ w ∈ q, w.sameKey e = true

theorem any_iff_waits {q : List TxEntry} {e : TxEntry} : q.any (·.sameKey e) = true ↔ Waits q e := List.any_eq_true

theorem find_isSome_of_waits {q : List TxEntry} {e : TxEntry} (h : Waits q e) : ∃ w, q.find? (·.sameKey e) = some w :=
  Option.isSome_iff_exists.mp (List.find?_isSome.mpr h)

theorem find_none_of_free {q : List TxEntry} {e : TxEntry} (h : ¬ Waits q e) : q.find? (·.sameKey e) = none :=
  List.find?_eq_none.mpr fun w hw hk => h ⟨w, hw, hk⟩

theorem reportDrop_outputs (o : Ost) (e : TxEntry) : (o.reportDrop e).outputs = o.outputs := by
  unfold Ost.reportDrop
  split <;> rfl

/-- The requester of a drop becomes dirty, and no other entry changes (R28a, R144). -/
theorem reportDrop_get (o : Ost) (e : TxEntry) (j : Fin 32) :
    (o.reportDrop e).remotes.get j = { o.remotes.get j with dirty := (o.remotes.get j).dirty || e.owner == some j } := by
  unfold Ost.reportDrop
  split
  next i h =>
    by_cases hj : i = j
    · subst hj
      simp [h, Table.get_modify_self]
    · have hne : (i == j) = false := beq_eq_false_iff_ne.mpr hj
      simp [h, hne, Table.get_modify_ne _ hj]
  next h => simp [h]

/-! ### The entry goes back (R30) -/

theorem returnEntry_superseded (h : Waits s.fbc.txProtect x.entry ∨ x.protect = false ∧ Waits s.fbc.txOrdinary x.entry) :
    s.returnEntry x = s := by
  unfold State.returnEntry
  by_cases hp : Waits s.fbc.txProtect x.entry
  · exact if_pos (any_iff_waits.mpr hp)
  · obtain ⟨hx, ho⟩ := h.resolve_left hp
    obtain ⟨w, hw⟩ := find_isSome_of_waits ho
    simp only [mt any_iff_waits.mp hp, hw, hx]
    rfl

theorem returnEntry_free (hp : ¬ Waits s.fbc.txProtect x.entry) (ho : ¬ Waits s.fbc.txOrdinary x.entry) :
    s.returnEntry x = { s with fbc := { s.fbc with
      txProtect := if x.protect then x.entry :: s.fbc.txProtect else s.fbc.txProtect
      txOrdinary := if x.protect then s.fbc.txOrdinary else x.entry :: s.fbc.txOrdinary } } := by
  unfold State.returnEntry
  simp only [mt any_iff_waits.mp hp, find_none_of_free ho]
  cases x.protect <;> rfl

/-- The sections after a protect entry took the place of every ordinary entry with its key (R30). -/
def State.ahead (x : InFlight) (s : State) : State :=
  { s with fbc := { s.fbc with
    txOrdinary := s.fbc.txOrdinary.filter fun y => !y.sameKey x.entry
    txProtect := x.entry :: s.fbc.txProtect } }

/-- The state after a protect entry took the place of the ordinary entry `w`, which its requester sees as a drop (R30). -/
def State.replacedBy (x : InFlight) (w : TxEntry) (s : State) : State :=
  { (s.ahead x).count .txDrop with ost := s.ost.reportDrop w }

theorem returnEntry_replaces {w : TxEntry} (hx : x.protect = true) (hp : ¬ Waits s.fbc.txProtect x.entry)
    (hw : s.fbc.txOrdinary.find? (·.sameKey x.entry) = some w) : s.returnEntry x = s.replacedBy x w := by
  unfold State.returnEntry
  simp only [mt any_iff_waits.mp hp, hw, hx, if_true]
  rfl

/-! ### What is left of the part -/

/-- The three ways an entry goes back, with the counts of its frame's end. -/
structure WayBack (c : Counter) (x : InFlight) (s t : State) : Prop where
  free : ¬ Waits s.fbc.txProtect x.entry → ¬ Waits s.fbc.txOrdinary x.entry → Counted [c] s t ∧ t.ost = s.ost ∧
    t.fbc.txProtect = (if x.protect then x.entry :: s.fbc.txProtect else s.fbc.txProtect) ∧
    t.fbc.txOrdinary = (if x.protect then s.fbc.txOrdinary else x.entry :: s.fbc.txOrdinary)
  superseded : Waits s.fbc.txProtect x.entry ∨ x.protect = false ∧ Waits s.fbc.txOrdinary x.entry →
    Counted [c] s t ∧ t.ost = s.ost ∧ t.fbc.txProtect = s.fbc.txProtect ∧ t.fbc.txOrdinary = s.fbc.txOrdinary
  replaced : x.protect = true → ¬ Waits s.fbc.txProtect x.entry → Waits s.fbc.txOrdinary x.entry →
    Counted [c, .txDrop] s t ∧ t.fbc.txProtect = x.entry :: s.fbc.txProtect ∧
    t.fbc.txOrdinary = s.fbc.txOrdinary.filter (fun w => !w.sameKey x.entry) ∧
    (∀ before w after, s.fbc.txOrdinary = before ++ w :: after → w.sameKey x.entry = true →
      (∀ y ∈ before, y.sameKey x.entry = false) →
      ∀ j, let r := s.ost.remotes.get j
        t.ost.remotes.get j = { r with dirty := r.dirty || w.owner == some j })

/-- A frame's end without success leaves the part alone but for the sections of the transmit queue, the counters and dirty entries. -/
def OffLine (s t : State) : Prop := ∃ txProtect txOrdinary counters tallies remotes, t = { s with
  fbc := { s.fbc with
    inFlight := none, txProtect := txProtect, txOrdinary := txOrdinary, counters := counters, tallies := tallies }
  ost := { s.ost with remotes := remotes } }

/-- The frame off the line and its end counted. -/
def State.failed (c : Counter) (s : State) : State := s.noFlight.count c

theorem failed_counted (c : Counter) (s : State) : Counted [c] s (s.failed c) := count_counted c s.noFlight

theorem count_line (f : Fbc) (held : Bool) (c : Counter) : ∃ a b, f.count held c = { f with counters := a, tallies := b } := by
  unfold Fbc.count
  split
  · exact ⟨_, _, rfl⟩
  · exact ⟨_, _, rfl⟩

theorem failed_offLine (c : Counter) (s : State) : OffLine s (s.failed c) := by
  obtain ⟨a, b, h⟩ := count_line s.noFlight.fbc s.noFlight.holdsCounts c
  refine ⟨s.fbc.txProtect, s.fbc.txOrdinary, a, b, s.ost.remotes, ?_⟩
  rewrite [State.failed, State.count, h]
  rfl

theorem OffLine.sections (h : OffLine s t) (p q : List TxEntry) :
    OffLine s { t with fbc := { t.fbc with txProtect := p, txOrdinary := q } } := by
  obtain ⟨_, _, _, _, _, rfl⟩ := h
  exact ⟨_, _, _, _, _, rfl⟩

theorem reportDrop_eq (o : Ost) (e : TxEntry) : ∃ r, o.reportDrop e = { o with remotes := r } := by
  unfold Ost.reportDrop
  split
  · exact ⟨_, rfl⟩
  · exact ⟨_, rfl⟩

theorem OffLine.replacedBy (h : OffLine s t) (x : InFlight) (w : TxEntry) : OffLine s (t.replacedBy x w) := by
  obtain ⟨_, _, _, _, remotes, rfl⟩ := h
  obtain ⟨r, hr⟩ := reportDrop_eq { s.ost with remotes := remotes } w
  unfold State.replacedBy
  generalize hy : State.ahead x _ = y
  obtain ⟨a, b, hc⟩ := count_line y.fbc y.holdsCounts .txDrop
  refine ⟨y.fbc.txProtect, y.fbc.txOrdinary, a, b, r, ?_⟩
  rewrite [State.count, hc, hr, ← hy]
  rfl

theorem returnEntry_offLine (h : OffLine s t) (x : InFlight) : OffLine s (t.returnEntry x) := by
  by_cases hp : Waits t.fbc.txProtect x.entry
  · rwa [returnEntry_superseded (.inl hp)]
  · by_cases ho : Waits t.fbc.txOrdinary x.entry
    · cases hx : x.protect with
      | false => rwa [returnEntry_superseded (.inr ⟨hx, ho⟩)]
      | true =>
        obtain ⟨w, hw⟩ := find_isSome_of_waits ho
        rewrite [returnEntry_replaces hx hp hw]
        exact h.replacedBy x w
    · rewrite [returnEntry_free hp ho]
      exact h.sections _ _

/-- What the end of a frame that fails leaves of the transmit queue and the entries. -/
theorem failed_wayBack (hc : c ≠ .txDrop) (x : InFlight) (s : State) : WayBack c x s ((s.failed c).returnEntry x) := by
  have hpro : (s.failed c).fbc.txProtect = s.fbc.txProtect := Fbc.count_txProtect ..
  have hord : (s.failed c).fbc.txOrdinary = s.fbc.txOrdinary := Fbc.count_txOrdinary ..
  have hcount : Counted [c] s (s.failed c) := count_counted c s.noFlight
  have hevent : BusEvent s (s.failed c) := setFbcFields_bus s _
  refine ⟨fun hp ho => ?_, fun hs => ?_, fun hx hp ho => ?_⟩
  · rewrite [returnEntry_free (by rwa [hpro]) (by rwa [hord]), hpro, hord]
    exact ⟨hcount.quiet hevent rfl rfl, rfl, rfl, rfl⟩
  · rewrite [returnEntry_superseded (by rwa [hpro, hord])]
    exact ⟨hcount, rfl, hpro, hord⟩
  · obtain ⟨w, hw⟩ := find_isSome_of_waits ho
    rewrite [returnEntry_replaces hx (by rwa [hpro]) (by rwa [hord])]
    have hy : Counted [c] s ((s.failed c).ahead x) := hcount.quiet hevent rfl rfl
    have ht : Counted [c, .txDrop] s (((s.failed c).ahead x).count .txDrop) := hy.count (hevent.trans (setFbcFields_bus ..)) (by simpa using Ne.symm hc)
    refine ⟨ht, ?_, ?_, fun before v after hq hv hb j => ?_⟩
    · exact (Fbc.count_txProtect ..).trans (congrArg (x.entry :: ·) hpro)
    · exact (Fbc.count_txOrdinary ..).trans (congrArg (List.filter _) hord)
    · have hfirst : s.fbc.txOrdinary.find? (·.sameKey x.entry) = some v :=
        List.find?_eq_some_iff_append.mpr ⟨hv, before, after, hq, by simpa using hb⟩
      obtain rfl : w = v := Option.some.inj (hw.symm.trans hfirst)
      exact reportDrop_get s.ost w j

/-! ### The two ends -/

/-- What a frame that fails leaves: the entry on its way back, and the hand-over at the frame's end. -/
structure FrameFailed (c : Counter) (x : InFlight) (s t : State) : Prop where
  setup : SetupKept s t
  link : LinkKept s t
  blocks : t.ptb = s.ptb ∧ t.shm = s.shm ∧ t.cdm = s.cdm ∧ t.hra = s.hra ∧ t.lsq = s.lsq ∧
    t.ost.outputs = s.ost.outputs ∧ t.pru = s.pru ∧ t.stc = s.stc
  bus : t.fbc.inFlight = none ∧ t.fbc.rxe = s.fbc.rxe ∧ t.fbc.rxQueue = s.fbc.rxQueue ∧ t.fbc.pauses = s.fbc.pauses ∧
    t.fbc.handOver = s.fbc.ended
  way : WayBack c x s t

/-- The entry is back before the hand-over, TXE and the line's settings follow. -/
theorem returned_failed (hc : c ≠ .txDrop) (x : InFlight) (s : State) :
    let r := (s.failed c).returnEntry x
    ErrorsKept s r ∧ r.cfg = s.cfg ∧ ∀ (l : Lnk) (txe idle address rate : Nat),
      LinkKept s { s with lnk := l } →
      FrameFailed c x s { r with lnk := l, fbc := { r.fbc with
        txe := txe, idlePeriods := idle, handOver := r.fbc.ended, address := address, bitRate := rate } } := by
  intro r
  have hway : WayBack c x s r := failed_wayBack hc x s
  obtain ⟨a, b, d, e, g, hr⟩ : OffLine s r := returnEntry_offLine (failed_offLine c s) x
  generalize r = r at hway hr
  subst hr
  refine ⟨⟨rfl, rfl, rfl, rfl, rfl⟩, rfl, fun l txe idle address rate hl => ⟨⟨rfl, rfl, rfl, rfl, rfl, rfl, rfl, rfl⟩,
    ⟨hl.notices, hl.locked, hl.uartIntake, hl.spiIntake, hl.requests, hl.output, hl.clocked, hl.assembly, hl.resetWait⟩,
    ⟨rfl, rfl, rfl, rfl, rfl, rfl, rfl, rfl⟩, ⟨rfl, rfl, rfl, rfl, rfl⟩, hway.free, hway.superseded, hway.replaced⟩⟩

theorem noticeIf_shape (b : Bool) (k : NoticeKind) (n : Nat) (v : Int) (s : State) : ∃ l, s.noticeIf b k n v = { s with lnk := l } := by
  unfold State.noticeIf
  split
  · exact ⟨_, rfl⟩
  · exact ⟨s.lnk, rfl⟩

theorem setErrors_shape (a b : Nat) (s : State) : ∃ l idle, s.setErrors a b =
    { s with lnk := l, fbc := { s.fbc with txe := a, rxe := b, idlePeriods := idle } } := by
  unfold State.setErrors
  extract_lets level before after txWarn rxWarn
  obtain ⟨_, h1⟩ := noticeIf_shape txWarn .bus 1 a ({ s with fbc := { s.fbc with
    txe := a, rxe := b, idlePeriods := if before = after then s.fbc.idlePeriods else 0 } } : State)
  rewrite [h1]
  obtain ⟨_, h2⟩ := noticeIf_shape rxWarn .bus 2 b _
  rewrite [h2]
  obtain ⟨l, h3⟩ := noticeIf_shape (before != after) .bus 0 (codeOf busStates after) _
  rewrite [h3]
  exact ⟨l, _, rfl⟩

theorem ownLost_failed (hx : s.fbc.inFlight = some x) (hl : x.looped = false) :
    FrameFailed .arbLost x s s.ownLost ∧ s.ownLost.fbc.txe = s.fbc.txe ∧ s.ownLost.lnk = s.lnk := by
  have ht : s.ownLost = ((s.failed .arbLost).returnEntry x).frameEnded := by
    simp only [State.ownLost, hx, hl]
    rfl
  obtain ⟨hsame, -, hfailed⟩ := returned_failed (c := .arbLost) (by decide) x s
  rewrite [ht, frameEnded_state]
  generalize (s.failed .arbLost).returnEntry x = r at hsame hfailed
  refine ⟨?_, hsame.txe, hsame.lnk⟩
  have h := hfailed r.lnk r.fbc.txe r.fbc.idlePeriods r.fbc.address r.fbc.bitRate (by rw [hsame.lnk]; exact .refl s)
  exact h

theorem ownError_failed (hx : s.fbc.inFlight = some x) (hl : x.looped = false) :
    FrameFailed .txError x s s.ownError ∧ s.ownError.fbc.txe = min 256 (s.fbc.txe + 8) ∧ BusNoticed s s.ownError ∧
      s.ownError.fbc.address = s.cfg.bus.ownAddress ∧ s.ownError.fbc.bitRate = s.cfg.bus.bitRate := by
  have ht : s.ownError = ((s.failed .txError).returnEntry x).txError.frameEnded.applyLine := by
    simp only [State.ownError, hx, hl]
    rfl
  obtain ⟨hsame, hcfg, hfailed⟩ := returned_failed (c := .txError) (by decide) x s
  rewrite [ht, frameEnded_state]
  generalize (s.failed .txError).returnEntry x = r at hsame hcfg hfailed
  have hnotice : BusNoticed r r.txError := setErrors_noticed ..
  have hlink : LinkKept r r.txError := (setErrors_bus ..).link
  obtain ⟨l, idle, he⟩ := setErrors_shape (min 256 (r.fbc.txe + 8)) r.fbc.rxe r
  have he' : r.txError = _ := he
  refine ⟨?_, ?_, (BusNoticed.before hsame hnotice).after (.of_fbc rfl rfl), ?_, ?_⟩
  · rewrite [he'] at hlink ⊢
    have hl' : LinkKept s { s with lnk := l } := (LinkKept.of_eq hsame.lnk).trans
      ⟨hlink.notices, hlink.locked, hlink.uartIntake, hlink.spiIntake, hlink.requests, hlink.output, hlink.clocked, hlink.assembly,
        hlink.resetWait⟩
    exact hfailed l (min 256 (r.fbc.txe + 8)) idle r.cfg.bus.ownAddress r.cfg.bus.bitRate hl'
  · rewrite [he', ← hsame.txe]
    rfl
  · rewrite [he', ← hcfg]
    rfl
  · rewrite [he', ← hcfg]
    rfl

end Returned

/-- Settles O40: the two rows of an own frame's failure, and the levels read back that bring each. -/
theorem ownFrameFails : Obligations.OwnFrameFails := by
  intro x s live hx hl e
  obtain ⟨hlost, hlostTxe, hlostLnk⟩ := ownLost_failed hx hl
  obtain ⟨herror, herrorTxe, herrorNotice, haddress, hrate⟩ := ownError_failed hx hl
  have lost : exec .arbitrationLost s = .next s.ownLost := congrArg Host.Outcome.next (event_live live _)
  have error : exec .transmitError s = .next s.ownError := congrArg Host.Outcome.next (event_live live _)
  have received (bits : List Bool) : exec (.frameReceived bits) s = .next (s.endFrame bits) :=
    congrArg Host.Outcome.next (event_live live _)
  refine ⟨⟨_, lost, ?_, hlostTxe, hlostLnk⟩, ⟨_, error, ?_, herrorTxe, herrorNotice.lnk, haddress, hrate⟩, ?_⟩
  · obtain ⟨hp, hs, hc, hh, hq, ho, hu, hst⟩ := hlost.blocks
    obtain ⟨b1, b2, b3, b4, b5⟩ := hlost.bus
    exact ⟨hlost.setup, hlost.link, hp, hs, hc, hh, hq, ho, hu, hst, b1, b2, b3, b4, b5, hlost.way.free, hlost.way.superseded,
      hlost.way.replaced⟩
  · obtain ⟨hp, hs, hc, hh, hq, ho, hu, hst⟩ := herror.blocks
    obtain ⟨b1, b2, b3, b4, b5⟩ := herror.bus
    exact ⟨herror.setup, herror.link, hp, hs, hc, hh, hq, ho, hu, hst, b1, b2, b3, b4, b5, herror.way.free, herror.way.superseded,
      herror.way.replaced⟩
  · intro f expected arbitration
    refine ⟨fun same sent read hsent hspan => ⟨_, lost, ?_⟩, fun same level sent read hsent hspan => ?_, fun same level sent hsent => ?_⟩
    · have houtcome : f.outcome (same ++ false :: read) = some .lost := by
        show judgeLevels arbitration expected _ = _
        rw [hsent, judgeLevels_differs _ _ _ _ _ _ Bool.false_ne_true, if_pos ⟨rfl, hspan⟩]
      have hlive : s.ownLost.live = true := by
        rw [← live, State.live, State.live, hlost.setup.phase, hlostLnk]
      have hnext : s.ownLost.endFrame (same ++ false :: read) = s.ownLost.endReceived (same ++ false :: read) :=
        endFrame_received _ fun y hy => by simp [hlost.bus.1] at hy
      rewrite [received, endFrame_lost hx hl houtcome]
      exact congrArg Host.Outcome.next ((event_live hlive _).trans hnext).symm
    · have houtcome : f.outcome (same ++ (!level) :: read) = some .error := by
        show judgeLevels arbitration expected _ = _
        rw [hsent, judgeLevels_differs _ _ _ _ _ _ (by simp), if_neg]
        rintro ⟨h1, h2⟩
        exact hspan.elim (fun h => absurd (h1.symm.trans h) (by decide)) (by omega)
      rw [received, error, endFrame_error hx hl houtcome]
    · have houtcome : f.outcome same = none := by
        show judgeLevels arbitration expected _ = _
        rw [hsent, judgeLevels_going _ _ _ (List.cons_ne_nil _ _)]
      rw [received, endFrame_going hx hl houtcome]

/-! PROOF. The store acts, and the slot of a snapshot write (R175 to R177, R195, R196). -/

section Slots

variable {c : Stc} {i : Fin 4} {x : Snapshot}

/-- The lowest EMPTY slot is the target (R177). -/
theorem target_of_empty (h : c.slots.get i = none) (hj : ∀ j, j < i → c.slots.get j ≠ none) : c.target = i := by
  have hfind : (List.finRange 4).find? (fun i => (c.slots.get i).isNone) = some i := by
    refine List.find?_eq_some_iff_getElem.mpr ⟨by simp [h], i.val, by simp, by simp, fun j hlt => ?_⟩
    have := hj ⟨j, by omega⟩ hlt
    simpa [← Option.isSome_iff_ne_none] using this
  simp only [Stc.target, hfind]

theorem find_empty_none (h : ∀ j, c.slots.get j ≠ none) : (List.finRange 4).find? (fun i => (c.slots.get i).isNone) = none :=
  List.find?_eq_none.mpr fun j _ => by simpa [Option.isNone_iff_eq_none] using h j

/-- The search for the oldest keeps the one it has where those behind are no older. -/
theorem foldl_oldest_kept (m : Fin 4 × Snapshot) (l : List (Fin 4 × Snapshot)) (h : ∀ y ∈ l, m.2.sequence ≤ y.2.sequence) :
    l.foldl (fun b y => if y.2.sequence < b.2.sequence then y else b) m = m := by
  induction l with
  | nil => rfl
  | cons y l ih =>
    rw [List.foldl_cons, if_neg (Nat.not_lt.mpr (h y List.mem_cons_self)), ih fun z hz => h z (List.mem_cons_of_mem _ hz)]

/-- The search takes the first that is older than all before it and no newer than those behind. -/
theorem foldl_oldest_takes (b m : Fin 4 × Snapshot) (before after : List (Fin 4 × Snapshot)) (hb : m.2.sequence < b.2.sequence)
    (h1 : ∀ y ∈ before, m.2.sequence < y.2.sequence) (h2 : ∀ y ∈ after, m.2.sequence ≤ y.2.sequence) :
    (before ++ m :: after).foldl (fun b y => if y.2.sequence < b.2.sequence then y else b) b = m := by
  induction before generalizing b with
  | nil => rw [List.nil_append, List.foldl_cons, if_pos hb, foldl_oldest_kept m after h2]
  | cons y before ih =>
    rewrite [List.cons_append, List.foldl_cons]
    refine ih _ ?_ fun z hz => h1 z (List.mem_cons_of_mem _ hz)
    split
    · exact h1 y List.mem_cons_self
    · exact hb

theorem oldest_split (m : Fin 4 × Snapshot) (before after : List (Fin 4 × Snapshot))
    (h1 : ∀ y ∈ before, m.2.sequence < y.2.sequence) (h2 : ∀ y ∈ after, m.2.sequence ≤ y.2.sequence) :
    oldest (before ++ m :: after) = some m.1 :=
  match before with
  | .nil => congrArg (fun r => some (Prod.fst r)) (foldl_oldest_kept m after h2)
  | .cons b before =>
    congrArg (fun r => some (Prod.fst r)) (foldl_oldest_takes b m before after (h1 b List.mem_cons_self)
      (fun y hy => h1 y (List.mem_cons_of_mem _ hy)) h2)

/-- The VALID slots come in slot order. -/
theorem valid_ordered (c : Stc) : c.valid.Pairwise fun a b => a.1 < b.1 := by
  refine List.Pairwise.filterMap _ (fun a a' h b hb b' hb' => ?_) (List.pairwise_lt_finRange 4)
  obtain ⟨_, -, rfl⟩ := Option.map_eq_some_iff.mp hb
  obtain ⟨_, -, rfl⟩ := Option.map_eq_some_iff.mp hb'
  exact h

/-- With every slot VALID the target is the slot with the lowest sequence number, the lower slot on a tie (R177). -/
theorem target_of_full (h : c.slots.get i = some x)
    (hj : ∀ j, ∃ y, c.slots.get j = some y ∧ x.sequence ≤ y.sequence ∧ (x.sequence = y.sequence → i ≤ j)) : c.target = i := by
  have hfull : ∀ j, c.slots.get j ≠ none := fun j => by
    obtain ⟨y, hy, -⟩ := hj j
    simp [hy]
  have hle : ∀ y ∈ c.valid, x.sequence ≤ y.2.sequence ∧ (x.sequence = y.2.sequence → i ≤ y.1) := fun y hy => by
    obtain ⟨z, hz, hle, htie⟩ := hj y.1
    obtain rfl : z = y.2 := Option.some.inj (hz.symm.trans (Stc.mem_valid.mp hy))
    exact ⟨hle, htie⟩
  obtain ⟨before, after, hsplit⟩ := List.append_of_mem (Stc.mem_valid.mpr h)
  have hordered := valid_ordered c
  rewrite [hsplit, List.pairwise_append] at hordered
  rewrite [hsplit] at hle
  have hold : oldest c.valid = some i := by
    rewrite [hsplit]
    refine oldest_split (i, x) before after (fun y hy => ?_) fun y hy => ?_
    · obtain ⟨h1, h2⟩ := hle y (List.mem_append_left _ hy)
      have hlt : y.1 < i := hordered.2.2 y hy (i, x) List.mem_cons_self
      exact lt_of_le_of_ne h1 fun e => absurd (h2 e) (not_le.mpr hlt)
    · exact (hle y (List.mem_append_right _ (List.mem_cons_of_mem _ hy))).1
  simp only [Stc.target, find_empty_none hfull, hold]
  rfl

end Slots

section StoreActs

variable {s : State} {tag : Byte}

theorem act_badLength {n : Nat} {fields : List Byte} {f : State → Decision} (h : s.stc.op ≠ .load) (hn : fields.length ≠ n) :
    s.act n fields f = .error .badLength := by
  simp [State.act, h, hn]

theorem exec_snapshotTake {fields : List Byte} (h : Ready ⟨tag, kindAct, 17 :: fields⟩ s) :
    exec (.snapshotTake tag fields) s = .next (s.conclude tag (actSnapshotTake fields s)) :=
  congrArg Host.Outcome.next (serveAct_ready h _)

theorem exec_storeSave (h : ActReady tag 18 [] s) :
    exec (.storeSave tag []) s = .next (s.conclude tag (if s.stc.op ≠ .none then .error .storeBusy else done 0 s.beginSave)) :=
  congrArg Host.Outcome.next (serveAct_act h rfl _)

theorem exec_storeLoad (h : ActReady tag 19 [] s) :
    exec (.storeLoad tag []) s = .next (s.conclude tag (if s.stc.op ≠ .none then .error .storeBusy
      else if !s.armed then .error .notNow else done 0 (s.setStc { s.stc with op := .load }))) :=
  congrArg Host.Outcome.next (serveAct_act h rfl _)

/-- The Store Controller after a capture behind a store operation: the snapshot is pending (R175). -/
theorem capture_waits {ts : List Trigger} (h : s.stc.op ≠ .none) :
    s.capture ts = { s with stc := { s.stc with
      snapshot := some (s.snapshotNow ts), nextSequence := min 4294967295 (s.stc.nextSequence + 1) } } := by
  unfold State.capture
  dsimp only
  rewrite [if_neg h]
  rfl

/-- The Store Controller after a capture with no store operation: the snapshot is being written (R175, R177). -/
theorem capture_writes {ts : List Trigger} (h : s.stc.op = .none) :
    s.capture ts = { s with stc := { s.stc with
      op := .snapshot, writing := some (s.stc.target, s.snapshotNow ts), snapshot := none
      nextSequence := min 4294967295 (s.stc.nextSequence + 1), slots := s.stc.slots.set s.stc.target none } } := by
  unfold State.capture
  dsimp only
  rewrite [if_pos h]
  rfl

end StoreActs

/-- Settles O33: the three acts, the slot of a write, and the fields of a snapshot. -/
theorem storeActs : Obligations.StoreActs := by
  unfold Obligations.StoreActs
  refine ⟨fun tag fields s h => ⟨fun hl => ?_, fun hl hf => ?_⟩, fun tag s => ⟨fun h => ⟨fun hs => ?_, fun hs => ?_⟩,
    fun h => ⟨fun ho => ?_, fun ho => ?_⟩, fun h => ⟨fun ho => ?_, fun ho ha => ?_, fun ho ha => ?_⟩⟩,
    fun c => ⟨fun i => target_of_empty, fun i x => target_of_full⟩, fun s ts => ?_⟩
  · rewrite [exec_snapshotTake h, actSnapshotTake, act_loading hl _ _ _]
    rfl
  · rewrite [exec_snapshotTake h, actSnapshotTake, act_badLength hl (by simpa using hf)]
    rfl
  · rewrite [exec_snapshotTake h.ready, actSnapshotTake, act_ready h, if_pos hs]
    rfl
  · refine ⟨s.capture [], ?_, ?_⟩
    · rewrite [exec_snapshotTake h.ready, actSnapshotTake, act_ready h]
      simp only [hs]
      rfl
    · by_cases ho : s.stc.op = .none
      · rewrite [capture_writes ho]
        exact ⟨rfl, rfl, rfl, rfl, fun hn => absurd ho hn, fun _ => ⟨rfl, rfl, rfl, rfl⟩⟩
      · rewrite [capture_waits ho]
        exact ⟨rfl, rfl, rfl, rfl, fun _ => ⟨rfl, rfl, rfl⟩, fun hn => absurd hn ho⟩
  · rewrite [exec_storeSave h, if_pos ho]
    rfl
  · rewrite [exec_storeSave h, if_neg (not_not_intro ho)]
    rfl
  · rewrite [exec_storeLoad h, if_pos ho]
    rfl
  · rewrite [exec_storeLoad h, if_neg (not_not_intro ho), if_pos (by simpa [State.armed] using ha)]
    rfl
  · rewrite [exec_storeLoad h, if_neg (not_not_intro ho), if_neg (by simpa [State.armed] using ha)]
    rfl
  · exact ⟨rfl, rfl, rfl, rfl, fun sh => Table.get_mapIdx .., fun z => Table.get_mapIdx .., fun i => Table.get_mapIdx ..,
      fun i => Table.get_mapIdx .., rfl, rfl, rfl⟩

/-! PROOF. Requests of remote entries, the refresh timers, and OUTPUT_SET (R28, R28a, R138, R144 to R146). -/

section Queue

variable {f : Fbc} {e : TxEntry}

/-! ### The transmit queue's answer (R28, R28a) -/

theorem any_false_of_free {q : List TxEntry} (h : ¬ Waits q e) : ¬ q.any (·.sameKey e) = true := mt any_iff_waits.mp h

theorem request_protected (h : Waits f.txProtect e) : f.request false e = (.dropped, f, none) ∧
    f.request true e = (.coalesced, { f with txProtect := coalesceIn e f.txProtect }, none) := by
  simp only [Fbc.request, any_iff_waits.mpr h, if_true, Bool.false_eq_true, if_false, and_self]

theorem request_ordinary (hp : ¬ Waits f.txProtect e) (ho : Waits f.txOrdinary e) :
    f.request false e = (.coalesced, { f with txOrdinary := coalesceIn e f.txOrdinary }, none) ∧
    f.request true e = (.coalesced, { f with
      txOrdinary := f.txOrdinary.filter fun w => !w.sameKey e, txProtect := f.txProtect ++ [e] }, none) := by
  simp only [Fbc.request, any_false_of_free hp, any_iff_waits.mpr ho, if_true]
  exact ⟨rfl, rfl⟩

theorem request_room (hp : ¬ Waits f.txProtect e) (ho : ¬ Waits f.txOrdinary e) (hs : f.slots < 16) :
    f.request false e = (.taken, { f with txOrdinary := f.txOrdinary ++ [e] }, none) ∧
    f.request true e = (.taken, { f with txProtect := f.txProtect ++ [e] }, none) := by
  simp only [Fbc.request, any_false_of_free hp, any_false_of_free ho, hs, if_true]
  exact ⟨rfl, rfl⟩

theorem request_full_ordinary (hp : ¬ Waits f.txProtect e) (ho : ¬ Waits f.txOrdinary e) (hs : 16 ≤ f.slots) :
    f.request false e = (.dropped, f, none) := by
  simp only [Fbc.request, any_false_of_free hp, any_false_of_free ho, Nat.not_lt.mpr hs]
  rfl

theorem request_displaces (hp : ¬ Waits f.txProtect e) (ho : ¬ Waits f.txOrdinary e) (hs : 16 ≤ f.slots) {q : List TxEntry}
    {w : TxEntry} (hq : f.txOrdinary = q ++ [w]) :
    f.request true e = (.taken, { f with txOrdinary := q, txProtect := f.txProtect ++ [e] }, some w) := by
  have hlast : f.txOrdinary.getLast? = some w := by rw [hq, List.getLast?_concat]
  have hrest : f.txOrdinary.dropLast = q := by rw [hq, List.dropLast_concat]
  simp only [Fbc.request, any_false_of_free hp, any_false_of_free ho, Nat.not_lt.mpr hs, hlast, hrest]
  rfl

theorem request_full_protect (hp : ¬ Waits f.txProtect e) (hs : 16 ≤ f.slots) (hq : f.txOrdinary = []) :
    f.request true e = (.dropped, f, none) := by
  have ho : ¬ Waits f.txOrdinary e := by simp [Waits, hq]
  have hlast : f.txOrdinary.getLast? = none := by rw [hq]; rfl
  simp only [Fbc.request, any_false_of_free hp, any_false_of_free ho, Nat.not_lt.mpr hs, hlast]
  rfl

/-- A dropped request leaves the queue as it was, and displaces nothing. -/
theorem request_dropped {p : Bool} (h : (f.request p e).1 = .dropped) : f.request p e = (.dropped, f, none) := by
  unfold Fbc.request at h ⊢
  split at h
  next h1 =>
    split at h
    · cases h
    next h2 => simp only [h1, h2, if_true]; rfl
  next h1 =>
    split at h
    next => split at h <;> cases h
    next h2 =>
      split at h
      next => split at h <;> cases h
      next h3 =>
        split at h
        next h4 =>
          split at h
          · cases h
          next h5 => simp only [h1, h2, h3, h4, if_true]; rfl
        next h4 => simp only [h1, h2, h3, h4]; rfl

end Queue

section Requests

variable {s : State} {i : Fin 32} {v : Int} {p : Bool}

/-- The COMMAND that an entry's request carries (R144, R146). -/
def State.commandOf (p : Bool) (i : Fin 32) (v : Int) (s : State) : TxEntry :=
  ⟨.command, (s.remoteConfig i).node, (s.remoteConfig i).point, v, if p then 0 else (s.remoteConfig i).priority, some i⟩

/-- The entry after its request was taken or coalesced. -/
def RemoteRun.requested (v : Int) (refresh : Nat) (r : RemoteRun) : RemoteRun := { r with last := some v, dirty := false, timer := refresh }

theorem requestRemote_some (hv : (s.ost.remotes.get i).value = some v) : s.requestRemote p i =
    let q := s.enqueue p (s.commandOf p i v)
    let r := q.2.ost.remotes.get i
    if q.1 = .dropped then q.2.setRemote i { r with dirty := true } else q.2.setRemote i (r.requested v (s.remoteConfig i).refresh) := by
  unfold State.requestRemote
  dsimp only
  split
  next hn => cases hv.symm.trans hn
  next v' hv' =>
    obtain rfl : v = v' := Option.some.inj (hv.symm.trans hv')
    rfl

theorem requestRemote_dropped (hv : (s.ost.remotes.get i).value = some v) (h : (s.fbc.request p (s.commandOf p i v)).1 = .dropped) :
    s.requestRemote p i = { s with
      fbc := s.fbc.count s.holdsCounts .txDrop
      ost := { s.ost with remotes := s.ost.remotes.set i { s.ost.remotes.get i with dirty := true } } } := by
  have hq := request_dropped h
  simp only [requestRemote_some hv, State.enqueue, hq, if_true]
  rfl

theorem requestRemote_kept (hv : (s.ost.remotes.get i).value = some v) (h : (s.fbc.request p (s.commandOf p i v)).1 ≠ .dropped)
    (hd : (s.fbc.request p (s.commandOf p i v)).2.2 = none) :
    s.requestRemote p i = { s with
      fbc := (s.fbc.request p (s.commandOf p i v)).2.1
      ost := { s.ost with remotes := s.ost.remotes.set i ((s.ost.remotes.get i).requested v (s.remoteConfig i).refresh) } } := by
  rcases hq : s.fbc.request p (s.commandOf p i v) with ⟨a, g, d⟩
  rewrite [hq] at h hd
  dsimp only at h hd
  subst hd
  simp only [requestRemote_some hv, State.enqueue, hq, h, if_false]
  rfl

theorem requestRemote_displaces {w : TxEntry} (hv : (s.ost.remotes.get i).value = some v)
    (h : (s.fbc.request p (s.commandOf p i v)).1 ≠ .dropped) (hd : (s.fbc.request p (s.commandOf p i v)).2.2 = some w) :
    let o := s.ost.reportDrop w
    s.requestRemote p i = { s with
      fbc := (s.fbc.request p (s.commandOf p i v)).2.1.count s.holdsCounts .txDrop
      ost := { o with remotes := o.remotes.set i ((o.remotes.get i).requested v (s.remoteConfig i).refresh) } } := by
  rcases hq : s.fbc.request p (s.commandOf p i v) with ⟨a, g, d⟩
  rewrite [hq] at h hd
  dsimp only at h hd
  subst hd
  simp only [requestRemote_some hv, State.enqueue, hq, h, if_false]
  rfl

/-! ### What a request leaves (R28, R144) -/

/-- An entry `r` whose request has been made, under the refresh period that its configuration gives it. -/
structure Asked (p : Bool) (i : Fin 32) (v : Int) (r : RemoteRun) (refresh : Nat) (e : TxEntry) (s t : State) : Prop where
  event : OutputEvent s t
  outputs : t.ost.outputs = s.ost.outputs
  dropped : (s.fbc.request p e).1 = .dropped → t.fbc = s.fbc.count s.holdsCounts .txDrop ∧
    t.ost.remotes = s.ost.remotes.set i { r with dirty := true }
  own : (s.fbc.request p e).1 ≠ .dropped → t.ost.remotes.get i = r.requested v refresh
  others : (s.fbc.request p e).1 ≠ .dropped →
    ∀ j, j ≠ i → t.ost.remotes.get j = { s.ost.remotes.get j with dirty := (t.ost.remotes.get j).dirty }
  kept : (s.fbc.request p e).1 ≠ .dropped → (s.fbc.request p e).2.2 = none → t.fbc = (s.fbc.request p e).2.1 ∧
    t.ost.remotes = s.ost.remotes.set i (r.requested v refresh)
  displaces : (s.fbc.request p e).1 ≠ .dropped → ∀ w, (s.fbc.request p e).2.2 = some w →
    t.fbc = (s.fbc.request p e).2.1.count s.holdsCounts .txDrop ∧
    ∀ j, j ≠ i → (t.ost.remotes.get j).dirty = ((s.ost.remotes.get j).dirty || w.owner == some j)

theorem remoteConfig_setRemote {r : RemoteRun} (h : r.taken = (s.ost.remotes.get i).taken) :
    (s.setRemote i r).remoteConfig i = s.remoteConfig i := by
  simp [State.remoteConfig, State.setRemote, h]

/-- An entry's record renewed, and its value requested. -/
theorem setRemote_asked {r : RemoteRun} (hv : r.value = some v) (ht : r.taken = (s.ost.remotes.get i).taken) :
    Asked p i v r (s.remoteConfig i).refresh (s.commandOf p i v) s ((s.setRemote i r).requestRemote p i) := by
  have hget : (s.setRemote i r).ost.remotes.get i = r := Table.get_set_self ..
  have hv' : ((s.setRemote i r).ost.remotes.get i).value = some v := by rw [hget, hv]
  have hc : (s.setRemote i r).remoteConfig i = s.remoteConfig i := remoteConfig_setRemote ht
  have he : (s.setRemote i r).commandOf p i v = s.commandOf p i v := by simp only [State.commandOf, hc]
  have hq : (s.setRemote i r).fbc.request p ((s.setRemote i r).commandOf p i v) = s.fbc.request p (s.commandOf p i v) := by
    rewrite [he]
    rfl
  have hev : OutputEvent s ((s.setRemote i r).requestRemote p i) := (setRemote_event i r s).trans (requestRemote_event p i _).1
  by_cases h : (s.fbc.request p (s.commandOf p i v)).1 = .dropped
  · have heq := requestRemote_dropped hv' (hq ▸ h)
    refine ⟨hev, ?_, fun _ => ?_, fun hn => absurd h hn, fun hn => absurd h hn, fun hn => absurd h hn, fun hn => absurd h hn⟩
    · rewrite [heq]
      rfl
    · rewrite [heq, hget]
      exact ⟨rfl, Table.set_set ..⟩
  · cases hd : (s.fbc.request p (s.commandOf p i v)).2.2 with
    | none =>
      have heq := requestRemote_kept hv' (hq ▸ h) (hq ▸ hd)
      rewrite [hget, hc, hq] at heq
      have hset : ((s.setRemote i r).requestRemote p i).ost.remotes =
          s.ost.remotes.set i (r.requested v (s.remoteConfig i).refresh) := by
        rewrite [heq]
        exact Table.set_set ..
      refine ⟨hev, by rw [heq]; rfl, fun hn => absurd hn h, fun _ => ?_, fun _ j hj => ?_, fun _ _ => ⟨by rw [heq], hset⟩, fun _ w hw => ?_⟩
      · rw [hset, Table.get_set_self]
      · rw [hset, Table.get_set_ne _ (Ne.symm hj)]
      · rw [hd] at hw
        cases hw
    | some w =>
      have heq := requestRemote_displaces hv' (hq ▸ h) (hq ▸ hd)
      dsimp only at heq
      rewrite [hc, hq] at heq
      have hfirst : ((s.setRemote i r).ost.reportDrop w).remotes.get i =
          { r with dirty := r.dirty || w.owner == some i } := by
        rw [reportDrop_get, hget]
      have hother : ∀ j, j ≠ i → ((s.setRemote i r).requestRemote p i).ost.remotes.get j =
          { s.ost.remotes.get j with dirty := (s.ost.remotes.get j).dirty || w.owner == some j } := fun j hj => by
        rewrite [heq]
        show Table.get (Table.set _ i _) j = _
        rewrite [Table.get_set_ne _ (Ne.symm hj), reportDrop_get]
        simp [State.setRemote, Table.get_set_ne _ (Ne.symm hj)]
      refine ⟨hev, ?_, fun hn => absurd hn h, fun _ => ?_, fun _ j hj => by rw [hother j hj], fun _ hn => ?_, fun _ w' hw => ?_⟩
      · rewrite [heq]
        exact reportDrop_outputs ..
      · rewrite [heq]
        show Table.get (Table.set _ i _) i = _
        rewrite [Table.get_set_self, hfirst]
        rfl
      · rw [hd] at hn
        cases hn
      · obtain rfl : w = w' := Option.some.inj (hd.symm.trans hw)
        exact ⟨by rw [heq]; rfl, fun j hj => by rw [hother j hj]⟩

/-! ### The refresh timer (R145, R146) -/

theorem refreshRemote_stopped (h : s.phase ≠ .run ∨ (s.ost.remotes.get i).timer = 0) : s.refreshRemote i = s :=
  if_pos (by simpa using h)

/-- The entry takes its safe value under protect (R146). -/
def RemoteRun.Safe (r : RemoteRun) : Prop := ∃ p, r.taken = some p ∧ p.safe = true

/-- The entry with its refresh timer restarted. -/
def State.restarted (i : Fin 32) (s : State) : State :=
  s.setRemote i { s.ost.remotes.get i with timer := (s.remoteConfig i).refresh }

section Running

variable (hp : s.phase = .run) (ht : (s.ost.remotes.get i).timer ≠ 0)
include hp ht

theorem refreshRemote_safe (h : (s.ost.remotes.get i).Safe) : s.refreshRemote i =
    if (s.ost.remotes.get i).dirty then (s.restarted i).requestRemote true i
    else if s.busState = .active then (s.restarted i).requestRemote false i else s.restarted i := by
  obtain ⟨⟨safe, c⟩, hs, rfl⟩ := h
  unfold State.refreshRemote
  rewrite [if_neg (by simp [hp, ht])]
  split
  next => rfl
  next hn => exact absurd hs (hn c)

theorem refreshRemote_free (h : ¬ (s.ost.remotes.get i).Safe) : s.refreshRemote i =
    if !(s.ost.remotes.get i).dirty && s.busState != .active then s.restarted i else (s.restarted i).requestRemote false i := by
  unfold State.refreshRemote
  rewrite [if_neg (by simp [hp, ht])]
  split
  next c hs => exact absurd ⟨_, hs, rfl⟩ h
  next => rfl

theorem refreshRemote_quiet (hd : (s.ost.remotes.get i).dirty = false) (hb : s.busState ≠ .active) :
    s.refreshRemote i = s.restarted i := by
  by_cases h : (s.ost.remotes.get i).Safe
  · rw [refreshRemote_safe hp ht h, if_neg (by simp [hd]), if_neg hb]
  · rw [refreshRemote_free hp ht h, if_pos (by simp [hd, hb])]

theorem refreshRemote_asks (ha : (s.ost.remotes.get i).dirty = true ∨ s.busState = .active)
    (hk : ¬ (s.ost.remotes.get i).Safe ∨ (s.ost.remotes.get i).dirty = false) :
    s.refreshRemote i = (s.restarted i).requestRemote false i := by
  by_cases h : (s.ost.remotes.get i).Safe
  · have hd := hk.resolve_left (not_not_intro h)
    have hb := ha.resolve_left (by simp [hd])
    rw [refreshRemote_safe hp ht h, if_neg (by simp [hd]), if_pos hb]
  · rw [refreshRemote_free hp ht h, if_neg]
    rcases ha with ha | ha <;> simp [ha]

end Running

end Requests

/-- Settles O45: the refresh timer's request, and the answers of the transmit queue. -/
theorem refreshExpiry : Obligations.RefreshExpiry := by
  refine ⟨fun i v s live => ?_, fun f e => ⟨fun hp => request_protected hp, fun hp ho => request_ordinary hp ho,
    fun hp ho hs => request_room hp ho hs, fun hp ho hs => ⟨request_full_ordinary hp ho hs, fun q w hq => request_displaces hp ho hs hq,
      fun hq => request_full_protect hp hs hq⟩⟩⟩
  extract_lets r c safe asked
  have hexec : exec (.refreshExpiry i) s = .next (s.refreshRemote i) := by
    refine Eq.trans (b := onIndex 32 i.val fun n => .next (s.event (State.refreshRemote n))) rfl ?_
    simp only [onIndex, index_val, event_live live]
  have hasked (p : Bool) (t : State) (h : Asked p i v { r with timer := c.refresh } c.refresh (s.commandOf p i v) s t) : asked p t :=
    ⟨h.event, h.outputs, h.dropped, fun hn => ⟨h.own hn, h.others hn, fun hd => ⟨(h.kept hn hd).1, fun j hj => ?_⟩, h.displaces hn⟩⟩
  rewrite [hexec]
  refine ⟨fun h => by rw [refreshRemote_stopped h], fun hp ht hd hb => by rw [refreshRemote_quiet hp ht hd hb]; rfl,
    fun hp ht ha hv => ⟨fun hs hd => ?_, fun hk => ?_⟩⟩
  · have heq : s.refreshRemote i = (s.restarted i).requestRemote true i := by rw [refreshRemote_safe hp ht hs, if_pos hd]
    exact ⟨_, congrArg Host.Outcome.next heq, hasked true _ (setRemote_asked hv rfl)⟩
  · exact ⟨_, congrArg Host.Outcome.next (refreshRemote_asks hp ht ha hk), hasked false _ (setRemote_asked hv rfl)⟩
  · rw [(h.kept hn hd).2, Table.get_set_ne _ (Ne.symm hj)]

/-! PROOF. OUTPUT_SET (R138, R144). -/

/-! ### The fields of an act's body -/

section Fields

theorem u8At_head {n : Nat} (h : n < 256) (l : List Byte) : u8At (u8 n ++ l) 0 = n := u8At_u8 h

theorem u8At_tail (n k : Nat) (l : List Byte) : u8At (u8 n ++ l) (k + 1) = u8At l k := rfl

theorem u16At_tail (n k : Nat) (l : List Byte) : u16At (u8 n ++ l) (k + 1) = u16At l k := rfl

theorem u16At_head {n : Nat} (h : n < 65536) (l : List Byte) : u16At (u16 n ++ l) 0 = n := u16At_u16 h

theorem u8At_tail2 (n k : Nat) (l : List Byte) : u8At (u16 n ++ l) (k + 2) = u8At l k := rfl

theorem u16At_tail2 (n k : Nat) (l : List Byte) : u16At (u16 n ++ l) (k + 2) = u16At l k := rfl

/-- A field byte written from an index names that index. -/
theorem index_head {n : Nat} (h : n ≤ 256) (i : Fin n) (l : List Byte) : index n (u8At (u8 i.val ++ l) 0) = some i := by
  rw [u8At_head (by omega), index_val]

/-- The clamp of a level or code. -/
theorem limited_level (v : Nat) : limited 0 4095 v = (min 4095 v, if v ≤ 4095 then 0 else 1) := by
  by_cases h : v ≤ 4095
  · simp [limited, clampedBy, clampNat, h]
  · have hm : min 4095 v = 4095 := by omega
    have hne : ¬ v = 4095 := by omega
    simp [limited, clampedBy, clampNat, h, hm, hne]

end Fields

section OutputSet

variable {s : State} {tag : Byte}

theorem actReady_word {code : Nat} {fields : List Byte} {n : Nat} (h : ActReady tag code fields s) (hn : fields.length = n)
    (f : State → Decision) : s.act n fields f = f s := by
  rw [act_ready h, if_neg (not_not_intro hn)]

theorem exec_outputSet {fields : List Byte} (h : ActReady tag 5 fields s) :
    exec (.outputSet tag fields) s = .next (s.conclude tag (actOutputSet fields s)) :=
  congrArg Host.Outcome.next (serveAct_ready h.ready _)

theorem actOutputSet_output {i : Fin 16} {v : Nat} (hv : v < 65536) (h : ActReady tag 5 (u8 0 ++ u8 i ++ u16 v) s) :
    actOutputSet (u8 0 ++ u8 i ++ u16 v) s =
      if (s.cfg.outputs.get i).binding ≠ .fixed then .error .notNow else if !s.armed then .error .locked
      else done (if v ≤ 4095 then 0 else 1) (s.setFixed i (min 4095 v)) := by
  have hf : flagAt (u8 0 ++ u8 i ++ u16 v) 0 = some false := rfl
  have hi : index 16 (u8At (u8 0 ++ u8 i ++ u16 v) 1) = some i := index_head (by decide) i (u16 v)
  have hw : u16At (u8 0 ++ u8 i ++ u16 v) 2 = v := u16At_u16 hv
  rewrite [actOutputSet, actReady_word (n := 4) h rfl, hf]
  dsimp only
  rw [hi, hw, limited_level]

theorem actOutputSet_remote {i : Fin 32} {v : Nat} (hv : v < 65536) (h : ActReady tag 5 (u8 1 ++ u8 i ++ u16 v) s) :
    actOutputSet (u8 1 ++ u8 i ++ u16 v) s =
      if (s.cfg.remotes.get i).binding ≠ .fixed then .error .notNow else if !s.armed then .error .locked
      else done (if v ≤ 4095 then 0 else 1) (s.setRemoteFixed i (min 4095 v)) := by
  have hf : flagAt (u8 1 ++ u8 i ++ u16 v) 0 = some true := rfl
  have hi : index 32 (u8At (u8 1 ++ u8 i ++ u16 v) 1) = some i := index_head (by decide) i (u16 v)
  have hw : u16At (u8 1 ++ u8 i ++ u16 v) 2 = v := u16At_u16 hv
  rewrite [actOutputSet, actReady_word (n := 4) h rfl, hf]
  dsimp only
  rw [hi, hw, limited_level]

/-! ### A FIXED output -/

/-- The output after its fixed code changed while ARMED (R137, R139). -/
def OutputRun.fixedTo (c : OutputConfig) (code : Nat) (o : OutputRun) : OutputRun :=
  if o.driven then ({ o with fixed := code, source := code, target := code } : OutputRun).aim c
  else { o with fixed := code, source := code }

/-- While ARMED a driven output aims at its source code, one in HIZ only keeps it (R137, R139). -/
theorem handOutput_armed {i : Fin 16} (h : s.armed = true) : s.handOutput i = s.setOutput i
    (if (s.ost.outputs.get i).driven then
      ({ s.ost.outputs.get i with source := s.outputSource i, target := s.outputSource i } : OutputRun).aim (s.cfg.outputs.get i)
    else { s.ost.outputs.get i with source := s.outputSource i }) := by
  unfold State.handOutput State.setOutput
  dsimp only
  by_cases hd : (s.ost.outputs.get i).driven = true
  · rw [if_pos hd, if_neg (by simp [hd]), if_pos h]
  · rw [if_neg hd, if_pos (by simpa using hd)]

theorem setFixed_eq {i : Fin 16} (hb : (s.cfg.outputs.get i).binding = .fixed) (ha : s.pru.state = .armed) (code : Nat) :
    s.setFixed i code = s.setOutput i ((s.ost.outputs.get i).fixedTo (s.cfg.outputs.get i) code) := by
  have harmed : (s.setOutput i { s.ost.outputs.get i with fixed := code }).armed = true := armed_iff.mpr ha
  have hsource : (s.setOutput i { s.ost.outputs.get i with fixed := code }).outputSource i = code := by
    simp [State.outputSource, State.sourceCode, State.setOutput, hb]
  rewrite [State.setFixed, handOutput_armed harmed, hsource]
  simp only [State.setOutput, Table.get_set_self, Table.set_set]
  rfl

theorem OutputRun.fixedTo_figures (c : OutputConfig) (code : Nat) (o : OutputRun) :
    (o.fixedTo c code).fixed = code ∧ (o.fixedTo c code).source = code ∧ (o.fixedTo c code).driven = o.driven ∧
      (o.driven = true → (o.fixedTo c code).target = code) ∧ (o.driven = false → (o.fixedTo c code).code = o.code) := by
  unfold OutputRun.fixedTo
  split
  next h =>
    obtain ⟨hf, hd, -, hs, ht⟩ := OutputRun.aim_kept c { o with fixed := code, source := code, target := code }
    exact ⟨hf, hs, hd, fun _ => ht, fun hn => absurd (h.symm.trans hn) (by decide)⟩
  next h => exact ⟨rfl, rfl, rfl, fun hn => absurd hn h, fun _ => rfl⟩

/-! ### A FIXED entry -/

/-- The entry with its fixed code and the value that gives. -/
def RemoteRun.fixedTo (code : Nat) (r : RemoteRun) : RemoteRun := { r with fixed := code, value := some (code : Int) }

theorem setRemoteFixed_eq {i : Fin 32} (hb : (s.cfg.remotes.get i).binding = .fixed) (ha : s.pru.state = .armed) (code : Nat) :
    s.setRemoteFixed i code =
      if (s.ost.remotes.get i).value ≠ some (code : Int) ∧ s.phase = .run then
        (s.setRemote i ((s.ost.remotes.get i).fixedTo code)).requestRemote false i
      else s.setRemote i ((s.ost.remotes.get i).fixedTo code) := by
  have harmed : (s.setRemote i { s.ost.remotes.get i with fixed := code }).armed = true := armed_iff.mpr ha
  have hsource : (s.setRemote i { s.ost.remotes.get i with fixed := code }).remoteSource i = code := by
    simp [State.remoteSource, State.sourceCode, State.setRemote, hb]
  have hbind : ¬ ((s.setRemote i { s.ost.remotes.get i with fixed := code }).cfg.remotes.get i).binding = .none := by
    show ¬ (s.cfg.remotes.get i).binding = .none
    simp [hb]
  unfold State.setRemoteFixed State.handRemote
  rewrite [if_pos harmed, if_neg hbind, hsource]
  unfold State.newRemoteValue RemoteRun.fixedTo
  simp only [State.setRemote, Table.get_set_self, Table.set_set]
  by_cases hv : (s.ost.remotes.get i).value = some (code : Int)
  · simp [hv]
  · simp [hv]

end OutputSet

/-- Settles O25: a FIXED output, a FIXED entry, and the refusals of both. -/
theorem outputSetFixesCode : Obligations.OutputSetFixesCode := by
  constructor
  · intro tag i v s fields o code h
    rewrite [exec_outputSet h, actOutputSet_output v.isLt h]
    refine ⟨fun hb => by rw [if_pos hb]; rfl, fun hb ha => ?_, fun hb ha => ⟨s.setFixed i code, ?_, ?_⟩⟩
    · rewrite [if_neg (not_not_intro hb), if_pos (by simpa [State.armed] using ha)]
      rfl
    · rewrite [if_neg (not_not_intro hb), if_neg (by simpa [State.armed] using ha)]
      rfl
    · rewrite [setFixed_eq hb ha]
      simp only [State.setOutput, Table.get_set_self, true_and]
      exact OutputRun.fixedTo_figures ..
  · intro tag i v s fields c r code h
    rewrite [exec_outputSet h, actOutputSet_remote v.isLt h]
    refine ⟨fun hb => by rw [if_pos hb]; rfl, fun hb ha => ?_, fun hb ha => ⟨s.setRemoteFixed i code, ?_, ?_⟩⟩
    · rewrite [if_neg (not_not_intro hb), if_pos (by simpa [State.armed] using ha)]
      rfl
    · rewrite [if_neg (not_not_intro hb), if_neg (by simpa [State.armed] using ha)]
      rfl
    · rewrite [setRemoteFixed_eq hb ha]
      by_cases hask : r.value ≠ some (code : Int) ∧ s.phase = .run
      · rewrite [if_pos hask]
        have hk := setRemote_asked (p := false) (i := i) (s := s) (r := r.fixedTo code) rfl rfl
        generalize (s.setRemote i (r.fixedTo code)).requestRemote false i = t at hk ⊢
        have hnone := request_false_displaced s.fbc (s.commandOf false i code)
        have hget : (t.ost.remotes.get i).fixed = code ∧ (t.ost.remotes.get i).value = some (code : Int) := by
          by_cases hd : (s.fbc.request false (s.commandOf false i code)).1 = .dropped
          · rewrite [(hk.dropped hd).2, Table.get_set_self]
            exact ⟨rfl, rfl⟩
          · rewrite [hk.own hd]
            exact ⟨rfl, rfl⟩
        refine ⟨hk.event, hk.outputs, hget.1, hget.2, fun hn => ?_, fun _ _ ht => ?_⟩
        · exact (hn.elim (fun hp => hp hask.2) fun hv => hask.1 hv).elim
        · have hconfig : s.remoteConfig i = c := by
            have htaken : (s.ost.remotes.get i).taken = none := ht
            simp only [State.remoteConfig, htaken, c]
          have he : s.commandOf false i code = ⟨.command, c.node, c.point, code, c.priority, some i⟩ := by
            simp [State.commandOf, hconfig]
          rewrite [he] at hk hnone
          rewrite [hconfig] at hk
          exact ⟨hk.dropped, fun hd => ⟨(hk.kept hd hnone).1, (hk.kept hd hnone).2⟩⟩
      · rewrite [if_neg hask]
        have hset : (s.setRemote i (r.fixedTo code)).ost.remotes.get i = r.fixedTo code := Table.get_set_self ..
        refine ⟨setRemote_event .., rfl, by rw [hset]; rfl, by rw [hset]; rfl, fun _ => ⟨rfl, rfl⟩, fun hp hv => absurd ⟨hv, hp⟩ hask⟩

/-! PROOF. Step timers, effect samples and slew steps (R112, R119 to R121, R125, R129, R139, R172). -/

section Timers

variable {s : State}

theorem exec_onIndex {c : Instr} {n : Nat} {i : Fin n} {f : Fin n → State → State}
    (h : exec c s = onIndex n i.val fun i => .next (s.event (f i))) (live : s.live = true) : exec c s = .next (f i s) := by
  rewrite [h]
  simp only [onIndex, index_val, event_live live]

/-- Handing levels on and the entries' requests leave the lights alone. -/
theorem handedOn_lsq (s : State) : s.handLevels.handRemotes.lsq = s.lsq :=
  (handRemotes_event _).1.lsq.trans (handOn_event ..).1.lsq

/-! ### Step timers (R112, R129) -/

/-- The state after a step of a running fade, before the arrival is reported. -/
def State.stepped (i : Fin 32) (s : State) : State := ((s.setChannel i (s.lsq.channels.get i).stepFade).handLevels).handRemotes

theorem stepped_lsq (i : Fin 32) (s : State) :
    (s.stepped i).lsq = { s.lsq with channels := s.lsq.channels.set i (s.lsq.channels.get i).stepFade } := handedOn_lsq _

theorem expireStep_stopped {i : Fin 32} (h : s.phase ≠ .run ∨ (s.lsq.channels.get i).timer = none) : s.expireStep i = s := by
  refine if_neg ?_
  rintro ⟨hp, ht⟩
  exact h.elim (fun h => h hp) fun h => by simp [h] at ht

theorem expireStep_running {i : Fin 32} (hp : s.phase = .run) (ht : (s.lsq.channels.get i).timer ≠ none) :
    s.expireStep i = (s.stepped i).reportArrival := if_pos ⟨hp, Option.isSome_iff_ne_none.mpr ht⟩

theorem egressArrived_iff : s.egressArrived = true ↔
    ∀ j, (s.lsq.channels.get j).taken = some .egress → (s.lsq.channels.get j).level = (s.lsq.channels.get j).target := by
  rewrite [State.egressArrived, Table.all_iff]
  refine forall_congr' fun j => ?_
  simp only [Bool.or_eq_true, bne_iff_ne, beq_iff_eq]
  exact ⟨fun h ht => h.resolve_left (not_not_intro ht), fun h => (Classical.em _).symm.imp id h⟩

theorem reportArrival_quiet (h : s.pru.state = .armed ∨ s.pru.arrived = true ∨ s.egressArrived = false) : s.reportArrival = s := by
  refine if_neg ?_
  simp only [Bool.and_eq_true, Bool.not_eq_true']
  rintro ⟨⟨ha, hr⟩, he⟩
  rcases h with h | h | h
  · simp [State.armed, h] at ha
  · simp [h] at hr
  · simp [h] at he

theorem reportArrival_arrives (ha : s.pru.state ≠ .armed) (hr : s.pru.arrived = false) (he : s.egressArrived = true) :
    HeldTested { s with pru := { s.pru with arrived := true } } s.reportArrival := by
  have heq : s.reportArrival = State.heldTest { s with pru := { s.pru with arrived := true } } :=
    if_pos (by simp [State.armed, ha, hr, he])
  rewrite [heq]
  exact heldTest_tested _

/-! ### Effect samples (R119) -/

theorem nextSample_lsq {i : Fin 32} {e : Effect} (h : (s.lsq.channels.get i).effect = some e) :
    (s.nextSample i).lsq = { s.lsq with channels := s.lsq.channels.set i { s.lsq.channels.get i with
      effect := some e.advance, level := s.sampleLevel i e.advance } } := by
  have heq : s.nextSample i = (((s.setChannel i { s.lsq.channels.get i with effect := some e.advance }).takeSample i).handLevels).handRemotes := by
    unfold State.nextSample
    dsimp only
    split
    next e' he =>
      obtain rfl : e = e' := Option.some.inj (h.symm.trans he)
      rfl
    next hn => cases h.symm.trans hn
  rewrite [heq, handedOn_lsq]
  simp only [State.takeSample, State.setChannel, Table.get_set_self, Table.set_set]
  rfl

/-! ### Slew steps (R139) -/

theorem expireSlew_stopped {i : Fin 16} (h : (s.ost.outputs.get i).driven = false ∨ (s.ost.outputs.get i).timer = none) :
    s.expireSlew i = s := by
  refine if_neg ?_
  rintro ⟨hd, ht⟩
  exact h.elim (fun h => by simp [h] at hd) fun h => by simp [h] at ht

theorem expireSlew_running {i : Fin 16} (hd : (s.ost.outputs.get i).driven = true) (ht : (s.ost.outputs.get i).timer ≠ none) :
    s.expireSlew i = s.setOutput i ((s.ost.outputs.get i).slew (s.cfg.outputs.get i)) :=
  if_pos ⟨hd, Option.isSome_iff_ne_none.mpr ht⟩

end Timers

/-! ### The level of a shape (R120, R121, R125) -/

section Shapes

variable {p phi low high : Nat}

theorem part_le {a n : Nat} (h : n ≤ p) : a * n / p ≤ a := by
  rcases Nat.eq_zero_or_pos p with rfl | hp
  · simp
  · exact Nat.div_le_of_le_mul (by rw [Nat.mul_comm]; exact Nat.mul_le_mul_right a h)

theorem derated_mono {floor d a b : Nat} (h : a ≤ b) : derated floor d a ≤ derated floor d b :=
  max_le_max le_rfl (Nat.div_le_div_right (Nat.mul_le_mul_right d h))

/-- The table of S rises from 0 to 1000. -/
theorem sine_rises : ∀ j : Fin 16, Config.sine.getD j.val 0 ≤ Config.sine.getD (j.val + 1) 0 ∧ Config.sine.getD (j.val + 1) 0 ≤ 1000 := by
  decide

theorem sineAt_le (p phi : Nat) : sineAt p phi ≤ 1000 := by
  unfold sineAt
  extract_lets half x j a b
  split
  · exact le_rfl
  · next h =>
    have hj : j < 16 := Nat.not_le.mp h
    obtain ⟨hab, hb⟩ : a ≤ b ∧ b ≤ 1000 := sine_rises ⟨j, hj⟩
    rcases Nat.eq_zero_or_pos half with h0 | h0
    · rewrite [h0, Nat.div_zero]
      omega
    · have hpart : 16 * x - j * half ≤ half := by
        have hlt : 16 * x < j * half + half := Nat.lt_div_mul_add h0
        omega
      have := part_le (a := b - a) hpart
      omega

theorem shapeLevel_within (shape : Shape) (duty : Nat) (hphi : phi ≤ p) (hle : low ≤ high) :
    low ≤ shapeLevel shape p duty low high phi ∧ shapeLevel shape p duty low high phi ≤ high := by
  have between {n q : Nat} (h : n ≤ q) : low ≤ low + (high - low) * n / q ∧ low + (high - low) * n / q ≤ high := by
    have := part_le (a := high - low) h
    exact ⟨Nat.le_add_right .., by omega⟩
  cases shape with
  | sawtooth => exact between hphi
  | triangle =>
    simp only [shapeLevel]
    split
    · exact between (by omega)
    · exact between (by omega)
  | pulse =>
    simp only [shapeLevel]
    split
    · exact ⟨hle, le_rfl⟩
    · exact ⟨le_rfl, hle⟩
  | sine => exact between (sineAt_le p phi)

/-- The distance of the phase from the start of the cycle, down the second half (R121). -/
def foldPhase (p phi : Nat) : Nat := if phi < p / 2 then phi else p - phi

theorem sineAt_eq (p phi : Nat) : sineAt p phi =
    if 16 * foldPhase p phi / (p / 2) ≥ 16 then 1000
    else Config.sine.getD (16 * foldPhase p phi / (p / 2)) 0 +
      (Config.sine.getD (16 * foldPhase p phi / (p / 2) + 1) 0 - Config.sine.getD (16 * foldPhase p phi / (p / 2)) 0) *
        (16 * foldPhase p phi - 16 * foldPhase p phi / (p / 2) * (p / 2)) / (p / 2) := rfl

theorem sineAt_top (h : 0 < p / 2) (hx : foldPhase p phi = p / 2) : sineAt p phi = 1000 := by
  rw [sineAt_eq, hx, Nat.mul_div_cancel _ h, if_pos le_rfl]

theorem sineAt_between {j : Nat} (hj : j < 16) (h1 : j * (p / 2) ≤ 16 * foldPhase p phi)
    (h2 : 16 * foldPhase p phi < (j + 1) * (p / 2)) :
    sineAt p phi = Config.sine.getD j 0 + (Config.sine.getD (j + 1) 0 - Config.sine.getD j 0) *
      (16 * foldPhase p phi - j * (p / 2)) / (p / 2) := by
  have hdiv : 16 * foldPhase p phi / (p / 2) = j := Nat.div_eq_of_lt_le h1 h2
  rw [sineAt_eq, hdiv, if_neg (Nat.not_le.mpr hj)]

end Shapes

/-- Settles O44: the step timer, the sample, the slew step, and the level of each shape. -/
theorem levelTimers : Obligations.LevelTimers := by
  refine ⟨fun i s live => ?_, fun i e s live he => ?_, fun i s live => ?_, fun i e s hperiod hphase hle => ?_⟩
  · intro r level
    rewrite [exec_onIndex (i := i) (c := .stepTimerExpiry i) (f := State.expireStep) rfl live]
    refine ⟨fun h => by rw [expireStep_stopped h], fun hp ht => ⟨s.stepped i, _, congrArg Host.Outcome.next (expireStep_running hp ht),
      stepFade_light i s, stepped_lsq i s, fun h => ?_, fun ha hr he => ?_⟩⟩
    · have hpru : (s.stepped i).pru = s.pru := (stepFade_light i s).pru
      refine reportArrival_quiet ?_
      rewrite [hpru]
      refine h.imp_right (Or.imp_right ?_)
      rintro ⟨j, htaken, hne⟩
      rewrite [Bool.eq_false_iff, ne_eq, egressArrived_iff]
      exact fun hall => hne (hall j htaken)
    · have hpru : (s.stepped i).pru = s.pru := (stepFade_light i s).pru
      exact reportArrival_arrives (s := s.stepped i) (by rw [hpru]; exact ha) (by rw [hpru]; exact hr) (egressArrived_iff.mpr he)
  · intro next
    rewrite [exec_onIndex (i := i) (c := .effectSample i) (f := State.expireSample) rfl live]
    exact ⟨fun hp => by rw [State.expireSample, if_neg hp],
      fun hp => ⟨s.nextSample i, by rw [State.expireSample, if_pos hp], nextSample_light i s, nextSample_lsq he⟩⟩
  · intro o step code
    rewrite [exec_onIndex (i := i) (c := .slewStep i) (f := State.expireSlew) rfl live]
    exact ⟨fun h => by rw [expireSlew_stopped h], fun hd ht => by rw [expireSlew_running hd ht]; rfl⟩
  · intro c derate low high p half phi x sine level
    have hlow : low = derated c.floor derate e.low := rfl
    have hlevel : level = shapeLevel e.shape p (e.duty.getD 0) low high phi := rfl
    have hhalf : p = 2 * half := by omega
    have hpos : 0 < half := by omega
    have hle' : low ≤ high := derated_mono hle
    obtain ⟨h1, h2⟩ := shapeLevel_within (p := p) e.shape (e.duty.getD 0) (Nat.le_of_lt hphase) hle'
    refine ⟨h1, h2, fun hs => ?_, fun hs hlt => ?_, fun hs hge => ?_, fun duty hs hd => ?_, fun hs hx => ?_, fun j hs hj h1 h2 => ?_⟩
    · rewrite [hlevel, hs]
      rfl
    · rewrite [hlevel, hs]
      exact if_pos (by omega)
    · rewrite [hlevel, hs]
      exact if_neg (by omega)
    · rewrite [hlevel, hs, hd]
      rfl
    · rewrite [hlevel, hs]
      show low + (high - low) * sineAt p phi / 1000 = high
      rewrite [sineAt_top hpos hx, Nat.mul_div_cancel _ (by decide)]
      omega
    · rewrite [hlevel, hs]
      show low + (high - low) * sineAt p phi / 1000 = _
      rewrite [sineAt_between hj h1 h2]
      rfl

/-! PROOF. The dew point: the saturation table both ways (R70 to R72). -/

section DewPoint

/-! ### The table -/

theorem saturation_sorted : Config.saturation.Pairwise (· < ·) := by decide

theorem saturation_rises : ∀ k, k < 14 → saturationAt k < saturationAt (k + 1) := by decide

theorem saturation_mono {j k : Nat} (h : j ≤ k) (hk : k ≤ 14) : saturationAt j ≤ saturationAt k := by
  induction k, h using Nat.le_induction with
  | base => exact le_rfl
  | succ k _ ih => exact (ih (by omega)).trans (saturation_rises k (by omega)).le

/-- The temperature of a node of the table, in cd. -/
def tableNode (k : Nat) : Int := 500 * k - 3000

/-- Every clamped temperature lies between two nodes. -/
theorem exists_node {ta : Int} (h1 : -3000 ≤ ta) (h2 : ta ≤ 4000) : ∃ k, k < 14 ∧ tableNode k ≤ ta ∧ ta ≤ tableNode (k + 1) := by
  refine ⟨min 13 ((ta + 3000).toNat / 500), by omega, ?_, ?_⟩ <;> unfold tableNode <;> omega

/-- Every pressure inside the table lies between two of its entries. -/
theorem exists_entry {e : Nat} (h1 : 51 ≤ e) (h2 : e < 7381) : ∃ j, j < 14 ∧ saturationAt j ≤ e ∧ e < saturationAt (j + 1) := by
  have h0 : saturationAt 0 ≤ e := h1
  have hle : saturationAt (Nat.findGreatest (fun j => saturationAt j ≤ e) 14) ≤ e :=
    Nat.findGreatest_spec (P := fun j => saturationAt j ≤ e) (Nat.zero_le 14) h0
  have hbound := Nat.findGreatest_le (P := fun j => saturationAt j ≤ e) 14
  have hnext : ∀ k, Nat.findGreatest (fun j => saturationAt j ≤ e) 14 < k → k ≤ 14 → ¬ saturationAt k ≤ e :=
    fun k => Nat.findGreatest_is_greatest
  generalize Nat.findGreatest (fun j => saturationAt j ≤ e) 14 = j at hle hbound hnext
  have hj : j ≠ 14 := by
    rintro rfl
    exact absurd hle (Nat.not_le.mpr h2)
  exact ⟨j, by omega, hle, Nat.not_le.mp (hnext (j + 1) (by omega) (by omega))⟩

/-! ### Up the table (R70) -/

/-- The saturation pressure by interpolation between any two nodes about the temperature. -/
theorem saturationPressure_at {ta : Int} {k : Nat} (hk : k < 14) (h1 : tableNode k ≤ ta) (h2 : ta ≤ tableNode (k + 1)) :
    saturationPressure ta = saturationAt k + (saturationAt (k + 1) - saturationAt k) * (ta - tableNode k).toNat / 500 := by
  have hrise := saturation_rises k hk
  unfold tableNode at *
  unfold saturationPressure
  by_cases hend : ta = 500 * ((k + 1 : Nat) : Int) - 3000
  · have hspan : (ta - (500 * (k : Int) - 3000)).toNat = 500 := by omega
    rewrite [hspan, Nat.mul_div_cancel _ (by decide), Nat.add_sub_cancel' hrise.le]
    split
    next htop =>
      obtain rfl : k = 13 := by omega
      rfl
    next =>
      have hx : (ta + 3000).toNat = 500 * (k + 1) := by omega
      simp [hx]
  · have hx : (ta + 3000).toNat / 500 = k := by omega
    have hrest : (ta + 3000).toNat - 500 * k = (ta - (500 * (k : Int) - 3000)).toNat := by omega
    rewrite [if_neg (by omega)]
    dsimp only
    rw [hx, hrest]

theorem saturationPressure_node {k : Nat} (hk : k ≤ 14) : saturationPressure (tableNode k) = saturationAt k := by
  rcases Nat.lt_or_eq_of_le hk with h | rfl
  · rw [saturationPressure_at h le_rfl (by unfold tableNode; omega)]
    simp
  · rfl

theorem saturationPressure_mono {t u : Int} (h1 : -3000 ≤ t) (h : t ≤ u) (h2 : u ≤ 4000) : saturationPressure t ≤ saturationPressure u := by
  obtain ⟨j, hj, hj1, hj2⟩ := exists_node h1 (h.trans h2)
  obtain ⟨k, hk, hk1, hk2⟩ := exists_node (h1.trans h) h2
  rewrite [saturationPressure_at hj hj1 hj2, saturationPressure_at hk hk1 hk2]
  rcases Nat.lt_trichotomy j k with hlt | rfl | hgt
  · have hpart : (saturationAt (j + 1) - saturationAt j) * (t - tableNode j).toNat / 500 ≤ saturationAt (j + 1) - saturationAt j :=
      part_le (by unfold tableNode at *; omega)
    have := saturation_rises j hj
    have := saturation_mono (show j + 1 ≤ k from hlt) (by omega)
    omega
  · exact Nat.add_le_add_left (Nat.div_le_div_right (Nat.mul_le_mul_left _ (by omega))) _
  · have ht : t = u := by unfold tableNode at *; omega
    subst ht
    rw [← saturationPressure_at hj hj1 hj2, ← saturationPressure_at hk hk1 hk2]

/-! ### Down the table (R71) -/

theorem filter_sorted_length {l : List Nat} (h : l.Pairwise (· < ·)) {j e : Nat} (hj : j + 1 < l.length) (h1 : l[j] ≤ e)
    (h2 : e < l[j + 1]) : (l.filter (· ≤ e)).length = j + 1 := by
  have hlt := List.pairwise_iff_getElem.mp h
  have hlow : (l.take (j + 1)).filter (· ≤ e) = l.take (j + 1) := by
    refine List.filter_eq_self.mpr fun x hx => ?_
    obtain ⟨i, hi, rfl⟩ := List.getElem_of_mem hx
    rewrite [List.getElem_take]
    rewrite [List.length_take] at hi
    rcases Nat.lt_or_eq_of_le (show i ≤ j by omega) with hij | rfl
    · exact decide_eq_true ((hlt i j (by omega) (by omega) hij).le.trans h1)
    · exact decide_eq_true h1
  have hhigh : (l.drop (j + 1)).filter (· ≤ e) = [] := by
    refine List.filter_eq_nil_iff.mpr fun x hx => ?_
    obtain ⟨i, hi, rfl⟩ := List.getElem_of_mem hx
    rewrite [List.getElem_drop]
    rewrite [List.length_drop] at hi
    have hge : l[j + 1] ≤ l[j + 1 + i] := by
      rcases Nat.eq_zero_or_pos i with rfl | hi0
      · exact le_rfl
      · exact (hlt (j + 1) (j + 1 + i) hj (by omega) (by omega)).le
    simpa using Nat.lt_of_lt_of_le h2 hge
  rewrite [← List.take_append_drop (j + 1) l, List.filter_append, hlow, hhigh, List.append_nil, List.length_take]
  omega

theorem saturationIndex_at {j e : Nat} (hj : j < 14) (h1 : saturationAt j ≤ e) (h2 : e < saturationAt (j + 1)) :
    saturationIndex e = j := by
  have hlen : j + 1 < Config.saturation.length := by
    have : Config.saturation.length = 15 := rfl
    omega
  have hget {i : Nat} (hi : i < Config.saturation.length) : saturationAt i = Config.saturation[i] := by
    simp [saturationAt, List.getD_eq_getElem?_getD, hi]
  rewrite [hget (by omega)] at h1
  rewrite [hget hlen] at h2
  rewrite [saturationIndex, filter_sorted_length saturation_sorted hlen h1 h2]
  rfl

/-- The dew point by interpolation between the two entries about the pressure. -/
theorem inverseSaturation_at {j e : Nat} (hj : j < 14) (h1 : saturationAt j ≤ e) (h2 : e < saturationAt (j + 1)) :
    inverseSaturation e =
      (tableNode j + ((e - saturationAt j) * 500 / (saturationAt (j + 1) - saturationAt j) : Nat), false) := by
  have h51 : 51 ≤ e := (saturation_mono (Nat.zero_le j) (by omega)).trans h1
  have htop : e < 7381 := h2.trans_le (saturation_mono (show j + 1 ≤ 14 from hj) le_rfl)
  unfold inverseSaturation
  rewrite [if_neg (Nat.not_lt.mpr h51), if_neg (Nat.not_le.mpr htop)]
  simp only [saturationIndex_at hj h1 h2, tableNode]
  congr 1

theorem inverseSaturation_low {e : Nat} (h : e < 51) : inverseSaturation e = (-3000, true) := if_pos h

theorem inverseSaturation_high {e : Nat} (h : 7381 ≤ e) : inverseSaturation e = (4000, false) :=
  (if_neg (by omega)).trans (if_pos h)

theorem inverseSaturation_node {k : Nat} (hk : k ≤ 14) : inverseSaturation (saturationAt k) = (tableNode k, false) := by
  rcases Nat.lt_or_eq_of_le hk with h | rfl
  · rewrite [inverseSaturation_at h le_rfl (saturation_rises k h)]
    simp
  · rfl

/-- Between two entries the temperature lies between their nodes. -/
theorem inverseSaturation_within {j e : Nat} (hj : j < 14) (h1 : saturationAt j ≤ e) (h2 : e < saturationAt (j + 1)) :
    tableNode j ≤ (inverseSaturation e).1 ∧ (inverseSaturation e).1 ≤ tableNode (j + 1) := by
  rewrite [inverseSaturation_at hj h1 h2]
  have hpart : (e - saturationAt j) * 500 / (saturationAt (j + 1) - saturationAt j) ≤ 500 := by
    rewrite [Nat.mul_comm]
    exact part_le (by omega)
  generalize (e - saturationAt j) * 500 / (saturationAt (j + 1) - saturationAt j) = v at hpart
  unfold tableNode
  omega

theorem inverseSaturation_bounds (e : Nat) : -3000 ≤ (inverseSaturation e).1 ∧ (inverseSaturation e).1 ≤ 4000 := by
  by_cases h1 : e < 51
  · rewrite [inverseSaturation_low h1]
    decide
  · by_cases h2 : 7381 ≤ e
    · rewrite [inverseSaturation_high h2]
      decide
    · obtain ⟨j, hj, hj1, hj2⟩ := exists_entry (Nat.not_lt.mp h1) (Nat.not_le.mp h2)
      have := inverseSaturation_within hj hj1 hj2
      unfold tableNode at this
      omega

theorem inverseSaturation_mono {e f : Nat} (h : e ≤ f) : (inverseSaturation e).1 ≤ (inverseSaturation f).1 := by
  by_cases h1 : e < 51
  · rewrite [inverseSaturation_low h1]
    exact (inverseSaturation_bounds f).1
  by_cases h2 : 7381 ≤ f
  · rewrite [inverseSaturation_high h2]
    exact (inverseSaturation_bounds e).2
  obtain ⟨j, hj, hj1, hj2⟩ := exists_entry (Nat.not_lt.mp h1) (by omega)
  obtain ⟨k, hk, hk1, hk2⟩ := exists_entry ((Nat.not_lt.mp h1).trans h) (Nat.not_le.mp h2)
  rcases Nat.lt_trichotomy j k with hlt | rfl | hgt
  · have hleft := (inverseSaturation_within hj hj1 hj2).2
    have hright := (inverseSaturation_within hk hk1 hk2).1
    unfold tableNode at hleft hright
    omega
  · rewrite [inverseSaturation_at hj hj1 hj2, inverseSaturation_at hk hk1 hk2]
    have hpart : (e - saturationAt j) * 500 / (saturationAt (j + 1) - saturationAt j) ≤
        (f - saturationAt j) * 500 / (saturationAt (j + 1) - saturationAt j) :=
      Nat.div_le_div_right (Nat.mul_le_mul_right _ (by omega))
    exact Int.add_le_add_left (Int.ofNat_le.mpr hpart) _
  · have := saturation_mono (show k + 1 ≤ j from hgt) (by omega)
    omega

/-- Saturated air dews at its own temperature or, by the rounding, below it. -/
theorem inverse_of_pressure_le {ta : Int} (h1 : -3000 ≤ ta) (h2 : ta ≤ 4000) : (inverseSaturation (saturationPressure ta)).1 ≤ ta := by
  obtain ⟨k, hk, hk1, hk2⟩ := exists_node h1 h2
  rcases eq_or_lt_of_le hk2 with heq | hlt
  · rw [heq, saturationPressure_node (by omega), inverseSaturation_node (by omega)]
  · have hp := saturationPressure_at hk hk1 hk2
    have hrise := saturation_rises k hk
    generalize hd : saturationAt (k + 1) - saturationAt k = d at hp
    generalize hy : (ta - tableNode k).toNat = y at hp
    have hy500 : y < 500 := by unfold tableNode at *; omega
    have hdpos : 0 < d := by omega
    have hpart : d * y / 500 < d := Nat.div_lt_of_lt_mul (by rw [Nat.mul_comm]; exact Nat.mul_lt_mul_of_pos_right hy500 hdpos)
    rewrite [inverseSaturation_at hk (by omega) (by omega), hp, hd, Nat.add_sub_cancel_left]
    have hback : d * y / 500 * 500 / d ≤ y := Nat.div_le_of_le_mul (Nat.div_mul_le_self ..)
    generalize d * y / 500 * 500 / d = v at hback
    show tableNode k + (v : Int) ≤ ta
    omega

/-! ### The five stages (R70 to R72) -/

/-- The clamped air temperature. -/
def clampedAir (t : Int) : Int := max (-3000) (min 4000 t)

/-- The vapour pressure of the air (R70). -/
def vapourPressure (t h : Int) : Nat := saturationPressure (clampedAir t) * (max 0 (min 1000 h)).toNat / 1000

theorem clampedAir_bounds (t : Int) : -3000 ≤ clampedAir t ∧ clampedAir t ≤ 4000 := by
  unfold clampedAir
  omega

theorem vapourPressure_le (t h : Int) : vapourPressure t h ≤ saturationPressure (clampedAir t) := part_le (by omega)

/-- The last stage's clamp to the air temperature never acts. -/
theorem dewPoint_eq (t h : Int) : dewPoint t h = inverseSaturation (vapourPressure t h) := by
  obtain ⟨h1, h2⟩ := clampedAir_bounds t
  have hlow := (inverseSaturation_bounds (vapourPressure t h)).1
  have hair := (inverseSaturation_mono (vapourPressure_le t h)).trans (inverse_of_pressure_le h1 h2)
  have hclamp : clampInt (-3000) (clampedAir t) (inverseSaturation (vapourPressure t h)).1 = (inverseSaturation (vapourPressure t h)).1 := by
    rw [clampInt, min_eq_right hair, max_eq_right hlow]
  exact Prod.ext hclamp rfl

theorem dewPoint_within (t h : Int) : -3000 ≤ (dewPoint t h).1 ∧ (dewPoint t h).1 ≤ clampedAir t := by
  obtain ⟨h1, h2⟩ := clampedAir_bounds t
  rewrite [dewPoint_eq]
  exact ⟨(inverseSaturation_bounds _).1, (inverseSaturation_mono (vapourPressure_le t h)).trans (inverse_of_pressure_le h1 h2)⟩

theorem vapourPressure_mono {t u h k : Int} (htu : t ≤ u) (hhk : h ≤ k) : vapourPressure t h ≤ vapourPressure u k := by
  have hair : clampedAir t ≤ clampedAir u := by
    unfold clampedAir
    omega
  refine Nat.div_le_div_right (Nat.mul_le_mul (saturationPressure_mono (clampedAir_bounds t).1 hair (clampedAir_bounds u).2) ?_)
  omega

theorem dewPoint_mono {t u h k : Int} (htu : t ≤ u) (hhk : h ≤ k) : (dewPoint t h).1 ≤ (dewPoint u k).1 := by
  rewrite [dewPoint_eq, dewPoint_eq]
  exact inverseSaturation_mono (vapourPressure_mono htu hhk)

/-- Saturated air at a node of the table. -/
theorem dewPoint_saturated {k : Nat} (hk : k ≤ 14) : dewPoint (tableNode k) 1000 = (tableNode k, false) := by
  have hair : clampedAir (tableNode k) = tableNode k := by
    unfold clampedAir tableNode
    omega
  rewrite [dewPoint_eq, vapourPressure, hair, saturationPressure_node hk]
  show inverseSaturation (saturationAt k * 1000 / 1000) = _
  rw [Nat.mul_div_cancel _ (by decide), inverseSaturation_node hk]

end DewPoint

/-- Settles O56: bounds, monotonicity and the stages, by the table both ways; and saturated air at the nodes. -/
theorem dewPointBoundedMonotone : Obligations.DewPointBoundedMonotone := by
  refine ⟨fun t u h k htu hhk => ⟨(dewPoint_within t h).1, (dewPoint_within t h).2, dewPoint_mono htu hhk⟩, ?_,
    fun k hk => dewPoint_saturated hk⟩
  intro t h k hk es node ta pressure e h1 h2
  have he : vapourPressure t h = e := by
    have hpressure : saturationPressure (clampedAir t) = pressure := saturationPressure_at hk h1 h2
    rw [vapourPressure, hpressure]
  rewrite [dewPoint_eq, he]
  exact ⟨inverseSaturation_low, inverseSaturation_high, fun j hj hj1 hj2 => inverseSaturation_at hj hj1 hj2⟩

/-! PROOF. Frames on the line: bit insertion undone, fields read back, and the first differing level of two frames (R20, R21). -/

section Bits

/-! ### Numbers and their bits -/

theorem natBits_length (w n : Nat) : (natBits w n).length = w := by
  induction w with
  | zero => rfl
  | succ w ih => rw [natBits, List.length_cons, ih]

theorem bitsNat_foldl (l : List Bool) (a : Nat) : l.foldl (fun acc b => acc * 2 + b.toNat) a = a * 2 ^ l.length + bitsNat l := by
  induction l generalizing a with
  | nil => simp [bitsNat]
  | cons b l ih =>
    have hb : bitsNat (b :: l) = (0 * 2 + b.toNat) * 2 ^ l.length + bitsNat l := ih _
    rewrite [List.foldl_cons, ih, hb, List.length_cons, Nat.pow_succ]
    ring

theorem bitsNat_cons (b : Bool) (l : List Bool) : bitsNat (b :: l) = b.toNat * 2 ^ l.length + bitsNat l := by
  rewrite [bitsNat, List.foldl_cons, bitsNat_foldl]
  simp

theorem bitsNat_append (a b : List Bool) : bitsNat (a ++ b) = bitsNat a * 2 ^ b.length + bitsNat b := by
  rewrite [bitsNat, List.foldl_append, bitsNat_foldl]
  rfl

theorem bitsNat_natBits (w n : Nat) : bitsNat (natBits w n) = n % 2 ^ w := by
  induction w with
  | zero => simp [natBits, bitsNat, Nat.mod_one]
  | succ w ih =>
    rewrite [natBits, bitsNat_cons, natBits_length, ih, Nat.mod_pow_succ, Nat.toNat_testBit]
    ring

theorem bitsNat_natBits_of_lt {w n : Nat} (h : n < 2 ^ w) : bitsNat (natBits w n) = n := by
  rw [bitsNat_natBits, Nat.mod_eq_of_lt h]

theorem bitsNat_lt (l : List Bool) : bitsNat l < 2 ^ l.length := by
  induction l with
  | nil => decide
  | cons b l ih =>
    rw [bitsNat_cons, List.length_cons, Nat.pow_succ]
    cases b <;> simp <;> omega

/-- Of two numbers of one width the smaller has 0 where their bits first differ. -/
theorem first_difference {a b : List Bool} (hlen : a.length = b.length) (h : bitsNat a < bitsNat b) :
    ∃ p x y, a = p ++ false :: x ∧ b = p ++ true :: y := by
  induction a generalizing b with
  | nil =>
    obtain rfl := List.eq_nil_of_length_eq_zero hlen.symm
    exact absurd h (lt_irrefl _)
  | cons c a ih =>
    obtain ⟨d, b, rfl⟩ := List.exists_cons_of_length_eq_add_one hlen.symm
    have hlen' : a.length = b.length := Nat.succ.inj hlen
    rewrite [bitsNat_cons, bitsNat_cons, hlen'] at h
    have hb := bitsNat_lt b
    have hsame (e : c = d) : ∃ p x y, c :: a = p ++ false :: x ∧ d :: b = p ++ true :: y := by
      subst e
      obtain ⟨p, x, y, rfl, rfl⟩ := ih hlen' (by omega)
      exact ⟨c :: p, x, y, rfl, rfl⟩
    cases c <;> cases d
    · exact hsame rfl
    · exact ⟨[], a, b, rfl, rfl⟩
    · simp at h
      omega
    · exact hsame rfl

/-! ### Bit insertion (R20) -/

/-- After six equal bits the next one was inserted. -/
theorem removeBits_inserted {n : Nat} {last b : Bool} (h : b ≠ last) (bs : List Bool) :
    removeBits n last 6 (b :: bs) = removeBits n b 1 bs := by
  cases n <;> simp [removeBits, h]

theorem removeBits_field {n run : Nat} (h : run ≠ 6) (last b : Bool) (bs : List Bool) :
    removeBits (n + 1) last run (b :: bs) =
      (removeBits n b (if b = last then run + 1 else 1) bs).map fun r => (b :: r.1, r.2) := by
  simp [removeBits, h]

theorem insertBits_full {last b : Bool} {run : Nat} (h : (if b = last then run + 1 else 1) = 6) (bs : List Bool) :
    insertBits last run (b :: bs) = b :: (!b) :: insertBits (!b) 1 bs := by
  rw [insertBits, if_pos h]

theorem insertBits_plain {last b : Bool} {run : Nat} (h : (if b = last then run + 1 else 1) ≠ 6) (bs : List Bool) :
    insertBits last run (b :: bs) = b :: insertBits b (if b = last then run + 1 else 1) bs := by
  rw [insertBits, if_neg h]

/-- A receiver takes out exactly what a transmitter has put in (R20). -/
theorem removeBits_insertBits (bits : List Bool) (last : Bool) (run : Nat) (h : run ≤ 5) (tail : List Bool) :
    removeBits bits.length last run (insertBits last run bits ++ tail) = some (bits, tail) := by
  induction bits generalizing last run with
  | nil =>
    have hr : run ≠ 6 := by omega
    cases tail <;> simp [insertBits, removeBits, hr]
  | cons b bits ih =>
    by_cases h6 : (if b = last then run + 1 else 1) = 6
    · rewrite [insertBits_full h6, List.cons_append, List.cons_append, List.length_cons, removeBits_field (by omega), h6,
        removeBits_inserted (by simp), ih _ _ (by omega)]
      rfl
    · have hle : (if b = last then run + 1 else 1) ≤ 5 := by
        have : (if b = last then run + 1 else 1) ≤ 6 := by split <;> omega
        omega
      rewrite [insertBits_plain h6, List.cons_append, List.length_cons, removeBits_field (by omega), ih _ _ hle]
      rfl

/-- Insertion goes on behind a prefix by what the prefix leaves. -/
theorem insertBits_append (p : List Bool) (last : Bool) (run : Nat) :
    ∃ l r, ∀ x, insertBits last run (p ++ x) = insertBits last run p ++ insertBits l r x := by
  induction p generalizing last run with
  | nil => exact ⟨last, run, fun x => rfl⟩
  | cons b p ih =>
    by_cases h6 : (if b = last then run + 1 else 1) = 6
    · obtain ⟨l, r, hx⟩ := ih (!b) 1
      exact ⟨l, r, fun x => by rw [List.cons_append, insertBits_full h6, insertBits_full h6, hx]; rfl⟩
    · obtain ⟨l, r, hx⟩ := ih b (if b = last then run + 1 else 1)
      exact ⟨l, r, fun x => by rw [List.cons_append, insertBits_plain h6, insertBits_plain h6, hx]; rfl⟩

/-- The first bit of a field goes on the line as it is. -/
theorem insertBits_head (last b : Bool) (run : Nat) (x : List Bool) : ∃ y, insertBits last run (b :: x) = b :: y := by
  by_cases h6 : (if b = last then run + 1 else 1) = 6
  · exact ⟨_, insertBits_full h6 x⟩
  · exact ⟨_, insertBits_plain h6 x⟩

end Bits

section Frames

/-! ### The check (R20) -/

theorem crc8Bit_lt {c : Nat} (b : Bool) : crc8Bit c b < 256 := by
  unfold crc8Bit
  extract_lets shifted
  have hs : shifted < 2 ^ 8 := Nat.mod_lt _ (by decide)
  split
  · exact Nat.xor_lt_two_pow hs (by decide)
  · exact hs

theorem crc8_lt (bits : List Bool) : crc8 bits < 256 := by
  induction bits using List.reverseRecOn with
  | nil => decide
  | append_singleton bits b _ =>
    rewrite [crc8, List.foldl_append]
    exact crc8Bit_lt b

/-! ### The fields of a frame -/

variable {f g : BusFrame}

/-- Every field lies in its width (10.5). -/
structure BusFrame.Fits (f : BusFrame) : Prop where
  priority : f.priority ≤ 7
  source : f.source ≤ 63
  target : f.target ≤ 63
  point : f.point ≤ 63
  low : -32768 ≤ f.value
  high : f.value ≤ 32767

theorem codeOf_busKinds (k : BusKind) : codeOf busKinds k < 2 ^ 2 ∧ busKinds[codeOf busKinds k]? = some k := by
  cases k <;> decide

theorem bits_length (f : BusFrame) : f.bits.length = 39 := by
  simp [BusFrame.bits, natBits_length]

theorem signed16_value {v : Int} (h1 : -32768 ≤ v) (h2 : v ≤ 32767) : signed16 (v % 65536).toNat = v := by
  unfold signed16
  split <;> omega

/-- A field reads back from its place. -/
theorem field_read {l a c : List Bool} {i w n : Nat} (h : l = a ++ (natBits w n ++ c)) (ha : a.length = i) (hn : n < 2 ^ w) :
    bitsNat ((l.drop i).take w) = n := by
  rw [h, List.drop_left' ha, List.take_left' (natBits_length w n), bitsNat_natBits_of_lt hn]

theorem frameOfBits_bits (h : f.Fits) : frameOfBits f.bits = f := by
  obtain ⟨h1, h2, h3, h4, h5, h6⟩ := h
  obtain ⟨hk, hkind⟩ := codeOf_busKinds f.kind
  have hv : (f.value % 65536).toNat < 2 ^ 16 := by omega
  let p := natBits 3 f.priority
  let k := natBits 2 (codeOf busKinds f.kind)
  let src := natBits 6 f.source
  let dst := natBits 6 f.target
  let pt := natBits 6 f.point
  let v := natBits 16 (f.value % 65536).toNat
  have e1 : bitsNat (f.bits.take 3) = f.priority :=
    field_read (show f.bits = [] ++ (p ++ (k ++ src ++ dst ++ pt ++ v)) by simp [BusFrame.bits, p, k, src, dst, pt, v]) rfl (by omega)
  have e2 : bitsNat ((f.bits.drop 3).take 2) = codeOf busKinds f.kind :=
    field_read (show f.bits = p ++ (k ++ (src ++ dst ++ pt ++ v)) by simp [BusFrame.bits, p, k, src, dst, pt, v])
      (by simp [p, natBits_length]) hk
  have e3 : bitsNat ((f.bits.drop 5).take 6) = f.source :=
    field_read (show f.bits = (p ++ k) ++ (src ++ (dst ++ pt ++ v)) by simp [BusFrame.bits, p, k, src, dst, pt, v])
      (by simp [p, k, natBits_length]) (by omega)
  have e4 : bitsNat ((f.bits.drop 11).take 6) = f.target :=
    field_read (show f.bits = (p ++ k ++ src) ++ (dst ++ (pt ++ v)) by simp [BusFrame.bits, p, k, src, dst, pt, v])
      (by simp [p, k, src, natBits_length]) (by omega)
  have e5 : bitsNat ((f.bits.drop 17).take 6) = f.point :=
    field_read (show f.bits = (p ++ k ++ src ++ dst) ++ (pt ++ v) by simp [BusFrame.bits, p, k, src, dst, pt, v])
      (by simp [p, k, src, dst, natBits_length]) (by omega)
  have e6 : bitsNat ((f.bits.drop 23).take 16) = (f.value % 65536).toNat :=
    field_read (show f.bits = (p ++ k ++ src ++ dst ++ pt) ++ (v ++ []) by simp [BusFrame.bits, p, k, src, dst, pt, v])
      (by simp [p, k, src, dst, pt, natBits_length]) hv
  rewrite [frameOfBits, e1, e2, e3, e4, e5, e6, hkind, signed16_value h5 h6]
  rfl

/-- A receiver reads from the line the very frame that was sent (R20). -/
theorem receiveBits_lineBits (h : f.Fits) : receiveBits f.lineBits = some f := by
  have hlen : (f.bits ++ natBits 8 (crc8 f.bits)).length = 47 := by simp [bits_length, natBits_length]
  have hremove := removeBits_insertBits (f.bits ++ natBits 8 (crc8 f.bits)) false 1 (by decide) (List.replicate 8 true)
  rewrite [hlen] at hremove
  have htake : (f.bits ++ natBits 8 (crc8 f.bits)).take 39 = f.bits := List.take_left' (bits_length f)
  have hcheck : bitsNat ((f.bits ++ natBits 8 (crc8 f.bits)).drop 39) = crc8 f.bits := by
    rw [List.drop_left' (bits_length f), bitsNat_natBits_of_lt (crc8_lt _)]
  show receiveBits (false :: (insertBits false 1 (f.bits ++ natBits 8 (crc8 f.bits)) ++ List.replicate 8 true)) = some f
  simp only [receiveBits, hremove, htake, hcheck, frameOfBits_bits h]
  exact if_pos (by simp)

/-! ### Two frames sent together (R21) -/

/-- The arbitration fields as one number. -/
def BusFrame.arbitration (f : BusFrame) : Nat :=
  (((f.priority * 4 + codeOf busKinds f.kind) * 64 + f.source) * 64 + f.target) * 64 + f.point

theorem arbitration_bits (h : f.Fits) : bitsNat (f.bits.take 23) = f.arbitration := by
  obtain ⟨h1, h2, h3, h4, -, -⟩ := h
  have hk := (codeOf_busKinds f.kind).1
  have htake : f.bits.take 23 = natBits 3 f.priority ++ natBits 2 (codeOf busKinds f.kind) ++ natBits 6 f.source ++
      natBits 6 f.target ++ natBits 6 f.point := List.take_left' (by simp [natBits_length])
  rewrite [htake]
  simp only [bitsNat_append, natBits_length, bitsNat_natBits_of_lt hk, bitsNat_natBits_of_lt (show f.priority < 2 ^ 3 by omega),
    bitsNat_natBits_of_lt (show f.source < 2 ^ 6 by omega), bitsNat_natBits_of_lt (show f.target < 2 ^ 6 by omega),
    bitsNat_natBits_of_lt (show f.point < 2 ^ 6 by omega)]
  rfl

/-- The line carries the arbitration fields up to their first difference, then the differing bit. -/
theorem lineBits_first {p x : List Bool} {b : Bool} {l : Bool} {r : Nat} (h : f.bits.take 23 = p ++ b :: x)
    (hp : ∀ y, insertBits false 1 (p ++ y) = insertBits false 1 p ++ insertBits l r y) :
    ∃ y, f.lineBits = (false :: insertBits false 1 p) ++ b :: (y ++ List.replicate 8 true) := by
  obtain ⟨y, hy⟩ := insertBits_head l b r (x ++ (f.bits.drop 23 ++ natBits 8 (crc8 f.bits)))
  have hbits : f.bits ++ natBits 8 (crc8 f.bits) = p ++ b :: (x ++ (f.bits.drop 23 ++ natBits 8 (crc8 f.bits))) := by
    have hsplit : p ++ b :: x ++ f.bits.drop 23 = f.bits := by rw [← h, List.take_append_drop]
    calc f.bits ++ natBits 8 (crc8 f.bits) = p ++ b :: x ++ f.bits.drop 23 ++ natBits 8 (crc8 f.bits) := by rw [hsplit]
      _ = p ++ b :: (x ++ (f.bits.drop 23 ++ natBits 8 (crc8 f.bits))) := by simp
  refine ⟨y, ?_⟩
  rewrite [BusFrame.lineBits, hbits, hp, hy]
  simp

/-- The acknowledge slot comes behind every bit of the fields and the check. -/
theorem acknowledged_append (a y : List Bool) : acknowledged (a ++ (y ++ List.replicate 8 true)) =
    a ++ (y ++ (false :: List.replicate 7 true)) := by
  have hlen : (a ++ (y ++ List.replicate 8 true)).length - 8 = a.length + y.length := by
    simp only [List.length_append, List.length_replicate]
    omega
  rewrite [acknowledged, hlen, List.set_append_right _ _ (by omega), Nat.add_sub_cancel_left,
    List.set_append_right _ _ le_rfl, Nat.sub_self]
  rfl

/-- Of two frames sent together the numerically higher arbitration fields lose (R21). -/
theorem outcome_lost (hf : f.Fits) (hg : g.Fits) (h : f.arbitration < g.arbitration) : g.outcome f.lineBits = some .lost := by
  rewrite [← arbitration_bits hf, ← arbitration_bits hg] at h
  obtain ⟨p, x, y, hx, hy⟩ := first_difference (by simp [bits_length]) h
  obtain ⟨l, r, hp⟩ := insertBits_append p false 1
  obtain ⟨fRest, hfLine⟩ := lineBits_first hx hp
  obtain ⟨gRest, hgLine⟩ := lineBits_first hy hp
  have hspan : (false :: insertBits false 1 p).length < g.arbitrationSpan := by
    obtain ⟨z, hz⟩ := insertBits_head l true r y
    rewrite [BusFrame.arbitrationSpan, hy, hp, hz]
    simp only [List.length_cons, List.length_append]
    omega
  have hack : acknowledged g.lineBits = (false :: insertBits false 1 p) ++ true :: (gRest ++ (false :: List.replicate 7 true)) := by
    have := acknowledged_append ((false :: insertBits false 1 p) ++ [true]) gRest
    simpa [hgLine] using this
  rw [BusFrame.outcome, hack, hfLine, judgeLevels_differs _ _ _ _ _ _ Bool.false_ne_true, if_pos ⟨rfl, hspan⟩]

end Frames

/-- Settles O59: the round trip of a frame, and the loss of the higher arbitration fields. -/
theorem busFrameRoundTrip : Obligations.BusFrameRoundTrip := by
  unfold Obligations.BusFrameRoundTrip
  intro fits fields
  have hfits {f : BusFrame} (h : fits f) : f.Fits := by
    obtain ⟨h1, h2, h3, h4, h5, h6⟩ := h
    exact ⟨h1, h2, h3, h4, h5, h6⟩
  exact ⟨fun f h => receiveBits_lineBits (hfits h), fun f g hf hg h => outcome_lost (hfits hf) (hfits hg) h⟩

/-! PROOF. What an event of the lighting leaves: L_up, D and the targets it recomputes, the levels that aim at them, and its DERATE
notices (R112, R123 to R127). -/

section Relighting

variable {s t u : State} {sh : Fin 2} {i : Fin 32}

/-! ### DERATE notices (R127) -/

/-- The DERATE notice of one sheet, if its D left or came back to 1000 (R127). -/
def derateChange (s t : State) (sh : Fin 2) : List Offer :=
  let old := (s.lsq.sheets.get sh).derate
  let new := (t.lsq.sheets.get sh).derate
  Offer.when (old = 1000 ∧ new ≠ 1000 ∨ old ≠ 1000 ∧ new = 1000) .derate sh new

theorem derateChanges_eq (s t : State) : derateChanges s t = derateChange s t 0 ++ derateChange s t 1 := by
  simp [derateChanges, derateChange, List.finRange_succ]

theorem derateChanges_congr {a b : State} (hs : a.lsq.sheets = s.lsq.sheets) (ht : b.lsq.sheets = t.lsq.sheets) :
    derateChanges a b = derateChanges s t := by
  simp only [derateChanges, hs, ht]

theorem derateChange_of_eq (h : (t.lsq.sheets.get sh).derate = (s.lsq.sheets.get sh).derate) : derateChange s t sh = [] := by
  simp [derateChange, Offer.when, h]

theorem offered_congr {ns : List Offer} (hl : t.lnk = s.lnk) (hc : t.cfg.notice = s.cfg.notice) (hk : t.scu.clock = s.scu.clock) :
    t.offered ns = s.offered ns := by
  simp only [State.offered, hl, hc, hk]

/-- One of two figures is 1000, the other is not. -/
theorem leaves_iff (a b : Nat) : (((a == 1000) != (b == 1000)) = true) = (a = 1000 ∧ b ≠ 1000 ∨ a ≠ 1000 ∧ b = 1000) := by
  by_cases ha : a = 1000 <;> by_cases hb : b = 1000 <;> simp [ha, hb]

theorem offerWhen_congr {p q : Prop} [Decidable p] [Decidable q] (h : p = q) (k : NoticeKind) (x : Nat) (v : Int) :
    Offer.when p k x v = Offer.when q k x v := by
  subst h
  unfold Offer.when
  split <;> rfl

theorem relightSheet_lnk (sh : Fin 2) (s : State) :
    (s.relightSheet sh).lnk = s.offered (derateChange s (s.relightSheet sh) sh) := by
  have hnew : (s.relightSheet sh).lsq.sheets.get sh = s.relit sh := by rw [relightSheet_lsq]; exact Table.get_set_self ..
  rewrite [derateChange, hnew]
  exact (noticeIf_lnk ..).trans (congrArg s.offered (offerWhen_congr (leaves_iff ..) ..))

/-- Sheets recomputed in index order report in that order. -/
theorem relight_lnk (shs : List (Fin 2)) (s : State) : (s.relight shs).lnk = s.offered (derateChanges s (s.relight shs)) := by
  have step (a : Fin 2) (x : State) : (if shs.contains a then x.relightSheet a else x).lnk =
      x.offered (derateChange x (if shs.contains a then x.relightSheet a else x) a) := by
    split
    · exact relightSheet_lnk a x
    · rewrite [derateChange_of_eq rfl]
      rfl
  have other (a b : Fin 2) (h : a ≠ b) (x : State) :
      (if shs.contains a then x.relightSheet a else x).lsq.sheets.get b = x.lsq.sheets.get b := by
    split
    · simp only [relightSheet_lsq, Table.get_set_ne _ h]
    · rfl
  have setup (a : Fin 2) (x : State) : SetupKept x (if shs.contains a then x.relightSheet a else x) := by
    split
    · exact (relightSheet_heat a x).inner.setup
    · exact SetupKept.refl x
  unfold State.relight
  rewrite [forEach_two, derateChanges_eq]
  have h1 := step 1 (if shs.contains 0 then s.relightSheet 0 else s)
  rewrite [h1, offered_append (setup 0 s).cfg (setup 0 s).scu (step 0 s)]
  simp only [derateChange]
  rw [other 1 0 (by decide), other 0 1 (by decide)]

/-! ### Levels (R112) -/

theorem aim_waiting (j : Bool) (r : ChannelRun) : r.aim false j = r := by simp [ChannelRun.aim]

theorem aim_effect {r : ChannelRun} (h : r.effect ≠ none) (b j : Bool) : r.aim b j = r := by
  cases he : r.effect with
  | none => exact absurd he h
  | some e => simp [ChannelRun.aim, he]

/-- With period 0 in RUN a channel without effect takes its target at once (R112). -/
theorem aim_jumps {r : ChannelRun} (h : r.effect = none) (hp : r.period = 0) : (r.aim true true).level = r.target := by
  unfold ChannelRun.aim
  simp only [h, hp]
  split
  · next h => simp at h
  · split
    · assumption
    · simp

/-! ### What relighting leaves -/

theorem forEach_lnk {n : Nat} (f : Fin n → State → State) (h : ∀ i x, (f i x).lnk = x.lnk) (s : State) : (forEach n f s).lnk = s.lnk :=
  forEach_induct (P := fun x => State.lnk x = s.lnk) f s rfl fun i x hx => (h i x).trans hx

theorem handRemotes_lnk (s : State) : s.handRemotes.lnk = s.lnk := forEach_lnk _ handRemote_lnk s

theorem handOn_lnk (bs : List OutputBinding) (s : State) : (s.handOn bs).lnk = s.lnk := by rw [handOn_outputs]

theorem handedOn_lnk (s : State) : s.handLevels.handRemotes.lnk = s.lnk := (handRemotes_lnk _).trans (handOn_lnk ..)

theorem handedOn_light (s : State) : LightEvent s s.handLevels.handRemotes := (handLevels_light s).trans (handRemotes_light _)

/-- The sheets `shs` were recomputed and reported, no other figure of a sheet changed, nor what demand comes from. -/
structure SheetsRelit (shs : List (Fin 2)) (s t : State) : Prop where
  light : LightEvent s t
  lnk : t.lnk = s.offered (derateChanges s t)
  sheets : ∀ sh, t.lsq.sheets.get sh = if shs.contains sh then s.relit sh else s.lsq.sheets.get sh
  base : ∀ i, (t.lsq.channels.get i).base = (s.lsq.channels.get i).base
  effect : ∀ i, (t.lsq.channels.get i).effect = (s.lsq.channels.get i).effect

theorem SheetsRelit.cfg {shs : List (Fin 2)} (h : SheetsRelit shs s t) : t.cfg = s.cfg := h.light.inner.setup.cfg

theorem lUp_of_kept (hc : t.cfg = s.cfg) (hb : ∀ i, (t.lsq.channels.get i).base = (s.lsq.channels.get i).base)
    (he : ∀ i, (t.lsq.channels.get i).effect = (s.lsq.channels.get i).effect) (sh : Fin 2) : t.lUp sh = s.lUp sh :=
  lUp_congr fun i _ => ⟨by rw [hc], by rw [ChannelRun.demandLevel, ChannelRun.demandLevel, hb, he]⟩

theorem SheetsRelit.lUp {shs : List (Fin 2)} (h : SheetsRelit shs s t) (sh : Fin 2) : t.lUp sh = s.lUp sh :=
  lUp_of_kept h.cfg h.base h.effect sh

/-- The figures of a recomputed sheet are those of the state after the event. -/
theorem SheetsRelit.figures {shs : List (Fin 2)} (h : SheetsRelit shs s t) (hsh : shs.contains sh = true) :
    (t.lsq.sheets.get sh).lUp = t.lUp sh ∧ (t.lsq.sheets.get sh).derate = derateOf (s.lsq.sheets.get sh).allowance (t.lUp sh) ∧
      (t.lsq.sheets.get sh).allowance = (s.lsq.sheets.get sh).allowance := by
  rewrite [h.sheets, if_pos hsh, h.lUp]
  simp only [State.relit, and_self]

/-- A later event of the lighting that leaves the sheets, the demands and the link alone. -/
theorem SheetsRelit.then {shs : List (Fin 2)} (h : SheetsRelit shs s t) (k : LightEvent t u) (hl : u.lnk = t.lnk)
    (hs : u.lsq.sheets = t.lsq.sheets) (hb : ∀ i, (u.lsq.channels.get i).base = (t.lsq.channels.get i).base)
    (he : ∀ i, (u.lsq.channels.get i).effect = (t.lsq.channels.get i).effect) : SheetsRelit shs s u where
  light := h.light.trans k
  lnk := by rw [hl, h.lnk, derateChanges_congr rfl hs]
  sheets sh := by rw [hs, h.sheets]
  base i := (hb i).trans (h.base i)
  effect i := (he i).trans (h.effect i)

theorem relight_relit (shs : List (Fin 2)) (s : State) : SheetsRelit shs s (s.relight shs) :=
  ⟨relight_light shs s, relight_lnk shs s, (relight_lsq shs s).2, fun i => by rw [(relight_lsq shs s).1],
    fun i => by rw [(relight_lsq shs s).1]⟩

theorem SheetsRelit.setTargets {shs : List (Fin 2)} (h : SheetsRelit shs s t) (chosen : Fin 32 → Bool) :
    SheetsRelit shs s (t.setTargets chosen) := by
  refine h.then (setTargets_light chosen t) ?_ (setTargets_rest chosen t).1 (fun i => ?_) fun i => ?_
  · unfold State.setTargets
    split <;> rfl
  · rewrite [setTargets_get]
    split <;> rfl
  · rewrite [setTargets_get]
    split <;> rfl

theorem SheetsRelit.aimChannels {shs : List (Fin 2)} (h : SheetsRelit shs s t) (jumps : Bool) (chosen : Fin 32 → Bool) :
    SheetsRelit shs s (t.aimChannels jumps chosen) := by
  have kept (i : Fin 32) := ChannelRun.aim_kept (t.phase == .run) jumps (t.lsq.channels.get i)
  refine h.then (aimChannels_light jumps chosen t) rfl rfl (fun i => ?_) fun i => ?_
  · rewrite [aimChannels_get]
    split
    · exact (kept i).1
    · rfl
  · rewrite [aimChannels_get]
    split
    · exact (kept i).2.1
    · rfl

/-- Handing on changes outputs and entries only. -/
theorem SheetsRelit.handed {shs : List (Fin 2)} (h : SheetsRelit shs s t) : SheetsRelit shs s t.handLevels.handRemotes :=
  h.then (handedOn_light t) (handedOn_lnk t) (by rw [handedOn_lsq]) (fun i => by rw [handedOn_lsq]) fun i => by rw [handedOn_lsq]

theorem channelDerate_of_sheets (h : t.lsq.sheets = s.lsq.sheets) (c : ChannelConfig) : t.channelDerate c = s.channelDerate c := by
  simp only [State.channelDerate, h]

/-- While ARMED, the sheets and channels that an event of the lighting recomputes (R124): every chosen channel has its effective target
and aims at it, every other one stands. -/
structure Relighted (jumps : Bool) (shs : List (Fin 2)) (also : Fin 32 → Bool) (s t : State) : Prop where
  relit : SheetsRelit shs s t
  channels : ∀ i, t.lsq.channels.get i =
    if s.onSheets shs i || also i then
      ({ s.lsq.channels.get i with target := t.effectiveTarget i } : ChannelRun).aim (s.phase == .run) jumps
    else s.lsq.channels.get i

theorem effectiveTarget_eq (hc : t.cfg = s.cfg) (hs : t.lsq.sheets = s.lsq.sheets)
    (hb : (t.lsq.channels.get i).base = (s.lsq.channels.get i).base) : t.effectiveTarget i = s.effectiveTarget i := by
  simp only [State.effectiveTarget, channelDerate_of_sheets hs, hc, hb]

theorem relightAndAim_relighted (h : s.armed = true) (jumps : Bool) (shs : List (Fin 2)) (also : Fin 32 → Bool) :
    Relighted jumps shs also s (s.relightAndAim jumps shs also) := by
  have heq : s.relightAndAim jumps shs also =
      ((s.relight shs).setTargets fun i => s.onSheets shs i || also i).aimChannels jumps fun i => s.onSheets shs i || also i := by
    unfold State.relightAndAim
    simp only [h, if_true, onSheets_congr (congrArg Configuration.channels (relight_cfg shs s))]
  have hset := (relight_relit shs s).setTargets fun i => s.onSheets shs i || also i
  have hall := hset.aimChannels jumps fun i => s.onSheets shs i || also i
  rewrite [heq]
  refine ⟨hall, fun i => ?_⟩
  have htarget : (((s.relight shs).setTargets fun i => s.onSheets shs i || also i).aimChannels jumps
      fun i => s.onSheets shs i || also i).effectiveTarget i = (s.relight shs).effectiveTarget i :=
    effectiveTarget_eq (setTargets_rest _ _).2.1 (setTargets_rest _ _).1
      ((hall.base i).trans ((relight_relit shs s).base i).symm)
  have hphase : ((s.relight shs).setTargets fun i => s.onSheets shs i || also i).phase = s.phase := hset.light.inner.setup.phase
  rewrite [htarget, aimChannels_get, setTargets_get, relight_armed, hphase, (relight_lsq shs s).1]
  by_cases hc : (s.onSheets shs i || also i) = true
  · rw [if_pos hc, if_pos hc, if_pos ⟨h, hc⟩]
  · rw [if_neg hc, if_neg hc, if_neg fun k => hc k.2]

theorem Relighted.handed {jumps : Bool} {shs : List (Fin 2)} {also : Fin 32 → Bool} (h : Relighted jumps shs also s t) :
    Relighted jumps shs also s t.handLevels.handRemotes := by
  refine ⟨h.relit.handed, fun i => ?_⟩
  rw [handedOn_lsq, h.channels,
    effectiveTarget_eq (handedOn_light t).inner.setup.cfg (by rw [handedOn_lsq]) (by rw [handedOn_lsq])]

/-- A chosen channel has its effective target (R125). -/
theorem Relighted.target {jumps : Bool} {shs : List (Fin 2)} {also : Fin 32 → Bool} (h : Relighted jumps shs also s t)
    (hi : (s.onSheets shs i || also i) = true) : (t.lsq.channels.get i).target =
      max (s.cfg.channels.get i).floor ((s.lsq.channels.get i).base * t.channelDerate (s.cfg.channels.get i) / 1000) := by
  rewrite [h.channels, if_pos hi, (ChannelRun.aim_kept ..).2.2.2.2.2]
  simp only [State.effectiveTarget, derated, h.relit.base, h.relit.cfg]

/-- Steps and periods in use stay. -/
theorem Relighted.step {jumps : Bool} {shs : List (Fin 2)} {also : Fin 32 → Bool} (h : Relighted jumps shs also s t) (i : Fin 32) :
    (t.lsq.channels.get i).step = (s.lsq.channels.get i).step ∧ (t.lsq.channels.get i).period = (s.lsq.channels.get i).period := by
  rewrite [h.channels]
  split
  · obtain ⟨-, -, hs, hp, -, -⟩ := ChannelRun.aim_kept (s.phase == .run) jumps
      { s.lsq.channels.get i with target := t.effectiveTarget i }
    exact ⟨hs, hp⟩
  · exact ⟨rfl, rfl⟩

/-- Outside RUN no level moves (R132). -/
theorem Relighted.level_waiting {jumps : Bool} {shs : List (Fin 2)} {also : Fin 32 → Bool} (h : Relighted jumps shs also s t)
    (hp : s.phase ≠ .run) (i : Fin 32) : (t.lsq.channels.get i).level = (s.lsq.channels.get i).level := by
  rewrite [h.channels, beq_false_of_ne hp]
  split
  · rw [aim_waiting]
  · rfl

/-- In RUN a chosen channel with period 0 and no effect is on its target (R112). -/
theorem Relighted.level_jumps {shs : List (Fin 2)} {also : Fin 32 → Bool} (h : Relighted true shs also s t)
    (hi : (s.onSheets shs i || also i) = true) (hp : s.phase = .run) (he : (s.lsq.channels.get i).effect = none)
    (h0 : (s.lsq.channels.get i).period = 0) : (t.lsq.channels.get i).level = (t.lsq.channels.get i).target := by
  rewrite [h.channels, if_pos hi, (ChannelRun.aim_kept ..).2.2.2.2.2, beq_iff_eq.mpr hp]
  exact aim_jumps he h0

theorem contains_sheetsOf (s : State) (i : Fin 32) (sh : Fin 2) :
    (s.sheetsOf i).contains sh = true ↔ (s.cfg.channels.get i).sheet = some sh := by
  simp [State.sheetsOf, eq_comm]

end Relighting

/-! PROOF. The acts of the lighting and the WRITE of a channel (R111, R114, R116 to R119, R122). -/

section ChannelActs

variable {s t : State} {tag : Byte} {i : Fin 32}

theorem armed_eq (h : s.pru.state = .armed) : s.armed = true := armed_iff.mpr h

theorem armed_eq_false (h : s.pru.state ≠ .armed) : s.armed = false := by simpa [State.armed] using h

/-! ### CHANNEL_SET and EFFECT_STOP (R114, R122) -/

/-- The channel that takes a base target, before its target follows (R114). -/
def State.based (i : Fin 32) (level : Nat) (s : State) : State :=
  s.setChannel i (({ s.lsq.channels.get i with base := level, effect := none } : ChannelRun).ownStep (s.cfg.channels.get i))

theorem setBase_relighted (h : s.pru.state = .armed) (i : Fin 32) (level : Nat) :
    Relighted true (s.sheetsOf i) (· == i) (s.based i level) (s.setBase i level) :=
  (relightAndAim_relighted (s := s.based i level) (armed_eq h) true (s.sheetsOf i) (· == i)).handed

/-- What both acts leave (R114, R122, R124, R127). -/
structure BaseSet (i : Fin 32) (level : Nat) (s t : State) : Prop where
  light : LightEvent s t
  lnk : t.lnk = s.offered (derateChanges s t)
  base : (t.lsq.channels.get i).base = level
  effect : (t.lsq.channels.get i).effect = none
  step : (t.lsq.channels.get i).step = (s.cfg.channels.get i).step
  period : (t.lsq.channels.get i).period = (s.cfg.channels.get i).period
  target : (t.lsq.channels.get i).target =
    max (s.cfg.channels.get i).floor (level * t.channelDerate (s.cfg.channels.get i) / 1000)
  sheet : ∀ sh, (s.cfg.channels.get i).sheet = some sh → (t.lsq.sheets.get sh).lUp = t.lUp sh ∧
    (t.lsq.sheets.get sh).derate = derateOf (s.lsq.sheets.get sh).allowance (t.lUp sh)
  others : ∀ sh, (s.cfg.channels.get i).sheet ≠ some sh → t.lsq.sheets.get sh = s.lsq.sheets.get sh
  quiet : ∀ j, j ≠ i → (t.lsq.channels.get j).base = (s.lsq.channels.get j).base ∧
    (t.lsq.channels.get j).effect = (s.lsq.channels.get j).effect ∧
    (t.lsq.channels.get j).step = (s.lsq.channels.get j).step ∧
    (t.lsq.channels.get j).period = (s.lsq.channels.get j).period
  jumps : s.phase = .run → (s.cfg.channels.get i).period = 0 → (t.lsq.channels.get i).level = (t.lsq.channels.get i).target
  waits : s.phase ≠ .run → (t.lsq.channels.get i).level = (s.lsq.channels.get i).level

theorem setBase_baseSet (h : s.pru.state = .armed) (i : Fin 32) (level : Nat) : BaseSet i level s (s.setBase i level) := by
  have hr := setBase_relighted h i level
  have hi : ((s.based i level).onSheets (s.sheetsOf i) i || (i == i)) = true := by simp
  have hself : (s.based i level).lsq.channels.get i =
      ({ s.lsq.channels.get i with base := level, effect := none } : ChannelRun).ownStep (s.cfg.channels.get i) := Table.get_set_self ..
  have hother (j : Fin 32) (hj : j ≠ i) : (s.based i level).lsq.channels.get j = s.lsq.channels.get j :=
    Table.get_set_ne s.lsq.channels hj.symm _
  constructor
  case light => exact (setChannel_light ..).trans hr.relit.light
  case lnk => exact hr.relit.lnk
  case base => rw [hr.relit.base, hself]; rfl
  case effect => rw [hr.relit.effect, hself]; rfl
  case step => rw [(hr.step i).1, hself]; rfl
  case period => rw [(hr.step i).2, hself]; rfl
  case target => rw [hr.target hi, hself]; rfl
  case sheet =>
    intro sh hsh
    obtain ⟨hup, hd, -⟩ := hr.relit.figures ((contains_sheetsOf s i sh).mpr hsh)
    exact ⟨hup, hd⟩
  case others =>
    intro sh hsh
    rewrite [hr.relit.sheets, if_neg (mt (contains_sheetsOf s i sh).mp hsh)]
    rfl
  case quiet =>
    intro j hj
    rewrite [hr.relit.base, hr.relit.effect, (hr.step j).1, (hr.step j).2, hother j hj]
    exact ⟨rfl, rfl, rfl, rfl⟩
  case jumps => exact fun hp h0 => hr.level_jumps hi hp (by rw [hself]; rfl) (by rw [hself]; exact h0)
  case waits => intro hp; rw [hr.level_waiting hp, hself]; rfl

theorem actChannelSet_eq {v : Nat} (hv : v < 65536) (h : ActReady tag 2 (u8 i ++ u16 v) s) :
    actChannelSet (u8 i ++ u16 v) s =
      if !s.armed then .error .locked else done (if v ≤ 4095 then 0 else 1) (s.setBase i (min 4095 v)) := by
  have hw : u16At (u8 i ++ u16 v) 1 = v := u16At_u16 hv
  rewrite [actChannelSet, actReady_word (n := 3) h rfl, index_head (by decide)]
  dsimp only
  rw [hw, limited_level]

theorem actEffectStop_eq (h : ActReady tag 4 (u8 i) s) : actEffectStop (u8 i) s =
    if (s.lsq.channels.get i).effect.isNone then .error .notNow else done 0 (s.setBase i (s.lsq.channels.get i).level) := by
  have hi : index 32 (u8At (u8 i) 0) = some i := index_head (by decide) i []
  rw [actEffectStop, actReady_word (n := 1) h rfl, hi]

theorem exec_channelSet {fields : List Byte} (h : ActReady tag 2 fields s) :
    exec (.channelSet tag fields) s = .next (s.conclude tag (actChannelSet fields s)) :=
  congrArg Host.Outcome.next (serveAct_ready h.ready _)

theorem exec_effectStop {fields : List Byte} (h : ActReady tag 4 fields s) :
    exec (.effectStop tag fields) s = .next (s.conclude tag (actEffectStop fields s)) :=
  congrArg Host.Outcome.next (serveAct_ready h.ready _)

end ChannelActs

/-- Settles O22: both acts give the channel a base target and relight its sheet. -/
theorem channelActsSetBase : Obligations.ChannelActsSetBase := by
  intro tag i s c r set
  have hset (ha : s.pru.state = .armed) (level : Nat) : set level (s.setBase i level) := by
    have h := setBase_baseSet ha i level
    exact ⟨h.light, h.lnk, h.base, h.effect, h.step, h.period, h.target, h.sheet, h.others, h.quiet, h.jumps, h.waits⟩
  refine ⟨fun v h => ?_, fun h => ?_⟩
  · rewrite [exec_channelSet h, actChannelSet_eq v.isLt h]
    refine ⟨fun ha => ?_, fun ha => ⟨s.setBase i (min 4095 v.toNat), ?_, hset ha _⟩⟩
    · rewrite [armed_eq_false ha]
      rfl
    · rw [armed_eq ha, if_neg (by decide), conclude_counted]
  · rewrite [exec_effectStop h, actEffectStop_eq h]
    refine ⟨fun he => ?_, fun he ha => ⟨s.setBase i r.level, ?_, hset ha _⟩⟩
    · rewrite [if_pos (Option.isNone_iff_eq_none.mpr he)]
      rfl
    · rw [if_neg (by simpa [r] using he), conclude_unclamped]

section EffectStart

variable {s : State} {tag : Byte} {i : Fin 32}

theorem limited_inside {lo hi v : Nat} (h1 : lo ≤ v) (h2 : v ≤ hi) : limited lo hi v = (v, 0) := by
  simp [limited, clampedBy, clampNat, h1, h2]

theorem shapes_code (x : Shape) : codeOf shapes x < 256 ∧ shapes[codeOf shapes x]? = some x := by
  cases x <;> decide

theorem setChannel_lnk (i : Fin 32) (r : ChannelRun) (s : State) : (s.setChannel i r).lnk = s.lnk := rfl

/-- The first sample of a channel that runs an effect (R119). -/
theorem takeSample_eq {e : Effect} (h : (s.lsq.channels.get i).effect = some e) :
    s.takeSample i = s.setChannel i { s.lsq.channels.get i with level := s.sampleLevel i e } := by
  unfold State.takeSample
  simp only [h]

/-- The channel that begins an effect, before its target follows (R118). -/
def State.effectSet (i : Fin 32) (e : Effect) (s : State) : State :=
  s.setChannel i { s.lsq.channels.get i with effect := some e, timer := none }

/-- The state after EFFECT_START, but for its first sample. -/
def State.effectAimed (i : Fin 32) (e : Effect) (s : State) : State :=
  (s.effectSet i e).relightAndAim true (s.sheetsOf i) (· == i)

theorem effectAimed_get (h : s.pru.state = .armed) (i : Fin 32) (e : Effect) :
    (s.effectAimed i e).lsq.channels.get i = { s.lsq.channels.get i with
      effect := some e, timer := none, target := (s.effectAimed i e).effectiveTarget i } := by
  have hr := relightAndAim_relighted (s := s.effectSet i e) (armed_eq h) true (s.sheetsOf i) (· == i)
  have hself : (s.effectSet i e).lsq.channels.get i = { s.lsq.channels.get i with effect := some e, timer := none } :=
    Table.get_set_self ..
  refine (hr.channels i).trans ?_
  rewrite [if_pos (by simp), hself, aim_effect (by simp)]
  rfl

/-- The lighting after EFFECT_START (R118, R119, R124). -/
structure EffectStarted (i : Fin 32) (e : Effect) (s t : State) : Prop where
  relit : SheetsRelit (s.sheetsOf i) (s.effectSet i e) t
  timer : (t.lsq.channels.get i).timer = none
  step : (t.lsq.channels.get i).step = (s.lsq.channels.get i).step
  sample : s.phase = .run → (t.lsq.channels.get i).level = t.sampleLevel i e
  waits : s.phase ≠ .run → (t.lsq.channels.get i).level = (s.lsq.channels.get i).level

theorem EffectStarted.handed {t : State} {e : Effect} (h : EffectStarted i e s t) : EffectStarted i e s t.handLevels.handRemotes := by
  have hsample : t.handLevels.handRemotes.sampleLevel i e = t.sampleLevel i e := by
    simp only [State.sampleLevel, (handedOn_light t).inner.setup.cfg, channelDerate_of_sheets (congrArg Lsq.sheets (handedOn_lsq t))]
  exact ⟨h.relit.handed, by rw [handedOn_lsq, h.timer], by rw [handedOn_lsq, h.step],
    fun hp => by rw [handedOn_lsq, hsample, h.sample hp], fun hp => by rw [handedOn_lsq, h.waits hp]⟩

theorem startEffect_started (h : s.pru.state = .armed) (i : Fin 32) (e : Effect) : EffectStarted i e s (s.startEffect i e) := by
  have hrelit := (relightAndAim_relighted (s := s.effectSet i e) (armed_eq h) true (s.sheetsOf i) (· == i)).relit
  have hget := effectAimed_get h i e
  by_cases hp : s.phase = .run
  · have heq : s.startEffect i e = ((s.effectAimed i e).takeSample i).handLevels.handRemotes := by
      unfold State.startEffect
      dsimp only
      exact congrArg State.handRemotes (if_pos hp)
    have hsampled : (s.effectAimed i e).takeSample i =
        (s.effectAimed i e).setChannel i { (s.effectAimed i e).lsq.channels.get i with level := (s.effectAimed i e).sampleLevel i e } :=
      takeSample_eq (by rw [hget])
    rewrite [heq, hsampled]
    refine EffectStarted.handed ⟨hrelit.then (setChannel_light ..) (setChannel_lnk ..) (setChannel_rest ..).1 (fun j => ?_) fun j => ?_, ?_, ?_, fun _ => ?_,
      fun hn => absurd hp hn⟩
    · rewrite [setChannel_get]
      split
      · next e => rw [← e]; rfl
      · rfl
    · rewrite [setChannel_get]
      split
      · next e => rw [← e]; rfl
      · rfl
    · rw [setChannel_get, if_pos rfl, hget]
    · rw [setChannel_get, if_pos rfl, hget]
    · rewrite [setChannel_get, if_pos rfl]
      rfl
  · have heq : s.startEffect i e = (s.effectAimed i e).handLevels.handRemotes := by
      unfold State.startEffect
      dsimp only
      exact congrArg State.handRemotes (if_neg hp)
    rewrite [heq]
    exact EffectStarted.handed ⟨hrelit, by rw [hget], by rw [hget], fun hn => absurd hn hp, fun _ => by rw [hget]⟩

theorem exec_effectStart {fields : List Byte} (h : ActReady tag 3 fields s) :
    exec (.effectStart tag fields) s = .next (s.conclude tag (actEffectStart fields s)) :=
  congrArg Host.Outcome.next (serveAct_ready h.ready _)

/-- With every field in its range nothing is clamped (R118). -/
theorem actEffectStart_eq {shape : Shape} {low high period duty : Nat} (h1 : low ≤ high) (h2 : high ≤ 4095) (h3 : 5 ≤ period)
    (h4 : period ≤ 600) (h5 : duty ≤ 1000) (ha : s.pru.state = .armed)
    (h : ActReady tag 3 (u8 i ++ u8 (codeOf shapes shape) ++ u16 low ++ u16 high ++ u16 period ++ u16 duty) s) :
    actEffectStart (u8 i ++ u8 (codeOf shapes shape) ++ u16 low ++ u16 high ++ u16 period ++ u16 duty) s =
      done 0 (s.startEffect i ⟨shape, low, high, period, if shape = .pulse then some duty else none, 0, 20⟩) := by
  have hshape : nameAt shapes (u8 i ++ u8 (codeOf shapes shape) ++ u16 low ++ u16 high ++ u16 period ++ u16 duty) 1 = some shape :=
    (congrArg (fun k => shapes[k]?) (u8At_head (shapes_code shape).1 [])).trans (shapes_code shape).2
  have hlow : u16At (u8 i ++ u8 (codeOf shapes shape) ++ u16 low ++ u16 high ++ u16 period ++ u16 duty) 2 = low :=
    u16At_u16 (by omega)
  have hhigh : u16At (u8 i ++ u8 (codeOf shapes shape) ++ u16 low ++ u16 high ++ u16 period ++ u16 duty) 4 = high :=
    u16At_u16 (by omega)
  have hperiod : u16At (u8 i ++ u8 (codeOf shapes shape) ++ u16 low ++ u16 high ++ u16 period ++ u16 duty) 6 = period :=
    u16At_u16 (by omega)
  have hduty : u16At (u8 i ++ u8 (codeOf shapes shape) ++ u16 low ++ u16 high ++ u16 period ++ u16 duty) 8 = duty :=
    u16At_u16 (by omega)
  have hindex : index 32 (u8At (u8 i ++ u8 (codeOf shapes shape) ++ u16 low ++ u16 high ++ u16 period ++ u16 duty) 0) = some i :=
    index_head (by decide) i []
  have hpulse : limitedOption 0 1000 (if shape = .pulse then some duty else none) = (if shape = .pulse then some duty else none, 0) := by
    split
    · simp [limitedOption, limited_inside (Nat.zero_le duty) h5]
    · rfl
  rewrite [actEffectStart, actReady_word (n := 10) h rfl]
  dsimp only
  rewrite [hshape, hlow, hhigh, hperiod, hduty, hindex, limited_inside (Nat.zero_le low) (by omega),
    limited_inside (Nat.zero_le high) h2, limited_inside h3 h4]
  dsimp only
  rewrite [hpulse, if_neg (by omega), armed_eq ha]
  rfl

end EffectStart

/-- Settles O23: the effect runs from phase 0, its sheet is relit, and in RUN the first sample is taken. -/
theorem effectStartRunsEffect : Obligations.EffectStartRunsEffect := by
  intro tag i shape low high period duty s h1 h2 h3 h4 h5 ha fields c e h
  have hs := startEffect_started ha i e
  have hself : (s.effectSet i e).lsq.channels.get i = { s.lsq.channels.get i with effect := some e, timer := none } :=
    Table.get_set_self ..
  have hother (j : Fin 32) (hj : j ≠ i) : (s.effectSet i e).lsq.channels.get j = s.lsq.channels.get j :=
    Table.get_set_ne s.lsq.channels hj.symm _
  refine ⟨s.startEffect i e, ?_, (setChannel_light ..).trans hs.relit.light, hs.relit.lnk, ?_, hs.timer, ?_, hs.step,
    fun sh hsh => ?_, hs.sample, hs.waits, fun j hj => ?_⟩
  · rw [exec_effectStart h, actEffectStart_eq h1 h2 h3 h4 h5 ha h, conclude_unclamped]
  · rw [hs.relit.effect, hself]
  · rw [hs.relit.base, hself]
  · obtain ⟨hup, hd, -⟩ := hs.relit.figures ((contains_sheetsOf s i sh).mpr hsh)
    exact ⟨hup, hd⟩
  · rewrite [hs.relit.base, hs.relit.effect, hother j hj]
    exact ⟨rfl, rfl⟩

section SceneRecall

variable {s : State} {tag : Byte} {k : Fin 24} {fade : Option Nat}

/-- The fade time of a recall: its own, else the scene's (R117). -/
def State.recallFade (s : State) (k : Fin 24) (fade : Option Nat) : Option Nat :=
  match fade with | some x => some x | none => (s.cfg.scenes.get k).fade

/-- The channels with the base targets of a scene, before anything follows (R116). -/
def State.sceneSet (k : Fin 24) (s : State) : State :=
  s.mapChannels fun i r =>
    match (s.cfg.scenes.get k).levels.get i with
    | some level => { r with base := level, effect := none }
    | none => r

/-- The step and period in use of a recalled channel (R117). -/
def State.recallStepped (s : State) (k : Fin 24) (fade : Option Nat) (i : Fin 32) (r : ChannelRun) : ChannelRun :=
  if ((s.cfg.scenes.get k).levels.get i).isSome then
    { r with
      step := (recallStep (s.cfg.channels.get i) (s.recallFade k fade) (natDistance r.target r.level)).1
      period := (recallStep (s.cfg.channels.get i) (s.recallFade k fade) (natDistance r.target r.level)).2 }
  else r

theorem recallStepped_kept (s : State) (k : Fin 24) (fade : Option Nat) (i : Fin 32) (r : ChannelRun) :
    (s.recallStepped k fade i r).base = r.base ∧ (s.recallStepped k fade i r).effect = r.effect ∧
      (s.recallStepped k fade i r).target = r.target ∧ (s.recallStepped k fade i r).level = r.level := by
  unfold State.recallStepped
  split <;> exact ⟨rfl, rfl, rfl, rfl⟩

/-- The recall before its channels aim. -/
def State.sceneStepped (k : Fin 24) (fade : Option Nat) (s : State) : State :=
  (((s.sceneSet k).relight [0, 1]).setTargets fun _ => true).mapChannels (s.recallStepped k fade)

theorem recall_eq (k : Fin 24) (fade : Option Nat) (s : State) :
    s.recall k fade = ((s.sceneStepped k fade).aimChannels true fun _ => true).handLevels.handRemotes := rfl

theorem sceneStepped_get (k : Fin 24) (fade : Option Nat) (s : State) (i : Fin 32) :
    (s.sceneStepped k fade).lsq.channels.get i =
      s.recallStepped k fade i ((((s.sceneSet k).relight [0, 1]).setTargets fun _ => true).lsq.channels.get i) := by
  simp [State.sceneStepped, State.mapChannels]

theorem mapChannels_rest (f : Fin 32 → ChannelRun → ChannelRun) (s : State) :
    (s.mapChannels f).lnk = s.lnk ∧ (s.mapChannels f).lsq.sheets = s.lsq.sheets := ⟨rfl, rfl⟩

theorem sceneStepped_relit (k : Fin 24) (fade : Option Nat) (s : State) :
    SheetsRelit [0, 1] (s.sceneSet k) (s.sceneStepped k fade) := by
  have hset := (relight_relit [0, 1] (s.sceneSet k)).setTargets fun _ => true
  refine hset.then (mapChannels_light ..) (mapChannels_rest ..).1 (mapChannels_rest ..).2 (fun i => ?_) fun i => ?_
  · exact (congrArg ChannelRun.base (sceneStepped_get k fade s i)).trans (recallStepped_kept ..).1
  · exact (congrArg ChannelRun.effect (sceneStepped_get k fade s i)).trans (recallStepped_kept ..).2.1

theorem recall_relit (k : Fin 24) (fade : Option Nat) (s : State) : SheetsRelit [0, 1] (s.sceneSet k) (s.recall k fade) := by
  rewrite [recall_eq]
  exact ((sceneStepped_relit k fade s).aimChannels true fun _ => true).handed

/-- Each channel takes its target, then its step, then it aims (R116, R117). -/
theorem recall_get (h : s.pru.state = .armed) (k : Fin 24) (fade : Option Nat) (i : Fin 32) :
    (s.recall k fade).lsq.channels.get i =
      (s.recallStepped k fade i { (s.sceneSet k).lsq.channels.get i with
        target := (s.recall k fade).effectiveTarget i }).aim (s.phase == .run) true := by
  have hall := recall_relit k fade s
  have hlit := relight_relit [0, 1] (s.sceneSet k)
  have hsheets : (s.recall k fade).lsq.sheets = ((s.sceneSet k).relight [0, 1]).lsq.sheets := by
    rewrite [recall_eq, handedOn_lsq]
    exact (setTargets_rest (fun _ => true) ((s.sceneSet k).relight [0, 1])).1
  have htarget : (s.recall k fade).effectiveTarget i = ((s.sceneSet k).relight [0, 1]).effectiveTarget i :=
    effectiveTarget_eq (hall.cfg.trans hlit.cfg.symm) hsheets ((hall.base i).trans (hlit.base i).symm)
  have hphase : (s.sceneStepped k fade).phase = s.phase := (sceneStepped_relit k fade s).light.inner.setup.phase
  rw [htarget, recall_eq, handedOn_lsq, aimChannels_get, if_pos rfl, hphase, sceneStepped_get, setTargets_get,
    if_pos ⟨(relight_armed ..).trans (armed_eq h), rfl⟩, (relight_lsq ..).1]

theorem sceneSet_get_some {level : Nat} {i : Fin 32} (h : (s.cfg.scenes.get k).levels.get i = some level) :
    (s.sceneSet k).lsq.channels.get i = { s.lsq.channels.get i with base := level, effect := none } := by
  simp [State.sceneSet, State.mapChannels, h]

theorem sceneSet_get_none {i : Fin 32} (h : (s.cfg.scenes.get k).levels.get i = none) :
    (s.sceneSet k).lsq.channels.get i = s.lsq.channels.get i := by
  simp [State.sceneSet, State.mapChannels, h]

theorem sceneSet_level (k : Fin 24) (s : State) (i : Fin 32) :
    ((s.sceneSet k).lsq.channels.get i).level = (s.lsq.channels.get i).level := by
  cases h : (s.cfg.scenes.get k).levels.get i with
  | none => rw [sceneSet_get_none h]
  | some level => rw [sceneSet_get_some h]

/-- A present entry's step and period in use (R117). -/
theorem recall_stepped (h : s.pru.state = .armed) (fade : Option Nat) {level : Nat} {i : Fin 32}
    (hl : (s.cfg.scenes.get k).levels.get i = some level) :
    (((s.recall k fade).lsq.channels.get i).step, ((s.recall k fade).lsq.channels.get i).period) =
      recallStep (s.cfg.channels.get i) (s.recallFade k fade)
        (natDistance ((s.recall k fade).lsq.channels.get i).target (s.lsq.channels.get i).level) := by
  rw [recall_get h, (ChannelRun.aim_kept ..).2.2.1, (ChannelRun.aim_kept ..).2.2.2.1, (ChannelRun.aim_kept ..).2.2.2.2.2,
    (recallStepped_kept ..).2.2.1, State.recallStepped, if_pos (by rw [hl]; rfl)]
  simp only [sceneSet_level]

/-- An absent entry's step and period in use stay. -/
theorem recall_unstepped (h : s.pru.state = .armed) (fade : Option Nat) {i : Fin 32}
    (hl : (s.cfg.scenes.get k).levels.get i = none) :
    ((s.recall k fade).lsq.channels.get i).step = (s.lsq.channels.get i).step ∧
      ((s.recall k fade).lsq.channels.get i).period = (s.lsq.channels.get i).period := by
  rw [recall_get h, (ChannelRun.aim_kept ..).2.2.1, (ChannelRun.aim_kept ..).2.2.2.1, State.recallStepped, if_neg (by rw [hl]; decide),
    sceneSet_get_none hl]
  exact ⟨rfl, rfl⟩

theorem recall_target (h : s.pru.state = .armed) (k : Fin 24) (fade : Option Nat) (i : Fin 32) :
    ((s.recall k fade).lsq.channels.get i).target = max (s.cfg.channels.get i).floor
      (((s.recall k fade).lsq.channels.get i).base * (s.recall k fade).channelDerate (s.cfg.channels.get i) / 1000) := by
  have htarget : ((s.recall k fade).lsq.channels.get i).target = (s.recall k fade).effectiveTarget i := by
    rw [recall_get h, (ChannelRun.aim_kept ..).2.2.2.2.2, (recallStepped_kept ..).2.2.1]
  rewrite [htarget, State.effectiveTarget, (recall_relit k fade s).cfg]
  rfl

theorem recall_level (h : s.pru.state = .armed) (hp : s.phase ≠ .run) (fade : Option Nat) (i : Fin 32) :
    ((s.recall k fade).lsq.channels.get i).level = (s.lsq.channels.get i).level := by
  rewrite [recall_get h, beq_false_of_ne hp, aim_waiting, (recallStepped_kept ..).2.2.2]
  exact sceneSet_level k s i

/-! ### The step that a fade time gives (R117) -/

theorem le_ceilDiv_mul (a : Nat) {b : Nat} (h : 0 < b) : a ≤ ceilDiv a b * b := by
  have hlt := Nat.lt_div_mul_add (a := a + b - 1) h
  unfold ceilDiv
  omega

theorem ceilDiv_mul_lt {a : Nat} {b : Nat} (h : 0 < b) : ceilDiv a b * b < a + b := by
  have hle := Nat.div_mul_le_self (a + b - 1) b
  unfold ceilDiv
  omega

theorem recallStep_fade (c : ChannelConfig) {f : Nat} (h : 1 ≤ f) (distance : Nat) :
    recallStep c (some f) distance =
      (clampNat 1 4095 (ceilDiv (distance * if c.period = 0 then 20 else c.period) (f * 100)), if c.period = 0 then 20 else c.period) := by
  obtain ⟨n, rfl⟩ := Nat.exists_eq_add_of_le' h
  rfl

/-- The clamped step reaches `a` in the time `b` unless it is the greatest, and is the least that does unless it is 1. -/
theorem clampedStep_spec (a : Nat) {b : Nat} (h : 0 < b) :
    1 ≤ clampNat 1 4095 (ceilDiv a b) ∧ clampNat 1 4095 (ceilDiv a b) ≤ 4095 ∧
      (a ≤ 4095 * b → a ≤ clampNat 1 4095 (ceilDiv a b) * b) ∧
      (4095 * b < a → clampNat 1 4095 (ceilDiv a b) = 4095) ∧
      (2 ≤ clampNat 1 4095 (ceilDiv a b) → (clampNat 1 4095 (ceilDiv a b) - 1) * b < a) := by
  have hle := le_ceilDiv_mul a h
  have hlt := ceilDiv_mul_lt (a := a) h
  unfold clampNat
  refine ⟨by omega, by omega, fun ha => ?_, fun ha => ?_, fun hs => ?_⟩
  · have hq : ceilDiv a b ≤ 4095 := by
      by_contra hn
      have := Nat.mul_le_mul_right b (show 4096 ≤ ceilDiv a b by omega)
      omega
    exact hle.trans (Nat.mul_le_mul_right b (by omega))
  · have hq : 4095 < ceilDiv a b := by
      by_contra hn
      have := Nat.mul_le_mul_right b (show ceilDiv a b ≤ 4095 by omega)
      omega
    omega
  · have := Nat.mul_le_mul_right b (show max 1 (min 4095 (ceilDiv a b)) - 1 + 1 ≤ ceilDiv a b by omega)
    rewrite [Nat.add_mul] at this
    omega

theorem exec_sceneRecall {fields : List Byte} (h : ActReady tag 1 fields s) :
    exec (.sceneRecall tag fields) s = .next (s.conclude tag (actSceneRecall fields s)) :=
  congrArg Host.Outcome.next (serveAct_ready h.ready _)

theorem actSceneRecall_eq (hf : ∀ f, fade = some f → f ≤ 600) (h : ActReady tag 1 (u8 k ++ optional u16 0 fade) s) :
    actSceneRecall (u8 k ++ optional u16 0 fade) s = if !s.armed then .error .locked else done 0 (s.recall k fade) := by
  have hi (l : List Byte) : index 24 (u8At (u8 k ++ l) 0) = some k := index_head (by decide) k l
  cases fade with
  | none =>
    rewrite [actSceneRecall, actReady_word (n := 4) h rfl]
    dsimp only
    rewrite [hi]
    rfl
  | some f =>
    have hle := hf f rfl
    have hopt : optionAt u16At (u8 k ++ optional u16 0 (some f)) 1 = some (some f) :=
      congrArg (fun v => some (some v)) (u16At_u16 (by omega))
    rewrite [actSceneRecall, actReady_word (n := 4) h rfl, hopt]
    dsimp only
    rewrite [hi]
    simp only [limitedOption, limited_inside (Nat.zero_le f) hle]

end SceneRecall

/-- Settles O24: the scene's base targets, both sheets and every target relit, then the steps by the fade time. -/
theorem sceneRecallSetsTargets : Obligations.SceneRecallSetsTargets := by
  refine ⟨fun tag k fade s hf => ?_, fun c f distance h1 _ _ => ⟨rfl, rfl, _, _, recallStep_fade c h1 distance, rfl, ?_⟩⟩
  · intro fields scene f h
    rewrite [exec_sceneRecall h, actSceneRecall_eq hf h]
    refine ⟨fun ha => ?_, fun ha => ?_⟩
    · rewrite [armed_eq_false ha]
      rfl
    · have hr := recall_relit k fade s
      refine ⟨s.recall k fade, ?_, (mapChannels_light ..).trans hr.light, hr.lnk, fun i level hl => ⟨?_, ?_, recall_stepped ha fade hl⟩,
        fun i hl => ⟨?_, ?_, recall_unstepped ha fade hl⟩, fun sh => ?_, recall_target ha k fade, fun hp i => recall_level ha hp fade i⟩
      · rw [armed_eq ha, if_neg (by decide), conclude_unclamped]
      · rw [hr.base, sceneSet_get_some hl]
      · rw [hr.effect, sceneSet_get_some hl]
      · rw [hr.base, sceneSet_get_none hl]
      · rw [hr.effect, sceneSet_get_none hl]
      · exact hr.figures (by match sh with | 0 => decide | 1 => decide)
  · exact clampedStep_spec _ (by omega)

section ChannelWrite

variable {s : State} {tag : Byte} {i : Fin 32}

theorem exec_writeChannels {record : List Byte} {c : ChannelConfig} {n : Nat}
    (h : WriteReady tag 7 (BitVec.ofNat 8 i :: record) s) (hl : record.length = 11) (hp : parseChannel record = some (c, n)) :
    exec (.writeChannels tag (BitVec.ofNat 8 i :: record)) s =
      .next (((s.setCfg { s.cfg with channels := s.cfg.channels.set i c }).channelWritten (s.cfg.channels.get i).sheet i).answered
        tag .done (u8 n)) :=
  (exec_record (c := .writeChannels tag (BitVec.ofNat 8 i :: record)) (fits := lengthIs channelLength) h rfl (index_byte (by decide) i)
    (beq_iff_eq.mpr hl) hp).trans rfl

/-- The channel with its own step, before its target follows (R111). -/
def State.ownStepped (i : Fin 32) (s : State) : State := s.setChannel i ((s.lsq.channels.get i).ownStep (s.cfg.channels.get i))

theorem channelWritten_armed (h : s.pru.state = .armed) (old : Option (Fin 2)) (i : Fin 32) :
    Relighted true (s.sheetsOf i ++ old.toList) (· == i) (s.ownStepped i) (s.channelWritten old i) := by
  have heq : s.channelWritten old i =
      (((s.ownStepped i).relightAndAim true (s.sheetsOf i ++ old.toList) (· == i)).handLevels).handRemotes := by
    unfold State.channelWritten
    dsimp only
    rewrite [if_pos (armed_eq h)]
    rfl
  rewrite [heq]
  exact (relightAndAim_relighted (s := s.ownStepped i) (armed_eq h) true _ _).handed

theorem channelWritten_protect (h : s.pru.state ≠ .armed) (old : Option (Fin 2)) (i : Fin 32) :
    s.channelWritten old i = s.relight (s.sheetsOf i ++ old.toList) := by
  unfold State.channelWritten
  dsimp only
  rw [if_neg (by simp [armed_eq_false h])]

theorem relight_ost (shs : List (Fin 2)) (s : State) : (s.relight shs).ost = s.ost := by
  have one (sh : Fin 2) (x : State) : (x.relightSheet sh).ost = x.ost := by
    unfold State.relightSheet State.noticeIf
    dsimp only
    split <;> rfl
  refine forEach_induct (P := fun x => State.ost x = s.ost) _ s rfl fun sh x hx => ?_
  split
  · exact (one sh x).trans hx
  · exact hx

/-- The sheets a WRITE of a channel relights, in every protect state (R111). -/
theorem channelWritten_relit (s : State) (old : Option (Fin 2)) (i : Fin 32) :
    SheetsRelit (s.sheetsOf i ++ old.toList) s (s.channelWritten old i) := by
  by_cases h : s.pru.state = .armed
  · have hr := (channelWritten_armed h old i).relit
    have kept (j : Fin 32) : ((s.ownStepped i).lsq.channels.get j).base = (s.lsq.channels.get j).base ∧
        ((s.ownStepped i).lsq.channels.get j).effect = (s.lsq.channels.get j).effect := by
      rewrite [State.ownStepped, setChannel_get]
      split
      · next e => rw [← e]; exact ⟨rfl, rfl⟩
      · exact ⟨rfl, rfl⟩
    have hup (sh : Fin 2) : (s.ownStepped i).relit sh = s.relit sh := by
      have := lUp_of_kept (s := s) (t := s.ownStepped i) rfl (fun j => (kept j).1) (fun j => (kept j).2) sh
      simp only [State.relit, this]
      rfl
    exact ⟨(setChannel_light ..).trans hr.light, hr.lnk, fun sh => by rw [hr.sheets, hup]; rfl, fun j => (hr.base j).trans (kept j).1,
      fun j => (hr.effect j).trans (kept j).2⟩
  · rewrite [channelWritten_protect h]
    exact relight_relit _ s

end ChannelWrite

/-- Settles O19: the sheets named before and after are relit; while ARMED the channel takes its own step and its target. -/
theorem channelWriteTakesEffect : Obligations.ChannelWriteTakesEffect := by
  refine ⟨fun tag i record c n s h hl hp => ?_, fun s sh => ?_, fun lUp w => ⟨rfl, fun hw => ?_, fun hw => ?_⟩, parseChannel_fields⟩
  · intro written
    have hr := channelWritten_relit written (s.cfg.channels.get i).sheet i
    have hc : written.cfg.channels.get i = c := Table.get_set_self ..
    refine ⟨_, exec_writeChannels h hl hp, hr.light, hr.lnk, fun j => ⟨hr.base j, hr.effect j⟩, fun sh hsh => ?_,
      fun ha => ?_, fun ha => ?_⟩
    · have hmem : (written.sheetsOf i ++ (s.cfg.channels.get i).sheet.toList).contains sh = true := by
        simp only [State.sheetsOf, hc, List.contains_eq_mem, List.mem_append, Option.mem_toList, decide_eq_true_eq]
        exact hsh
      obtain ⟨hup, hd, -⟩ := hr.figures hmem
      rewrite [hr.lUp] at hup hd
      exact ⟨hup, hd⟩
    · have hw := channelWritten_armed (s := written) ha (s.cfg.channels.get i).sheet i
      have hself : (written.ownStepped i).lsq.channels.get i = (s.lsq.channels.get i).ownStep c := by
        rw [State.ownStepped, setChannel_get, if_pos rfl, hc]
      have hcfg : (written.ownStepped i).cfg.channels.get i = c := hc
      have htarget := hw.target (i := i) (by simp)
      rewrite [hcfg, hself] at htarget
      refine ⟨(hw.step i).1.trans (by rw [hself]; rfl), (hw.step i).2.trans (by rw [hself]; rfl), htarget⟩
    · have heq := channelWritten_protect (s := written) ha (s.cfg.channels.get i).sheet i
      exact ⟨(congrArg (fun t => t.lsq.channels) heq).trans (relight_lsq _ written).1,
        (congrArg State.ost heq).trans (relight_ost _ written)⟩
  · rfl
  · simp [derateOf, hw]
  · simp [derateOf, hw]

/-! PROOF. What one allocation pass leaves, its notices, and the round of requests behind it (R94 to R104, R127, R144). -/

section Passes

variable {s t u : State} {sh : Fin 2} {i : Fin 12}

/-! ### What the lighting's part of a pass may change -/

/-- Only the lighting, the link's notices, and the local outputs may differ. -/
structure OnlyLights (s t : State) : Prop where
  eq : t = { s with lnk := t.lnk, lsq := t.lsq, ost := { s.ost with outputs := t.ost.outputs } }

theorem OnlyLights.refl (s : State) : OnlyLights s s := ⟨rfl⟩

theorem OnlyLights.trans (h : OnlyLights s t) (k : OnlyLights t u) : OnlyLights s u := ⟨by rw [k.eq, h.eq]⟩

theorem noticeIf_lights (c : Bool) (k : NoticeKind) (x : Nat) (v : Int) (s : State) : OnlyLights s (s.noticeIf c k x v) := by
  unfold State.noticeIf
  split <;> exact ⟨rfl⟩

theorem handOn_lights (bs : List OutputBinding) (s : State) : OnlyLights s (s.handOn bs) := ⟨by rw [handOn_outputs]⟩

theorem mapChannels_lights (f : Fin 32 → ChannelRun → ChannelRun) (s : State) : OnlyLights s (s.mapChannels f) := ⟨rfl⟩

theorem setTargets_lights (chosen : Fin 32 → Bool) (s : State) : OnlyLights s (s.setTargets chosen) := by
  unfold State.setTargets
  split
  · exact mapChannels_lights ..
  · exact .refl s

theorem aimChannels_lights (jumps : Bool) (chosen : Fin 32 → Bool) (s : State) : OnlyLights s (s.aimChannels jumps chosen) := ⟨rfl⟩

theorem relight_lights (shs : List (Fin 2)) (s : State) : OnlyLights s (s.relight shs) := by
  refine forEach_induct (P := fun x => OnlyLights s x) _ s (.refl s) fun sh x hx => ?_
  split
  · refine hx.trans (OnlyLights.trans ?_ (noticeIf_lights ..))
    exact ⟨rfl⟩
  · exact hx

theorem relightAndAim_lights (jumps : Bool) (shs : List (Fin 2)) (also : Fin 32 → Bool) (s : State) :
    OnlyLights s (s.relightAndAim jumps shs also) := by
  unfold State.relightAndAim
  extract_lets s1 chosen s2
  have h2 : OnlyLights s s2 := (relight_lights shs s).trans (setTargets_lights ..)
  split
  · exact h2.trans (aimChannels_lights ..)
  · exact h2

/-- L_up and D follow in every protect state (R124). -/
theorem relightAndAim_relit (jumps : Bool) (shs : List (Fin 2)) (also : Fin 32 → Bool) (s : State) :
    SheetsRelit shs s (s.relightAndAim jumps shs also) := by
  unfold State.relightAndAim
  extract_lets s1 chosen s2
  have h2 : SheetsRelit shs s s2 := (relight_relit shs s).setTargets chosen
  split
  · exact h2.aimChannels ..
  · exact h2

/-! ### An allowance received (R124, R127) -/

/-- The state with an allowance taken, before L_up and D follow. -/
def State.allowed (sh : Fin 2) (a : Power) (s : State) : State :=
  { s with lsq := { s.lsq with sheets := s.lsq.sheets.set sh { s.lsq.sheets.get sh with allowance := a } } }

theorem allowed_lights (sh : Fin 2) (a : Power) (s : State) : OnlyLights s (s.allowed sh a) := ⟨rfl⟩

theorem allowed_offered (sh : Fin 2) (a : Power) (s : State) (ns : List Offer) : (s.allowed sh a).offered ns = s.offered ns := rfl

theorem receiveAllowance_eq (jumps : Bool) (sh : Fin 2) (a : Power) (s : State) :
    s.receiveAllowance jumps sh a = ((s.allowed sh a).relightAndAim jumps [sh] fun _ => false).handLevels := rfl

theorem receiveAllowance_lights (jumps : Bool) (sh : Fin 2) (a : Power) (s : State) : OnlyLights s (s.receiveAllowance jumps sh a) :=
  OnlyLights.trans (allowed_lights sh a s)
    (OnlyLights.trans (relightAndAim_lights jumps [sh] (fun _ => false) (s.allowed sh a)) (handOn_lights [.light] _))

theorem receiveAllowance_relit (jumps : Bool) (sh : Fin 2) (a : Power) (s : State) :
    SheetsRelit [sh] (s.allowed sh a) (s.receiveAllowance jumps sh a) := by
  have hlsq (x : State) : x.handLevels.lsq = x.lsq := (handOn_event ..).1.lsq
  rewrite [receiveAllowance_eq]
  exact (relightAndAim_relit jumps [sh] (fun _ => false) (s.allowed sh a)).then (handLevels_light _) (handOn_lnk ..) (by rw [hlsq])
    (fun i => by rw [hlsq]) fun i => by rw [hlsq]

theorem receiveAllowance_other {jumps : Bool} {j : Fin 2} (h : sh ≠ j) (a : Power) (s : State) :
    (s.receiveAllowance jumps sh a).lsq.sheets.get j = s.lsq.sheets.get j := by
  rewrite [(receiveAllowance_relit jumps sh a s).sheets, if_neg (by simp [h.symm])]
  exact Table.get_set_ne s.lsq.sheets h _

theorem receiveAllowance_allowance (jumps : Bool) (sh : Fin 2) (a : Power) (s : State) :
    ((s.receiveAllowance jumps sh a).lsq.sheets.get sh).allowance = a := by
  rewrite [(receiveAllowance_relit jumps sh a s).sheets, if_pos (by simp)]
  simp [State.relit, State.allowed]

/-- Where one sheet alone may have changed, its notice is the only one. -/
theorem derateChanges_of_others (h : ∀ j, sh ≠ j → derateChange s t j = []) : derateChanges s t = derateChange s t sh := by
  rewrite [derateChanges_eq]
  match sh with
  | 0 => rw [h 1 (by decide), List.append_nil]
  | 1 => rw [h 0 (by decide), List.nil_append]

/-- It reports its own sheet's DERATE (R127). -/
theorem receiveAllowance_lnk (jumps : Bool) (sh : Fin 2) (a : Power) (s : State) :
    (s.receiveAllowance jumps sh a).lnk = s.offered (derateChange s (s.receiveAllowance jumps sh a) sh) := by
  have hr := receiveAllowance_relit jumps sh a s
  have hother (j : Fin 2) (h : sh ≠ j) : derateChange (s.allowed sh a) (s.receiveAllowance jumps sh a) j = [] :=
    derateChange_of_eq (by rw [receiveAllowance_other h]; simp only [State.allowed, Table.get_set_ne _ h])
  have hself : derateChange (s.allowed sh a) (s.receiveAllowance jumps sh a) sh = derateChange s (s.receiveAllowance jumps sh a) sh := by
    simp only [derateChange, State.allowed, Table.get_set_self]
  have hl := hr.lnk
  rwa [allowed_offered, derateChanges_of_others hother, hself] at hl

/-- Both allowances of a pass, sheet A's first. -/
theorem receiveAllowances_lnk (jumps : Bool) (a : Fin 2 → Power) (s : State) :
    (forEach 2 (fun sh st => State.receiveAllowance jumps sh (a sh) st) s).lnk =
      s.offered (derateChanges s (forEach 2 (fun sh st => State.receiveAllowance jumps sh (a sh) st) s)) := by
  rewrite [forEach_two, derateChanges_eq, receiveAllowance_lnk,
    offered_append (receiveAllowance_heat ..).inner.setup.cfg (receiveAllowance_heat ..).inner.setup.scu (receiveAllowance_lnk ..)]
  simp only [derateChange]
  rw [receiveAllowance_other (sh := 1) (j := 0) (by decide), receiveAllowance_other (sh := 0) (j := 1) (by decide)]

theorem receiveAllowances_allowance (jumps : Bool) (a : Fin 2 → Power) (s : State) (sh : Fin 2) :
    ((forEach 2 (fun sh st => State.receiveAllowance jumps sh (a sh) st) s).lsq.sheets.get sh).allowance = a sh := by
  rewrite [forEach_two]
  match sh with
  | 0 => rw [receiveAllowance_other (sh := 1) (j := 0) (by decide), receiveAllowance_allowance]
  | 1 => rw [receiveAllowance_allowance]

/-! ### GRANT_SHORT and BACKUP (R102, R103) -/

/-- The GRANT_SHORT notice of a sink between two tables of records (R103). -/
def shortOffer (before after : Table SinkRun 12) (i : Fin 12) : List Offer :=
  Offer.when ((before.get i).status = .short ∧ (after.get i).status ≠ .short ∨
    (before.get i).status ≠ .short ∧ (after.get i).status = .short) .grantShort i (codeOf sinkStatuses (after.get i).status)

theorem shortChange_eq (s t : State) (i : Fin 12) : shortChange s t i = shortOffer s.hra.sinks t.hra.sinks i := rfl

theorem short_iff (a b : SinkStatus) :
    (((a == .short) != (b == .short)) = true) = (a = .short ∧ b ≠ .short ∨ a ≠ .short ∧ b = .short) := by
  by_cases ha : a = .short <;> by_cases hb : b = .short <;> simp [ha, hb]

theorem zero_iff (a b : Nat) : (((a == 0) != (b == 0)) = true) = (a = 0 ∧ b ≠ 0 ∨ a ≠ 0 ∧ b = 0) := by
  by_cases ha : a = 0 <;> by_cases hb : b = 0 <;> simp [ha, hb]

theorem grantNotice_lnk (before : Table SinkRun 12) (s : State) (i : Fin 12) :
    (s.grantNotice before i).lnk = s.offered (shortOffer before s.hra.sinks i) :=
  (noticeIf_lnk ..).trans (congrArg s.offered (offerWhen_congr (short_iff ..) ..))

theorem grantNotices_lnk (before : Table SinkRun 12) (l : List (Fin 12)) (s : State) :
    (l.foldl (State.grantNotice before) s).lnk = s.offered (l.flatMap (shortOffer before s.hra.sinks)) := by
  induction l generalizing s with
  | nil => rfl
  | cons i l ih =>
    have hev : OutputEvent s (s.grantNotice before i) := noticeIf_event ..
    rw [List.foldl_cons, List.flatMap_cons, ih, hev.hra,
      offered_append hev.inner.setup.cfg hev.inner.setup.scu (grantNotice_lnk before s i)]

theorem grantNotices_lights (before : Table SinkRun 12) (l : List (Fin 12)) (s : State) :
    OnlyLights s (l.foldl (State.grantNotice before) s) :=
  foldl_induct (P := fun x => OnlyLights s x) _ l s (.refl s) fun _ _ hx => hx.trans (noticeIf_lights ..)

/-! ### The pass -/

/-- The state with the budgets taken and the allocator's results, before they are handed on. -/
def State.allocated (s : State) : State := { s.takeBudgets with hra := s.allocate.1 }

theorem allocated_offered (s : State) (ns : List Offer) : s.allocated.offered ns = s.offered ns := rfl

theorem allocated_derates (s t : State) : derateChanges s.allocated t = derateChanges s t := rfl

/-- What one pass leaves of the state before it (R53, R94 to R104, R127). -/
structure Passed (s t : State) : Prop where
  rest : OnlyLights s.allocated t
  lnk : t.lnk = s.offered (passNotices s t)
  allowance : ∀ sh, (t.lsq.sheets.get sh).allowance = (s.allocate.1.sheets.get sh).allowance

/-- The allowances received, then the grants and the backup handed on. -/
def State.passHanded (jumps : Bool) (s : State) : State :=
  (forEach 2 (fun sh st => State.receiveAllowance jumps sh (s.allocate.1.sheets.get sh).allowance st) s.allocated).handOn [.sink, .backup]

theorem passWith_eq (jumps : Bool) (s : State) : s.passWith jumps =
    ((s.allocate.2 ++ disabledSinks s.cfg.sinks).foldl (State.grantNotice s.hra.sinks) (s.passHanded jumps)).noticeIf
      ((s.hra.backup == 0) != (s.allocate.1.backup == 0)) .backup 0 s.allocate.1.backup := rfl

theorem passHanded_lights (jumps : Bool) (s : State) : OnlyLights s.allocated (s.passHanded jumps) :=
  (forEach_induct (P := fun x => OnlyLights s.allocated x) _ s.allocated (.refl _) fun _ _ hx =>
    hx.trans (receiveAllowance_lights ..)).trans (handOn_lights ..)

theorem passHanded_lnk (jumps : Bool) (s : State) : (s.passHanded jumps).lnk = s.offered (derateChanges s (s.passHanded jumps)) := by
  have h := receiveAllowances_lnk jumps (fun sh => (s.allocate.1.sheets.get sh).allowance) s.allocated
  rewrite [allocated_offered, allocated_derates] at h
  exact (handOn_lnk ..).trans (h.trans (congrArg s.offered (derateChanges_congr rfl (congrArg Lsq.sheets (handOn_event ..).1.lsq.symm))))

/-- The GRANT_SHORT and BACKUP notices follow, in that order. -/
theorem passWith_lnk (jumps : Bool) (s : State) : (s.passWith jumps).lnk = s.offered (derateChanges s (s.passHanded jumps) ++
    (s.allocate.2 ++ disabledSinks s.cfg.sinks).flatMap (shortOffer s.hra.sinks s.allocate.1.sinks) ++
    Offer.when (s.hra.backup = 0 ∧ s.allocate.1.backup ≠ 0 ∨ s.hra.backup ≠ 0 ∧ s.allocate.1.backup = 0) .backup 0 s.allocate.1.backup) := by
  have hrest := passHanded_lights jumps s
  have hnotes := grantNotices_heat s.hra.sinks (s.allocate.2 ++ disabledSinks s.cfg.sinks) (s.passHanded jumps)
  have hcfg : (s.passHanded jumps).cfg = s.cfg := by rw [hrest.eq]; rfl
  have hscu : (s.passHanded jumps).scu = s.scu := by rw [hrest.eq]; rfl
  have hsinks : (s.passHanded jumps).hra.sinks = s.allocate.1.sinks := by rw [hrest.eq]; rfl
  have hshort := grantNotices_lnk s.hra.sinks (s.allocate.2 ++ disabledSinks s.cfg.sinks) (s.passHanded jumps)
  rewrite [offered_append hcfg hscu (passHanded_lnk jumps s), hsinks] at hshort
  rewrite [passWith_eq, noticeIf_lnk, offered_append (hnotes.inner.setup.cfg.trans hcfg) (hnotes.inner.setup.scu.trans hscu) hshort]
  exact congrArg s.offered (congrArg _ (offerWhen_congr (zero_iff ..) ..))

theorem passWith_lsq (jumps : Bool) (s : State) : (s.passWith jumps).lsq = (s.passHanded jumps).lsq :=
  (noticeIf_event ..).lsq.trans
    (foldl_induct (P := fun x => State.lsq x = (s.passHanded jumps).lsq) _ _ _ rfl fun _ _ hx => (noticeIf_event ..).lsq.trans hx)

theorem passWith_passed (jumps : Bool) (s : State) : Passed s (s.passWith jumps) where
  rest := ((passHanded_lights jumps s).trans (grantNotices_lights ..)).trans (noticeIf_lights ..)
  lnk := by
    rewrite [passWith_lnk, passNotices, passWith_hra, derateChanges_congr rfl (congrArg Lsq.sheets (passWith_lsq jumps s))]
    simp only [funext fun i => shortChange_eq s (s.passWith jumps) i, passWith_hra]
    rfl
  allowance sh := by
    rewrite [passWith_lsq, State.passHanded, (handOn_event ..).1.lsq]
    exact receiveAllowances_allowance jumps (fun sh => (s.allocate.1.sheets.get sh).allowance) s.allocated sh

theorem Passed.fbc (h : Passed s t) : t.fbc = s.fbc := by rw [h.rest.eq]; rfl

theorem Passed.remotes (h : Passed s t) : t.ost.remotes = s.ost.remotes := by rw [h.rest.eq]; rfl

theorem Passed.hra (h : Passed s t) : t.hra = s.allocate.1 := by rw [h.rest.eq]; rfl

theorem Passed.atLastPass (h : Passed s t) (sh : Fin 2) : (t.shm.get sh).atLastPass = some (s.shm.get sh).budget := by
  rewrite [h.rest.eq]
  simp [State.allocated, State.takeBudgets]

theorem allocate_timer (s : State) : s.allocate.1.timer = s.cfg.allocator.period := rfl

/-- A pass in RUN while ARMED, with the requests that end its event (R144). -/
theorem pass_round {moved : Fin 32 → Bool} (hp : s.phase = .run) (ha : s.pru.state = .armed)
    (ht : ∀ i, (s.ost.remotes.get i).taken = none) (hm : ∀ i, moved i = true → (s.cfg.remotes.get i).binding ≠ .none) (jumps : Bool) :
    PassRound moved s ((s.passWith jumps).settleRemotes moved) := by
  have hpass := passWith_passed jumps s
  have hheat := passWith_heat jumps s
  have hsetup := hheat.inner.setup
  refine ⟨s.passWith jumps, hheat, hpass.fbc, hpass.remotes, by rw [hpass.hra, allocate_timer], hpass.atLastPass,
    settleRemotes_requests _ moved (armed_eq (by rw [hheat.pru, ha])) (hsetup.phase.trans hp) (by rw [hpass.remotes]; exact ht) fun i hi => ?_⟩
  rewrite [hsetup.cfg]
  exact hm i hi

theorem pass_round_alone (hp : s.phase = .run) (ha : s.pru.state = .armed) (ht : ∀ i, (s.ost.remotes.get i).taken = none) (jumps : Bool) :
    PassRound (fun _ => false) s (s.passWith jumps).handRemotes := by
  have h := pass_round (moved := fun _ => false) hp ha ht (fun _ hn => nomatch hn) jumps
  rwa [settleRemotes_none] at h

/-! ### The figures of the allocator after a pass (R86, R95, R102, R104) -/

theorem allocate_requests (s : State) (i : Fin 12) : (s.allocate.1.sinks.get i).reqMin = (s.hra.sinks.get i).reqMin ∧
    (s.allocate.1.sinks.get i).reqMax = (s.hra.sinks.get i).reqMax ∧ (s.allocate.1.sinks.get i).cls = (s.hra.sinks.get i).cls := by
  obtain ⟨hmin, hmax, hcls⟩ := roundAfter_request s s.passOrder i
  cases he : (s.cfg.sinks.get i).enabled with
  | true => rw [allocate_enabled he]; exact ⟨hmin, hmax, hcls⟩
  | false => rw [allocate_disabled he]; exact ⟨hmin, hmax, hcls⟩

theorem takeMembers_energy {hold : Bool} {cfg : Table SinkConfig 12} (ms : List (Fin 12)) (i : Fin 12) (r : Round) :
    ((takeMembers hold cfg ms r).sinks.get i).energy = (r.sinks.get i).energy ∧
      ((takeMembers hold cfg ms r).sinks.get i).remainder = (r.sinks.get i).remainder := by
  induction ms generalizing r with
  | nil => exact ⟨rfl, rfl⟩
  | cons j ms ih =>
    rewrite [takeMembers_cons, (ih _).1, (ih _).2, takeMember_sinks, Table.get_set]
    split
    · next e => rw [← e]; exact ⟨rfl, rfl⟩
    · exact ⟨rfl, rfl⟩

/-- Each sink's energy is credited with its grant over the interval, before anything else (R104). -/
theorem allocate_energy (s : State) (i : Fin 12) :
    (s.allocate.1.sinks.get i).energy = ((s.hra.sinks.get i).credit (s.ms - s.hra.credited)).energy ∧
      (s.allocate.1.sinks.get i).remainder = ((s.hra.sinks.get i).credit (s.ms - s.hra.credited)).remainder := by
  have hopen : s.openRound.sinks.get i = (s.hra.sinks.get i).credit (s.ms - s.hra.credited) := Table.get_mapIdx ..
  obtain ⟨he, hr⟩ := takeMembers_energy (hold := s.hra.hold) (cfg := s.cfg.sinks) s.passOrder i s.openRound
  rw [hopen] at he hr
  cases hen : (s.cfg.sinks.get i).enabled with
  | true => rw [allocate_enabled hen]; exact ⟨he, hr⟩
  | false => rw [allocate_disabled hen]; exact ⟨he, hr⟩

theorem allocate_backup (s : State) : s.allocate.1.backup = sumOver 12 fun i =>
    if (s.hra.sinks.get i).cls = .protective ∨ (s.hra.sinks.get i).cls = .event then (s.allocate.1.sinks.get i).shortfall else 0 := by
  have h : s.allocate.1.backup = backupOf s.allocate.1.sinks := rfl
  refine h.trans (congrArg (sumOver 12) (funext fun i => ?_))
  dsimp only
  rw [(allocate_requests s i).2.2]

theorem sheetFigures_budget (b : Power) (lUp share : Nat) (h : SheetHeat) : (sheetFigures b lUp share h).budget = some b := by
  cases b <;> rfl

theorem allocate_budget (s : State) (sh : Fin 2) : (s.allocate.1.sheets.get sh).budget = some (s.shm.get sh).budget := by
  simp [State.allocate, sheetFigures_budget]

theorem allocate_unlimited (h : (s.shm.get sh).budget = .unlimited) : (s.allocate.1.sheets.get sh).allowance = .unlimited := by
  rewrite [(allocate_fields s).2.2.2.2.2.2.1, h]
  rfl

theorem passNotices_congr {a b : State} (hra : b.hra = a.hra) (hlsq : b.lsq = a.lsq) (s : State) : passNotices s b = passNotices s a := by
  have hshort : shortChange s b = shortChange s a := funext fun i => by simp only [shortChange, hra]
  simp only [passNotices, hshort, derateChanges, hra, hlsq]

theorem exec_allocateNow {tag : Byte} (h : ActReady tag 16 [] s) :
    exec (.allocateNow tag []) s = .next (s.conclude tag (if s.phase ≠ .run then .error .notNow else done 0 s.pass)) :=
  congrArg Host.Outcome.next (serveAct_act h rfl _)

end Passes

/-- Settles O32: one pass as `State.allocate` gives it, its notices, and its round of requests. -/
theorem passRuns : Obligations.PassRuns := by
  unfold Obligations.PassRuns
  extract_lets passed
  have key (s : State) (hp : s.phase = .run) : passed s s.pass := by
    have hpass := passWith_passed true s
    obtain ⟨hout, -⟩ := handRemotes_event (s.passWith true)
    have hra : s.pass.hra = s.allocate.1 := hout.hra.trans hpass.hra
    have hlnk : s.pass.lnk = s.offered (passNotices s s.pass) :=
      (handRemotes_lnk _).trans (hpass.lnk.trans (congrArg s.offered (passNotices_congr hout.hra hout.lsq s).symm))
    obtain ⟨-, -, -, -, hhold, -⟩ := allocate_fields s
    refine ⟨pass_heat s, hra, hlnk, ?_⟩
    rewrite [hra]
    refine ⟨rfl, rfl, allocate_pool s, rfl, rfl, hhold, fun i => ?_, ⟨rfl, rfl⟩, allocate_backup s, fun sh => ⟨?_, ?_, allocate_budget s sh,
      allocate_unlimited⟩, fun ha ht => pass_round_alone hp ha ht true⟩
    · obtain ⟨hmin, hmax, hcls⟩ := allocate_requests s i
      obtain ⟨he, hr⟩ := allocate_energy s i
      exact ⟨hmin, hmax, hcls, he, hr⟩
    · exact (congrArg (fun x => (x.get sh).atLastPass) hout.shm).trans (hpass.atLastPass sh)
    · have hlsq : s.pass.lsq = (s.passWith true).lsq := hout.lsq
      rw [hlsq, hpass.allowance]
  refine ⟨fun tag s h => ⟨fun hp => ⟨s.pass, ?_, key s hp⟩, fun hp => ?_⟩, fun s live hp ht => ⟨s.pass, ?_, key s hp⟩⟩
  · rw [exec_allocateNow h, if_neg (not_not_intro hp), conclude_unclamped]
  · rw [exec_allocateNow h, if_pos (by rw [hp]; decide), conclude_refused]
  · exact congrArg Host.Outcome.next ((event_live live _).trans (if_pos ⟨hp, ht⟩))

/-! PROOF. The requests of the sinks, and the WRITEs of a sink and of a profile (R87 to R93, R152). -/

/-! ### A loop over a table -/

section Loops

/-- A loop whose step `i` renews entry `i` alone renews every entry, each from what it was. -/
theorem foldl_get {n : Nat} {σ α : Type} {get : σ → Fin n → α} {P : σ → Prop} {f : σ → Fin n → σ} {g : Fin n → α → α}
    (hstep : ∀ i x, P x → P (f x i) ∧ get (f x i) i = g i (get x i) ∧ ∀ j, j ≠ i → get (f x i) j = get x j) {l : List (Fin n)}
    (hl : l.Nodup) {x : σ} (hx : P x) (j : Fin n) : get (l.foldl f x) j = if j ∈ l then g j (get x j) else get x j := by
  induction l generalizing x with
  | nil => simp
  | cons i l ih =>
    obtain ⟨hi, hl⟩ := List.nodup_cons.mp hl
    obtain ⟨hp, hself, hother⟩ := hstep i x hx
    rewrite [List.foldl_cons, ih hl hp]
    by_cases hj : j = i
    · subst hj
      simp [hi, hself]
    · simp [hj, hother j hj]

theorem forEach_get {n : Nat} {σ α : Type} {get : σ → Fin n → α} {P : σ → Prop} {f : Fin n → σ → σ} {g : Fin n → α → α}
    (hstep : ∀ i x, P x → P (f i x) ∧ get (f i x) i = g i (get x i) ∧ ∀ j, j ≠ i → get (f i x) j = get x j) {x : σ} (hx : P x)
    (j : Fin n) : get (forEach n f x) j = g j (get x j) := by
  have h := foldl_get (f := fun acc i => f i acc) hstep (List.nodup_finRange n) hx j
  rwa [if_pos (List.mem_finRange j)] at h

theorem foldl_max_le {a b : Nat} (l : List Nat) : l.foldl max a ≤ b ↔ a ≤ b ∧ ∀ x ∈ l, x ≤ b := by
  induction l generalizing a with
  | nil => simp
  | cons y l ih =>
    rewrite [List.foldl_cons, ih]
    simp only [List.mem_cons, forall_eq_or_imp, Nat.max_le, and_assoc]

end Loops

section Requests

variable {s t u : State} {c : SinkConfig}

/-! ### The request and class of each kind (R88 to R93) -/

/-- The zone is served by regeneration (R91). -/
def State.Served (s : State) (z : Fin 4) : Prop := (s.cfg.zones.get z).enabled = true ∧ (s.cfg.zones.get z).servedRegen = true

/-- The zone is enabled, in RISK or FOG. -/
def State.Risky (s : State) (z : Fin 4) : Prop :=
  (s.cfg.zones.get z).enabled = true ∧ ((s.cdm.get z).state = .risk ∨ (s.cdm.get z).state = .fog)

theorem servedDemand_le {b : Nat} : s.servedDemand ≤ b ↔ ∀ z, s.Served z → (s.cdm.get z).demand ≤ b := by
  unfold State.servedDemand State.Served
  rewrite [foldl_max_le]
  simp only [List.forall_mem_map, List.mem_finRange, forall_const, Nat.zero_le, true_and, Bool.and_eq_true]
  refine forall_congr' fun z => ?_
  split
  · next h => simp [h]
  · next h => simp [h]

theorem servedDemand_none (h : ∀ z, ¬ s.Served z) : s.servedDemand = 0 :=
  Nat.le_zero.mp (servedDemand_le.mpr fun z hz => absurd hz (h z))

theorem servedDemand_largest {z : Fin 4} (hz : s.Served z) (h : ∀ y, s.Served y → (s.cdm.get y).demand ≤ (s.cdm.get z).demand) :
    s.servedDemand = (s.cdm.get z).demand :=
  Nat.le_antisymm (servedDemand_le.mpr h) (servedDemand_le.mp (Nat.le_refl _) z hz)

theorem atRisk_iff (z : ZoneState) : z.atRisk = true ↔ z = .risk ∨ z = .fog := by simp [ZoneState.atRisk]

theorem someZone_iff (p : ZoneConfig → ZoneRun → Bool) :
    s.someZone p = true ↔ ∃ z, (s.cfg.zones.get z).enabled = true ∧ p (s.cfg.zones.get z) (s.cdm.get z) = true := by
  simp [State.someZone]

theorem regenPromoted_iff : s.regenPromoted = true ↔ ∃ z, s.Risky z ∧ s.Served z := by
  unfold State.regenPromoted State.Risky State.Served
  rewrite [someZone_iff]
  refine exists_congr fun z => ?_
  simp only [Bool.and_eq_true, atRisk_iff]
  tauto

theorem ceilingCalled_iff : s.ceilingCalled = true ↔
    ∃ z, s.Risky z ∧ (s.cfg.zones.get z).servedCeiling = true ∧ (s.cdm.get z).limiting = some .ceiling := by
  unfold State.ceilingCalled State.Risky
  rewrite [someZone_iff]
  refine exists_congr fun z => ?_
  simp only [Bool.and_eq_true, atRisk_iff, beq_iff_eq]
  tauto

section Enabled

variable (he : c.enabled = true)
include he

theorem requestMax_fixed (hk : c.kind = .fixed) : s.requestMax c = c.max := by simp [State.requestMax, he, hk]

theorem requestMax_heave (hk : c.kind = .heave) : s.requestMax c = if s.heaveOf c = .max then c.max else c.min := by
  simp [State.requestMax, he, hk]

theorem requestMax_tank (hk : c.kind = .tank) : s.requestMax c =
    if (s.hra.sheets.get 0).tankRunning = true ∨ (s.hra.sheets.get 1).tankRunning = true then c.max else c.min := by
  simp [State.requestMax, State.tankCalled, he, hk]

theorem requestMax_regen (hk : c.kind = .regen) : s.requestMax c = c.max * s.servedDemand / 1000 := by simp [State.requestMax, he, hk]

theorem requestMax_ceiling (hk : c.kind = .ceiling) : s.requestMax c = if s.ceilingCalled then c.max else 0 := by
  simp [State.requestMax, he, hk]

theorem requestMax_stands (hk : c.kind = .stands) :
    s.requestMax c = c.max * s.profile.standsPercent * s.occupied c / (100 * c.occupancyFull) := by simp [State.requestMax, he, hk]

theorem classInForce_regen (hk : c.kind = .regen) : s.classInForce c = if s.regenPromoted then .protective else c.cls := by
  simp [State.classInForce, he, hk]

theorem classInForce_stands (hk : c.kind = .stands) : s.classInForce c = s.profile.standsClass := by simp [State.classInForce, he, hk]

end Enabled

theorem occupied_usable {p : Nat} {v : Int} (hp : c.occupancy = some p) (hv : s.usableValue .occupancy p = some v) :
    s.occupied c = min v.toNat c.occupancyFull := by simp only [State.occupied, hp, hv]

theorem occupied_full (h : ∀ p, c.occupancy = some p → s.usableValue .occupancy p = none) : s.occupied c = c.occupancyFull := by
  unfold State.occupied
  split
  · rfl
  · next p hp => simp only [h p hp]

theorem requestMax_disabled (h : c.enabled = false) : s.requestMax c = 0 := by simp [State.requestMax, h]

theorem requestMin_heave (h : c.kind = .heave) : s.requestMin c = s.requestMax c := by simp only [State.requestMin, h]

theorem requestMin_other (h : c.kind ≠ .heave) : s.requestMin c = min c.min (s.requestMax c) := by
  unfold State.requestMin
  split
  · next hk => exact absurd hk h
  · rfl

theorem requestMin_disabled (h : c.enabled = false) : s.requestMin c = 0 := by
  by_cases hk : c.kind = .heave
  · rw [requestMin_heave hk, requestMax_disabled h]
  · rw [requestMin_other hk, requestMax_disabled h, Nat.min_zero]

theorem classInForce_disabled (h : c.enabled = false) : s.classInForce c = c.cls := by simp [State.classInForce, h]

theorem classInForce_other (h1 : c.kind ≠ .regen) (h2 : c.kind ≠ .stands) : s.classInForce c = c.cls := by
  unfold State.classInForce
  split
  · rfl
  · split
    · next hk => exact absurd hk h1
    · next hk => exact absurd hk h2
    · rfl

/-! ### Source codes (R137) -/

/-- A source code comes from levels, grants and full-open heats, zones, sheet states and the backup demand. -/
theorem sourceCode_congr (hl : ∀ i, (t.lsq.channels.get i).level = (s.lsq.channels.get i).level)
    (hg : ∀ i, (t.hra.sinks.get i).grant = (s.hra.sinks.get i).grant) (hc : t.cfg = s.cfg) (hz : t.cdm = s.cdm) (hs : t.shm = s.shm)
    (hb : t.hra.backup = s.hra.backup) (b : OutputBinding) (k fixed : Nat) : t.sourceCode b k fixed = s.sourceCode b k fixed := by
  cases b <;> simp only [State.sourceCode, hl, hg, hc, hz, hs, hb]

theorem remoteSource_congr (hcode : ∀ b k f, t.sourceCode b k f = s.sourceCode b k f) (hc : t.cfg = s.cfg)
    (hr : t.ost.remotes = s.ost.remotes) (i : Fin 32) : t.remoteSource i = s.remoteSource i := by
  simp only [State.remoteSource, hcode, hc, hr]

theorem sourceMoved_congr {before : State} (h : ∀ i, t.remoteSource i = s.remoteSource i) (hc : t.cfg = s.cfg) :
    before.sourceMoved t = before.sourceMoved s := by
  funext i
  simp only [State.sourceMoved, h, hc]

theorem sourceMoved_bound {before : State} {i : Fin 32} (h : before.sourceMoved s i = true) :
    (s.cfg.remotes.get i).binding ≠ .none := by
  simp only [State.sourceMoved, Bool.and_eq_true, bne_iff_ne] at h
  exact h.1

end Requests

section SinkWrite

variable {s : State} {tag : Byte} {i : Fin 12} {c : SinkConfig}

theorem exec_writeSinks {record : List Byte} {n : Nat} (h : WriteReady tag 6 (BitVec.ofNat 8 i :: record) s) (hl : record.length = 16)
    (hp : parseSink record = some (c, n)) : exec (.writeSinks tag (BitVec.ofNat 8 i :: record)) s =
      .next (s.conclude tag (if c.max < c.min then .error .badValue else done n (s.sinkWritten i c))) := by
  have hrow : ¬ (BitVec.ofNat 8 i :: record).head? = some 12 := fun e => by
    have h12 : i.val % 256 = 12 := congrArg BitVec.toNat (Option.some.inj e)
    omega
  exact exec_record (c := .writeSinks tag (BitVec.ofNat 8 i :: record)) (fits := lengthIs sinkLength) h (if_neg hrow)
    (index_byte (by decide) i) (beq_iff_eq.mpr hl) hp

/-- The part with the new record of a sink in its configuration. -/
def State.sinkSet (i : Fin 12) (c : SinkConfig) (s : State) : State := s.setCfg { s.cfg with sinks := s.cfg.sinks.set i c }

theorem sinkSet_get (i : Fin 12) (c : SinkConfig) (s : State) : (s.sinkSet i c).cfg.sinks.get i = c := Table.get_set_self ..

/-- The requests renewed, and the source codes where the full-open heat changed (R87, R137). -/
def State.sinkHanded (i : Fin 12) (c : SinkConfig) (s : State) : State :=
  if (s.cfg.sinks.get i).fullOpen != c.fullOpen then ((s.sinkSet i c).recomputeSink i).handOn [.sink] else (s.sinkSet i c).recomputeSink i

theorem sinkWritten_eq (i : Fin 12) (c : SinkConfig) (s : State) : s.sinkWritten i c =
    ((s.sinkHanded i c).passTrigger).settleRemotes (s.sourceMoved ((s.sinkSet i c).recomputeSink i)) := rfl

theorem recomputeSink_heat (i : Fin 12) (s : State) : HeatEvent s (s.recomputeSink i) := setHra_heat ..

theorem recomputeSink_self (i : Fin 12) (s : State) : (s.recomputeSink i).hra.sinks.get i = { s.hra.sinks.get i with
    reqMin := s.requestMin (s.cfg.sinks.get i), reqMax := s.requestMax (s.cfg.sinks.get i), cls := s.classInForce (s.cfg.sinks.get i) } :=
  Table.get_modify_self ..

theorem recomputeSink_other {j : Fin 12} (h : i ≠ j) (s : State) : (s.recomputeSink i).hra.sinks.get j = s.hra.sinks.get j :=
  Table.get_modify_ne _ h _

/-- No grant and no status changes (R88). -/
theorem recomputeSink_grants (i j : Fin 12) (s : State) : ((s.recomputeSink i).hra.sinks.get j).grant = (s.hra.sinks.get j).grant ∧
    ((s.recomputeSink i).hra.sinks.get j).status = (s.hra.sinks.get j).status := by
  by_cases h : i = j
  · subst h
    rewrite [recomputeSink_self]
    exact ⟨rfl, rfl⟩
  · rewrite [recomputeSink_other h]
    exact ⟨rfl, rfl⟩

theorem recomputeSink_sourceCode (i : Fin 12) (s : State) (b : OutputBinding) (k f : Nat) :
    (s.recomputeSink i).sourceCode b k f = s.sourceCode b k f :=
  sourceCode_congr (s := s) (t := s.recomputeSink i) (fun _ => rfl) (fun j => (recomputeSink_grants i j s).1) rfl rfl rfl rfl b k f

/-- Handing the source codes on leaves everything but the local outputs. -/
theorem sinkHanded_output (i : Fin 12) (c : SinkConfig) (s : State) :
    OutputEvent ((s.sinkSet i c).recomputeSink i) (s.sinkHanded i c) ∧ Followed ((s.sinkSet i c).recomputeSink i) (s.sinkHanded i c) := by
  unfold State.sinkHanded
  split
  · exact handOn_event ..
  · exact ⟨.refl _, .refl _⟩

theorem sinkHanded_bus (i : Fin 12) (c : SinkConfig) (s : State) :
    (s.sinkHanded i c).fbc = s.fbc ∧ (s.sinkHanded i c).ost.remotes = s.ost.remotes := by
  unfold State.sinkHanded
  split
  · rewrite [handOn_fbc, handOn_remotes]
    exact ⟨rfl, rfl⟩
  · exact ⟨rfl, rfl⟩

theorem sinkHanded_heat (i : Fin 12) (c : SinkConfig) (s : State) : HeatEvent (s.sinkSet i c) (s.sinkHanded i c) :=
  (recomputeSink_heat i _).trans ((sinkHanded_output i c s).1.heat (sinkHanded_output i c s).2)

theorem sinkHanded_hra (i : Fin 12) (c : SinkConfig) (s : State) : (s.sinkHanded i c).hra = ((s.sinkSet i c).recomputeSink i).hra :=
  (sinkHanded_output i c s).1.hra

theorem passTrigger_run (h : s.phase = .run) : s.passTrigger = s.passWith true := if_pos h

theorem passTrigger_waiting (h : s.phase ≠ .run) : s.passTrigger = s := if_neg h

/-- A pass leaves the requests and classes (R88). -/
theorem passTrigger_requests (s : State) (j : Fin 12) : (s.passTrigger.hra.sinks.get j).reqMin = (s.hra.sinks.get j).reqMin ∧
    (s.passTrigger.hra.sinks.get j).reqMax = (s.hra.sinks.get j).reqMax ∧ (s.passTrigger.hra.sinks.get j).cls = (s.hra.sinks.get j).cls := by
  by_cases h : s.phase = .run
  · rewrite [passTrigger_run h, passWith_hra]
    exact allocate_requests s j
  · rewrite [passTrigger_waiting h]
    exact ⟨rfl, rfl, rfl⟩

theorem sinkWritten_hra (i : Fin 12) (c : SinkConfig) (s : State) : (s.sinkWritten i c).hra = (s.sinkHanded i c).passTrigger.hra :=
  (settleRemotes_event _ _).1.hra

theorem sinkWritten_heat (i : Fin 12) (c : SinkConfig) (s : State) : HeatEvent (s.sinkSet i c) (s.sinkWritten i c) :=
  ((sinkHanded_heat i c s).trans (passTrigger_heat _)).trans (settleRemotes_heat ..)

theorem sinkWritten_requests (i j : Fin 12) (c : SinkConfig) (s : State) :
    ((s.sinkWritten i c).hra.sinks.get j).reqMin = (((s.sinkSet i c).recomputeSink i).hra.sinks.get j).reqMin ∧
    ((s.sinkWritten i c).hra.sinks.get j).reqMax = (((s.sinkSet i c).recomputeSink i).hra.sinks.get j).reqMax ∧
    ((s.sinkWritten i c).hra.sinks.get j).cls = (((s.sinkSet i c).recomputeSink i).hra.sinks.get j).cls := by
  rewrite [sinkWritten_hra, ← sinkHanded_hra]
  exact passTrigger_requests ..

/-- In RUN the pass behind a WRITE of a sink (R87, R94). -/
theorem sinkWritten_run (h : s.phase = .run) (i : Fin 12) (c : SinkConfig) : (s.sinkWritten i c).hra = (s.sinkHanded i c).allocate.1 := by
  rw [sinkWritten_hra, passTrigger_run ((sinkHanded_heat i c s).inner.setup.phase.trans h), passWith_hra]

theorem sinkWritten_round (hp : s.phase = .run) (ha : s.pru.state = .armed) (ht : ∀ j, (s.ost.remotes.get j).taken = none) (i : Fin 12)
    (c : SinkConfig) : PassRound (s.sourceMoved (s.sinkSet i c)) (s.sinkHanded i c) (s.sinkWritten i c) := by
  have hheat := sinkHanded_heat i c s
  have hmoved : s.sourceMoved ((s.sinkSet i c).recomputeSink i) = s.sourceMoved (s.sinkSet i c) :=
    sourceMoved_congr (remoteSource_congr (recomputeSink_sourceCode i _) rfl rfl) rfl
  rewrite [sinkWritten_eq, passTrigger_run (hheat.inner.setup.phase.trans hp), hmoved]
  refine pass_round (hheat.inner.setup.phase.trans hp) (hheat.pru ▸ ha) (by rw [(sinkHanded_bus i c s).2]; exact ht) (fun j hj => ?_) true
  rewrite [hheat.inner.setup.cfg]
  exact sourceMoved_bound hj

end SinkWrite

/-- Settles O18: the renewed request and class, the pass behind it, and the request of each kind. -/
theorem sinkWriteRecomputes : Obligations.SinkWriteRecomputes := by
  refine ⟨fun tag i record c n s h hl hp => ?write, fun c s => ?kinds, parseSink_fields⟩
  case write =>
    intro written
    refine ⟨fun hbad => by rw [exec_writeSinks h hl hp, if_pos hbad, conclude_refused], fun hgood => ⟨s.sinkWritten i c, ?_,
      sinkWritten_heat i c s, ?_, ?_, ?_, fun j hj => ?_, fun hrun => ⟨?_, ?_, fun hoff => ?_⟩, fun hrun ha ht => ?_, fun hwait j => ?_⟩⟩
    · rw [exec_writeSinks h hl hp, if_neg (Nat.not_lt.mpr hgood), conclude_counted]
    · rewrite [(sinkWritten_requests i i c s).1, recomputeSink_self, sinkSet_get]
      rfl
    · rewrite [(sinkWritten_requests i i c s).2.1, recomputeSink_self, sinkSet_get]
      rfl
    · rewrite [(sinkWritten_requests i i c s).2.2, recomputeSink_self, sinkSet_get]
      rfl
    · obtain ⟨hmin, hmax, hcls⟩ := sinkWritten_requests i j c s
      rewrite [hmin, hmax, hcls, recomputeSink_other hj.symm]
      exact ⟨rfl, rfl, rfl⟩
    · rewrite [sinkWritten_run hrun, allocate_timer, (sinkHanded_heat i c s).inner.setup.cfg]
      rfl
    · have hheat := sinkHanded_heat i c s
      have hvalue : (s.sinkHanded i c).heatValue = s.heatValue := by
        simp only [State.heatValue, State.pointOfKind, hheat.inner.setup.cfg, hheat.ptb]
        rfl
      have hpool : (s.sinkHanded i c).allocate.1.pool = poolOf (s.sinkHanded i c).heatValue (s.sinkHanded i c).cfg.allocator.reserve := rfl
      rewrite [sinkWritten_run hrun, hpool, hvalue, hheat.inner.setup.cfg]
      rfl
    · rewrite [sinkWritten_run hrun]
      exact allocate_disabled_grant (by rw [(sinkHanded_heat i c s).inner.setup.cfg, sinkSet_get, hoff])
    · exact ⟨s.sinkHanded i c, sinkHanded_heat i c s, (sinkHanded_bus i c s).1, (sinkHanded_bus i c s).2,
        fun j => by rw [sinkHanded_hra]; exact (recomputeSink_grants i j _).1, sinkWritten_round hrun ha ht i c⟩
    · rewrite [sinkWritten_hra, passTrigger_waiting fun k => hwait ((sinkHanded_heat i c s).inner.setup.phase.symm.trans k), sinkHanded_hra]
      exact recomputeSink_grants i j _
  case kinds =>
    intro most least risky served dripping
    refine ⟨fun hoff => ⟨requestMax_disabled hoff, requestMin_disabled hoff, classInForce_disabled hoff⟩, fun he =>
      ⟨requestMax_fixed he, fun hk => ⟨requestMin_heave hk, fun hs => ?_, fun sh hs => ?_⟩, requestMax_tank he,
        fun hk => ⟨fun hnone => ?_, fun z hz hy => ?_⟩, fun hk => ⟨fun hex => ?_, fun hno => ?_⟩, fun hk => ⟨fun p v hp hv => ?_, fun hu => ?_⟩,
        requestMin_other, fun hk => ?_, fun hk => ?_, fun hk => ?_, classInForce_other⟩⟩
    · have hmin : s.heaveOf c = .min := by simp only [State.heaveOf, hs]
      exact (requestMax_heave he hk).trans (if_neg (by rw [hmin]; decide))
    · have hsheet : s.heaveOf c = (s.shm.get sh).heave := by simp only [State.heaveOf, hs]
      exact hsheet ▸ requestMax_heave he hk
    · exact (requestMax_regen he hk).trans (by rw [servedDemand_none hnone, Nat.mul_zero, Nat.zero_div])
    · exact (requestMax_regen he hk).trans (by rw [servedDemand_largest hz hy])
    · exact (requestMax_ceiling he hk).trans (if_pos (ceilingCalled_iff.mpr hex))
    · exact (requestMax_ceiling he hk).trans (if_neg fun hex => (ceilingCalled_iff.mp hex).elim hno)
    · exact (requestMax_stands he hk).trans (by rw [occupied_usable hp hv])
    · exact (requestMax_stands he hk).trans (by rw [occupied_full hu])
    · exact (classInForce_regen he hk.1).trans (if_pos (regenPromoted_iff.mpr hk.2))
    · exact (classInForce_regen he hk.1).trans (if_neg fun hex => (regenPromoted_iff.mp hex).elim hk.2)
    · exact classInForce_stands he hk

/-! PROOF. A change of the mode or of the present profile: the requests of STANDS sinks, the zones' demands, the entry scene (R78, R152 to
R154). -/

section Demands

variable {s t u : State}

/-! ### What a zone hands on (R79, R80) -/

/-- A record with another request and class (R88). -/
def SinkRun.SameGrant (a b : SinkRun) : Prop := b = { a with reqMin := b.reqMin, reqMax := b.reqMax, cls := b.cls }

theorem SinkRun.SameGrant.trans {a b c : SinkRun} (h : a.SameGrant b) (k : b.SameGrant c) : a.SameGrant c := by
  unfold SinkRun.SameGrant at *
  rw [k, h]

/-- Zones changed, and handed on: requests of REGEN and CEILING sinks, and the local outputs, may have followed. -/
structure ZonesHanded (s t : State) : Prop where
  rest : t = { s with cdm := t.cdm, hra := { s.hra with sinks := t.hra.sinks }, ost := { s.ost with outputs := t.ost.outputs } }
  grants : ∀ j, (s.hra.sinks.get j).SameGrant (t.hra.sinks.get j)
  quiet : ∀ j, (s.cfg.sinks.get j).kind ≠ .regen → (s.cfg.sinks.get j).kind ≠ .ceiling → t.hra.sinks.get j = s.hra.sinks.get j

theorem ZonesHanded.refl (s : State) : ZonesHanded s s := ⟨rfl, fun _ => rfl, fun _ _ _ => rfl⟩

theorem ZonesHanded.cfg (h : ZonesHanded s t) : t.cfg = s.cfg := by rw [h.rest]

theorem ZonesHanded.trans (h : ZonesHanded s t) (k : ZonesHanded t u) : ZonesHanded s u where
  rest := by rw [k.rest, h.rest]
  grants j := (h.grants j).trans (k.grants j)
  quiet j h1 h2 := (k.quiet j (h.cfg ▸ h1) (h.cfg ▸ h2)).trans (h.quiet j h1 h2)

theorem recompute_get (chosen : SinkConfig → Bool) (s : State) (j : Fin 12) : (s.recompute chosen).hra.sinks.get j =
    if chosen (s.cfg.sinks.get j) then { s.hra.sinks.get j with
      reqMin := s.requestMin (s.cfg.sinks.get j), reqMax := s.requestMax (s.cfg.sinks.get j), cls := s.classInForce (s.cfg.sinks.get j) }
    else s.hra.sinks.get j := Table.get_mapIdx ..

theorem recompute_sameGrant (chosen : SinkConfig → Bool) (s : State) (j : Fin 12) :
    (s.hra.sinks.get j).SameGrant ((s.recompute chosen).hra.sinks.get j) := by
  rewrite [recompute_get]
  split <;> rfl

theorem recomputeKinds_handed (s : State) : ZonesHanded s (s.recomputeKinds [.regen, .ceiling]) :=
  ⟨rfl, recompute_sameGrant _ s, fun j h1 h2 => by simp [State.recomputeKinds, recompute_get, h1, h2]⟩

theorem handOn_handed (bs : List OutputBinding) (s : State) : ZonesHanded s (s.handOn bs) := by
  rewrite [handOn_outputs]
  exact ⟨rfl, fun _ => rfl, fun _ _ _ => rfl⟩

theorem handZone_handed (config : Bool) (old : ZoneRun) (z : Fin 4) (s : State) : ZonesHanded s (s.handZone config old z) := by
  have hheat : ZonesHanded s (if config || old.state != (s.cdm.get z).state || old.demand != (s.cdm.get z).demand ||
      old.limiting != (s.cdm.get z).limiting then s.recomputeKinds [.regen, .ceiling] else s) := by
    split
    · exact recomputeKinds_handed s
    · exact .refl s
  unfold State.handZone
  dsimp only
  split
  · exact hheat.trans (handOn_handed ..)
  · exact hheat

/-! ### Demands (R77, R78) -/

/-- The record of a zone with the demand that its state and the profile in force give. -/
def State.demanded (s : State) (z : Fin 4) (r : ZoneRun) : ZoneRun :=
  if (s.cfg.zones.get z).enabled then { r with demand := zoneDemand (s.cfg.zones.get z) r.state r.flood s.profile.baseDemand } else r

/-- One zone of the loop that renews the demands. -/
def State.renewDemand (z : Fin 4) (s : State) : State :=
  let c := s.cfg.zones.get z
  let r := s.cdm.get z
  let d := zoneDemand c r.state r.flood s.profile.baseDemand
  if c.enabled && d != r.demand then ({ s with cdm := s.cdm.set z { r with demand := d } } : State).handZone false r z else s

theorem recomputeDemands_eq (s : State) : s.recomputeDemands = forEach 4 State.renewDemand s := rfl

theorem renewDemand_handed (z : Fin 4) (s : State) : ZonesHanded s (s.renewDemand z) := by
  unfold State.renewDemand
  extract_lets c r d
  split
  · exact ZonesHanded.trans (t := { s with cdm := s.cdm.set z { r with demand := d } }) ⟨rfl, fun _ => rfl, fun _ _ _ => rfl⟩
      (handZone_handed ..)
  · exact .refl s

theorem renewDemand_cdm (z : Fin 4) (s : State) : (s.renewDemand z).cdm = s.cdm.set z (s.demanded z (s.cdm.get z)) := by
  unfold State.renewDemand State.demanded
  extract_lets c r d
  cases he : c.enabled with
  | false => simp [r]
  | true =>
    by_cases hd : d = r.demand
    · have hsame : ({ r with demand := d } : ZoneRun) = r := by rw [hd]
      rewrite [if_neg (by simp [hd]), if_pos rfl]
      exact ((congrArg (s.cdm.set z) hsame).trans (Table.set_get ..)).symm
    · rw [if_pos (by simp [hd]), if_pos rfl, handZone_cdm]

theorem ZonesHanded.profile (h : ZonesHanded s t) : t.profile = s.profile := by
  unfold State.profile
  rw [h.rest]

theorem ZonesHanded.demanded (h : ZonesHanded s t) (z : Fin 4) (r : ZoneRun) : t.demanded z r = s.demanded z r := by
  simp only [State.demanded, h.cfg, h.profile]

theorem recomputeDemands_handed (s : State) : ZonesHanded s s.recomputeDemands :=
  forEach_induct (P := ZonesHanded s) _ s (.refl s) fun z _ hx => hx.trans (renewDemand_handed z _)

/-- Every enabled zone has the demand of its state under the profile in force (R78). -/
theorem recomputeDemands_get (s : State) (z : Fin 4) : s.recomputeDemands.cdm.get z = s.demanded z (s.cdm.get z) := by
  refine forEach_get (get := fun x : State => x.cdm.get) (P := ZonesHanded s) (f := State.renewDemand) (g := s.demanded) (fun z x hx => ?_)
    (.refl s) z
  refine ⟨hx.trans (renewDemand_handed z x), ?_, fun j hj => ?_⟩
  · rw [renewDemand_cdm, Table.get_set_self, hx.demanded]
  · rw [renewDemand_cdm, Table.get_set_ne _ hj.symm]

end Demands

section ProfileWrite

variable {s : State} {tag : Byte} {i : Fin 5} {p : Profile}

theorem exec_writeProfiles {record : List Byte} {n : Nat} (h : WriteReady tag 11 (BitVec.ofNat 8 i :: record) s) (hl : record.length = 9)
    (hp : parseProfile record = some (p, n)) : exec (.writeProfiles tag (BitVec.ofNat 8 i :: record)) s =
      .next ((s.profileWritten i p).answered tag .done (u8 n)) :=
  (exec_record (c := .writeProfiles tag (BitVec.ofNat 8 i :: record)) (fits := lengthIs profileLength) h rfl (index_byte (by decide) i)
    (beq_iff_eq.mpr hl) hp).trans rfl

/-- The part with the new record of a profile in its configuration. -/
def State.profileSet (i : Fin 5) (p : Profile) (s : State) : State := s.setCfg { s.cfg with profiles := s.cfg.profiles.set i p }

theorem profileSet_profile (h : i = modeIndex s.scu.mode) : (s.profileSet i p).profile = p := by
  subst h
  exact Table.get_set_self ..

/-- The STANDS requests renewed where their fields of the profile changed (R152). -/
def State.standsRenewed (i : Fin 5) (p : Profile) (s : State) : State :=
  if s.profile.standsPercent ≠ p.standsPercent ∨ s.profile.standsClass ≠ p.standsClass then (s.profileSet i p).recomputeKinds [.stands]
  else s.profileSet i p

theorem profileWritten_other (h : i ≠ modeIndex s.scu.mode) : s.profileWritten i p = s.profileSet i p := if_pos h

theorem profileWritten_present (h : i = modeIndex s.scu.mode) : s.profileWritten i p =
    if s.profile.baseDemand ≠ p.baseDemand then ((s.standsRenewed i p).recomputeDemands).handRemotes else s.standsRenewed i p :=
  if_neg (not_not_intro h)

theorem standsRenewed_heat (i : Fin 5) (p : Profile) (s : State) : HeatEvent (s.profileSet i p) (s.standsRenewed i p) := by
  unfold State.standsRenewed
  split
  · exact recomputeKinds_heat ..
  · exact .refl _

theorem standsRenewed_rest (i : Fin 5) (p : Profile) (s : State) : s.standsRenewed i p =
    { s.profileSet i p with hra := { s.hra with sinks := (s.standsRenewed i p).hra.sinks } } := by
  unfold State.standsRenewed
  split <;> rfl

theorem standsRenewed_sameGrant (i : Fin 5) (p : Profile) (s : State) (j : Fin 12) :
    (s.hra.sinks.get j).SameGrant ((s.standsRenewed i p).hra.sinks.get j) := by
  unfold State.standsRenewed
  split
  · exact recompute_sameGrant _ (s.profileSet i p) j
  · rfl

/-- What a WRITE of the present profile leaves (R152). -/
theorem profileWritten_handed (h : i = modeIndex s.scu.mode) (p : Profile) : ∃ u, ZonesHanded (s.standsRenewed i p) u ∧
    OutputEvent u (s.profileWritten i p) ∧ Followed u (s.profileWritten i p) ∧
    (s.profile.baseDemand ≠ p.baseDemand → u = (s.standsRenewed i p).recomputeDemands) ∧
    (s.profile.baseDemand = p.baseDemand → u = s.standsRenewed i p) := by
  rewrite [profileWritten_present h]
  split
  · next hb => exact ⟨_, recomputeDemands_handed _, (handRemotes_event _).1, (handRemotes_event _).2, fun _ => rfl, fun k => absurd k hb⟩
  · next hb => exact ⟨_, .refl _, .refl _, .refl _, fun k => absurd k hb, fun _ => rfl⟩

theorem profileWritten_zone (h : i = modeIndex s.scu.mode) (p : Profile) : ZoneEvent (s.profileSet i p) (s.profileWritten i p) := by
  rewrite [profileWritten_present h]
  split
  · exact ((standsRenewed_heat i p s).zone.trans (recomputeDemands_zone _)).trans (handRemotes_heat _).zone
  · exact (standsRenewed_heat i p s).zone

end ProfileWrite

/-- Settles O21: the record is stored; of the present mode its STANDS requests and demands follow. -/
theorem profileWriteTakesEffect : Obligations.ProfileWriteTakesEffect := by
  refine ⟨fun tag i record p n s h hl hp => ?_, parseProfile_fields⟩
  intro written
  refine ⟨fun hi => ?_, fun hi => ⟨s.profileWritten i p, exec_writeProfiles h hl hp, profileWritten_zone hi p, ?_⟩⟩
  · rewrite [exec_writeProfiles h hl hp, profileWritten_other hi]
    rfl
  · obtain ⟨u, hu, hout, -, hbase, hnobase⟩ := profileWritten_handed hi p
    have hrest := standsRenewed_rest i p s
    have hzones (z : Fin 4) : (s.standsRenewed i p).cdm.get z = s.cdm.get z := by rw [hrest]; rfl
    have hcfg : (s.standsRenewed i p).cfg = written.cfg := by rw [hrest]; rfl
    have hsinks : ∀ j, (s.cfg.sinks.get j) = (s.standsRenewed i p).cfg.sinks.get j := fun j => by rw [hcfg]
    refine ⟨?_, ?_, fun z he hb => ?_, fun z he => ?_, fun j => ?_, fun j hk hch => ?_⟩
    · rewrite [hout.shm, hu.rest, hrest]
      rfl
    · rewrite [hout.lsq, hu.rest, hrest]
      rfl
    · have hprofile : (s.standsRenewed i p).profile = p := by
        rewrite [hrest]
        exact profileSet_profile hi
      rw [hout.cdm, hbase hb, recomputeDemands_get, hzones, State.demanded, hcfg, if_pos he, hprofile]
    · rewrite [hout.cdm]
      by_cases hb : s.profile.baseDemand = p.baseDemand
      · rw [hnobase hb, hzones]
      · rewrite [hbase hb, recomputeDemands_get, hzones, State.demanded, hcfg]
        exact if_neg (by rw [he]; decide)
    · have hgrant := (standsRenewed_sameGrant i p s j).trans (hu.grants j)
      rewrite [hout.hra, hgrant]
      exact ⟨rfl, rfl⟩
    · have hget : u.hra.sinks.get j = (s.standsRenewed i p).hra.sinks.get j :=
        hu.quiet j (by rw [← hsinks, hk]; decide) (by rw [← hsinks, hk]; decide)
      have hchosen : [SinkKind.stands].contains ((s.profileSet i p).cfg.sinks.get j).kind = true := by
        have hsame : (s.profileSet i p).cfg.sinks.get j = s.cfg.sinks.get j := rfl
        rewrite [hsame, hk]
        decide
      rewrite [hout.hra, hget, State.standsRenewed, if_pos hch, State.recomputeKinds, recompute_get, if_pos hchosen]
      exact ⟨rfl, rfl⟩

/-! PROOF. MODE_SET (R153, R154). -/

section ModeSet

variable {s : State} {tag : Byte} {m : ArenaMode}

theorem recallLights_eq (k : Fin 24) (fade : Option Nat) (s : State) :
    s.recallLights k fade = ((s.sceneStepped k fade).aimChannels true fun _ => true).handLevels := rfl

theorem handLevels_lights (s : State) : OnlyLights s s.handLevels := handOn_lights [.light] s

theorem recallLights_lights (k : Fin 24) (fade : Option Nat) (s : State) : OnlyLights s (s.recallLights k fade) := by
  have hscene : OnlyLights s (s.sceneSet k) := mapChannels_lights ..
  have hset : OnlyLights s (((s.sceneSet k).relight [0, 1]).setTargets fun _ => true) :=
    (hscene.trans (relight_lights ..)).trans (setTargets_lights ..)
  have hstep : OnlyLights s (s.sceneStepped k fade) := hset.trans (mapChannels_lights ..)
  have haim : OnlyLights s ((s.sceneStepped k fade).aimChannels true fun _ => true) := hstep.trans (aimChannels_lights ..)
  rewrite [recallLights_eq]
  exact haim.trans (handLevels_lights _)

/-- The base targets of a recalled scene (R116). -/
theorem recallLights_base {k : Fin 24} {i : Fin 32} {level : Nat} (fade : Option Nat)
    (h : (s.cfg.scenes.get k).levels.get i = some level) : ((s.recallLights k fade).lsq.channels.get i).base = level := by
  have hlsq : (s.recall k fade).lsq = (s.recallLights k fade).lsq := (handRemotes_event _).1.lsq
  rw [← hlsq, (recall_relit k fade s).base, sceneSet_get_some h]

/-! ### The steps of a mode change -/

/-- The mode in force, and the STANDS requests of its profile (R154). -/
def State.modeTaken (m : ArenaMode) (s : State) : State := (s.setScu { s.scu with mode := m }).recomputeKinds [.stands]

theorem takeMode_eq (m : ArenaMode) (s : State) : s.takeMode m = ((s.modeTaken m).recomputeDemands).recallEntryScene := rfl

/-- The round of requests behind the pass of a mode change. -/
def State.modeSettled (m : ArenaMode) (s : State) : State :=
  (s.takeMode m).passTrigger.settleRemotes (s.sourceMoved (s.takeMode m))

theorem changeMode_eq (m : ArenaMode) (s : State) :
    s.changeMode m = (s.modeSettled m).notice .program modeSubject (codeOf arenaModes m) := rfl

theorem modeTaken_rest (m : ArenaMode) (s : State) : s.modeTaken m =
    { s with scu := { s.scu with mode := m }, hra := { s.hra with sinks := (s.modeTaken m).hra.sinks } } := rfl

theorem modeTaken_profile (m : ArenaMode) (s : State) : (s.modeTaken m).profile = s.cfg.profiles.get (modeIndex m) := rfl

theorem recallEntryScene_lights (s : State) : OnlyLights s s.recallEntryScene := by
  unfold State.recallEntryScene
  split
  · split
    · exact recallLights_lights ..
    · exact .refl s
  · exact .refl s

theorem recallEntryScene_none (h : s.profile.entryScene = none ∨ s.pru.state ≠ .armed) : s.recallEntryScene = s := by
  unfold State.recallEntryScene
  split
  · next k hk =>
    rcases h with h | h
    · rw [h] at hk
      cases hk
    · exact if_neg (by simp [armed_eq_false h])
  · rfl

theorem recallEntryScene_some {k : Fin 24} (h : s.profile.entryScene.bind (index 24) = some k) (ha : s.pru.state = .armed) :
    s.recallEntryScene = s.recallLights k none := by
  unfold State.recallEntryScene
  simp only [h, armed_eq ha, if_true]

/-- Steps 1 to 4: the zones have handed on, then only the lights moved. -/
theorem takeMode_steps (m : ArenaMode) (s : State) :
    ZonesHanded (s.modeTaken m) (s.modeTaken m).recomputeDemands ∧ OnlyLights (s.modeTaken m).recomputeDemands (s.takeMode m) :=
  ⟨recomputeDemands_handed _, recallEntryScene_lights _⟩

theorem takeMode_bus (m : ArenaMode) (s : State) : (s.takeMode m).fbc = s.fbc ∧ (s.takeMode m).ost.remotes = s.ost.remotes ∧
    (s.takeMode m).cfg = s.cfg ∧ (s.takeMode m).phase = s.phase ∧ (s.takeMode m).pru = s.pru := by
  obtain ⟨hz, hl⟩ := takeMode_steps m s
  rewrite [hl.eq, hz.rest, modeTaken_rest]
  exact ⟨rfl, rfl, rfl, rfl, rfl⟩

theorem takeMode_sinks (m : ArenaMode) (s : State) (i : Fin 12) :
    ((s.takeMode m).hra.sinks.get i).grant = (s.hra.sinks.get i).grant ∧
      ((s.cfg.sinks.get i).enabled = true → (s.cfg.sinks.get i).kind = .stands →
        ((s.takeMode m).hra.sinks.get i).cls = (s.cfg.profiles.get (modeIndex m)).standsClass) := by
  obtain ⟨hz, hl⟩ := takeMode_steps m s
  have hra : (s.takeMode m).hra = (s.modeTaken m).recomputeDemands.hra := by rw [hl.eq]
  have hgrant := (recompute_sameGrant (fun c => [SinkKind.stands].contains c.kind) (s.setScu { s.scu with mode := m }) i).trans (hz.grants i)
  refine ⟨by rw [hra, hgrant]; rfl, fun he hk => ?_⟩
  have hkind : ((s.modeTaken m).cfg.sinks.get i).kind = .stands := hk
  rw [hra, hz.quiet i (by rw [hkind]; decide) (by rw [hkind]; decide), State.modeTaken, State.recomputeKinds, recompute_get,
    if_pos (by show List.contains _ (s.cfg.sinks.get i).kind = true; rw [hk]; decide)]
  exact classInForce_stands (s := s.setScu { s.scu with mode := m }) he hk

theorem takeMode_zones (m : ArenaMode) (s : State) (z : Fin 4) :
    (s.takeMode m).cdm.get z = (s.modeTaken m).demanded z (s.cdm.get z) := by
  have hcdm : (s.takeMode m).cdm = (s.modeTaken m).recomputeDemands.cdm := by rw [(takeMode_steps m s).2.eq]
  rewrite [hcdm, recomputeDemands_get]
  rfl

theorem takeMode_followed (m : ArenaMode) (s : State) : Followed s (s.takeMode m) ∧ (s.takeMode m).ptb = s.ptb := by
  have h1 : HeatEvent (s.setScu { s.scu with mode := m }) (s.modeTaken m) := recomputeKinds_heat ..
  have h2 := recomputeDemands_zone (s.modeTaken m)
  have h3 := recallEntryScene_light (s.modeTaken m).recomputeDemands
  have h0 : Followed s (s.setScu { s.scu with mode := m }) := .of_eq rfl
  exact ⟨((h0.trans h1.followed).trans h2.followed).trans h3.followed, h3.ptb.trans (h2.ptb.trans h1.ptb)⟩

theorem takeMode_base (m : ArenaMode) (s : State) :
    (((s.cfg.profiles.get (modeIndex m)).entryScene = none ∨ s.pru.state ≠ .armed) →
      ∀ i, ((s.takeMode m).lsq.channels.get i).base = (s.lsq.channels.get i).base) ∧
    (∀ k i level, (s.cfg.profiles.get (modeIndex m)).entryScene.bind (index 24) = some k → s.pru.state = .armed →
      (s.cfg.scenes.get k).levels.get i = some level → ((s.takeMode m).lsq.channels.get i).base = level) := by
  have hz := (takeMode_steps m s).1
  have hprofile : (s.modeTaken m).recomputeDemands.profile = s.cfg.profiles.get (modeIndex m) := hz.profile.trans (modeTaken_profile m s)
  have hpru : (s.modeTaken m).recomputeDemands.pru = s.pru := by rw [hz.rest]; rfl
  refine ⟨fun h i => ?_, fun k i level hk ha hl => ?_⟩
  · rewrite [takeMode_eq, recallEntryScene_none (by rwa [hprofile, hpru]), hz.rest]
    rfl
  · rewrite [takeMode_eq, recallEntryScene_some (by rwa [hprofile]) (by rwa [hpru])]
    exact recallLights_base none (by rw [hz.cfg]; exact hl)

/-! ### The pass and the notice behind them -/

theorem modeSettled_heat (m : ArenaMode) (s : State) : HeatEvent (s.takeMode m) (s.modeSettled m) :=
  (passTrigger_heat _).trans (settleRemotes_heat ..)

theorem notice_rest (k : NoticeKind) (x : Nat) (v : Int) (s : State) :
    s.notice k x v = { s with lnk := (s.notice k x v).lnk } := rfl

theorem changeMode_output (m : ArenaMode) (s : State) : OutputEvent (s.modeSettled m) (s.changeMode m) := by
  rewrite [changeMode_eq]
  exact notice_event ..

theorem changeMode_heat (m : ArenaMode) (s : State) : HeatEvent (s.takeMode m) (s.changeMode m) := by
  rewrite [changeMode_eq]
  exact (modeSettled_heat m s).trans (notice_heat ..)

theorem changeMode_hra (m : ArenaMode) (s : State) : (s.changeMode m).hra = (s.takeMode m).passTrigger.hra :=
  (changeMode_output m s).hra.trans (settleRemotes_event _ _).1.hra

/-- A notice that a queue with room behind it took is its last one (R187). -/
theorem notice_getLast {k : NoticeKind} {x : Nat} {v : Int} (he : s.cfg.notice.enables.get (noticeIndex k) = true)
    (h : (s.notice k x v).lnk.notices.length < 32) : (s.notice k x v).lnk.notices.getLast? = some ⟨k, x, v, s.scu.clock, 0⟩ := by
  have hroom : s.lnk.notices.length < 32 := Nat.lt_of_le_of_lt (Lnk.offer_notices ..).length_le h
  have hn : (s.notice k x v).lnk.notices = s.lnk.notices ++ [⟨k, x, v, s.scu.clock, 0⟩] := by
    refine (Lnk.offer_notices_of_room hroom _ _).trans ?_
    rewrite [he]
    rfl
  rw [hn, List.getLast?_concat]

theorem exec_modeSet (h : ActReady tag 6 (u8 (codeOf arenaModes m)) s) :
    exec (.modeSet tag (u8 (codeOf arenaModes m))) s = .next ((s.changeMode m).answered tag .done [0]) := by
  have hm : modeOfCode (u8At (u8 (codeOf arenaModes m)) 0) = some m := by cases m <;> rfl
  refine congrArg Host.Outcome.next ((serveAct_act h rfl _).trans ?_)
  rewrite [hm]
  exact conclude_unclamped ..

end ModeSet

/-- Settles O26: steps 1 to 4, then the pass with its round of requests, then the notice. -/
theorem modeSetChangesMode : Obligations.ModeSetChangesMode := by
  intro tag m s fields p h
  have hheat := changeMode_heat m s
  obtain ⟨hfbc, hrem, hcfg, hphase, hpru⟩ := takeMode_bus m s
  obtain ⟨hfol, hptb⟩ := takeMode_followed m s
  have hzone (z : Fin 4) : (s.changeMode m).cdm.get z = (s.modeTaken m).demanded z (s.cdm.get z) := by
    rw [hheat.cdm, takeMode_zones]
  refine ⟨s.changeMode m, exec_modeSet h, changeMode_inner m s, hfol.trans hheat.followed, hheat.ptb.trans hptb, changeMode_shm m s,
    hheat.pru.trans hpru, changeMode_stc m s, fun z he => ?_, fun z he => ?_, fun i he hk => ?_, fun hp => ?_, fun hp i => ?_,
    fun hn i => ?_, fun k i level hk ha hl => ?_, fun he hlen => ?_, fun hp ha ht => ?_⟩
  · rewrite [hzone]
    exact if_pos he
  · rewrite [hzone]
    exact if_neg (by rw [show ((s.modeTaken m).cfg.zones.get z).enabled = false from he]; decide)
  · rewrite [changeMode_hra, (passTrigger_requests _ i).2.2]
    exact (takeMode_sinks m s i).2 he hk
  · rw [changeMode_hra, passTrigger_run (hphase.trans hp), passWith_hra, allocate_timer, hcfg]
  · rewrite [changeMode_hra, passTrigger_waiting (by rwa [hphase])]
    exact (takeMode_sinks m s i).1
  · exact (hheat.lights.base i).trans ((takeMode_base m s).1 hn i)
  · exact (hheat.lights.base i).trans ((takeMode_base m s).2 k i level hk ha hl)
  · have hsettled := modeSettled_heat m s
    have hsetup : (s.modeSettled m).cfg = s.cfg := hsettled.inner.setup.cfg.trans hcfg
    have hclock : (s.modeSettled m).scu.clock = s.scu.clock := by
      rewrite [hsettled.inner.setup.scu, (takeMode_inner m s).setup.scu]
      rfl
    rewrite [changeMode_eq] at hlen ⊢
    rw [notice_getLast (by rw [hsetup]; exact he) hlen, hclock]
    rfl
  · refine ⟨s.takeMode m, s.modeSettled m, hfbc, hrem, hheat.cdm.symm, fun i => (takeMode_sinks m s i).1, ?_, ?_⟩
    · rewrite [State.modeSettled, passTrigger_run (hphase.trans hp)]
      exact pass_round (hphase.trans hp) (by rw [hpru, ha]) (by rw [hrem]; exact ht) (fun j hj => sourceMoved_bound hj) true
    · rewrite [changeMode_eq]
      exact notice_rest ..

/-! PROOF. COVER on and off (R59, R60), with the passes they trigger (R53, R94). -/

section Rounds

variable {s t : State} {sh : Fin 2}

/-! ### A pass as an event of its own -/

theorem passes_one (h : s.phase = .run) : s.passes true 1 = s.pass := if_pos h

theorem passes_two (h : s.phase = .run) : s.passes true 2 = s.pass.pass := by
  have hp : s.pass.phase = .run := (pass_heat s).inner.setup.phase.trans h
  exact (congrArg (State.passes true 1) (passes_one h)).trans (passes_one hp)

theorem pass_timer (s : State) : s.pass.hra.timer = s.cfg.allocator.period := by
  have hra : s.pass.hra = s.allocate.1 := (handRemotes_event _).1.hra.trans (passWith_hra true s)
  rw [hra, allocate_timer]

theorem pass_atLastPass (s : State) (sh : Fin 2) : (s.pass.shm.get sh).atLastPass = some (s.shm.get sh).budget :=
  (congrArg (fun x => (Table.get x sh).atLastPass) (handRemotes_event _).1.shm).trans ((passWith_passed true s).atLastPass sh)

theorem pass_free (h : ∀ i, (s.ost.remotes.get i).taken = none) (i : Fin 32) : (s.pass.ost.remotes.get i).taken = none :=
  ((pass_heat s).followed.remoteTaken i).trans (h i)

/-! ### A round of requests leaves nothing behind (R144) -/

/-- The source codes of the entries stand after the round. -/
theorem EntriesRequest.source {asks : Fin 32 → Bool} (h : EntriesRequest asks s t) (i : Fin 32) : t.remoteSource i = s.remoteSource i := by
  have hfixed : (t.ost.remotes.get i).fixed = (s.ost.remotes.get i).fixed := by
    cases ha : asks i with
    | false => rw [h.quiet i ha]
    | true =>
      by_cases hd : ((s.busAfter asks i).request false (s.entryCommand i)).1 = .dropped
      · rw [h.dropped i ha hd]
      · rw [h.taken i ha hd]
  have hcode (b : OutputBinding) (k f : Nat) : t.sourceCode b k f = s.sourceCode b k f := by
    rewrite [h.rest]
    rfl
  unfold State.remoteSource
  rw [hcode, hfixed, h.rest]

/-- Every entry that asked has its source code as value. -/
theorem EntriesRequest.value {asks : Fin 32 → Bool} (h : EntriesRequest asks s t) {i : Fin 32} (ha : asks i = true) :
    (t.ost.remotes.get i).value = some (t.remoteSource i : Int) := by
  rewrite [h.source]
  by_cases hd : ((s.busAfter asks i).request false (s.entryCommand i)).1 = .dropped
  · rw [h.dropped i ha hd]
  · rw [h.taken i ha hd]

/-- A second round of the same event requests nothing. -/
theorem handRemotes_of_current (ha : s.armed = true)
    (hv : ∀ i, (s.cfg.remotes.get i).binding ≠ .none → (s.ost.remotes.get i).value = some (s.remoteSource i : Int)) :
    s.handRemotes = s := by
  refine forEach_induct (P := fun x => x = s) _ s rfl fun i x hx => ?_
  rewrite [hx]
  by_cases hb : (s.cfg.remotes.get i).binding = .none
  · unfold State.handRemote
    rw [if_pos ha, if_pos hb]
  · exact handRemote_current i s ha (hv i hb)

theorem handRemotes_pass (hp : s.phase = .run) (ha : s.pru.state = .armed) (ht : ∀ i, (s.ost.remotes.get i).taken = none) :
    s.pass.handRemotes = s.pass := by
  have hw := passWith_heat true s
  have hr : EntriesRequest (s.passWith true).entryBehind (s.passWith true) s.pass :=
    handRemotes_requests _ (armed_eq (by rw [hw.pru, ha])) (hw.inner.setup.phase.trans hp) fun i => (hw.followed.remoteTaken i).trans (ht i)
  refine handRemotes_of_current (armed_eq (by rw [(pass_heat s).pru, ha])) fun i hb => ?_
  cases hask : (s.passWith true).entryBehind i with
  | true => exact hr.value hask
  | false =>
    have hcfg : s.pass.cfg = (s.passWith true).cfg := by rw [hr.rest]
    rewrite [hr.quiet i hask, hr.source]
    unfold State.entryBehind at hask
    rewrite [hcfg] at hb
    simpa [hb] using hask

end Rounds

section Covers

variable {s t : State} {sh : Fin 2} {r : SheetRun} {tag : Byte}

/-! ### A sheet whose record changes, with its passes and notice -/

/-- The new record of the sheet, before its passes (R59, R60). -/
def State.coverSet (sh : Fin 2) (r : SheetRun) (s : State) : State := (s.setSheet sh r).handAlarm (s.shm.get sh).state sh

/-- The event of a cover change with its `n` passes, then the notice. -/
def State.coverChanged (sh : Fin 2) (r : SheetRun) (n : Nat) (s : State) : State :=
  (Triggered.finish ⟨s.coverSet sh r, n⟩).sheetNotice (s.shm.get sh).state sh

theorem coverSet_event (sh : Fin 2) (r : SheetRun) (s : State) : OutputEvent (s.setSheet sh r) (s.coverSet sh r) := handAlarm_event ..

theorem coverSet_sheet (sh : Fin 2) (r : SheetRun) (s : State) : SheetEvent s (s.coverSet sh r) :=
  (setSheet_sheet sh r s).trans (handAlarm_heat ..).sheet

theorem handAlarm_bus (old : SheetState) (sh : Fin 2) (s : State) :
    (s.handAlarm old sh).fbc = s.fbc ∧ (s.handAlarm old sh).ost.remotes = s.ost.remotes := by
  unfold State.handAlarm
  split
  · rewrite [handOn_fbc, handOn_remotes]
    exact ⟨rfl, rfl⟩
  · exact ⟨rfl, rfl⟩

theorem coverSet_shm (sh : Fin 2) (r : SheetRun) (s : State) : (s.coverSet sh r).shm = s.shm.set sh r := (coverSet_event sh r s).shm

theorem coverChanged_sheet (sh : Fin 2) (r : SheetRun) (n : Nat) (s : State) : SheetEvent s (s.coverChanged sh r n) :=
  ((coverSet_sheet sh r s).trans (Triggered.finish_heat ⟨s.coverSet sh r, n⟩).sheet).trans (sheetNotice_heat ..).sheet

theorem sheetNotice_rest (old : SheetState) (sh : Fin 2) (s : State) :
    s.sheetNotice old sh = { s with lnk := (s.sheetNotice old sh).lnk } := by
  unfold State.sheetNotice State.noticeIf
  dsimp only
  split <;> rfl

theorem coverChanged_rest (sh : Fin 2) (r : SheetRun) (n : Nat) (s : State) :
    s.coverChanged sh r n = { Triggered.finish ⟨s.coverSet sh r, n⟩ with lnk := (s.coverChanged sh r n).lnk } :=
  sheetNotice_rest ..

/-- Its passes may have recorded budgets, and change nothing else of the sheets (R53). -/
theorem coverChanged_shm (sh : Fin 2) (r : SheetRun) (n : Nat) (s : State) (j : Fin 2) :
    (s.coverChanged sh r n).shm.get j = { (s.shm.set sh r).get j with atLastPass := ((s.coverChanged sh r n).shm.get j).atLastPass } := by
  have hshm : (s.coverChanged sh r n).shm = (Triggered.finish ⟨s.coverSet sh r, n⟩).shm :=
    (sheetNotice_event (s.shm.get sh).state sh (Triggered.finish ⟨s.coverSet sh r, n⟩)).shm
  rewrite [hshm, ← coverSet_shm]
  exact (Triggered.finish_heat ⟨s.coverSet sh r, n⟩).shm j

theorem coverChanged_get (sh : Fin 2) (r : SheetRun) (n : Nat) (s : State) :
    (s.coverChanged sh r n).shm.get sh = { r with atLastPass := ((s.coverChanged sh r n).shm.get sh).atLastPass } := by
  have h := coverChanged_shm sh r n s sh
  rwa [Table.get_set_self] at h

theorem coverChanged_others (r : SheetRun) (n : Nat) (s : State) {j : Fin 2} (h : j ≠ sh) :
    (s.coverChanged sh r n).shm.get j = { s.shm.get j with atLastPass := ((s.coverChanged sh r n).shm.get j).atLastPass } := by
  have hset : (s.shm.set sh r).get j = s.shm.get j := Table.get_set_ne _ h.symm _
  exact (coverChanged_shm sh r n s j).trans
    (congrArg (fun x : SheetRun => { x with atLastPass := ((s.coverChanged sh r n).shm.get j).atLastPass }) hset)

theorem coverChanged_cdm (sh : Fin 2) (r : SheetRun) (n : Nat) (s : State) : (s.coverChanged sh r n).cdm = s.cdm := by
  have hnotice : (s.coverChanged sh r n).cdm = (Triggered.finish ⟨s.coverSet sh r, n⟩).cdm :=
    (sheetNotice_event (s.shm.get sh).state sh (Triggered.finish ⟨s.coverSet sh r, n⟩)).cdm
  have hfinish : (Triggered.finish ⟨s.coverSet sh r, n⟩).cdm = (s.coverSet sh r).cdm := (Triggered.finish_heat ⟨s.coverSet sh r, n⟩).cdm
  rewrite [hnotice, hfinish, (coverSet_event sh r s).cdm]
  rfl

/-- The sheet's change is its only notice of a state (R63). -/
theorem coverChanged_notified (sh : Fin 2) (r : SheetRun) (n : Nat) (s : State) : StatesNotified s (s.coverChanged sh r n) := by
  have hset : Announced [] s (s.setSheet sh r) := .of_lnk rfl rfl rfl
  have hquiet := (hset.quiet (handAlarm_quiet ..)).quiet (Triggered.finish_quiet ⟨s.coverSet sh r, n⟩)
  have hann := hquiet.trans (sheetNotice_announced (s.shm.get sh).state sh (Triggered.finish ⟨s.coverSet sh r, n⟩))
  have hshm : (Triggered.finish ⟨s.coverSet sh r, n⟩).shm = (s.coverChanged sh r n).shm := (sheetNotice_event ..).shm.symm
  refine Announced.statesNotified ?_
  have hzones : zoneChanges s (s.coverChanged sh r n) = [] := by simp [zoneChanges, Offer.when, coverChanged_cdm]
  rewrite [hzones, sheetChanges_of_others fun j hj => by rw [coverChanged_others r n s hj], List.nil_append]
  rwa [List.nil_append, hshm] at hann

/-! ### In RUN -/

theorem coverChanged_run (hp : s.phase = .run) (sh : Fin 2) (r : SheetRun) {n : Nat} (hn : n = 1 ∨ n = 2) :
    ((s.coverChanged sh r n).shm.get sh).atLastPass = some ((s.coverChanged sh r n).shm.get sh).budget ∧
      (s.coverChanged sh r n).hra.timer = s.cfg.allocator.period := by
  have hphase : (s.coverSet sh r).phase = .run := (coverSet_sheet sh r s).inner.setup.phase.trans hp
  have hcfg : (s.coverSet sh r).cfg = s.cfg := (coverSet_sheet sh r s).inner.setup.cfg
  have key (a : State) (hb : (a.shm.get sh).budget = r.budget) (hc : a.cfg = s.cfg)
      (ht : s.coverChanged sh r n = { a.pass.handRemotes with lnk := (s.coverChanged sh r n).lnk }) :
      ((s.coverChanged sh r n).shm.get sh).atLastPass = some r.budget ∧ (s.coverChanged sh r n).hra.timer = s.cfg.allocator.period := by
    have hout := (handRemotes_event a.pass).1
    rewrite [ht]
    dsimp only
    rewrite [hout.shm, hout.hra, pass_atLastPass, pass_timer, hb, hc]
    exact ⟨rfl, rfl⟩
  have hbudget : ((s.coverSet sh r).shm.get sh).budget = r.budget := by rw [coverSet_shm, Table.get_set_self]
  have hrest := coverChanged_rest sh r n s
  rewrite [coverChanged_get]
  rcases hn with rfl | rfl
  · rewrite [Triggered.finish, passes_one hphase] at hrest
    exact key _ hbudget hcfg hrest
  · rewrite [Triggered.finish, passes_two hphase] at hrest
    refine key _ ?_ ((pass_heat _).inner.setup.cfg.trans hcfg) hrest
    rw [(pass_heat _).shm sh, hbudget]

/-- While ARMED each pass has its own round of requests, and the event makes no other (R144). -/
theorem coverChanged_one (hp : s.phase = .run) (ha : s.pru.state = .armed) (ht : ∀ i, (s.ost.remotes.get i).taken = none) (sh : Fin 2)
    (r : SheetRun) : PassRound (fun _ => false) (s.coverSet sh r) (s.coverSet sh r).pass ∧
      s.coverChanged sh r 1 = { (s.coverSet sh r).pass with lnk := (s.coverChanged sh r 1).lnk } := by
  have hset := coverSet_sheet sh r s
  have hphase : (s.coverSet sh r).phase = .run := hset.inner.setup.phase.trans hp
  have harmed : (s.coverSet sh r).pru.state = .armed := by rw [hset.pru, ha]
  have hfree (i : Fin 32) : ((s.coverSet sh r).ost.remotes.get i).taken = none := (hset.followed.remoteTaken i).trans (ht i)
  have hrest := coverChanged_rest sh r 1 s
  rewrite [Triggered.finish, passes_one hphase, handRemotes_pass hphase harmed hfree] at hrest
  exact ⟨pass_round_alone hphase harmed hfree true, hrest⟩

theorem coverChanged_two (hp : s.phase = .run) (ha : s.pru.state = .armed) (ht : ∀ i, (s.ost.remotes.get i).taken = none) (sh : Fin 2)
    (r : SheetRun) : PassRound (fun _ => false) (s.coverSet sh r) (s.coverSet sh r).pass ∧
      PassRound (fun _ => false) (s.coverSet sh r).pass (s.coverSet sh r).pass.pass ∧
      s.coverChanged sh r 2 = { (s.coverSet sh r).pass.pass with lnk := (s.coverChanged sh r 2).lnk } := by
  have hset := coverSet_sheet sh r s
  have hphase : (s.coverSet sh r).phase = .run := hset.inner.setup.phase.trans hp
  have harmed : (s.coverSet sh r).pru.state = .armed := by rw [hset.pru, ha]
  have hfree (i : Fin 32) : ((s.coverSet sh r).ost.remotes.get i).taken = none := (hset.followed.remoteTaken i).trans (ht i)
  have hpass := pass_heat (s.coverSet sh r)
  have hphase2 := hpass.inner.setup.phase.trans hphase
  have harmed2 : (s.coverSet sh r).pass.pru.state = .armed := by rw [hpass.pru, harmed]
  have hrest := coverChanged_rest sh r 2 s
  rewrite [Triggered.finish, passes_two hphase, handRemotes_pass hphase2 harmed2 (pass_free hfree)] at hrest
  exact ⟨pass_round_alone hphase harmed hfree true, pass_round_alone hphase2 harmed2 (pass_free hfree) true, hrest⟩

/-! ### The two acts -/

/-- The record of a covered sheet (R59). -/
def SheetRun.covered (r : SheetRun) : SheetRun := { r with state := .covered, budget := .unlimited, criticalTime := 0, trigger := false }

theorem coverOn_covers (h : (s.shm.get sh).state = .normal ∨ (s.shm.get sh).state = .soft ∨ (s.shm.get sh).state = .critical ∨
    (s.shm.get sh).state = .blind) : s.coverOn sh = some (s.coverChanged sh (s.shm.get sh).covered 1) := by
  unfold State.coverOn
  rcases h with h | h | h | h <;> simp only [h, State.coverChanged, State.coverSet, SheetRun.covered]

theorem coverOff_uncovers (h : (s.shm.get sh).state = .covered) : s.coverOff sh =
    some (s.coverChanged sh (s.freshSheet sh) (1 + (isDecrease (s.freshSheet sh).budget (s.freshSheet sh).atLastPass).toNat)) := by
  unfold State.coverOff
  simp only [h, State.coverChanged, State.coverSet]
  rfl

theorem actCover_eq {on : Bool} (h : ActReady tag 9 (u8 sh ++ [if on then 0 else 1]) s) :
    actCover (u8 sh ++ [if on then 0 else 1]) s =
      sheetAct (u8At (u8 sh) 0) fun k => if on then s.coverOn k else s.coverOff k := by
  have hon : nameAt coverCodes (u8 sh ++ [if on then 0 else 1]) 1 = some on := by cases on <;> rfl
  rewrite [actCover, actReady_word (n := 2) h rfl, hon]
  rfl

theorem exec_coverOn (h : ActReady tag 9 (u8 sh ++ [0]) s) :
    exec (.coverOn tag (u8 sh ++ [0])) s = .next (s.conclude tag (sheetAct (u8At (u8 sh) 0) s.coverOn)) := by
  have hact := actCover_eq (on := true) h
  exact congrArg Host.Outcome.next ((serveAct_ready h.ready _).trans (congrArg (fun d => s.conclude tag d) hact))

theorem exec_coverOff (h : ActReady tag 9 (u8 sh ++ [1]) s) :
    exec (.coverOff tag (u8 sh ++ [1])) s = .next (s.conclude tag (sheetAct (u8At (u8 sh) 0) s.coverOff)) := by
  have hact := actCover_eq (on := false) h
  exact congrArg Host.Outcome.next ((serveAct_ready h.ready _).trans (congrArg (fun d => s.conclude tag d) hact))

theorem coverOn_refused (h : (s.shm.get sh).state = .resurface ∨ (s.shm.get sh).state = .off) : s.coverOn sh = none := by
  unfold State.coverOn
  rcases h with h | h <;> simp only [h]

theorem coverOn_repeat (h : (s.shm.get sh).state = .covered) : s.coverOn sh = some s := by
  unfold State.coverOn
  simp only [h]

theorem coverOff_refused (h : (s.shm.get sh).state ≠ .covered) : s.coverOff sh = none := by
  unfold State.coverOff
  dsimp only
  split
  · next hc => exact absurd hc h
  · rfl

theorem freshSheet_atLastPass (sh : Fin 2) (s : State) : (s.freshSheet sh).atLastPass = (s.shm.get sh).atLastPass := rfl

/-- UNLIMITED counts as greater than every number, and a sheet that no pass has served has no budget yet (R53). -/
theorem isDecrease_iff (b : Power) (last : Option Power) : isDecrease b last = true ↔
    match last, b with
    | _, .unlimited => False
    | some (.watts w), .watts v => v < w
    | _, .watts _ => True := by
  match last, b with
  | none, .unlimited => simp [isDecrease]
  | none, .watts v => simp [isDecrease]
  | some (.watts w), .unlimited => simp [isDecrease, Power.below]
  | some .unlimited, .unlimited => simp [isDecrease, Power.below]
  | some (.watts w), .watts v => simp [isDecrease, Power.below]
  | some .unlimited, .watts v => simp [isDecrease, Power.below]

end Covers

/-- Settles O28: the record of the covered or freshly evaluated sheet, its one or two passes, and its notice. -/
theorem coverActs : Obligations.CoverActs := by
  intro tag sh s c r m others before
  have hbefore (x : SheetRun) : before (s.coverSet sh x) :=
    ⟨coverSet_sheet sh x s, (handAlarm_bus ..).1, (handAlarm_bus ..).2, (coverSet_event sh x s).hra, (coverSet_event sh x s).lsq⟩
  refine ⟨fun h => ⟨fun hst => ?on, fun hst => ?again, fun hst => ?onRefused⟩, fun h => ⟨fun hst => ?off, fun hst => ?offRefused⟩⟩
  case on =>
    refine ⟨s.coverChanged sh r.covered 1, ?_, coverChanged_sheet .., fun j hj => coverChanged_others _ _ _ hj, coverChanged_cdm ..,
      coverChanged_notified .., coverChanged_get .., fun hp => ?_, fun hp ha ht => ?_⟩
    · rw [exec_coverOn h, sheetAct_some (coverOn_covers hst), conclude_unclamped]
    · obtain ⟨hlast, htimer⟩ := coverChanged_run hp sh r.covered (.inl rfl)
      rewrite [coverChanged_get] at hlast
      exact ⟨hlast, htimer⟩
    · obtain ⟨hround, hrest⟩ := coverChanged_one hp ha ht sh r.covered
      exact ⟨_, _, hbefore r.covered, by rw [coverSet_shm, Table.get_set_self]; rfl, hround, hrest⟩
  case again => rw [exec_coverOn h, sheetAct_some (coverOn_repeat hst), conclude_unclamped]
  case onRefused => rw [exec_coverOn h, sheetAct_none (coverOn_refused hst), conclude_refused]
  case offRefused => rw [exec_coverOff h, sheetAct_none (coverOff_refused hst), conclude_refused]
  case off =>
    obtain ⟨hstate, htemp, -, -, -, hbudget⟩ := freshSheet_fields sh s
    have hdone := coverOff_uncovers hst
    generalize hn : 1 + (isDecrease (s.freshSheet sh).budget (s.freshSheet sh).atLastPass).toNat = n at hdone
    have hcases : n = 1 ∨ n = 2 := by
      cases hd : isDecrease (s.freshSheet sh).budget (s.freshSheet sh).atLastPass <;> simp [hd] at hn <;> omega
    have hget := coverChanged_get sh (s.freshSheet sh) n s
    have hkeep : ((s.coverChanged sh (s.freshSheet sh) n).shm.get sh).budget = (s.freshSheet sh).budget := by rw [hget]
    refine ⟨s.coverChanged sh (s.freshSheet sh) n, ?_, coverChanged_sheet .., fun j hj => coverChanged_others _ _ _ hj, coverChanged_cdm ..,
      coverChanged_notified .., (congrArg SheetRun.state hget).trans hstate, (congrArg SheetRun.temp hget).trans htemp, ?_,
      fun hp => coverChanged_run hp sh _ hcases, fun hp ha ht => ?_⟩
    · rw [exec_coverOff h, sheetAct_some hdone, conclude_unclamped]
    · rw [hkeep, hbudget, hstate]
    · intro decrease
      have hiff : isDecrease (s.freshSheet sh).budget (s.freshSheet sh).atLastPass = true ↔ decrease := by
        rw [isDecrease_iff, freshSheet_atLastPass, ← hkeep] <;> rfl
      have hset : ((s.coverSet sh (s.freshSheet sh)).shm.get sh) = s.freshSheet sh := by rw [coverSet_shm, Table.get_set_self]
      refine ⟨s.coverSet sh (s.freshSheet sh), (s.coverSet sh (s.freshSheet sh)).pass, hbefore _, by rw [hset, hstate], by rw [hset, hkeep],
        (coverChanged_one hp ha ht sh _).1, fun hd => ?_, fun hd => ?_⟩
      · have hone : n = 1 := by rw [← hn, Bool.eq_false_iff.mpr (mt hiff.mp hd)]; rfl
        subst hone
        exact (coverChanged_one hp ha ht sh _).2
      · have htwo : n = 2 := by rw [← hn, hiff.mpr hd]; rfl
        subst htwo
        exact ⟨_, (coverChanged_two hp ha ht sh _).2.1, (coverChanged_two hp ha ht sh _).2.2⟩

/-! PROOF. The clear (R107, R131, R142, R147, R173): its two rounds of requests, and what it leaves of channels and outputs. -/

section Loops

variable {σ α : Type} {f g : α → σ → σ}

theorem foldl_comm {φ : σ → σ} {l : List α} (h : ∀ j ∈ l, ∀ x, g j (φ x) = φ (g j x)) (s : σ) :
    l.foldl (fun x i => g i x) (φ s) = φ (l.foldl (fun x i => g i x) s) := by
  induction l generalizing s with
  | nil => rfl
  | cons i l ih =>
    rw [List.foldl_cons, List.foldl_cons, h i List.mem_cons_self, ih fun j hj => h j (List.mem_cons_of_mem _ hj)]

/-- Where the steps commute with the other members' preparations, a loop over both prepares every member first. -/
theorem foldl_prepared {l : List α} (hl : l.Nodup) (h : ∀ i j, i ≠ j → ∀ x, g j (f i x) = f i (g j x)) (s : σ) :
    l.foldl (fun x i => f i (g i x)) s = l.foldl (fun x i => f i x) (l.foldl (fun x i => g i x) s) := by
  induction l generalizing s with
  | nil => rfl
  | cons i l ih =>
    obtain ⟨hi, hl⟩ := List.nodup_cons.mp hl
    rw [List.foldl_cons, ih hl, foldl_comm fun j hj => h i j fun e => hi (e ▸ hj), List.foldl_cons, List.foldl_cons]

/-- Steps that agree on the states they come to agree as a loop. -/
theorem foldl_agree {P : σ → Prop} {l : List α} (h : ∀ i x, P x → f i x = g i x ∧ P (f i x)) {s : σ} (hs : P s) :
    l.foldl (fun x i => f i x) s = l.foldl (fun x i => g i x) s := by
  induction l generalizing s with
  | nil => rfl
  | cons i l ih =>
    rewrite [List.foldl_cons, List.foldl_cons, ← (h i s hs).1]
    exact ih (h i s hs).2

section Turns

variable {n : Nat} {step : Fin n → σ → σ} {P : σ → Prop} {R Q : Fin n → σ → Prop}

/-- A loop whose step `i` takes `R i` to `Q i`, and keeps both for the others, takes every `R` to its `Q`. -/
theorem forEach_turns (hstep : ∀ i x, P x → P (step i x) ∧ (R i x → Q i (step i x)) ∧
    ∀ j, j ≠ i → (R j x → R j (step i x)) ∧ (Q j x → Q j (step i x))) {s : σ} (hs : P s) {j : Fin n} (hr : R j s) : Q j (forEach n step s) := by
  have key (l : List (Fin n)) (hl : l.Nodup) (x : σ) (hx : P x) (hq : j ∈ l ∧ R j x ∨ j ∉ l ∧ Q j x) :
      Q j (l.foldl (fun x i => step i x) x) := by
    induction l generalizing x with
    | nil => exact (hq.resolve_left fun k => List.not_mem_nil k.1).2
    | cons i l ih =>
      obtain ⟨hi, hl⟩ := List.nodup_cons.mp hl
      obtain ⟨hp, hturn, hothers⟩ := hstep i x hx
      refine ih hl (step i x) hp ?_
      by_cases hj : j = i
      · subst hj
        exact .inr ⟨hi, hq.elim (fun k => hturn k.2) fun k => absurd List.mem_cons_self k.1⟩
      · exact hq.imp (fun k => ⟨(List.mem_cons.mp k.1).resolve_left hj, (hothers j hj).1 k.2⟩)
          fun k => ⟨fun m => k.1 (List.mem_cons_of_mem _ m), (hothers j hj).2 k.2⟩
  exact key _ (List.nodup_finRange n) s hs (.inl ⟨List.mem_finRange j, hr⟩)

/-- A loop whose step `i` brings about `Q i` and keeps the others brings about all. -/
theorem forEach_all (hstep : ∀ i x, P x → P (step i x) ∧ Q i (step i x) ∧ ∀ j, j ≠ i → Q j x → Q j (step i x)) {s : σ} (hs : P s) (j : Fin n) :
    Q j (forEach n step s) :=
  forEach_turns (R := fun _ _ => True) (fun i x hx =>
    ⟨(hstep i x hx).1, fun _ => (hstep i x hx).2.1, fun j hj => ⟨fun _ => trivial, (hstep i x hx).2.2 j hj⟩⟩) hs trivial

end Turns

end Loops

section Kinds

variable {s t : State} {ns : List Offer} {kinds : List NoticeKind}

/-- The notices of some kinds that stand in the queue, where it had room, are the offers of these kinds (R187). -/
theorem notified_of_lnk (hc : t.cfg = s.cfg) (hl : t.lnk = s.offered ns) :
    Notified kinds (ns.filter fun n => kinds.contains n.1) s t := by
  intro hroom
  rewrite [hl] at hroom ⊢
  rewrite [offered_notices s ns hroom, List.drop_left, List.filter_map, hc, List.filter_filter, List.filter_filter]
  congr 2
  funext n
  exact Bool.and_comm ..

theorem filter_kinds_nil (h : ∀ n ∈ ns, kinds.contains n.1 = false) : ns.filter (fun n => kinds.contains n.1) = [] :=
  List.filter_eq_nil_iff.mpr fun n hn => by simpa using h n hn

theorem kind_of_mem_derateChanges {n : Offer} (h : n ∈ derateChanges s t) : n.1 = .derate :=
  have ⟨_, _, hn⟩ := List.mem_flatMap.mp h
  kind_of_mem_when hn

/-- The notices of a pass are of three kinds (R102, R103, R127). -/
theorem kind_of_mem_passNotices {n : Offer} (h : n ∈ passNotices s t) : n.1 = .derate ∨ n.1 = .grantShort ∨ n.1 = .backup := by
  rcases List.mem_append.mp h with h | h
  · rcases List.mem_append.mp h with h | h
    · exact .inl (kind_of_mem_derateChanges h)
    · obtain ⟨_, _, hn⟩ := List.mem_flatMap.mp h
      exact .inr (.inl (kind_of_mem_when hn))
  · exact .inr (.inr (kind_of_mem_when h))

end Kinds

section Outputs

variable {s t : State}

/-! ### What a pass does to the outputs is what handing on does -/

/-- Whether figures reach an output: one with a binding, or one that follows a channel under protect. -/
def State.outputReached (s : State) (i : Fin 16) : Prop :=
  (s.cfg.outputs.get i).binding ≠ .none ∨ ∃ k, (s.ost.outputs.get i).taken = some (.follow k)

theorem outputReached_of_takes {bs : List OutputBinding} {i : Fin 16} (hb : bs.contains .none = false) (h : s.outputTakes bs i = true) :
    s.outputReached i := by
  rcases Bool.or_eq_true_iff.mp h with h | h
  · refine .inl fun e => ?_
    rw [e, hb] at h
    cases h
  · refine .inr ?_
    have hfollow := (Bool.and_eq_true_iff.mp h).2
    split at hfollow
    · next k hk => exact ⟨k, hk⟩
    · cases hfollow

/-- A predicate on the settings, the protect unit and the outputs that handing on keeps. -/
structure OutputsInvariant (P : State → Prop) : Prop where
  frame : ∀ {x y : State}, y.ost = x.ost → y.cfg = x.cfg → y.pru = x.pru → P x → P y
  hand : ∀ i x, x.outputReached i → P x → P (x.handOutput i)

theorem OutputsInvariant.handOn {P : State → Prop} (h : OutputsInvariant P) {bs : List OutputBinding} (hb : bs.contains .none = false)
    (hs : P s) : P (s.handOn bs) := by
  refine forEach_induct (P := P) _ s hs fun i x hx => ?_
  split
  · next htakes => exact h.hand i x (outputReached_of_takes hb htakes) hx
  · exact hx

theorem OutputsInvariant.noticeIf {P : State → Prop} (h : OutputsInvariant P) (c : Bool) (k : NoticeKind) (x : Nat) (v : Int) (hs : P s) :
    P (s.noticeIf c k x v) :=
  h.frame (noticeIf_ost ..) (noticeIf_event ..).inner.setup.cfg (noticeIf_event ..).pru hs

theorem relightAndAim_ost (jumps : Bool) (shs : List (Fin 2)) (also : Fin 32 → Bool) (s : State) :
    (s.relightAndAim jumps shs also).ost = s.ost := by
  refine Eq.trans ?_ (relight_ost shs s)
  unfold State.relightAndAim State.setTargets
  dsimp only
  split <;> split <;> rfl

theorem OutputsInvariant.allowance {P : State → Prop} (h : OutputsInvariant P) (jumps : Bool) (sh : Fin 2) (a : Power) (hs : P s) :
    P (s.receiveAllowance jumps sh a) := by
  rewrite [receiveAllowance_eq]
  have hlight := relightAndAim_light jumps [sh] (fun _ => false) (s.allowed sh a)
  exact h.handOn rfl (h.frame ((relightAndAim_ost ..).trans rfl) hlight.inner.setup.cfg hlight.pru (h.frame (x := s) rfl rfl rfl hs))

/-- What handing on keeps of the outputs, a pass keeps. -/
theorem OutputsInvariant.passWith {P : State → Prop} (h : OutputsInvariant P) (jumps : Bool) (hs : P s) : P (s.passWith jumps) := by
  rewrite [passWith_eq]
  have h0 : P s.allocated := h.frame (x := s) rfl rfl rfl hs
  have h1 : P (s.passHanded jumps) := h.handOn rfl (forEach_induct (P := P) _ _ h0 fun _ _ hx => h.allowance jumps _ _ hx)
  exact h.noticeIf _ _ _ _ (foldl_induct (P := P) _ _ _ h1 fun _ _ hx => h.noticeIf _ _ _ _ hx)

/-- A driven output, free of protect behaviour, aims at its source. -/
structure OutputRun.Follows (o : OutputRun) : Prop where
  driven : o.driven = true
  taken : o.taken = none
  target : o.target = o.source

/-- While ARMED, every bound output is driven towards its source, free of protect behaviour (R137, R139). -/
structure OutputsDriven (s : State) : Prop where
  armed : s.armed = true
  outputs : ∀ i, (s.cfg.outputs.get i).binding ≠ .none → (s.ost.outputs.get i).Follows

theorem outputsDriven_invariant : OutputsInvariant OutputsDriven where
  frame ho hc hp hx := ⟨by rw [← hx.armed, State.armed, hp]; rfl, by rw [ho, hc]; exact hx.outputs⟩
  hand i x _ hx := by
    refine ⟨hx.armed, fun j hj => ?_⟩
    obtain ⟨hd, ht, -⟩ := hx.outputs j hj
    by_cases hij : i = j
    · subst hij
      obtain ⟨-, hdriven, htaken, hsource, htarget⟩ := OutputRun.aim_kept (x.cfg.outputs.get i)
        { x.ost.outputs.get i with source := x.outputSource i, target := x.outputSource i }
      rewrite [handOutput_armed hx.armed, if_pos hd, State.setOutput, Table.get_set_self]
      exact ⟨hdriven.trans hd, htaken.trans ht, htarget.trans hsource.symm⟩
    · have hget : (x.handOutput i).ost.outputs.get j = x.ost.outputs.get j := Table.get_set_ne _ hij _
      rewrite [hget]
      exact hx.outputs j hj

/-- At the clear every bound output is driven towards its source (R142). -/
theorem clearOutput_driven (i : Fin 16) (s : State) (h : (s.cfg.outputs.get i).binding ≠ .none) :
    ((s.clearOutput i).ost.outputs.get i).Follows := by
  obtain ⟨-, hdriven, htaken, hsource, htarget⟩ := OutputRun.aim_kept (s.cfg.outputs.get i)
    { s.ost.outputs.get i with driven := true, taken := none, source := s.outputSource i, target := s.outputSource i }
  unfold State.clearOutput
  dsimp only
  rewrite [if_neg h, State.setOutput, Table.get_set_self]
  exact ⟨hdriven, htaken, htarget.trans hsource.symm⟩

theorem clearOutput_other {i j : Fin 16} (h : i ≠ j) (s : State) : (s.clearOutput i).ost.outputs.get j = s.ost.outputs.get j := by
  unfold State.clearOutput
  dsimp only
  split <;> exact Table.get_set_ne _ h _

/-- The outputs after the clear; the remote entries have not yet taken theirs. -/
def State.outputsCleared (s : State) : State := forEach 16 State.clearOutput s

theorem outputsCleared_event (s : State) : OutputEvent s s.outputsCleared := forEach_output _ clearOutput_event s

theorem outputsCleared_driven (h : s.pru.state = .armed) : OutputsDriven s.outputsCleared := by
  have hev := outputsCleared_event s
  refine ⟨armed_eq (by rw [hev.pru, h]), fun i hi => ?_⟩
  rewrite [hev.inner.setup.cfg] at hi
  have hall := forEach_all (step := State.clearOutput) (P := fun x => x.cfg = s.cfg)
    (Q := fun j x => (s.cfg.outputs.get j).binding ≠ .none → (x.ost.outputs.get j).Follows)
    (fun i x hx => ⟨(clearOutput_event i x).inner.setup.cfg.trans hx, fun hb => clearOutput_driven i x (by rwa [hx]), fun j hj hq => by
      rewrite [clearOutput_other (Ne.symm hj)]
      exact hq⟩) (s := s) rfl i
  unfold State.outputsCleared
  exact hall hi

end Outputs

section Remotes

variable {s t : State} {i j : Fin 32}

/-! ### The remote entries at the clear (R147) -/

/-- An entry free of protect behaviour, under the refresh period of its own configuration. -/
def RemoteRun.freed (c : RemoteConfig) (r : RemoteRun) : RemoteRun :=
  { r with taken := none, timer := if c.binding = .none then r.timer else refreshFrom r.timer c.refresh }

def State.freeRemote (i : Fin 32) (s : State) : State := s.setRemote i ((s.ost.remotes.get i).freed (s.cfg.remotes.get i))

/-- A bound entry's request for its source code. -/
def State.askRemote (i : Fin 32) (s : State) : State :=
  if (s.cfg.remotes.get i).binding = .none then s
  else { s with
    fbc := s.fbc.asked s.holdsCounts (s.entryCommand i)
    ost := { s.ost with remotes := s.ost.remotes.set i (s.entryRequested s.fbc i) } }

theorem setRemote_twice (i : Fin 32) (a b : RemoteRun) (s : State) : (s.setRemote i a).setRemote i b = s.setRemote i b := by
  simp [State.setRemote]

theorem freeRemote_get (i : Fin 32) (s : State) :
    (s.freeRemote i).ost.remotes.get i = (s.ost.remotes.get i).freed (s.cfg.remotes.get i) := Table.get_set_self ..

theorem freeRemote_other (h : j ≠ i) (s : State) : (s.freeRemote j).ost.remotes.get i = s.ost.remotes.get i := Table.get_set_ne _ h _

theorem setRemote_source (i : Fin 32) {r : RemoteRun} (h : r.fixed = (s.ost.remotes.get i).fixed) (j : Fin 32) :
    (s.setRemote i r).remoteSource j = s.remoteSource j := by
  have hfixed : ((s.setRemote i r).ost.remotes.get j).fixed = (s.ost.remotes.get j).fixed := by
    by_cases hj : i = j
    · subst hj
      exact (congrArg RemoteRun.fixed (Table.get_set_self ..)).trans h
    · exact congrArg RemoteRun.fixed (Table.get_set_ne _ hj _)
  unfold State.remoteSource
  rewrite [hfixed]
  rfl

theorem clearRemote_eq (i : Fin 32) (s : State) : s.clearRemote i = (s.freeRemote i).askRemote i := by
  unfold State.clearRemote State.askRemote
  dsimp only
  by_cases hb : (s.cfg.remotes.get i).binding = .none
  · rewrite [if_pos hb, if_pos (show ((s.freeRemote i).cfg.remotes.get i).binding = .none from hb)]
    simp only [State.freeRemote, RemoteRun.freed, hb, if_true]
  · rewrite [if_neg hb, if_neg (show ((s.freeRemote i).cfg.remotes.get i).binding ≠ .none from hb)]
    have hask := request_newValue i (s.freeRemote i) (by rw [freeRemote_get]; rfl)
    rewrite [freeRemote_get, State.freeRemote, setRemote_twice, ← State.freeRemote] at hask
    have hsource : (s.freeRemote i).remoteSource i = s.remoteSource i := setRemote_source (s := s) i (r := (s.ost.remotes.get i).freed (s.cfg.remotes.get i)) rfl i
    rewrite [hsource] at hask
    rewrite [← hask]
    simp only [RemoteRun.freed, hb, if_false]

theorem askRemote_free_comm (h : i ≠ j) (s : State) : (s.askRemote i).freeRemote j = (s.freeRemote j).askRemote i := by
  unfold State.askRemote
  split
  · next hb => rw [if_pos (show ((s.freeRemote j).cfg.remotes.get i).binding = .none from hb)]
  · next hb =>
    have hsource : (s.freeRemote j).remoteSource i = s.remoteSource i := setRemote_source (s := s) j (r := (s.ost.remotes.get j).freed (s.cfg.remotes.get j)) rfl i
    have hcommand : (s.freeRemote j).entryCommand i = s.entryCommand i := by
      simp only [State.entryCommand, hsource]
      rfl
    have hrun : (s.freeRemote j).entryRequested s.fbc i = s.entryRequested s.fbc i := by
      simp only [State.entryRequested, hcommand, hsource, freeRemote_other h.symm]
      rfl
    have hbus : (s.freeRemote j).fbc = s.fbc := rfl
    rewrite [if_neg (show ((s.freeRemote j).cfg.remotes.get i).binding ≠ .none from hb), hcommand, hbus, hrun]
    unfold State.freeRemote State.setRemote
    dsimp only
    rewrite [Table.get_set_ne _ h]
    congr 2
    refine Table.ext_get fun k => ?_
    simp only [Table.get_set]
    by_cases hi : i = k
    · subst hi
      rw [if_neg h.symm, if_pos rfl, if_pos rfl]
    · rw [if_neg hi, if_neg hi]

/-- Every entry freed. -/
def State.freeRemotes (s : State) : State := forEach 32 State.freeRemote s

theorem clearRemotes_eq (s : State) : forEach 32 State.clearRemote s = forEach 32 State.askRemote s.freeRemotes := by
  have h : State.clearRemote = fun i x => State.askRemote i (x.freeRemote i) := by
    funext i x
    exact clearRemote_eq i x
  rewrite [h]
  exact foldl_prepared (List.nodup_finRange 32) (fun i j hij x => askRemote_free_comm hij x) s

theorem freeRemotes_rest (s : State) : s.freeRemotes = { s with ost := { s.ost with remotes := s.freeRemotes.ost.remotes } } := by
  unfold State.freeRemotes
  refine forEach_induct (P := fun x => x = { s with ost := { s.ost with remotes := x.ost.remotes } }) State.freeRemote s rfl fun i x hx => ?_
  unfold State.freeRemote State.setRemote
  rw [hx]

theorem freeRemotes_event (s : State) : OutputEvent s s.freeRemotes := forEach_output State.freeRemote (fun i x => setRemote_event i _ x) s

theorem freeRemotes_get (s : State) (i : Fin 32) : s.freeRemotes.ost.remotes.get i = (s.ost.remotes.get i).freed (s.cfg.remotes.get i) :=
  forEach_get (get := fun x i => (State.ost x).remotes.get i) (f := State.freeRemote) (P := fun x => x.cfg = s.cfg)
    (g := fun i r => r.freed (s.cfg.remotes.get i))
    (fun i x hx => ⟨hx, by rw [freeRemote_get, hx], fun j hj => freeRemote_other (Ne.symm hj) x⟩) rfl i

/-- A state on the way from `s` through the requests, with every entry free of protect behaviour. -/
structure Freed (s x : State) : Prop where
  cfg : x.cfg = s.cfg
  pru : x.pru = s.pru
  phase : x.phase = s.phase
  taken : ∀ i, (x.ost.remotes.get i).taken = none

theorem Freed.ask (h : Freed s t) (i : Fin 32) : Freed s (t.askRemote i) := by
  unfold State.askRemote
  split
  · exact h
  · refine ⟨h.cfg, h.pru, h.phase, fun j => ?_⟩
    dsimp only
    by_cases hj : i = j
    · subst hj
      rewrite [Table.get_set_self, State.entryRequested]
      split <;> exact h.taken i
    · rewrite [Table.get_set_ne _ hj]
      exact h.taken j

theorem Freed.asks (h : Freed s t) (ha : s.armed = true) (hp : s.phase = .run) (i : Fin 32) :
    t.askRemote i = t.settleRemote ((s.cfg.remotes.get i).binding != .none) i := by
  have harmed : t.armed = true := by rw [← ha, State.armed, h.pru]; rfl
  rw [settleRemote_request _ i t harmed (h.phase.trans hp) (h.taken i) fun hb => by rw [h.cfg]; simpa using hb]
  unfold State.askRemote
  rewrite [h.cfg]
  by_cases hb : (s.cfg.remotes.get i).binding = .none
  · have hbehind : t.entryBehind i = false := by simp [State.entryBehind, h.cfg, hb]
    simp only [hb, hbehind, if_true, bne_self_eq_false, Bool.or_self, Bool.false_eq_true, if_false]
  · have hb' : ((s.cfg.remotes.get i).binding != .none) = true := by simpa using hb
    simp only [hb, hb', if_false, Bool.or_true, if_true]

theorem askRemotes_taken (ht : ∀ i, (s.ost.remotes.get i).taken = none) (i : Fin 32) :
    ((forEach 32 State.askRemote s).ost.remotes.get i).taken = none :=
  (forEach_induct (P := Freed s) State.askRemote s ⟨rfl, rfl, rfl, ht⟩ fun i _ hx => hx.ask i).taken i

/-- The round of requests of a clear: every bound entry (R147). -/
theorem askRemotes_requests (ha : s.armed = true) (hp : s.phase = .run) (ht : ∀ i, (s.ost.remotes.get i).taken = none) :
    EntriesRequest (fun i => (s.cfg.remotes.get i).binding != .none) s (forEach 32 State.askRemote s) := by
  have hbound (i : Fin 32) : ((s.cfg.remotes.get i).binding != .none) = true → (s.cfg.remotes.get i).binding ≠ .none := fun h => by simpa using h
  have hround := settleRemotes_requests s (fun i => (s.cfg.remotes.get i).binding != .none) ha hp ht hbound
  have hasks : (fun i => s.entryBehind i || (s.cfg.remotes.get i).binding != .none) = fun i => (s.cfg.remotes.get i).binding != .none := by
    funext i
    simp only [State.entryBehind]
    cases (s.cfg.remotes.get i).binding != .none <;> simp
  rewrite [hasks] at hround
  have heq : forEach 32 State.askRemote s = s.settleRemotes fun i => (s.cfg.remotes.get i).binding != .none := by
    unfold State.settleRemotes forEach
    exact foldl_agree (P := Freed s) (fun i x hx => ⟨hx.asks ha hp i, hx.ask i⟩) ⟨rfl, rfl, rfl, ht⟩
  rewrite [heq]
  exact hround

end Remotes

section Clear

variable {s : State} {tag : Byte}

/-! ### The steps of a clear (R173) -/

/-- The protect unit after a clear. -/
def Pru.cleared (p : Pru) : Pru := { p with state := .armed, triggers := [], arrived := false }

/-- A clear before the outputs: the notice given, the channels resumed on their levels. -/
def State.lightsResumed (s : State) : State := ((s.setPru s.pru.cleared).protectNotice noTrigger).clearChannels

/-- A clear before the requests: channels and outputs resumed, the entries free. -/
def State.resumed (s : State) : State := s.lightsResumed.outputsCleared.freeRemotes

/-- A clear after its first round of requests. -/
def State.resumedAsked (s : State) : State := forEach 32 State.askRemote s.resumed

theorem clearProtect_eq (s : State) : s.clearProtect = (s.resumedAsked.setHold false).handRemotes :=
  congrArg (fun x => (State.setHold false x).handRemotes) (clearRemotes_eq s.lightsResumed.outputsCleared)

/-- Every channel on its level, with its own step (R131). -/
def State.channelsRested (s : State) : State :=
  s.mapChannels fun i r => ({ r with base := r.level, taken := none } : ChannelRun).ownStep (s.cfg.channels.get i)

/-- The lights of both sheets settled on new base targets. -/
def State.relitWhole (s : State) : State := ((s.relight [0, 1]).setTargets fun _ => true).aimChannels true fun _ => true

theorem clearChannels_eq (s : State) : s.clearChannels = s.channelsRested.relitWhole := rfl

theorem relitWhole_relit (s : State) : SheetsRelit [0, 1] s s.relitWhole := ((relight_relit [0, 1] s).setTargets _).aimChannels _ _

theorem relitWhole_lights (s : State) : LightsFollow s s.relitWhole :=
  ((relight_heat [0, 1] s).trans ((setTargets_heat (fun _ => true) _).trans (aimChannels_heat true (fun _ => true) _))).lights

theorem channelsRested_offered (s : State) (ns : List Offer) : s.channelsRested.offered ns = s.offered ns := rfl

theorem clearChannels_lnk (s : State) : ∃ ns : List Offer, (∀ n ∈ ns, n.1 = .derate) ∧ s.clearChannels.lnk = s.offered ns := by
  have h := (relitWhole_relit s.channelsRested).lnk
  rewrite [channelsRested_offered, ← clearChannels_eq] at h
  exact ⟨_, fun n hn => kind_of_mem_derateChanges hn, h⟩

theorem clearChannels_get (s : State) (i : Fin 32) :
    (s.clearChannels.lsq.channels.get i).base = (s.lsq.channels.get i).level ∧ (s.clearChannels.lsq.channels.get i).taken = none ∧
      (s.clearChannels.lsq.channels.get i).step = (s.cfg.channels.get i).step ∧
      (s.clearChannels.lsq.channels.get i).period = (s.cfg.channels.get i).period := by
  have h := relitWhole_lights s.channelsRested
  rewrite [← clearChannels_eq] at h
  have hget : s.channelsRested.lsq.channels.get i = ({ s.lsq.channels.get i with base := (s.lsq.channels.get i).level, taken := none } :
      ChannelRun).ownStep (s.cfg.channels.get i) := Table.get_mapIdx ..
  rewrite [h.base, h.taken, h.step, h.period, hget]
  exact ⟨rfl, rfl, rfl, rfl⟩

theorem exec_protectClear (h : ActReady tag 11 [] s) : exec (.protectClear tag []) s = .next (s.conclude tag
    (if s.armed || !s.activeTriggers.isEmpty || s.pru.key == .timing then .error .notNow else done 0 s.clearProtect)) :=
  congrArg Host.Outcome.next (serveAct_act h rfl _)

/-- What stands before the requests of a clear (R131, R142, R147). -/
structure Resumed (s p : State) : Prop where
  event : ProtectEvent s p
  hra : p.hra = s.hra
  fbc : p.fbc = s.fbc
  pru : p.pru = s.pru.cleared
  stc : p.stc = s.stc
  lnk : ∃ ns : List Offer, (∀ n ∈ ns, n.1 = .derate) ∧ p.lnk = s.offered ((.protect, 6, 0) :: ns)
  outputs : OutputsDriven p
  base : ∀ i, (p.lsq.channels.get i).base = (s.lsq.channels.get i).level
  taken : ∀ i, (p.lsq.channels.get i).taken = none
  step : ∀ i, (p.lsq.channels.get i).step = (s.cfg.channels.get i).step
  period : ∀ i, (p.lsq.channels.get i).period = (s.cfg.channels.get i).period
  remotes : ∀ i, p.ost.remotes.get i = (s.ost.remotes.get i).freed (s.cfg.remotes.get i)

theorem outputsCleared_rest (s : State) : s.outputsCleared = { s with ost := { s.ost with outputs := s.outputsCleared.ost.outputs } } := by
  unfold State.outputsCleared
  refine forEach_induct (P := fun x => x = { s with ost := { s.ost with outputs := x.ost.outputs } }) State.clearOutput s rfl fun i x hx => ?_
  unfold State.clearOutput State.setOutput
  dsimp only
  rewrite [hx]
  split <;> rfl

theorem relitWhole_rest (s : State) : OnlyLights s s.relitWhole :=
  ((relight_lights ..).trans (setTargets_lights ..)).trans (aimChannels_lights ..)

theorem clearChannels_rest (s : State) : OnlyLights s s.clearChannels := (mapChannels_lights _ s).trans (relitWhole_rest s.channelsRested)

/-- A clear with its notice given. -/
def State.clearBegun (s : State) : State := (s.setPru s.pru.cleared).protectNotice noTrigger

theorem clearBegun_rest (s : State) : s.clearBegun = { s with pru := s.pru.cleared, lnk := s.offered [(.protect, 6, 0)] } := rfl

theorem lightsResumed_event (s : State) : ProtectEvent s s.lightsResumed :=
  ((setPru_protect ..).trans (protectNotice_protect ..)).trans (clearChannels_light s.clearBegun).protect

theorem lightsResumed_rest (s : State) : s.lightsResumed = { s with
    pru := s.pru.cleared, lnk := s.lightsResumed.lnk, lsq := s.lightsResumed.lsq
    ost := { s.ost with outputs := s.lightsResumed.ost.outputs } } := (clearChannels_rest s.clearBegun).eq

theorem lightsResumed_lnk (s : State) : ∃ ns : List Offer, (∀ n ∈ ns, n.1 = .derate) ∧
    s.lightsResumed.lnk = s.offered ((.protect, 6, 0) :: ns) := by
  obtain ⟨ns, hns, hlnk⟩ := clearChannels_lnk s.clearBegun
  refine ⟨ns, hns, ?_⟩
  have happend : s.clearBegun.offered ns = s.offered ([(.protect, 6, 0)] ++ ns) := offered_append rfl rfl rfl
  exact hlnk.trans happend

theorem Resumed.of {a o p : State} (hevent : ProtectEvent s p)
    (ha : a = { s with pru := s.pru.cleared, lnk := a.lnk, lsq := a.lsq, ost := { s.ost with outputs := a.ost.outputs } })
    (ho : o = { a with ost := { a.ost with outputs := o.ost.outputs } }) (hp : p = { o with ost := { o.ost with remotes := p.ost.remotes } })
    (hlnk : ∃ ns : List Offer, (∀ n ∈ ns, n.1 = .derate) ∧ a.lnk = s.offered ((.protect, 6, 0) :: ns)) (hdriven : OutputsDriven o)
    (hlights : ∀ i, (a.lsq.channels.get i).base = (s.lsq.channels.get i).level ∧ (a.lsq.channels.get i).taken = none ∧
      (a.lsq.channels.get i).step = (s.cfg.channels.get i).step ∧ (a.lsq.channels.get i).period = (s.cfg.channels.get i).period)
    (hremotes : ∀ i, p.ost.remotes.get i = (o.ost.remotes.get i).freed (o.cfg.remotes.get i)) : Resumed s p := by
  have hlsq : p.lsq = a.lsq := by rw [hp, ho]
  refine ⟨hevent, by rw [hp, ho, ha], by rw [hp, ho, ha], by rw [hp, ho, ha], by rw [hp, ho, ha], ?_, ?_, fun i => ?_, fun i => ?_, fun i => ?_,
    fun i => ?_, fun i => ?_⟩
  · have hl : p.lnk = a.lnk := by rw [hp, ho]
    rewrite [hl]
    exact hlnk
  · refine ⟨?_, ?_⟩ <;> rw [hp]
    · exact hdriven.armed
    · exact hdriven.outputs
  · rewrite [hlsq]
    exact (hlights i).1
  · rewrite [hlsq]
    exact (hlights i).2.1
  · rewrite [hlsq]
    exact (hlights i).2.2.1
  · rewrite [hlsq]
    exact (hlights i).2.2.2
  · rw [hremotes i, ho, ha]

theorem resumed_resumed (s : State) : Resumed s s.resumed := by
  have hevent : ProtectEvent s s.resumed :=
    ((lightsResumed_event s).trans (outputsCleared_event s.lightsResumed).protect).trans
      (freeRemotes_event s.lightsResumed.outputsCleared).protect
  have hrest := lightsResumed_rest s
  exact .of hevent hrest (outputsCleared_rest _) (freeRemotes_rest _) (lightsResumed_lnk s)
    (outputsCleared_driven (congrArg (fun x : State => x.pru.state) hrest)) (clearChannels_get s.clearBegun) (freeRemotes_get _)

/-- The state of a clear whose heat hold has ended, before its pass (R107). -/
def State.holdEnded (s : State) : State := { s with hra := { s.hra with hold := false } }

theorem holdEnded_ost (s : State) : s.holdEnded.ost = s.ost := rfl

theorem holdPassed_heat (s : State) : HeatEvent s (s.holdEnded.passWith true) := (setHra_heat _ _).trans (passWith_heat true s.holdEnded)

theorem resumedAsked_taken (s : State) (i : Fin 32) : (s.resumedAsked.ost.remotes.get i).taken = none := by
  unfold State.resumedAsked
  refine askRemotes_taken (fun j => ?_) i
  rewrite [(resumed_resumed s).remotes]
  rfl

theorem holdEnded_offered (s : State) (ns : List Offer) : s.holdEnded.offered ns = s.offered ns := rfl

/-- What the clear leaves once its two rounds of requests are done (R107, R173): `u` stands before the pass, `w` behind it. -/
structure Cleared (s p u w t : State) : Prop where
  heat : HeatEvent u w
  fbc : w.fbc = u.fbc
  remotes : w.ost.remotes = u.ost.remotes
  pru : t.pru = s.pru.cleared
  stc : t.stc = s.stc
  hold : t.hra.hold = false
  timer : t.hra.timer = s.cfg.allocator.period
  notified : Notified [.protect] [(.protect, 6, 0)] s t
  lights : LightsFollow p t
  outputs : OutputsDriven t

theorem Resumed.cleared {p u w t : State} (h : Resumed s p) (hu : EntriesRequest (fun i => (s.cfg.remotes.get i).binding != .none) p u)
    (hw : w = u.holdEnded.passWith true) (ht : EntriesRequest w.entryBehind w t) : Cleared s p u w t := by
  have hheat : HeatEvent u w := by rw [hw]; exact holdPassed_heat u
  have hpassed : Passed u.holdEnded w := by rw [hw]; exact passWith_passed true u.holdEnded
  have hcfg : t.cfg = s.cfg := by rw [ht.rest, hheat.inner.setup.cfg, hu.rest, h.event.inner.setup.cfg]
  have hucfg : u.cfg = s.cfg := (congrArg State.cfg hu.rest).trans h.event.inner.setup.cfg
  refine ⟨hheat, hpassed.fbc, hpassed.remotes, ?_, ?_, ?_, ?_, ?_, ?_, ?_⟩
  · rw [ht.rest, hheat.pru, hu.rest, h.pru]
  · rw [ht.rest, hheat.stc, hu.rest, h.stc]
  · rewrite [ht.rest, hpassed.hra]
    rfl
  · rewrite [ht.rest, hpassed.hra, allocate_timer, ← hucfg]
    rfl
  · obtain ⟨ns, hns, hlnk⟩ := h.lnk
    have hulnk : u.lnk = s.offered ((.protect, 6, 0) :: ns) := by rw [hu.rest, hlnk]
    have htlnk : t.lnk = s.offered ((.protect, 6, 0) :: ns ++ passNotices u.holdEnded w) := by
      rewrite [ht.rest, hpassed.lnk, holdEnded_offered]
      refine offered_append ?_ ?_ hulnk <;> rw [hu.rest]
      · exact h.event.inner.setup.cfg
      · exact h.event.inner.setup.scu
    have hnotified := notified_of_lnk (kinds := [.protect]) hcfg htlnk
    rwa [List.cons_append, List.filter_cons_of_pos (by rfl), List.filter_append, filter_kinds_nil fun n hn => by rw [hns n hn]; rfl,
      filter_kinds_nil fun n hn => by rcases kind_of_mem_passNotices hn with e | e | e <;> rw [e] <;> rfl, List.append_nil] at hnotified
  · have hlsq : u.lsq = p.lsq := by rw [hu.rest]
    have hlsq' : t.lsq = w.lsq := by rw [ht.rest]
    obtain ⟨hbase, heffect, hstep, hperiod, htaken⟩ := hheat.lights
    rewrite [hlsq] at hbase heffect hstep hperiod htaken
    constructor <;> rw [hlsq'] <;> assumption
  · have hdriven : OutputsDriven u.holdEnded := by
      refine ⟨?_, ?_⟩
      · rewrite [← h.outputs.armed, hu.rest]
        rfl
      · rewrite [hu.rest]
        exact h.outputs.outputs
    have hdriven' : OutputsDriven w := by rw [hw]; exact outputsDriven_invariant.passWith true hdriven
    refine ⟨?_, ?_⟩ <;> rw [ht.rest]
    · exact hdriven'.armed
    · exact hdriven'.outputs

end Clear

/-- Settles O30: the channels and outputs resume, every bound entry requests, and after the pass those that it changed request again. -/
theorem protectClearResumes : Obligations.ProtectClearResumes := by
  intro tag s h
  refine ⟨fun hrefused => ?refused, fun hst hts hkey hp => ?clear⟩
  case refused =>
    rw [exec_protectClear h, if_pos, conclude_refused]
    rcases hrefused with hr | hr | hr <;> simp [State.armed, hr]
  case clear =>
    have hres := resumed_resumed s
    have hphase : s.resumed.phase = .run := hres.event.inner.setup.phase.trans hp
    have hcfg : s.resumed.cfg = s.cfg := hres.event.inner.setup.cfg
    have hu : EntriesRequest (fun i => (s.cfg.remotes.get i).binding != .none) s.resumed s.resumedAsked := by
      have hround := askRemotes_requests hres.outputs.armed hphase fun i => by rw [hres.remotes]; rfl
      rwa [hcfg] at hround
    have hw : s.resumedAsked.setHold false = s.resumedAsked.holdEnded.passWith true := setHold_run false _ (by rw [hu.rest, hphase])
    have hclear := clearProtect_eq s
    have hcurrent := clearProtect_current s
    have hexec : exec (.protectClear tag []) s = .next (s.clearProtect.answered tag .done [0]) := by
      rw [exec_protectClear h, if_neg, conclude_unclamped]
      simp [hts, hkey, State.armed, hst]
    have hevent := clearProtect_protect s
    rewrite [hw] at hclear
    generalize s.clearProtect = t at hclear hcurrent hexec hevent
    generalize hv : s.resumedAsked.holdEnded.passWith true = w at hclear
    have hpassed : Passed s.resumedAsked.holdEnded w := by rw [← hv]; exact passWith_passed true _
    have hheat : HeatEvent s.resumedAsked w := by rw [← hv]; exact holdPassed_heat _
    have hfree (i : Fin 32) : (w.ost.remotes.get i).taken = none := by
      rewrite [hpassed.remotes, holdEnded_ost]
      exact resumedAsked_taken s i
    have hstate : s.resumedAsked.pru = s.resumed.pru := by rw [hu.rest]
    have ht : EntriesRequest w.entryBehind w t := by
      rewrite [hclear]
      refine handRemotes_requests w (armed_eq ?_) (hheat.inner.setup.phase.trans ?_) hfree
      · rewrite [hheat.pru, hstate, hres.pru]
        rfl
      · rw [hu.rest, hphase]
    have hdone := hres.cleared hu hv.symm ht
    have hcfgt : t.cfg = s.cfg := hevent.inner.setup.cfg
    refine ⟨s.resumed, s.resumedAsked, w, t, hexec, hevent, hdone.pru, hdone.stc, hdone.notified, hdone.hold, hdone.timer,
      fun i => ⟨?_, ?_, ?_, ?_, ?_⟩, fun i hi => ?_, hres.event, hres.hra, hres.fbc, hres.pru.trans hdone.pru.symm, hres.remotes, hu, hdone.heat,
      hdone.fbc, hdone.remotes, ht⟩
    · rw [hdone.lights.base, hres.base]
    · rw [hdone.lights.taken, hres.taken]
    · rw [hdone.lights.step, hres.step]
    · rw [hdone.lights.period, hres.period]
    · exact hcurrent.targets (congrArg Pru.state hdone.pru) i
    · obtain ⟨hdriven, htaken, htarget⟩ := hdone.outputs.outputs i (by rwa [hcfgt])
      exact ⟨hdriven, htaken, htarget⟩

/-! PROOF. The Output Stage at a trip (R141, R146): what each output and entry takes, and what the later ones leave of the earlier. -/

section Undisturbed

variable {s t u : State} {f : Fbc} {e : TxEntry} {p : Bool} {i : Fin 32} {node point : Nat}

/-! ### A request leaves the other entries and the waiting protect entries -/

/-- A protect COMMAND of priority 0 waits for a rack point. -/
def Fbc.Protects (f : Fbc) (node point : Nat) : Prop :=
  ∃ w ∈ f.txProtect, w.kind = .command ∧ w.target = node ∧ w.point = point ∧ w.priority = 0

theorem coalesceIn_protects (h : f.Protects node point) (he : e.priority = 0) :
    Fbc.Protects { f with txProtect := coalesceIn e f.txProtect } node point := by
  obtain ⟨w, hw, hkind, htarget, hpoint, hpriority⟩ := h
  refine ⟨_, List.mem_map_of_mem hw, ?_⟩
  split
  · exact ⟨hkind, htarget, hpoint, he⟩
  · exact ⟨hkind, htarget, hpoint, hpriority⟩

theorem append_protects (h : f.Protects node point) {o : List TxEntry} :
    Fbc.Protects { f with txOrdinary := o, txProtect := f.txProtect ++ [e] } node point :=
  have ⟨w, hw, hfields⟩ := h
  ⟨w, List.mem_append_left _ hw, hfields⟩

/-- A request takes no protect entry away (R28a). -/
theorem request_protects (h : f.Protects node point) (he : p = true → e.priority = 0) : (f.request p e).2.1.Protects node point := by
  unfold Fbc.request
  split
  · split
    · next hp => exact coalesceIn_protects h (he hp)
    · exact h
  · split
    · split
      · exact append_protects h
      · exact h
    · split
      · split
        · exact append_protects (o := f.txOrdinary) h
        · exact h
      · split
        · split
          · exact append_protects h
          · exact h
        · exact h

theorem count_protects (held : Bool) (c : Counter) : (f.count held c).Protects node point ↔ f.Protects node point := by
  unfold Fbc.count
  split <;> exact Iff.rfl

/-- Beyond entry `i`, at most dirty flags were set, and the waiting protect entries still wait. -/
structure Undisturbed (i : Fin 32) (s t : State) : Prop where
  others : ∀ j, j ≠ i → t.ost.remotes.get j = { s.ost.remotes.get j with dirty := (t.ost.remotes.get j).dirty }
  clean : ∀ j, j ≠ i → (t.ost.remotes.get j).dirty = false → (s.ost.remotes.get j).dirty = false
  outputs : t.ost.outputs = s.ost.outputs
  protects : ∀ node point, s.fbc.Protects node point → t.fbc.Protects node point

theorem Undisturbed.refl (s : State) : Undisturbed i s s := ⟨fun _ _ => rfl, fun _ _ h => h, rfl, fun _ _ h => h⟩

theorem Undisturbed.trans (h : Undisturbed i s t) (k : Undisturbed i t u) : Undisturbed i s u where
  others j hj := by rw [k.others j hj, h.others j hj]
  clean j hj hd := h.clean j hj (k.clean j hj hd)
  outputs := k.outputs.trans h.outputs
  protects n q hq := k.protects n q (h.protects n q hq)

theorem setRemote_undisturbed (i : Fin 32) (r : RemoteRun) (s : State) : Undisturbed i s (s.setRemote i r) := by
  have hother (j : Fin 32) (hj : j ≠ i) : (s.setRemote i r).ost.remotes.get j = s.ost.remotes.get j := Table.get_set_ne _ (Ne.symm hj) _
  exact ⟨fun j hj => by rw [hother j hj], fun j hj hd => by rwa [hother j hj] at hd, rfl, fun _ _ h => h⟩

theorem Asked.undisturbed {v : Int} {r : RemoteRun} {refresh : Nat} (h : Asked p i v r refresh e s t) (he : p = true → e.priority = 0) :
    Undisturbed i s t := by
  by_cases hdrop : (s.fbc.request p e).1 = .dropped
  · obtain ⟨hbus, hremotes⟩ := h.dropped hdrop
    have hother (j : Fin 32) (hj : j ≠ i) : t.ost.remotes.get j = s.ost.remotes.get j := by rw [hremotes, Table.get_set_ne _ (Ne.symm hj)]
    exact ⟨fun j hj => by rw [hother j hj], fun j hj hd => by rwa [hother j hj] at hd, h.outputs, fun n q hq => by
      rewrite [hbus, count_protects]
      exact hq⟩
  · refine ⟨h.others hdrop, fun j hj hd => ?_, h.outputs, fun n q hq => ?_⟩
    · cases hw : (s.fbc.request p e).2.2 with
      | none => rwa [(h.kept hdrop hw).2, Table.get_set_ne _ (Ne.symm hj)] at hd
      | some w =>
        rewrite [(h.displaces hdrop w hw).2 j hj] at hd
        exact (Bool.or_eq_false_iff.mp hd).1
    · have hkept := request_protects (p := p) hq he
      cases hw : (s.fbc.request p e).2.2 with
      | none => rwa [(h.kept hdrop hw).1]
      | some w => rwa [(h.displaces hdrop w hw).1, count_protects]

theorem setRemote_self (i : Fin 32) (s : State) : s.setRemote i (s.ost.remotes.get i) = s := by simp [State.setRemote]

/-- An entry asks for the value that it has. -/
theorem requestRemote_asked {v : Int} (hv : (s.ost.remotes.get i).value = some v) :
    Asked p i v (s.ost.remotes.get i) (s.remoteConfig i).refresh (s.commandOf p i v) s (s.requestRemote p i) := by
  have h := setRemote_asked (p := p) (r := s.ost.remotes.get i) hv rfl
  rwa [setRemote_self] at h

theorem commandOf_priority {v : Int} (h : p = true) : (s.commandOf p i v).priority = 0 := if_pos h

theorem requestRemote_undisturbed (p : Bool) (i : Fin 32) (s : State) : Undisturbed i s (s.requestRemote p i) := by
  cases hv : (s.ost.remotes.get i).value with
  | none =>
    have hsame : s.requestRemote p i = s := by simp only [State.requestRemote, hv]
    rewrite [hsame]
    exact .refl s
  | some v => exact (requestRemote_asked hv).undisturbed commandOf_priority

theorem newRemoteValue_undisturbed (i : Fin 32) (v : Nat) (s : State) : Undisturbed i s (s.newRemoteValue i v) := by
  unfold State.newRemoteValue
  dsimp only
  split
  · exact .refl s
  · split
    · exact (setRemote_undisturbed ..).trans (requestRemote_undisturbed ..)
    · exact setRemote_undisturbed ..

theorem tripRemote_undisturbed (fresh : Bool) (i : Fin 32) (s : State) : Undisturbed i s (s.tripRemote fresh i) := by
  unfold State.tripRemote
  dsimp only
  split
  · exact .refl s
  · split
    · exact (setRemote_undisturbed ..).trans (requestRemote_undisturbed ..)
    · split
      · exact (setRemote_undisturbed ..).trans (newRemoteValue_undisturbed ..)
      · split
        · exact ((setRemote_undisturbed ..).trans (setRemote_undisturbed ..)).trans (requestRemote_undisturbed ..)
        · split
          · exact (setRemote_undisturbed ..).trans (setRemote_undisturbed ..)
          · exact setRemote_undisturbed ..

end Undisturbed

section TripRemotes

variable {s t u x : State} {i : Fin 32} {c : RemoteConfig} {r : RemoteRun}

/-! ### One entry's protect action (R146) -/

theorem Asked.own_value {p : Bool} {v : Int} {refresh : Nat} {e : TxEntry} (h : Asked p i v r refresh e s t) (hv : r.value = some v) :
    (t.ost.remotes.get i).value = some v ∧ (t.ost.remotes.get i).taken = r.taken ∧
      ((t.ost.remotes.get i).dirty = true ∨ (t.ost.remotes.get i).last = some v ∧ (t.ost.remotes.get i).timer = refresh ∧
        (s.fbc.request p e).1 ≠ .dropped) := by
  by_cases hdrop : (s.fbc.request p e).1 = .dropped
  · rewrite [(h.dropped hdrop).2, Table.get_set_self]
    exact ⟨hv, rfl, .inl rfl⟩
  · rewrite [h.own hdrop]
    exact ⟨hv, rfl, .inr ⟨rfl, rfl, hdrop⟩⟩

/-- A protect request that is not dropped waits (R28a). -/
theorem request_true_waits {f : Fbc} {e : TxEntry} (hk : e.kind = .command) (hp : e.priority = 0) (h : (f.request true e).1 ≠ .dropped) :
    (f.request true e).2.1.Protects e.target e.point := by
  have happended {g : Fbc} (q : List TxEntry) (hq : g.txProtect = q ++ [e]) : g.Protects e.target e.point :=
    ⟨e, by rw [hq]; exact List.mem_concat_self, hk, rfl, rfl, hp⟩
  by_cases hp' : Waits f.txProtect e
  · rewrite [(request_protected hp').2]
    obtain ⟨w, hw, hsame⟩ := List.any_eq_true.mp (any_iff_waits.mpr hp')
    obtain ⟨hkt, hpoint⟩ := Bool.and_eq_true_iff.mp hsame
    obtain ⟨hkind, htarget⟩ := Bool.and_eq_true_iff.mp hkt
    refine ⟨_, List.mem_map_of_mem hw, ?_⟩
    rewrite [if_pos hsame]
    exact ⟨(beq_iff_eq.mp hkind).trans hk, beq_iff_eq.mp htarget, beq_iff_eq.mp hpoint, hp⟩
  · by_cases ho : Waits f.txOrdinary e
    · rewrite [(request_ordinary hp' ho).2]
      exact happended _ rfl
    · by_cases hs : f.slots < 16
      · rewrite [(request_room hp' ho hs).2]
        exact happended _ rfl
      · rcases List.eq_nil_or_concat f.txOrdinary with hq | ⟨q, w, hq⟩
        · rewrite [request_full_protect hp' (Nat.not_lt.mp hs) hq] at h
          exact absurd rfl h
        · rewrite [request_displaces hp' ho (Nat.not_lt.mp hs) (hq.trans List.concat_eq_append)]
          exact happended _ rfl

theorem Asked.protects {v : Int} {refresh : Nat} {e : TxEntry} (h : Asked true i v r refresh e s t) (hk : e.kind = .command)
    (hp : e.priority = 0) (hdrop : (s.fbc.request true e).1 ≠ .dropped) : t.fbc.Protects e.target e.point := by
  have hwaits := request_true_waits hk hp hdrop
  cases hw : (s.fbc.request true e).2.2 with
  | none => rwa [(h.kept hdrop hw).1]
  | some w => rwa [(h.displaces hdrop w hw).1, count_protects]

/-- An entry before its turn: it may have been marked dirty since `s`. -/
def BeforeTurn (s : State) (i : Fin 32) (x : State) : Prop :=
  x.ost.remotes.get i = { s.ost.remotes.get i with dirty := (x.ost.remotes.get i).dirty }

/-- An entry behind its turn: its protect action taken (R146). -/
def BehindTurn (s : State) (i : Fin 32) (x : State) : Prop :=
  (s.cfg.remotes.get i).binding ≠ .none → TrippedRemote (s.cfg.remotes.get i) (s.ost.remotes.get i) (x.ost.remotes.get i) s x

/-- The later entries' actions leave an entry's own standing. -/
theorem TrippedRemote.undisturbed {j : Fin 32} (h : TrippedRemote c r (t.ost.remotes.get i) s t) (k : Undisturbed j t u) (hj : i ≠ j)
    (hlevel : ∀ n, u.sourceCode .light n 0 = t.sourceCode .light n 0) : TrippedRemote c r (u.ost.remotes.get i) s u := by
  have hget := k.others i hj
  have hclean := k.clean i hj
  generalize hd : (u.ost.remotes.get i).dirty = d at hget hclean
  rewrite [hget]
  refine ⟨fun ha => ?_, h.hold, fun ha hb => ?_⟩
  · obtain ⟨hvalue, htaken, hlast, hwaits⟩ := h.safe ha
    refine ⟨hvalue, htaken, ?_, fun hdirty => k.protects _ _ (hwaits (hclean hdirty))⟩
    cases d with
    | true => exact .inl rfl
    | false => exact .inr (hlast.resolve_left (by rw [hclean rfl]; decide))
  · rewrite [hlevel]
    exact h.follow ha hb

theorem light_fixed (s : State) (n a b : Nat) : s.sourceCode .light n a = s.sourceCode .light n b := rfl

theorem light_of_lsq (h : t.lsq.channels = s.lsq.channels) (n a : Nat) : t.sourceCode .light n a = s.sourceCode .light n a := by
  simp only [State.sourceCode, h]

/-- The three actions of an entry (R146). -/
theorem tripRemote_safe (hb : (s.cfg.remotes.get i).binding ≠ .none) (ha : (s.cfg.remotes.get i).action = .safe) (fresh : Bool) :
    let c := s.cfg.remotes.get i
    s.tripRemote fresh i = (s.setRemote i { s.ost.remotes.get i with value := some c.safe, taken := some ⟨true, c⟩ }).requestRemote true i := by
  simp only [State.tripRemote, if_neg hb, ha]

theorem tripRemote_light (ha : (s.cfg.remotes.get i).action = .hold) (hl : (s.cfg.remotes.get i).binding = .light) (fresh : Bool) :
    let s1 := s.setRemote i { s.ost.remotes.get i with taken := some ⟨false, s.cfg.remotes.get i⟩ }
    s.tripRemote fresh i = s1.newRemoteValue i (s1.remoteSource i) := by
  simp only [State.tripRemote, hl, ha, if_true]
  rfl

theorem tripRemote_hold (hb : (s.cfg.remotes.get i).binding ≠ .none) (ha : (s.cfg.remotes.get i).action = .hold)
    (hl : (s.cfg.remotes.get i).binding ≠ .light) : s.tripRemote false i = s.setRemote i { s.ost.remotes.get i with
      taken := some ⟨false, s.cfg.remotes.get i⟩
      value := (match (s.ost.remotes.get i).last with | some v => some v | none => (s.ost.remotes.get i).value) } := by
  simp only [State.tripRemote, if_neg hb, ha, if_neg hl, Bool.false_eq_true, if_false]
  cases hlast : (s.ost.remotes.get i).last with
  | none => rfl
  | some v => exact setRemote_twice ..

theorem newRemoteValue_value (i : Fin 32) (v : Nat) (s : State) : ((s.newRemoteValue i v).ost.remotes.get i).value = some (v : Int) ∧
    ((s.newRemoteValue i v).ost.remotes.get i).taken = (s.ost.remotes.get i).taken := by
  unfold State.newRemoteValue
  dsimp only
  split
  · next hv => exact ⟨hv, rfl⟩
  · have hget : (s.setRemote i { s.ost.remotes.get i with value := some (v : Int) }).ost.remotes.get i =
        { s.ost.remotes.get i with value := some (v : Int) } := Table.get_set_self ..
    split
    · have hask := requestRemote_asked (p := false) (s := s.setRemote i { s.ost.remotes.get i with value := some (v : Int) }) (i := i)
        (v := v) (by rw [hget])
      rewrite [hget] at hask
      obtain ⟨hvalue, htaken, -⟩ := hask.own_value rfl
      exact ⟨hvalue, htaken⟩
    · rewrite [hget]
      exact ⟨rfl, rfl⟩

/-- An entry's turn (R146). -/
theorem tripRemote_takes (h : BeforeTurn s i x) (hcfg : x.cfg = s.cfg) : BehindTurn s i (x.tripRemote false i) := by
  intro hb
  have hbx : (x.cfg.remotes.get i).binding ≠ .none := by rwa [hcfg]
  have hget := h
  generalize (x.ost.remotes.get i).dirty = d at hget
  refine ⟨fun ha => ?_, fun ha hl => ?_, fun ha hl => ?_⟩
  · have heq := tripRemote_safe hbx (by rw [hcfg, ha]) false
    dsimp only at heq
    rewrite [hcfg] at heq
    rewrite [heq]
    set y := x.setRemote i { x.ost.remotes.get i with value := some (s.cfg.remotes.get i).safe, taken := some ⟨true, s.cfg.remotes.get i⟩ }
    have hy : y.ost.remotes.get i = { x.ost.remotes.get i with
      value := some (s.cfg.remotes.get i).safe, taken := some ⟨true, s.cfg.remotes.get i⟩ } := Table.get_set_self ..
    have hconfig : y.remoteConfig i = s.cfg.remotes.get i := by simp only [State.remoteConfig, hy]
    have hask := requestRemote_asked (p := true) (s := y) (i := i) (v := (s.cfg.remotes.get i).safe) (by rw [hy])
    obtain ⟨hvalue, htaken, hdone⟩ := hask.own_value (by rw [hy])
    rewrite [hy] at htaken
    refine ⟨hvalue, htaken, hdone.imp_right fun hk => ⟨hk.1, hk.2.1.trans (by rw [hconfig])⟩, fun hd => ?_⟩
    have hwaits := hask.protects rfl rfl (hdone.resolve_left (by rw [hd]; decide)).2.2
    rewrite [State.commandOf, hconfig] at hwaits
    exact hwaits
  · rewrite [tripRemote_hold hbx (by rw [hcfg, ha]) (by rwa [hcfg]), hget, hcfg]
    have hset (k : RemoteRun) : (x.setRemote i k).ost.remotes.get i = k := Table.get_set_self ..
    rewrite [hset]
    exact ⟨rfl, rfl, rfl, rfl⟩
  · have heq := tripRemote_light (s := x) (i := i) (by rw [hcfg, ha]) (by rw [hcfg, hl]) false
    dsimp only at heq
    rewrite [hcfg] at heq
    rewrite [heq]
    set y := x.setRemote i { x.ost.remotes.get i with taken := some ⟨false, s.cfg.remotes.get i⟩ }
    have hy : (y.ost.remotes.get i).taken = some ⟨false, s.cfg.remotes.get i⟩ := congrArg RemoteRun.taken (Table.get_set_self ..)
    obtain ⟨hvalue, htaken⟩ := newRemoteValue_value i (y.remoteSource i) y
    have hsource : y.remoteSource i = y.sourceCode .light (s.cfg.remotes.get i).index 0 := by
      have hyc : y.cfg = s.cfg := hcfg
      rewrite [State.remoteSource, hyc, hl]
      exact light_fixed ..
    have hlight := light_of_lsq (congrArg Lsq.channels (newRemoteValue_event i (y.remoteSource i) y).1.lsq) (s.cfg.remotes.get i).index 0
    rewrite [hlight, ← hsource]
    exact ⟨hvalue, htaken.trans hy⟩

/-- The entries at a trip, in index order (R146, R170). -/
def State.remotesTripped (s : State) : State := forEach 32 (fun i x => x.tripRemote false i) s

theorem remotesTripped_event (s : State) : OutputEvent s s.remotesTripped := forEach_output _ (tripRemote_event false) s

theorem BeforeTurn.undisturbed {j : Fin 32} (h : BeforeTurn s i t) (k : Undisturbed j t u) (hj : i ≠ j) : BeforeTurn s i u := by
  unfold BeforeTurn
  rw [k.others i hj, h]

theorem remotesTripped_takes (s : State) (i : Fin 32) : BehindTurn s i s.remotesTripped := by
  unfold State.remotesTripped
  refine forEach_turns (P := fun x => x.cfg = s.cfg) (R := BeforeTurn s) (Q := BehindTurn s) (fun i x hx => ?_) rfl rfl
  have hev := tripRemote_event false i x
  have hkept := tripRemote_undisturbed false i x
  exact ⟨hev.inner.setup.cfg.trans hx, fun h => tripRemote_takes h hx, fun j hj => ⟨fun h => h.undisturbed hkept hj, fun h hb =>
    (h hb).undisturbed hkept hj fun n => light_of_lsq (congrArg Lsq.channels hev.lsq) n 0⟩⟩

/-- An entry without a binding is at most marked dirty. -/
theorem remotesTripped_unbound (h : (s.cfg.remotes.get i).binding = .none) : BeforeTurn s i s.remotesTripped := by
  unfold State.remotesTripped
  refine (forEach_induct (P := fun x => x.cfg = s.cfg ∧ BeforeTurn s i x) _ s ⟨rfl, rfl⟩ fun j x hx => ?_).2
  refine ⟨(tripRemote_event false j x).inner.setup.cfg.trans hx.1, ?_⟩
  by_cases hj : i = j
  · have hsame : x.tripRemote false j = x := by rw [← hj]; exact if_pos (by rw [hx.1, h])
    rewrite [hsame]
    exact hx.2
  · exact hx.2.undisturbed (tripRemote_undisturbed false j x) hj

theorem remotesTripped_outputs (s : State) : s.remotesTripped.ost.outputs = s.ost.outputs := by
  unfold State.remotesTripped
  refine forEach_induct (P := fun x : State => x.ost.outputs = s.ost.outputs) (fun i x => State.tripRemote false i x) s rfl fun i x hx => ?_
  exact (tripRemote_undisturbed false i x).outputs.trans hx

end TripRemotes

section TripOutputs

variable {s t : State} {i : Fin 16}

/-! ### The local outputs (R141) -/

/-- A bound output that has taken its action: what it keeps while protect lasts. -/
structure OutputTripped (c : OutputConfig) (o t : OutputRun) : Prop where
  hold : c.action = .hold → c.binding ≠ .light → t.code = o.code ∧ t.target = o.code ∧ t.driven = o.driven ∧ t.taken = some .hold
  safe : c.action = .safe → t.code = c.safe ∧ t.target = c.safe ∧ t.driven = o.driven ∧ t.taken = some .safe
  hiz : c.action = .hiz → t.code = 0 ∧ t.driven = false

theorem OutputTripped.tripped {c : OutputConfig} {o t : OutputRun} (h : OutputTripped c o t) : TrippedOutput c o t :=
  ⟨fun ha hb => ⟨(h.hold ha hb).1, (h.hold ha hb).2.1, (h.hold ha hb).2.2.1⟩,
    fun ha => ⟨(h.safe ha).1, (h.safe ha).2.1, (h.safe ha).2.2.1⟩, h.hiz⟩

theorem takeAction_tripped (c : OutputConfig) (v : Nat) (o : OutputRun) : OutputTripped c o (o.takeAction c v) := by
  unfold OutputRun.takeAction
  refine ⟨fun ha hb => ?_, fun ha => ?_, fun ha => ?_⟩ <;> simp only [ha]
  · rewrite [if_neg hb]
    exact ⟨rfl, rfl, rfl, rfl⟩
  · exact ⟨rfl, rfl, rfl, trivial⟩
  · exact ⟨rfl, rfl⟩

/-- While protect lasts, a figure changes only the source code, but for an output that follows its channel (R141). -/
theorem OutputTripped.handed {c : OutputConfig} {o r : OutputRun} (h : OutputTripped c o r) (v : Nat) :
    OutputTripped c o { r with source := v } := ⟨h.hold, h.safe, h.hiz⟩

theorem handOutput_tripped (h : s.armed = false) : s.handOutput i = s.setOutput i
    (match (s.ost.outputs.get i).driven, (s.ost.outputs.get i).taken with
      | true, some (.follow k) => ({ s.ost.outputs.get i with source := s.outputSource i } : OutputRun).jump (s.sourceCode .light k 0)
      | _, _ => { s.ost.outputs.get i with source := s.outputSource i }) := by
  unfold State.handOutput State.setOutput
  dsimp only
  cases hd : (s.ost.outputs.get i).driven with
  | false => simp only [Bool.not_false, if_true]
  | true =>
    simp only [Bool.not_true, Bool.false_eq_true, if_false, h]
    cases ht : (s.ost.outputs.get i).taken with
    | none => rfl
    | some k => cases k <;> rfl

/-- The outputs from a trip on: bound ones have taken their action, free ones stand. -/
structure OutputsTripped (s x : State) : Prop where
  cfg : x.cfg = s.cfg
  tripped : x.armed = false
  bound : ∀ i, (s.cfg.outputs.get i).binding ≠ .none →
    OutputTripped (s.cfg.outputs.get i) (s.ost.outputs.get i) (x.ost.outputs.get i)
  unbound : ∀ i, (s.cfg.outputs.get i).binding = .none → (s.ost.outputs.get i).taken = none → x.ost.outputs.get i = s.ost.outputs.get i

theorem setOutput_self (i : Fin 16) (o : OutputRun) (s : State) : (s.setOutput i o).ost.outputs.get i = o := Table.get_set_self ..

theorem setOutput_other {j : Fin 16} (h : i ≠ j) (o : OutputRun) (s : State) : (s.setOutput i o).ost.outputs.get j = s.ost.outputs.get j :=
  Table.get_set_ne _ h _

/-- A jump to its channel's level is taken by an output that follows, which is one with action HOLD and binding LIGHT. -/
theorem OutputTripped.jump {c : OutputConfig} {o r : OutputRun} {k : Nat} (h : OutputTripped c o r) (hd : r.driven = true)
    (ht : r.taken = some (.follow k)) (a v : Nat) : OutputTripped c o (({ r with source := a } : OutputRun).jump v) := by
  refine ⟨fun ha hb => ?_, fun ha => ?_, fun ha => ?_⟩
  · have htaken := (h.hold ha hb).2.2.2
    rw [ht] at htaken
    cases htaken
  · have htaken := (h.safe ha).2.2.2
    rw [ht] at htaken
    cases htaken
  · have hdriven := (h.hiz ha).2
    rw [hd] at hdriven
    cases hdriven

theorem outputsTripped_invariant (s : State) : OutputsInvariant (OutputsTripped s) where
  frame ho hc hp hx := ⟨hc.trans hx.cfg, by rw [← hx.tripped, State.armed, hp]; rfl, by rw [ho]; exact hx.bound, by rw [ho]; exact hx.unbound⟩
  hand i x hreach hx := by
    rewrite [handOutput_tripped hx.tripped]
    refine ⟨hx.cfg, hx.tripped, fun j hj => ?_, fun j hj ht => ?_⟩
    · by_cases hij : i = j
      · subst hij
        rewrite [setOutput_self]
        have h := hx.bound i hj
        split
        · next hd htaken => exact h.jump hd htaken _ _
        · exact h.handed _
      · rewrite [setOutput_other hij]
        exact hx.bound j hj
    · by_cases hij : i = j
      · subst hij
        rcases hreach with hb | ⟨k, hk⟩
        · exact absurd hj (by rwa [hx.cfg] at hb)
        · rw [hx.unbound i hj ht, ht] at hk
          cases hk
      · rewrite [setOutput_other hij]
        exact hx.unbound j hj ht

/-- The outputs at a trip; the entries follow. -/
def State.outputsTripped (s : State) : State := forEach 16 State.tripOutput s

theorem tripOutputs_eq (s : State) : s.tripOutputs = s.outputsTripped.remotesTripped := rfl

theorem outputsTripped_event (s : State) : OutputEvent s s.outputsTripped := forEach_output _ tripOutput_event s

theorem tripOutput_other {j : Fin 16} (h : i ≠ j) (s : State) : (s.tripOutput i).ost.outputs.get j = s.ost.outputs.get j := by
  unfold State.tripOutput
  dsimp only
  split
  · rfl
  · exact setOutput_other h ..

theorem tripOutput_unbound (h : (s.cfg.outputs.get i).binding = .none) : s.tripOutput i = s := if_pos h

theorem tripOutput_bound (h : (s.cfg.outputs.get i).binding ≠ .none) :
    OutputTripped (s.cfg.outputs.get i) (s.ost.outputs.get i) ((s.tripOutput i).ost.outputs.get i) := by
  unfold State.tripOutput
  dsimp only
  rewrite [if_neg h, setOutput_self]
  obtain ⟨hhold, hsafe, hhiz⟩ := takeAction_tripped (s.cfg.outputs.get i) (s.outputSource i)
    { s.ost.outputs.get i with source := s.outputSource i }
  exact ⟨hhold, hsafe, hhiz⟩

theorem outputsTripped_rest (s : State) : s.outputsTripped = { s with ost := { s.ost with outputs := s.outputsTripped.ost.outputs } } := by
  unfold State.outputsTripped
  refine forEach_induct (P := fun x => x = { s with ost := { s.ost with outputs := x.ost.outputs } }) State.tripOutput s rfl fun i x hx => ?_
  unfold State.tripOutput State.setOutput
  dsimp only
  split
  · exact hx
  · rw [hx]

/-- Every output takes its turn (R141). -/
theorem outputsTripped_tripped (h : s.armed = false) : OutputsTripped s s.outputsTripped := by
  have hev := outputsTripped_event s
  refine ⟨hev.inner.setup.cfg, by rw [← h, State.armed, hev.pru]; rfl, fun i hi => ?_, fun i hi _ => ?_⟩
  · have hturns := forEach_turns (step := State.tripOutput) (P := fun x => x.cfg = s.cfg)
      (R := fun j x => x.ost.outputs.get j = s.ost.outputs.get j)
      (Q := fun j x => (s.cfg.outputs.get j).binding ≠ .none →
        OutputTripped (s.cfg.outputs.get j) (s.ost.outputs.get j) (x.ost.outputs.get j))
      (fun j x hx => ⟨(tripOutput_event j x).inner.setup.cfg.trans hx, fun hr hb => by
        have hbound := tripOutput_bound (s := x) (i := j) (by rwa [hx])
        rwa [hx, hr] at hbound, fun k hk => ⟨fun hr => by rw [tripOutput_other (Ne.symm hk), hr], fun hq hb => by
          rewrite [tripOutput_other (Ne.symm hk)]
          exact hq hb⟩⟩) (s := s) rfl (j := i) rfl
    unfold State.outputsTripped
    exact hturns hi
  · unfold State.outputsTripped
    refine (forEach_induct (P := fun x : State => x.cfg = s.cfg ∧ x.ost.outputs.get i = s.ost.outputs.get i) State.tripOutput s ⟨rfl, rfl⟩
      fun j x hx => ⟨(tripOutput_event j x).inner.setup.cfg.trans hx.1, ?_⟩).2
    by_cases hj : j = i
    · subst hj
      rewrite [tripOutput_unbound (by rw [hx.1, hi])]
      exact hx.2
    · rewrite [tripOutput_other hj]
      exact hx.2

end TripOutputs

/-! PROOF. A trip in RUN, step by step (R106, R128, R141, R146, R170, R174, R175). -/

section TripSteps

variable {s t u x : State} {ts : List Trigger}

/-! ### Steps 1 to 3: the trigger set, the notices, the snapshot -/

/-- The PROTECT notices of a trip (R174). -/
def tripOffers (ts : List Trigger) : List Offer := ts.map fun x => (.protect, codeOf Machine.triggers x, 1)

/-- The Protect Unit of a trip with its notices and snapshot. -/
def State.tripCaptured (ts : List Trigger) (s : State) : State := (s.tripBegun ts).captureAtTrip ts

/-- The protect unit as a trip begins. -/
def Pru.tripped (ts : List Trigger) (p : Pru) : Pru := { p with state := .tripped, triggers := ts, arrived := false }

theorem tripBegun_rest (ts : List Trigger) (s : State) :
    s.tripBegun ts = { s with pru := s.pru.tripped ts, lnk := s.offered (tripOffers ts) } := by
  have key (l : List Trigger) : ∀ a : State, a.pru.state = .tripped →
      l.foldl (fun st t => st.protectNotice (codeOf triggers t)) a = { a with lnk := a.offered (tripOffers l) } := by
    induction l with
    | nil => exact fun a _ => rfl
    | cons y l ih =>
      intro a ha
      rewrite [List.foldl_cons, ih (a.protectNotice (codeOf triggers y)) ha]
      unfold State.protectNotice
      rewrite [ha]
      rfl
  exact key ts (s.setPru (s.pru.tripped ts)) rfl

theorem captureAtTrip_eq (ts : List Trigger) (s : State) : s.captureAtTrip ts = { s with stc := (s.captureAtTrip ts).stc } := by
  unfold State.captureAtTrip State.capture
  split <;> rfl

theorem tripCaptured_rest (ts : List Trigger) (s : State) : s.tripCaptured ts =
    { s with pru := s.pru.tripped ts, lnk := s.offered (tripOffers ts), stc := (s.tripCaptured ts).stc } := by
  have h := captureAtTrip_eq ts (s.tripBegun ts)
  rewrite [← State.tripCaptured] at h
  rw [h, tripBegun_rest]

/-! ### Step 4: the lights (R128) -/

/-- The lights at a trip with their effects stopped and the demand recomputed. -/
def State.effectsStopped (s : State) : State := (s.mapChannels fun _ r => r.stopEffect).relight [0, 1]

theorem tripChannels_channels (s : State) (i : Fin 32) : s.tripChannels.lsq.channels.get i =
    ((((s.lsq.channels.get i).stopEffect).takeAction (s.cfg.channels.get i) s.cfg.protect).aim true true) := by
  have h := (relight_lsq [0, 1] (s.mapChannels fun _ r => r.stopEffect)).1
  rewrite [← State.effectsStopped] at h
  have hget : s.effectsStopped.lsq.channels.get i = (s.lsq.channels.get i).stopEffect := by rw [h]; exact Table.get_mapIdx ..
  have htable : s.tripChannels.lsq.channels = s.effectsStopped.lsq.channels.mapIdx fun i r =>
      (r.takeAction (s.cfg.channels.get i) s.cfg.protect).aim true true := rfl
  rw [← hget, htable, Table.get_mapIdx]

theorem effectsStopped_rest (s : State) : s.effectsStopped = { s with lnk := s.effectsStopped.lnk, lsq := s.effectsStopped.lsq } := by
  have h := (mapChannels_lights (fun _ r => r.stopEffect) s).trans (relight_lights [0, 1] (s.mapChannels fun _ r => r.stopEffect))
  have ho := relight_ost [0, 1] (s.mapChannels fun _ r => r.stopEffect)
  rewrite [← State.effectsStopped] at h ho
  have heq := h.eq
  rewrite [ho] at heq
  exact heq

theorem effectsStopped_lnk (s : State) : ∃ ns : List Offer, (∀ n ∈ ns, n.1 = .derate) ∧ s.effectsStopped.lnk = s.offered ns :=
  ⟨_, fun _ hn => kind_of_mem_derateChanges hn, relight_lnk [0, 1] (s.mapChannels fun _ r => r.stopEffect)⟩

theorem tripChannels_rest (s : State) : s.tripChannels = { s with
    lnk := s.effectsStopped.lnk, lsq := s.tripChannels.lsq, pru := { s.pru with arrived := s.tripChannels.pru.arrived } } := by
  have h : s.tripChannels = { s.effectsStopped with
      lsq := s.tripChannels.lsq, pru := { s.effectsStopped.pru with arrived := s.tripChannels.pru.arrived } } := rfl
  rw [h, effectsStopped_rest]

theorem stopEffect_kept (r : ChannelRun) : r.stopEffect.effect = none ∧ r.stopEffect.level = r.level ∧
    r.stopEffect.base = if r.effect.isSome then r.level else r.base := by
  unfold ChannelRun.stopEffect
  cases he : r.effect with
  | none => simp [he]
  | some e => simp

/-- What the trip leaves of a channel by its action (R128). -/
theorem takeAction_tripped_channel (c : ChannelConfig) (p : ProtectSettings) (r : ChannelRun) :
    TrippedChannel c p r ((r.stopEffect.takeAction c p).aim true true) := by
  obtain ⟨heffect, hlevel, hbase⟩ := stopEffect_kept r
  generalize r.stopEffect = q at heffect hlevel hbase
  obtain ⟨hb, he, hs, hp, -, ht⟩ := ChannelRun.aim_kept true true (q.takeAction c p)
  have hkept : (q.takeAction c p).effect = none ∧ (q.takeAction c p).base = q.base ∧ (q.takeAction c p).level = r.level := by
    unfold ChannelRun.takeAction
    dsimp only
    split <;> exact ⟨heffect, rfl, hlevel⟩
  obtain ⟨hkeffect, hkbase, hklevel⟩ := hkept
  have hjump (h0 : (q.takeAction c p).period = 0) : ((q.takeAction c p).aim true true).level = (q.takeAction c p).target := aim_jumps hkeffect h0
  refine ⟨he.trans hkeffect, (hb.trans hkbase).trans hbase, fun ha => ?_, fun ha => ?_, fun ha => ?_, fun ha => ?_⟩
  · have htarget : (q.takeAction c p).target = r.level := by simp only [ChannelRun.takeAction, ha, hlevel]
    exact ⟨ht.trans htarget, (hjump (by simp only [ChannelRun.takeAction, ha])).trans htarget⟩
  · have htarget : (q.takeAction c p).target = c.floor := by simp only [ChannelRun.takeAction, ha]
    have hperiod : (q.takeAction c p).period = p.period := by simp only [ChannelRun.takeAction, ha]
    refine ⟨ht.trans htarget, hs.trans (by simp only [ChannelRun.takeAction, ha]), hp.trans hperiod, ?_⟩
    split
    · next h0 => exact (hjump (hperiod.trans h0)).trans htarget
    · next h0 =>
      have hstays : ((q.takeAction c p).aim true true).level = (q.takeAction c p).level := by
        unfold ChannelRun.aim
        rewrite [if_neg (by simp [hkeffect])]
        split
        · rfl
        · rw [if_neg (by simp [hperiod, h0])]
      exact hstays.trans hklevel
  · have htarget : (q.takeAction c p).target = c.safe := by simp only [ChannelRun.takeAction, ha]
    exact ⟨ht.trans htarget, (hjump (by simp only [ChannelRun.takeAction, ha])).trans htarget⟩
  · have htarget : (q.takeAction c p).target = 0 := by simp only [ChannelRun.takeAction, ha]
    exact ⟨ht.trans htarget, (hjump (by simp only [ChannelRun.takeAction, ha])).trans htarget⟩

/-! ### Step 5: the requests offer no notice -/

theorem enqueue_lnk (p : Bool) (e : TxEntry) (s : State) : (s.enqueue p e).2.lnk = s.lnk := by
  unfold State.enqueue
  dsimp only
  split <;> split <;> rfl

theorem requestRemote_lnk (p : Bool) (i : Fin 32) (s : State) : (s.requestRemote p i).lnk = s.lnk := by
  cases hv : (s.ost.remotes.get i).value with
  | none => simp only [State.requestRemote, hv]
  | some v =>
    rewrite [requestRemote_some hv]
    dsimp only
    split <;> exact enqueue_lnk ..

theorem tripRemote_lnk (fresh : Bool) (i : Fin 32) (s : State) : (s.tripRemote fresh i).lnk = s.lnk := by
  unfold State.tripRemote
  dsimp only
  split
  · rfl
  · split
    · exact requestRemote_lnk ..
    · split
      · exact newRemoteValue_lnk ..
      · split
        · exact requestRemote_lnk ..
        · split <;> rfl

theorem remotesTripped_lnk (s : State) : s.remotesTripped.lnk = s.lnk := by
  unfold State.remotesTripped
  exact forEach_lnk _ (tripRemote_lnk false) s

/-! ### Step 6: the hold's pass leaves the channels of a tripped part (R128) -/

theorem handLevels_lsq (s : State) : s.handLevels.lsq = s.lsq := (handOn_event [.light] s).1.lsq

theorem relightAndAim_channels (h : s.armed = false) (jumps : Bool) (shs : List (Fin 2)) (also : Fin 32 → Bool) :
    (s.relightAndAim jumps shs also).lsq.channels = s.lsq.channels := by
  have hrelit : (s.relight shs).armed = false := by rw [← h, State.armed, (relight_light shs s).pru]; rfl
  unfold State.relightAndAim State.setTargets
  dsimp only
  rw [if_neg (by rw [h]; decide), if_neg (by rw [hrelit]; decide)]
  exact (relight_lsq shs s).1

theorem receiveAllowance_channels (h : s.armed = false) (jumps : Bool) (sh : Fin 2) (a : Power) :
    (s.receiveAllowance jumps sh a).lsq.channels = s.lsq.channels := by
  rewrite [receiveAllowance_eq]
  have hallowed : (s.allowed sh a).armed = false := h
  rewrite [handLevels_lsq, relightAndAim_channels hallowed]
  rfl

theorem passWith_channels (h : s.armed = false) (jumps : Bool) : (s.passWith jumps).lsq.channels = s.lsq.channels := by
  rewrite [passWith_lsq, State.passHanded, (handOn_event ..).1.lsq]
  refine (forEach_induct (P := fun x : State => x.armed = false ∧ x.lsq.channels = s.lsq.channels) _ s.allocated ⟨h, rfl⟩ fun sh x hx => ?_).2
  refine ⟨?_, (receiveAllowance_channels hx.1 jumps sh _).trans hx.2⟩
  rewrite [← hx.1, State.armed, (receiveAllowance_heat ..).pru]
  rfl

/-! ### Step 7: the HELD test (R172) -/

theorem heldTest_rest (h : s.pru.state = .tripped) : s.heldTest = { s with
    pru := { s.pru with state := s.heldTest.pru.state }, lnk := s.offered (Offer.when (s.heldTest.pru.state = .held) .protect 6 2) } ∧
    (s.heldTest.pru.state = .tripped ∨ s.heldTest.pru.state = .held) := by
  unfold State.heldTest
  split
  · exact ⟨rfl, .inr rfl⟩
  · have hnone : Offer.when (s.pru.state = .held) .protect 6 2 = [] := by rw [h]; rfl
    refine ⟨?_, .inl h⟩
    rewrite [hnone]
    rfl

end TripSteps

section Trip

variable {s t : State} {ts : List Trigger}

/-! ### The trip whole -/

/-- A trip before its entries: captured, the lights and the local outputs in protect. -/
def State.tripLit (ts : List Trigger) (s : State) : State := (s.tripCaptured ts).tripChannels

theorem tripUnheld_eq (ts : List Trigger) (s : State) : s.tripUnheld ts = (s.tripLit ts).outputsTripped.remotesTripped := rfl

/-- What stands after the lights' step of a trip (R128, R170). -/
structure TripLit (ts : List Trigger) (s l : State) : Prop where
  rest : l = { s with pru := l.pru, lnk := l.lnk, lsq := l.lsq, stc := l.stc }
  state : l.pru.state = .tripped
  triggers : l.pru.triggers = ts
  lnk : ∃ ns : List Offer, (∀ n ∈ ns, n.1 = .derate) ∧ l.lnk = s.offered (tripOffers ts ++ ns)
  channels : ∀ i, TrippedChannel (s.cfg.channels.get i) s.cfg.protect (s.lsq.channels.get i) (l.lsq.channels.get i)

theorem TripLit.of_captured {c : State} (hc : c = { s with pru := s.pru.tripped ts, lnk := s.offered (tripOffers ts), stc := c.stc }) :
    TripLit ts s c.tripChannels := by
  have hrest := tripChannels_rest c
  obtain ⟨ns, hns, hlnk⟩ := effectsStopped_lnk c
  have hchannels (i : Fin 32) : c.tripChannels.lsq.channels.get i = _ := tripChannels_channels c i
  have hclnk : c.lnk = s.offered (tripOffers ts) := by rw [hc]
  have hl : c.tripChannels.lnk = c.offered ns := (congrArg State.lnk hrest).trans hlnk
  have happend : c.offered ns = s.offered (tripOffers ts ++ ns) := offered_append (by rw [hc]) (by rw [hc]) hclnk
  have hpru : c.tripChannels.pru = { c.pru with arrived := c.tripChannels.pru.arrived } := congrArg State.pru hrest
  have hcpru : c.pru = s.pru.tripped ts := by rw [hc]
  have hcfg : c.cfg = s.cfg := by rw [hc]
  have hlsq : c.lsq = s.lsq := by rw [hc]
  rewrite [hcpru] at hpru
  generalize c.tripChannels = l at *
  refine ⟨?_, by rw [hpru]; rfl, by rw [hpru]; rfl, ⟨ns, hns, hl.trans happend⟩, fun i => ?_⟩
  · rw [hrest, hc]
  · rewrite [hchannels, hcfg, hlsq]
    exact takeAction_tripped_channel ..

/-- What a trip has brought about before its heat hold, and what the hold's pass leaves standing (R128, R141, R146). -/
structure InProtect (ts : List Trigger) (s r : State) : Prop where
  setup : SetupKept s r
  state : r.pru.state = .tripped
  triggers : r.pru.triggers = ts
  lnk : ∃ ns : List Offer, (∀ n ∈ ns, n.1 ≠ .protect) ∧ r.lnk = s.offered (tripOffers ts ++ ns)
  channels : ∀ i, TrippedChannel (s.cfg.channels.get i) s.cfg.protect (s.lsq.channels.get i) (r.lsq.channels.get i)
  outputs : OutputsTripped s r
  remotes : ∀ i, BehindTurn s i r
  free : ∀ i, (s.cfg.remotes.get i).binding = .none → BeforeTurn s i r

theorem OutputsTripped.of_frame {a x : State} (h : OutputsTripped a x) (hc : a.cfg = s.cfg) (ho : a.ost.outputs = s.ost.outputs) :
    OutputsTripped s x :=
  ⟨h.cfg.trans hc, h.tripped, by rw [← hc, ← ho]; exact h.bound, by rw [← hc, ← ho]; exact h.unbound⟩

theorem TripLit.unheld {l : State} (h : TripLit ts s l) : InProtect ts s l.outputsTripped.remotesTripped := by
  have harmed : l.armed = false := armed_eq_false (by rw [h.state]; decide)
  have hcfg : l.cfg = s.cfg := by rw [h.rest]
  have host : l.ost = s.ost := by rw [h.rest]
  have hout := outputsTripped_rest l
  have houtputs := outputsTripped_tripped harmed
  have hevent := remotesTripped_event l.outputsTripped
  have hlnk := remotesTripped_lnk l.outputsTripped
  have hkept := remotesTripped_outputs l.outputsTripped
  have hturns (i : Fin 32) := remotesTripped_takes l.outputsTripped i
  have hfree (i : Fin 32) (hi : (l.outputsTripped.cfg.remotes.get i).binding = .none) := remotesTripped_unbound hi
  generalize l.outputsTripped.remotesTripped = r at *
  generalize l.outputsTripped = o at *
  have hocfg : o.cfg = s.cfg := by rw [hout, hcfg]
  have horemotes : o.ost.remotes = s.ost.remotes := by rw [hout, host]
  have hopru : o.pru = l.pru := by rw [hout]
  have holnk : o.lnk = l.lnk := by rw [hout]
  have holsq : o.lsq = l.lsq := by rw [hout]
  have hsetup : SetupKept s o := by rw [hout, h.rest]; exact ⟨rfl, rfl, rfl, rfl, rfl, rfl, rfl, rfl⟩
  refine ⟨hsetup.trans hevent.inner.setup, by rw [hevent.pru, hopru, h.state], by rw [hevent.pru, hopru, h.triggers], ?_, fun i => ?_, ?_,
    fun i hb => ?_, fun i hb => ?_⟩
  · obtain ⟨ns, hns, hl⟩ := h.lnk
    exact ⟨ns, fun n hn => by rw [hns n hn]; decide, hlnk.trans (holnk.trans hl)⟩
  · rewrite [hevent.lsq, holsq]
    exact h.channels i
  · have hr : OutputsTripped l r :=
      ⟨hevent.inner.setup.cfg.trans houtputs.cfg, by rw [← houtputs.tripped, State.armed, hevent.pru]; rfl, by rw [hkept]; exact houtputs.bound,
        by rw [hkept]; exact houtputs.unbound⟩
    exact hr.of_frame hcfg (by rw [host])
  · have htaken := hturns i (by rwa [hocfg])
    rewrite [hocfg, horemotes] at htaken
    exact ⟨htaken.safe, htaken.hold, htaken.follow⟩
  · have hbefore := hfree i (by rwa [hocfg])
    unfold BeforeTurn at hbefore ⊢
    rwa [horemotes] at hbefore

theorem trip_unheld (ts : List Trigger) (s : State) : InProtect ts s (s.tripUnheld ts) := by
  rewrite [tripUnheld_eq]
  exact (TripLit.of_captured (tripCaptured_rest ts s)).unheld

/-! ### The heat hold and the HELD test (R106, R172) -/

theorem TrippedRemote.later {u v : State} {c : RemoteConfig} {r q : RemoteRun} (h : TrippedRemote c r q s u) (hbus : v.fbc = u.fbc)
    (hlights : v.lsq.channels = u.lsq.channels) (a : State) : TrippedRemote c r q a v := by
  refine ⟨fun ha => ?_, h.hold, fun ha hb => ?_⟩
  · rewrite [hbus]
    exact h.safe ha
  · rewrite [light_of_lsq hlights]
    exact h.follow ha hb

/-- The heat hold set, before its pass (R106). -/
def State.holding (s : State) : State := { s with hra := { s.hra with hold := true } }

theorem holding_heat (s : State) : HeatEvent s (s.holding.passWith true) := (setHra_heat _ _).trans (passWith_heat true s.holding)

theorem holding_ost (s : State) : s.holding.ost = s.ost := rfl

theorem holding_offered (s : State) (ns : List Offer) : s.holding.offered ns = s.offered ns := rfl

theorem InProtect.held {r : State} (h : InProtect ts s r) : InProtect ts s (r.holding.passWith true) := by
  have hheat := holding_heat r
  have hpassed := passWith_passed true r.holding
  have harmed : r.holding.armed = false := h.outputs.tripped
  have hchannels := passWith_channels harmed true
  have hout := (outputsTripped_invariant s).passWith true
    (s := r.holding) ⟨h.outputs.cfg, h.outputs.tripped, h.outputs.bound, h.outputs.unbound⟩
  have hbus := hpassed.fbc
  have hremotes := hpassed.remotes
  have hlnk := hpassed.lnk
  rewrite [holding_ost] at hremotes
  rewrite [holding_offered] at hlnk
  generalize r.holding.passWith true = w at *
  refine ⟨h.setup.trans hheat.inner.setup, by rw [hheat.pru, h.state], by rw [hheat.pru, h.triggers], ?_, fun i => ?_, hout, fun i hb => ?_,
    fun i hb => ?_⟩
  · obtain ⟨ns, hns, hl⟩ := h.lnk
    refine ⟨ns ++ passNotices r.holding w, fun n hn => ?_, ?_⟩
    · rcases List.mem_append.mp hn with hn | hn
      · exact hns n hn
      · rcases kind_of_mem_passNotices hn with e | e | e <;> rw [e] <;> decide
    · rw [hlnk, offered_append h.setup.cfg h.setup.scu hl, List.append_assoc]
  · rewrite [hchannels]
    exact h.channels i
  · rewrite [hremotes]
    exact (h.remotes i hb).later hbus hchannels s
  · have hfree := h.free i hb
    unfold BeforeTurn at hfree ⊢
    rwa [hremotes]

/-- Enabled offers enter a queue that has room for all of them, in order (R187). -/
theorem offered_enabled (s : State) (ns : List Offer) (he : ∀ n ∈ ns, s.cfg.notice.enables.get (noticeIndex n.1) = true)
    (hroom : s.lnk.notices.length + ns.length ≤ 32) :
    (s.offered ns).notices = s.lnk.notices ++ ns.map fun n => ⟨n.1, n.2.1, n.2.2, s.scu.clock, 0⟩ := by
  induction ns using List.reverseRecOn with
  | nil => simp [State.offered]
  | append_singleton ns n ih =>
    have hlast : s.offered (ns ++ [n]) =
        (s.offered ns).offer (s.cfg.notice.enables.get (noticeIndex n.1)) ⟨n.1, n.2.1, n.2.2, s.scu.clock, 0⟩ := by
      simp [State.offered]
    rewrite [List.length_append, List.length_singleton] at hroom
    have hbefore := ih (fun m hm => he m (List.mem_append_left _ hm)) (by omega)
    have hlength : (s.offered ns).notices.length < 32 := by
      rewrite [hbefore, List.length_append, List.length_map]
      omega
    rewrite [hlast, Lnk.offer_notices_of_room hlength, hbefore, he n (List.mem_append_right _ List.mem_cons_self)]
    simp

theorem offered_prefix (s : State) (a b : List Offer) : (s.offered a).notices <+: (s.offered (a ++ b)).notices := by
  unfold State.offered
  rewrite [List.foldl_append]
  exact foldl_induct (P := fun l : Lnk => (s.offered a).notices <+: l.notices) _ b _ (List.prefix_refl _) fun l n hl =>
    hl.trans (Lnk.offer_notices ..)

/-- The notices of a trip: its triggers', what its lights and pass report, and that of HELD (R174). -/
theorem InProtect.notices {w : State} {b : List Offer} (h : InProtect ts s w) (hb : ∀ n ∈ b, n.1 = .protect) (hcfg : t.cfg = s.cfg)
    (hlnk : t.lnk = w.offered b) :
    (s.cfg.notice.enables.get 7 = true → s.lnk.notices.length + ts.length ≤ 32 →
      s.lnk.notices ++ ts.map (fun x => ⟨.protect, codeOf Machine.triggers x, 1, s.scu.clock, 0⟩) <+: t.lnk.notices) ∧
    Notified [.protect] (ts.flatMap (fun x => Offer.when True .protect (codeOf Machine.triggers x) 1) ++ b) s t := by
  obtain ⟨ns, hns, hl⟩ := h.lnk
  have hall : t.lnk = s.offered (tripOffers ts ++ (ns ++ b)) := by
    rw [hlnk, offered_append h.setup.cfg h.setup.scu hl, List.append_assoc]
  constructor
  · intro he hroom
    have hkind (n : Offer) (hn : n ∈ tripOffers ts) : n.1 = .protect := by
      obtain ⟨x, -, rfl⟩ := List.mem_map.mp hn
      rfl
    have hwhole := offered_enabled s (tripOffers ts) (fun n hn => by rw [hkind n hn]; exact he) (by rw [tripOffers, List.length_map]; exact hroom)
    have hpre := offered_prefix s (tripOffers ts) (ns ++ b)
    rewrite [hwhole, tripOffers, List.map_map] at hpre
    rewrite [hall]
    exact hpre
  · have hnotified := notified_of_lnk (kinds := [.protect]) hcfg hall
    have hflat : (ts.flatMap fun x => Offer.when True .protect (codeOf Machine.triggers x) 1) = tripOffers ts := by
      rewrite [tripOffers, List.map_eq_flatMap]
      rfl
    have hown : (tripOffers ts).filter (fun n => [NoticeKind.protect].contains n.1) = tripOffers ts :=
      List.filter_eq_self.mpr fun n hn => by
        obtain ⟨x, -, rfl⟩ := List.mem_map.mp hn
        rfl
    have hlast : b.filter (fun n => [NoticeKind.protect].contains n.1) = b := List.filter_eq_self.mpr fun n hn => by rw [hb n hn]; rfl
    rewrite [List.filter_append, List.filter_append, hown, hlast, filter_kinds_nil fun n hn => by simpa using hns n hn, List.nil_append,
      ← hflat] at hnotified
    exact hnotified

/-- The snapshot that a trip captures (R170, R175). -/
theorem trip_captures (ts : List Trigger) (h : s.stc.holdsSnapshot = false) :
    (s.stc.op ≠ .none → (s.trip ts).stc = { s.stc with
      snapshot := some (s.snapshotNow ts), nextSequence := min 4294967295 (s.stc.nextSequence + 1) }) ∧
    (s.stc.op = .none → (s.trip ts).stc = { s.stc with
      op := .snapshot, writing := some (s.stc.target, s.snapshotNow ts), nextSequence := min 4294967295 (s.stc.nextSequence + 1)
      slots := s.stc.slots.set s.stc.target none }) := by
  have hcapture : s.captureAtTrip ts = s.capture ts := if_neg (by rw [h]; decide)
  rewrite [trip_stc, hcapture]
  refine ⟨fun hop => by rw [capture_waits hop], fun hop => ?_⟩
  have hnone : s.stc.snapshot = none := by
    unfold Stc.holdsSnapshot at h
    simpa using (Bool.or_eq_false_iff.mp h).1
  rewrite [capture_writes hop]
  dsimp only
  rw [hnone]

/-- A trip in RUN outside a LOAD (R106, R128, R141, R146, R170, R174, R175). -/
theorem trip_tripped (ts : List Trigger) (run : s.phase = .run) (op : s.stc.op ≠ .load) : Tripped ts s (s.trip ts) := by
  have hevent := trip_protect ts s
  have hheld := trip_holdKept (strict := False) ts run op (fun k => k.elim)
  have hcaptured := trip_captures (s := s) ts
  have hskipped (h : s.stc.holdsSnapshot = true) : (s.trip ts).stc = s.stc := by rw [trip_stc, State.captureAtTrip, if_pos h]
  have hunheld := trip_unheld ts s
  have hsteps := trip_eq_held ts s
  rewrite [setHold_run true _ ((tripUnheld_phase ts s).trans run)] at hsteps
  have hw := hunheld.held
  change s.trip ts = ((s.tripUnheld ts).holding.passWith true).heldTest at hsteps
  generalize (s.tripUnheld ts).holding.passWith true = w at hw hsteps
  obtain ⟨hrest, hstate⟩ := heldTest_rest hw.state
  rewrite [← hsteps] at hrest hstate
  generalize s.trip ts = t at *
  have hlnk : t.lnk = w.offered (Offer.when (t.pru.state = .held) .protect 6 2) := congrArg State.lnk hrest
  have htriggers : t.pru.triggers = w.pru.triggers := by rw [hrest]
  have hlsq : t.lsq = w.lsq := by rw [hrest]
  have host : t.ost = w.ost := by rw [hrest]
  have hbus : t.fbc = w.fbc := by rw [hrest]
  obtain ⟨hnotices, hnotified⟩ := hw.notices (fun n hn => kind_of_mem_when hn) hevent.inner.setup.cfg hlnk
  have hhold : t.hra.hold = true := hheld.hold.mpr (by rcases hstate with e | e <;> rw [e] <;> decide)
  refine ⟨hevent, hstate, htriggers.trans hw.triggers, hcaptured, hskipped, fun i => ?_, fun i hb => ?_, fun i hb ht => ?_, fun i hb => ?_,
    fun i hb _ => ?_, hnotices, hnotified, hhold, fun i hk => hheld.stands hhold i (by rwa [hevent.inner.setup.cfg])⟩
  · rewrite [hlsq]
    exact hw.channels i
  · rewrite [host]
    exact (hw.outputs.bound i hb).tripped
  · rewrite [host]
    exact hw.outputs.unbound i hb ht
  · rewrite [host]
    exact (hw.remotes i hb).later hbus (congrArg Lsq.channels hlsq) s
  · rewrite [host]
    exact hw.free i hb

end Trip

/-! PROOF. What raises a trigger: PROTECT_TRIP and PROTECT (R167 to R171), the egress key (R168), and the sheets' timers (R57, R58, R61). -/

section Raising

variable {s : State} {x : Trigger} {tag : Byte}

/-! ### A trigger is raised (R167, R170, R171) -/

theorem raise_waiting (h : s.phase ≠ .run) : s.raise x = s := if_pos h

theorem raise_loading (hp : s.phase = .run) (hop : s.stc.op = .load) :
    s.raise x = s.setPru { s.pru with deferred := insertTrigger x s.pru.deferred } := by
  rw [State.raise, if_neg (not_not.mpr hp), if_pos hop]

theorem raise_trips (hp : s.phase = .run) (hop : s.stc.op ≠ .load) (ha : s.pru.state = .armed) : s.raise x = s.trip [x] := by
  rw [State.raise, if_neg (not_not.mpr hp), if_neg hop, if_pos ha]

theorem raise_member (hp : s.phase = .run) (hop : s.stc.op ≠ .load) (ha : s.pru.state ≠ .armed) (hm : s.pru.triggers.contains x = true) :
    s.raise x = s := by
  rw [State.raise, if_neg (not_not.mpr hp), if_neg hop, if_neg ha, if_pos hm]

theorem raise_joins (hp : s.phase = .run) (hop : s.stc.op ≠ .load) (ha : s.pru.state ≠ .armed) (hm : s.pru.triggers.contains x = false) :
    s.raise x = ({ s with pru := { s.pru with triggers := insertTrigger x s.pru.triggers } } : State).notice .protect (codeOf triggers x)
      (codeOf protectStates s.pru.state) := by
  rw [State.raise, if_neg (not_not.mpr hp), if_neg hop, if_neg ha, if_neg (by rw [hm]; decide)]
  rfl

/-- A trigger raised in RUN while ARMED trips. -/
theorem raise_tripped (hp : s.phase = .run) (hop : s.stc.op ≠ .load) (ha : s.pru.state = .armed) : Tripped [x] s (s.raise x) := by
  rewrite [raise_trips hp hop ha]
  exact trip_tripped [x] hp hop

/-! ### PROTECT_TRIP and PROTECT -/

theorem exec_protectTrip (h : ActReady tag 10 [] s) : exec (.protectTrip tag []) s =
    .next (s.conclude tag (if s.phase ≠ .run then .error .notNow else done 0 (s.raise .host))) :=
  congrArg Host.Outcome.next (serveAct_act h rfl _)

theorem exec_protectTrip_ready {fields : List Byte} (h : Ready ⟨tag, kindAct, 10 :: fields⟩ s) :
    exec (.protectTrip tag fields) s = .next (s.conclude tag (actProtectTrip fields s)) :=
  congrArg Host.Outcome.next (serveAct_ready (code := 10) h _)

/-- PROTECT asserted, as sampled before it raises its trigger. -/
def State.pinSeen (s : State) : State := { s with pins := { s.pins with protect := true }, pru := { s.pru with pin := true } }

theorem exec_protectAsserted (live : s.live = true) : exec .protectAsserted s =
    .next (if !s.pru.pin then s.pinSeen.raise .pin else s.pinSeen) := by
  have hlive : ({ s with pins := { s.pins with protect := true } } : State).live = true := live
  exact congrArg Host.Outcome.next (event_live hlive _)

theorem exec_protectDeasserted (live : s.live = true) : exec .protectDeasserted s =
    .next { s with pins := { s.pins with protect := false }, pru := { s.pru with pin := false } } := by
  have hlive : ({ s with pins := { s.pins with protect := false } } : State).live = true := live
  exact congrArg Host.Outcome.next (event_live hlive _)

/-! ### The egress key -/

theorem exec_keyPress (live : s.live = true) : exec .keyPress s =
    .next (({ s with pins := { s.pins with egress := true } } : State).pressKey) := by
  have hlive : ({ s with pins := { s.pins with egress := true } } : State).live = true := live
  exact congrArg Host.Outcome.next (event_live hlive _)

theorem exec_keyRelease (live : s.live = true) : exec .keyRelease s =
    .next (({ s with pins := { s.pins with egress := false } } : State).releaseKey) := by
  have hlive : ({ s with pins := { s.pins with egress := false } } : State).live = true := live
  exact congrArg Host.Outcome.next (event_live hlive _)

theorem exec_keyHoldExpiry (live : s.live = true) : exec .keyHoldExpiry s = .next s.expireKey :=
  congrArg Host.Outcome.next (event_live live _)

theorem pressKey_released (h : s.pru.key = .released) : s.pressKey =
    if s.phase = .run then s.pressCounted else s.setPru { s.pru with key := .timing, keyTimer := 0 } := by
  simp only [State.pressKey, h]

theorem pressKey_held (h : s.pru.key ≠ .released) : s.pressKey = s := by
  unfold State.pressKey
  split
  · next hk => exact absurd hk h
  · rfl

theorem releaseKey_released (h : s.pru.key = .released) : s.releaseKey = s := by simp only [State.releaseKey, h]

theorem releaseKey_held (h : s.pru.key ≠ .released) : s.releaseKey = s.setPru { s.pru with key := .released, keyTimer := 0 } := by
  unfold State.releaseKey
  split
  · next hk => exact absurd hk h
  · rfl

/-- The key has been held its time, or bypassed: the state that raises KEY. -/
def State.keyHeld (s : State) : State := s.setPru { s.pru with key := .spent, keyTimer := 0 }

theorem keySpent_eq (s : State) : s.keySpent = s.keyHeld.raise .key := rfl

theorem keyHeld_tripped (hp : s.phase = .run) (hop : s.stc.op ≠ .load) (ha : s.pru.state = .armed) : Tripped [.key] s.keyHeld s.keySpent :=
  raise_tripped (s := s.keyHeld) hp hop ha

theorem keyHeld_loading (hp : s.phase = .run) (hop : s.stc.op = .load) : s.keySpent = { s with pru := { s.pru with
    key := .spent, keyTimer := 0, deferred := insertTrigger .key s.pru.deferred } } :=
  raise_loading (s := s.keyHeld) hp hop

end Raising

/-- Settles O29: by the phase, the store operation, the protect state and the trigger set. -/
theorem triggersTrip : Obligations.TriggersTrip := by
  unfold Obligations.TriggersTrip
  intro joined
  refine ⟨fun tag s h => ?act, fun tag fields s h => ⟨fun hop => ?busy, fun hop hne => ?length⟩, fun s live => ?pin⟩
  case act =>
    have hexec := exec_protectTrip h
    refine ⟨fun hp ha => ⟨s.raise .host, ?_, raise_tripped hp h.load ha⟩, fun hp ha hm => ?_, fun hp ha hm => ⟨s.raise .host, ?_, ?_⟩,
      fun hp => ?_⟩
    · rw [hexec, if_neg (not_not.mpr hp), conclude_unclamped]
    · rw [hexec, if_neg (not_not.mpr hp), raise_member hp h.load ha hm, conclude_unclamped]
    · rw [hexec, if_neg (not_not.mpr hp), conclude_unclamped]
    · exact raise_joins hp h.load ha hm
    · rw [hexec, if_pos (by rw [hp]; decide), conclude_refused]
  case busy => rw [exec_protectTrip_ready h, actProtectTrip, act_loading hop, conclude_refused]
  case length => rw [exec_protectTrip_ready h, actProtectTrip, act_badLength hop (by simpa using hne), conclude_refused]
  case pin =>
    intro p
    have hexec := exec_protectAsserted live
    refine ⟨fun hp hpin hop ha => ⟨s.pinSeen.raise .pin, ?_, raise_tripped (s := s.pinSeen) hp hop ha⟩, fun hp hpin hop ha => ⟨fun hm => ?_, fun hm =>
      ⟨s.pinSeen.raise .pin, ?_, raise_joins (s := s.pinSeen) hp hop ha hm⟩⟩, fun hp hpin hop => ?_, fun hquiet => ?_, exec_protectDeasserted live⟩
    · rewrite [hexec, hpin]
      rfl
    · rewrite [hexec, hpin]
      exact congrArg Host.Outcome.next (raise_member (s := s.pinSeen) hp hop ha hm)
    · rewrite [hexec, hpin]
      rfl
    · rewrite [hexec, hpin]
      exact congrArg Host.Outcome.next (raise_loading (s := s.pinSeen) hp hop)
    · rewrite [hexec]
      rcases hquiet with hp | hpin
      · have hwaiting : s.pinSeen.raise .pin = s.pinSeen := raise_waiting (by rw [State.pinSeen, hp]; decide)
        rewrite [hwaiting, ite_self]
        rfl
      · rewrite [hpin]
        rfl

/-- Settles O47: by the key's state, the phase, the bypass and the store operation. -/
theorem keyEvents : Obligations.KeyEvents := by
  intro s live down up spent
  have hpress := exec_keyPress live
  have hrelease := exec_keyRelease live
  have hexpiry := exec_keyHoldExpiry live
  refine ⟨fun hk => ?_, fun hk hp => ?_, fun hk hp hb => ?_, fun hk hp hb hop ha => ⟨State.keySpent down, ?_, ?_⟩, fun hk => ?_, fun hk => ?_,
    fun hk => ?_, fun hk ht hp => ⟨fun hop ha => ⟨s.keySpent, ?_, keyHeld_tripped hp hop ha⟩, fun hop => ?_⟩⟩
  · rw [hpress, pressKey_held (s := down) hk]
  · rw [hpress, pressKey_released (s := down) hk, if_neg (by rw [show down.phase = s.phase from rfl, hp]; decide)]
    rfl
  · have hcounted : State.pressCounted down = down.setPru { s.pru with key := .timing, keyTimer := s.cfg.protect.keyHold * 100 } :=
      if_neg (by rw [show down.profile = s.profile from rfl, hb]; decide)
    rewrite [hpress, pressKey_released (s := down) hk, if_pos hp, hcounted]
    rfl
  · have hcounted : State.pressCounted down = State.keySpent down := if_pos hb
    rw [hpress, pressKey_released (s := down) hk, if_pos hp, hcounted]
  · exact keyHeld_tripped (s := down) hp hop ha
  · rw [hrelease, releaseKey_released (s := up) hk]
  · rewrite [hrelease, releaseKey_held (s := up) hk]
    rfl
  · have hquiet : s.expireKey = s := if_neg fun h => hk.elim (fun k => k h.1) h.2
    rw [hexpiry, hquiet]
  · have hspent : s.expireKey = s.keySpent := if_pos ⟨hk, ht⟩
    rw [hexpiry, hspent]
  · have hspent : s.expireKey = s.keySpent := if_pos ⟨hk, ht⟩
    rw [hexpiry, hspent, keyHeld_loading hp hop]

/-! PROOF. The resurfacing, tank and critical holds expire (R57, R58, R61, R90, R170, R171). -/

section SheetHolds

variable {s : State} {sh : Fin 2}

/-! ### The resurfacing hold (R57) -/

/-- A fresh evaluation of a sheet that was not CRITICAL. -/
theorem freshSheet_of_quiet (h : (s.shm.get sh).state ≠ .critical) :
    let c := s.cfg.sheets.get sh
    let m := s.sheetTemp c
    s.freshSheet sh = { s.shm.get sh with
      state := freshState c m.1 m.2, temp := m.1.map shownTemp, source := m.2, frozen := none, hold := 0, criticalTime := 0, trigger := false
      budget := budgetOf c (freshState c m.1 m.2) m.1 m.2 none } := by
  have hquiet : ((s.shm.get sh).state == SheetState.critical) = false := beq_eq_false_iff_ne.mpr h
  simp only [State.freshSheet, SheetRun.enter, freshState_ne_resurface, if_false, hquiet, Bool.and_false, Bool.false_and,
    Bool.false_eq_true]

theorem expireHold_stands (h : (s.shm.get sh).state ≠ .resurface ∨ (s.shm.get sh).hold = 0) : s.expireHold sh = s :=
  if_neg fun k => h.elim (fun e => e k.1) k.2

theorem expireHold_ends (h : (s.shm.get sh).state = .resurface) (hold : (s.shm.get sh).hold ≠ 0) : s.expireHold sh = s.endResurface sh :=
  if_pos ⟨h, hold⟩

/-! ### The tank reheat timer (R58, R90) -/

theorem expireTank_stopped (h : (s.shm.get sh).tank = 0) : s.expireTank sh = s := if_pos h

theorem expireTank_ends (h : (s.shm.get sh).tank ≠ 0) : s.expireTank sh = s.setTank sh 0 := if_neg h

theorem setTank_stops_hra (h : (s.shm.get sh).tank ≠ 0) :
    (s.setTank sh 0).hra = ((s.setSheet sh { s.shm.get sh with tank := 0 }).informTank sh false).hra :=
  setTank_hra_of_change (by simp [h])

/-- The TANK sinks' requests after a tank timer was informed (R90); their grants and statuses stand. -/
theorem informTank_sink (running : Bool) (i : Fin 12) : (s.informTank sh running).hra.sinks.get i =
    if [SinkKind.tank].contains (s.cfg.sinks.get i).kind then
      { s.hra.sinks.get i with
        reqMin := (s.informTank sh running).requestMin (s.cfg.sinks.get i), reqMax := (s.informTank sh running).requestMax (s.cfg.sinks.get i)
        cls := (s.informTank sh running).classInForce (s.cfg.sinks.get i) }
    else s.hra.sinks.get i := Table.get_mapIdx ..

theorem informTank_granted (running : Bool) (i : Fin 12) :
    ((s.informTank sh running).hra.sinks.get i).grant = (s.hra.sinks.get i).grant ∧
      ((s.informTank sh running).hra.sinks.get i).status = (s.hra.sinks.get i).status := by
  rewrite [informTank_sink]
  split <;> exact ⟨rfl, rfl⟩

theorem informTank_request (running : Bool) {i : Fin 12} (he : (s.cfg.sinks.get i).enabled = true) (hk : (s.cfg.sinks.get i).kind = .tank) :
    ((s.informTank sh running).hra.sinks.get i).reqMax =
      if ((s.informTank sh running).hra.sheets.get 0).tankRunning = true ∨ ((s.informTank sh running).hra.sheets.get 1).tankRunning = true
      then (s.cfg.sinks.get i).max else (s.cfg.sinks.get i).min := by
  rw [informTank_sink, if_pos (by rw [hk]; rfl)]
  exact requestMax_tank he hk

/-! ### The critical trip hold (R61) -/

theorem expireCritical_stands (h : (s.shm.get sh).state ≠ .critical ∨ (s.cfg.sheets.get sh).criticalHold = 0 ∨ (s.shm.get sh).trigger = true) :
    s.expireCritical sh = s :=
  if_neg fun ⟨hstate, hhold, htrigger⟩ => h.elim (fun k => k hstate) fun k => k.elim hhold fun e => by rw [htrigger] at e; cases e

/-- The critical trip hold has ended: the sheet's trigger stands. -/
def State.criticalHeld (sh : Fin 2) (s : State) : State :=
  s.setSheet sh { s.shm.get sh with criticalTime := (s.cfg.sheets.get sh).criticalHold, trigger := true }

theorem expireCritical_ends (hst : (s.shm.get sh).state = .critical) (hh : (s.cfg.sheets.get sh).criticalHold ≠ 0)
    (ht : (s.shm.get sh).trigger = false) : s.expireCritical sh = (s.criticalHeld sh).raise (sheetTrigger sh) :=
  if_pos ⟨hst, hh, ht⟩

end SheetHolds

/-- Settles O43: each of the three timers, running or not. -/
theorem sheetTimers : Obligations.SheetTimers := by
  intro sh s live c r m
  have hhold : exec (.holdExpiry sh) s = .next (s.expireHold sh) := exec_onIndex rfl live
  have htank : exec (.tankReheatExpiry sh) s = .next (s.expireTank sh) := exec_onIndex rfl live
  have hcritical : exec (.criticalHoldExpiry sh) s = .next (s.expireCritical sh) := exec_onIndex rfl live
  refine ⟨fun h => ?_, fun hst hrun => ?_, fun h => ?_, fun h => ?_, fun h => ?_, fun hst hh ht => ?_⟩
  · rw [hhold, expireHold_stands h]
  · have hends := endResurface_ends sh s
    refine ⟨s.endResurface sh, by rw [hhold, expireHold_ends hst hrun], hends.event, hends.notified, hends.others, ?_,
      fun z he hz => hends.flood z ⟨he, hz⟩⟩
    have hsheet := hends.sheet
    rw [freshSheet_of_quiet (by rw [hst]; decide)] at hsheet
    exact hsheet
  · rw [htank, expireTank_stopped h]
  · have hhra := setTank_stops_hra h
    refine ⟨s.setTank sh 0, by rw [htank, expireTank_ends h], setTank_eq sh 0 s, ?_, fun j hj => ?_, fun i he hk => ?_, fun i => ?_⟩ <;> rw [hhra]
    · rw [informTank_sheets, Table.get_modify_self]
    · rewrite [informTank_sheets, Table.get_modify_ne _ (Ne.symm hj)]
      rfl
    · exact informTank_request (s := s.setSheet sh { s.shm.get sh with tank := 0 }) false he hk
    · exact informTank_granted (s := s.setSheet sh { s.shm.get sh with tank := 0 }) false i
  · rw [hcritical, expireCritical_stands h]
  · intro p
    have hexpire := expireCritical_ends hst hh ht
    refine ⟨fun hp => ?_, fun hp hop => ?_, fun hp hop ha => ⟨_, hcritical, ?_⟩⟩
    · rw [hcritical, hexpire, raise_waiting (s := s.criticalHeld sh) (by rw [show (s.criticalHeld sh).phase = s.phase from rfl, hp]; decide)]
      rfl
    · rewrite [hcritical, hexpire, raise_loading (s := s.criticalHeld sh) hp hop]
      rfl
    · rewrite [hexpire]
      exact raise_tripped (s := s.criticalHeld sh) hp hop ha

/-! PROOF. WRITEs of an output, of the stage settings and of a remote entry (R135 to R143), and the source code of each binding (R137). -/

section OutputWrites

variable {s t : State} {tag : Byte} {i : Fin 16} {c : OutputConfig}

theorem exec_writeOutputs {record : List Byte} {n : Nat} (h : WriteReady tag 9 (BitVec.ofNat 8 i :: record) s) (hl : record.length = 11)
    (hp : parseOutput record = some (c, n)) : exec (.writeOutputs tag (BitVec.ofNat 8 i :: record)) s =
      .next (s.conclude tag (done n ((s.setCfg { s.cfg with outputs := s.cfg.outputs.set i c }).outputWritten
        ((s.cfg.outputs.get i).binding == .none) i))) := by
  have hrow : ¬ (BitVec.ofNat 8 i :: record).head? = some 16 := fun e => by
    have h16 : i.val % 256 = 16 := congrArg BitVec.toNat (Option.some.inj e)
    omega
  exact exec_record (c := .writeOutputs tag (BitVec.ofNat 8 i :: record)) (fits := lengthIs outputLength) h (if_neg hrow)
    (index_byte (by decide) i) (beq_iff_eq.mpr hl) hp

/-- The part with the new record of an output in its configuration. -/
def State.outputSet (i : Fin 16) (c : OutputConfig) (s : State) : State := s.setCfg { s.cfg with outputs := s.cfg.outputs.set i c }

theorem outputSet_get (i : Fin 16) (c : OutputConfig) (s : State) : (s.outputSet i c).cfg.outputs.get i = c := Table.get_set_self ..

theorem outputSet_source (i : Fin 16) (c : OutputConfig) (s : State) :
    (s.outputSet i c).outputSource i = s.sourceCode c.binding c.index (s.ost.outputs.get i).fixed := by
  unfold State.outputSource
  rewrite [outputSet_get]
  rfl

/-- The record of an output whose source code follows its new binding. -/
def State.resourced (i : Fin 16) (c : OutputConfig) (s : State) : OutputRun :=
  { s.ost.outputs.get i with source := s.sourceCode c.binding c.index (s.ost.outputs.get i).fixed }

/-- What a WRITE leaves of an output (R135, R137, R139 to R141). -/
def State.rewritten (wasNone : Bool) (i : Fin 16) (c : OutputConfig) (s : State) : OutputRun :=
  let o := s.resourced i c
  if c.binding = .none then { o.float with taken := none }
  else if s.phase != .run then o
  else if s.armed then
    if o.driven then ({ o with target := o.source } : OutputRun).aim c
    else ({ o with driven := true, code := 0, target := o.source } : OutputRun).aim c
  else if wasNone then ({ o with driven := true, code := 0 } : OutputRun).takeAction c o.source
  else o

theorem outputWritten_eq (wasNone : Bool) (i : Fin 16) (c : OutputConfig) (s : State) :
    (s.outputSet i c).outputWritten wasNone i = (s.outputSet i c).setOutput i (s.rewritten wasNone i c) := by
  unfold State.outputWritten State.rewritten State.resourced
  dsimp only
  rewrite [outputSet_source, outputSet_get]
  rfl

theorem rewritten_kept (wasNone : Bool) (i : Fin 16) (c : OutputConfig) (s : State) :
    (s.rewritten wasNone i c).source = s.sourceCode c.binding c.index (s.ost.outputs.get i).fixed ∧
      (s.rewritten wasNone i c).fixed = (s.ost.outputs.get i).fixed := by
  unfold State.rewritten
  dsimp only
  split
  · exact ⟨rfl, rfl⟩
  · split
    · exact ⟨rfl, rfl⟩
    · split
      · split
        · obtain ⟨hf, -, -, hs, -⟩ := OutputRun.aim_kept c { s.resourced i c with target := (s.resourced i c).source }
          exact ⟨hs, hf⟩
        · obtain ⟨hf, -, -, hs, -⟩ := OutputRun.aim_kept c
            { s.resourced i c with driven := true, code := 0, target := (s.resourced i c).source }
          exact ⟨hs, hf⟩
      · split
        · unfold OutputRun.takeAction
          split
          · split <;> exact ⟨rfl, rfl⟩
          · exact ⟨rfl, rfl⟩
          · exact ⟨rfl, rfl⟩
        · exact ⟨rfl, rfl⟩

theorem rewritten_none (h : c.binding = .none) (wasNone : Bool) :
    (s.rewritten wasNone i c).driven = false ∧ (s.rewritten wasNone i c).code = 0 := by
  unfold State.rewritten
  dsimp only
  rewrite [if_pos h]
  exact ⟨rfl, rfl⟩

theorem rewritten_waiting (h : c.binding ≠ .none) (hp : s.phase ≠ .run) (wasNone : Bool) : s.rewritten wasNone i c = s.resourced i c := by
  unfold State.rewritten
  dsimp only
  rw [if_neg h, if_pos (by simpa using hp)]

theorem aim_code {o : OutputRun} (h : c.period = 0 ∨ c.binding = .light) : (o.aim c).code = o.target := by
  unfold OutputRun.aim
  split
  · assumption
  · rfl

theorem rewritten_armed (h : c.binding ≠ .none) (hp : s.phase = .run) (ha : s.pru.state = .armed) (wasNone : Bool) :
    let v := s.sourceCode c.binding c.index (s.ost.outputs.get i).fixed
    (s.rewritten wasNone i c).driven = true ∧ (s.rewritten wasNone i c).target = v ∧
      (c.period = 0 ∨ c.binding = .light → (s.rewritten wasNone i c).code = v) := by
  unfold State.rewritten
  dsimp only
  rewrite [if_neg h, if_neg (by simp [hp]), if_pos (armed_eq ha)]
  split
  · next hd =>
    obtain ⟨-, hdriven, -, -, htarget⟩ := OutputRun.aim_kept c { s.resourced i c with target := (s.resourced i c).source }
    exact ⟨hdriven.trans hd, htarget, fun hjump => aim_code hjump⟩
  · obtain ⟨-, hdriven, -, -, htarget⟩ := OutputRun.aim_kept c
      { s.resourced i c with driven := true, code := 0, target := (s.resourced i c).source }
    exact ⟨hdriven, htarget, fun hjump => aim_code hjump⟩

theorem rewritten_stays (h : c.binding ≠ .none) (hp : s.phase = .run) (ha : s.pru.state ≠ .armed) :
    s.rewritten false i c = s.resourced i c := by
  unfold State.rewritten
  dsimp only
  rw [if_neg h, if_neg (by simp [hp]), if_neg (by rw [armed_eq_false ha]; decide), if_neg (by decide)]

theorem rewritten_bound (h : c.binding ≠ .none) (hp : s.phase = .run) (ha : s.pru.state ≠ .armed) : s.rewritten true i c =
    ({ s.resourced i c with driven := true, code := 0 } : OutputRun).takeAction c (s.resourced i c).source := by
  unfold State.rewritten
  dsimp only
  rw [if_neg h, if_neg (by simp [hp]), if_neg (by rw [armed_eq_false ha]; decide), if_pos rfl]

theorem TrippedOutput.of_source {o r : OutputRun} {v : Nat} (h : TrippedOutput c { o with source := v } r) : TrippedOutput c o r :=
  ⟨h.hold, h.safe, h.hiz⟩

theorem takeAction_light (ha : c.action = .hold) (hl : c.binding = .light) (o : OutputRun) (v : Nat) :
    (o.takeAction c v).driven = o.driven ∧ (o.takeAction c v).code = v := by
  unfold OutputRun.takeAction
  rewrite [ha]
  dsimp only
  rewrite [if_pos hl]
  exact ⟨rfl, rfl⟩

/-! ### The stage settings (R137) -/

theorem handRemote_undisturbed (i : Fin 32) (s : State) : Undisturbed i s (s.handRemote i) := by
  unfold State.handRemote
  split
  · split
    · exact .refl s
    · exact newRemoteValue_undisturbed ..
  · split
    · split
      · exact newRemoteValue_undisturbed ..
      · exact .refl s
    · exact .refl s

theorem handRemotes_outputs (s : State) : s.handRemotes.ost.outputs = s.ost.outputs := by
  unfold State.handRemotes
  exact forEach_induct (P := fun x : State => x.ost.outputs = s.ost.outputs) State.handRemote s rfl fun i x hx =>
    (handRemote_undisturbed i x).outputs.trans hx

theorem handOutput_source (i : Fin 16) (s : State) : ((s.handOutput i).ost.outputs.get i).source = s.outputSource i := by
  cases ha : s.armed with
  | true =>
    rewrite [handOutput_armed ha, setOutput_self]
    split
    · exact (OutputRun.aim_kept ..).2.2.2.1
    · rfl
  | false =>
    rewrite [handOutput_tripped ha, setOutput_self]
    split <;> rfl

theorem handOutput_other {j : Fin 16} (h : i ≠ j) (s : State) : (s.handOutput i).ost.outputs.get j = s.ost.outputs.get j :=
  Table.get_set_ne _ h _

/-- An output with a binding that is handed on has its source code current (R137). -/
theorem handOn_source {bs : List OutputBinding} (h : bs.contains (s.cfg.outputs.get i).binding = true) :
    ((s.handOn bs).ost.outputs.get i).source = s.outputSource i := by
  have hsource (x : State) (hx : x = { s with ost := { s.ost with outputs := x.ost.outputs } })
      (hf : ∀ j, (x.ost.outputs.get j).fixed = (s.ost.outputs.get j).fixed) (j : Fin 16) : x.outputSource j = s.outputSource j := by
    unfold State.outputSource
    rewrite [hf, hx]
    rfl
  have hall := forEach_all (step := fun i x => if State.outputTakes x bs i then x.handOutput i else x)
    (P := fun x => x = { s with ost := { s.ost with outputs := x.ost.outputs } } ∧
      ∀ j, (x.ost.outputs.get j).fixed = (s.ost.outputs.get j).fixed)
    (Q := fun j x => bs.contains (s.cfg.outputs.get j).binding = true → (x.ost.outputs.get j).source = s.outputSource j)
    (fun j x hx => by
      have hkept := (handOutput_event j x).2.fixed
      refine ⟨?_, fun hb => ?_, fun k hk hq => ?_⟩
      · split
        · refine ⟨?_, fun k => (hkept k).trans (hx.2 k)⟩
          unfold State.handOutput
          rw [hx.1]
        · exact hx
      · have htakes : x.outputTakes bs j = true := by
          unfold State.outputTakes
          rewrite [hx.1, hb]
          rfl
        rw [if_pos htakes, handOutput_source, hsource x hx.1 hx.2]
      · split
        · rewrite [handOutput_other (Ne.symm hk)]
          exact hq
        · exact hq) (s := s) ⟨rfl, fun _ => rfl⟩ i
  exact hall h

/-- The part with the new stage settings. -/
def State.stageSet (full : Nat) (s : State) : State := s.setCfg { s.cfg with backupFull := full }

theorem exec_writeStage {full : BitVec 16} (h : WriteReady tag 9 (16 :: u16 full.toNat) s) :
    exec (.writeStageSettings tag (u16 full.toNat)) s = .next (s.conclude tag (done (limited 1 30000 full.toNat).2
      (((s.stageSet (limited 1 30000 full.toNat).1).handOn [.backup]).handRemotes))) := by
  have hrow := exec_row (c := .writeStageSettings tag (u16 full.toNat)) (n := 17) (k := 16) (fits := lengthIs stageLength) h rfl rfl rfl
  rewrite [hrow, u16At_u16 full.isLt]
  rfl

theorem limited_full (v : Nat) : limited 1 30000 v = (max 1 (min 30000 v), if 1 ≤ v ∧ v ≤ 30000 then 0 else 1) := by
  rewrite [limited, clampedBy_eq_ite, clampNat]
  congr 2
  rewrite [eq_iff_iff]
  omega

theorem stageSet_followed (full : Nat) (s : State) : Followed s (s.stageSet full) := .of_eq rfl

theorem stageWritten_source (full : Nat) (h : (s.cfg.outputs.get i).binding = .backup) :
    ((((s.stageSet full).handOn [.backup]).handRemotes).ost.outputs.get i).source = min 4095 (s.hra.backup * 4095 / full) := by
  rw [handRemotes_outputs, handOn_source (s := s.stageSet full) (by rw [show (s.stageSet full).cfg.outputs = s.cfg.outputs from rfl, h]; rfl)]
  unfold State.outputSource
  dsimp only
  rewrite [show (s.stageSet full).cfg.outputs = s.cfg.outputs from rfl, h]
  rfl

end OutputWrites

section RemoteWrites

variable {s y : State} {tag : Byte} {i : Fin 32} {c : RemoteConfig} {q : RemoteRun} {p : Bool} {v : Int}

/-! ### Remote entries (R143) -/

theorem exec_writeRemotes {record : List Byte} {n : Nat} (h : WriteReady tag 10 (BitVec.ofNat 8 i :: record) s) (hl : record.length = 9)
    (hp : parseRemote record = some (c, n)) : exec (.writeRemotes tag (BitVec.ofNat 8 i :: record)) s =
      .next (s.conclude tag (done n ((s.setCfg { s.cfg with remotes := s.cfg.remotes.set i c }).remoteWritten
        ((s.cfg.remotes.get i).binding == .none) i))) :=
  exec_record (c := .writeRemotes tag (BitVec.ofNat 8 i :: record)) (fits := lengthIs remoteLength) h rfl
    (index_byte (by decide) i) (beq_iff_eq.mpr hl) hp

/-- The part with the new record of a remote entry in its configuration. -/
def State.remoteSet (i : Fin 32) (c : RemoteConfig) (s : State) : State := s.setCfg { s.cfg with remotes := s.cfg.remotes.set i c }

theorem remoteSet_get (i : Fin 32) (c : RemoteConfig) (s : State) : (s.remoteSet i c).cfg.remotes.get i = c := Table.get_set_self ..

theorem remoteSet_source (i : Fin 32) (c : RemoteConfig) (s : State) :
    (s.remoteSet i c).remoteSource i = s.sourceCode c.binding c.index (s.ost.remotes.get i).fixed := by
  unfold State.remoteSource
  rewrite [remoteSet_get]
  rfl

/-- An entry with the configuration `c` asks for the value that it has. -/
theorem remote_asked (hq : y.ost.remotes.get i = q) (hc : y.remoteConfig i = c) (hv : q.value = some v) (p : Bool) :
    Asked p i v q c.refresh ⟨.command, c.node, c.point, v, if p then 0 else c.priority, some i⟩ y (y.requestRemote p i) := by
  have h := requestRemote_asked (p := p) (by rw [hq, hv] : (y.ost.remotes.get i).value = some v)
  rewrite [State.commandOf, hc, hq] at h
  exact h

theorem remoteWritten_undisturbed (wasNone : Bool) (i : Fin 32) (s : State) : Undisturbed i s (s.remoteWritten wasNone i) := by
  unfold State.remoteWritten
  dsimp only
  split
  · exact setRemote_undisturbed ..
  · split
    · exact setRemote_undisturbed ..
    · split
      · exact (setRemote_undisturbed ..).trans (requestRemote_undisturbed ..)
      · split
        · exact (setRemote_undisturbed ..).trans (tripRemote_undisturbed ..)
        · exact .refl s

theorem remoteWritten_none (h : c.binding = .none) (wasNone : Bool) : (s.remoteSet i c).remoteWritten wasNone i =
    (s.remoteSet i c).setRemote i { s.ost.remotes.get i with value := none, last := none, dirty := false, timer := 0, taken := none } := by
  unfold State.remoteWritten
  dsimp only
  rewrite [remoteSet_get, if_pos h]
  rfl

theorem remoteSet_phase (h : s.phase = .run) : ¬ ((s.remoteSet i c).phase != .run) = true := by
  rewrite [show (s.remoteSet i c).phase = s.phase from rfl, h]
  decide

theorem remoteSet_phase_ne (h : s.phase ≠ .run) : ((s.remoteSet i c).phase != .run) = true := by
  rewrite [show (s.remoteSet i c).phase = s.phase from rfl]
  simpa using h

theorem remoteWritten_waiting (h : c.binding ≠ .none) (hp : s.phase ≠ .run) (wasNone : Bool) : (s.remoteSet i c).remoteWritten wasNone i =
    (s.remoteSet i c).setRemote i
      { s.ost.remotes.get i with value := some (s.sourceCode c.binding c.index (s.ost.remotes.get i).fixed : Int) } := by
  unfold State.remoteWritten
  dsimp only
  rewrite [remoteSet_get, if_neg h, if_pos (remoteSet_phase_ne hp), remoteSet_source]
  rfl

theorem remoteWritten_armed (h : c.binding ≠ .none) (hp : s.phase = .run) (ha : s.pru.state = .armed) (wasNone : Bool) :
    (s.remoteSet i c).remoteWritten wasNone i = ((s.remoteSet i c).setRemote i { s.ost.remotes.get i with
      value := some (s.sourceCode c.binding c.index (s.ost.remotes.get i).fixed : Int), timer := c.refresh }).requestRemote false i := by
  have harmed : (s.remoteSet i c).armed = true := armed_eq ha
  unfold State.remoteWritten
  dsimp only
  rewrite [remoteSet_get, if_neg h, if_neg (remoteSet_phase hp), if_pos harmed, remoteSet_source]
  rfl

theorem remoteWritten_stays (h : c.binding ≠ .none) (hp : s.phase = .run) (ha : s.pru.state ≠ .armed) :
    (s.remoteSet i c).remoteWritten false i = s.remoteSet i c := by
  have harmed : (s.remoteSet i c).armed = false := armed_eq_false ha
  unfold State.remoteWritten
  dsimp only
  rw [remoteSet_get, if_neg h, if_neg (remoteSet_phase hp), if_neg (by rw [harmed]; decide), if_neg (by decide)]

theorem remoteWritten_bound (h : c.binding ≠ .none) (hp : s.phase = .run) (ha : s.pru.state ≠ .armed) :
    (s.remoteSet i c).remoteWritten true i =
      ((s.remoteSet i c).setRemote i { s.ost.remotes.get i with timer := c.refresh }).tripRemote true i := by
  have harmed : (s.remoteSet i c).armed = false := armed_eq_false ha
  unfold State.remoteWritten
  dsimp only
  rw [remoteSet_get, if_neg h, if_neg (remoteSet_phase hp), if_neg (by rw [harmed]; decide), if_pos rfl]
  rfl

/-- An entry that leaves NONE under protect with action HOLD asks for its source code, where that is new to it or it follows no channel
(R143, R146). -/
theorem tripRemote_fresh (hb : c.binding ≠ .none) (hc : y.cfg.remotes.get i = c) (hp : y.phase = .run) (ha : c.action = .hold)
    (hnew : c.binding ≠ .light ∨ (y.ost.remotes.get i).value ≠ some (y.remoteSource i : Int)) :
    y.tripRemote true i = (y.setRemote i { y.ost.remotes.get i with
      taken := some ⟨false, c⟩, value := some (y.remoteSource i : Int) }).requestRemote false i := by
  have hsource : (y.setRemote i { y.ost.remotes.get i with taken := some ⟨false, c⟩ }).remoteSource i = y.remoteSource i :=
    setRemote_source (s := y) i (r := { y.ost.remotes.get i with taken := some ⟨false, c⟩ }) rfl i
  have hget : (y.setRemote i { y.ost.remotes.get i with taken := some ⟨false, c⟩ }).ost.remotes.get i =
      { y.ost.remotes.get i with taken := some ⟨false, c⟩ } := Table.get_set_self ..
  unfold State.tripRemote
  dsimp only
  rewrite [hc, if_neg hb, ha]
  dsimp only
  by_cases hl : c.binding = .light
  · rewrite [if_pos hl, hsource]
    unfold State.newRemoteValue
    dsimp only
    rewrite [hget, if_neg (hnew.resolve_left (not_not.mpr hl)), setRemote_twice]
    exact if_pos hp
  · rw [if_neg hl, if_pos rfl, hsource, setRemote_twice]

/-- The answer to an entry's request, as the entry and the bus show it. -/
theorem Asked.answered {e : TxEntry} {refresh : Nat} {t : State} (h : Asked p i v q refresh e y t) (hv : q.value = some v) :
    (t.ost.remotes.get i).value = some v ∧ (t.ost.remotes.get i).taken = q.taken ∧
      (q.timer = refresh → (t.ost.remotes.get i).timer = refresh) ∧
      ((y.fbc.request p e).1 = .dropped →
        t.fbc = y.fbc.count y.holdsCounts .txDrop ∧ (t.ost.remotes.get i).dirty = true ∧ (t.ost.remotes.get i).last = q.last) ∧
      ((y.fbc.request p e).1 ≠ .dropped → (t.ost.remotes.get i).dirty = false ∧ (t.ost.remotes.get i).last = some v ∧
        t.fbc = if (y.fbc.request p e).2.2 = none then (y.fbc.request p e).2.1
          else (y.fbc.request p e).2.1.count y.holdsCounts .txDrop) := by
  obtain ⟨hvalue, htaken, -⟩ := h.own_value hv
  refine ⟨hvalue, htaken, fun ht => ?_, fun hd => ?_, fun hd => ?_⟩
  · by_cases hd : (y.fbc.request p e).1 = .dropped
    · rewrite [(h.dropped hd).2, Table.get_set_self]
      exact ht
    · rewrite [h.own hd]
      rfl
  · obtain ⟨hbus, hremotes⟩ := h.dropped hd
    rewrite [hremotes, Table.get_set_self]
    exact ⟨hbus, rfl, rfl⟩
  · rewrite [h.own hd]
    refine ⟨rfl, rfl, ?_⟩
    cases hw : (y.fbc.request p e).2.2 with
    | none => exact (h.kept hd hw).1
    | some w => exact (h.displaces hd w hw).1

/-- The entry whose binding leaves NONE under protect, with its new refresh period, before its action. -/
def State.remoteRefreshed (i : Fin 32) (c : RemoteConfig) (s : State) : State :=
  (s.remoteSet i c).setRemote i { s.ost.remotes.get i with timer := c.refresh }

theorem remoteRefreshed_get (i : Fin 32) (c : RemoteConfig) (s : State) :
    (s.remoteRefreshed i c).ost.remotes.get i = { s.ost.remotes.get i with timer := c.refresh } := Table.get_set_self ..

theorem remoteRefreshed_config (i : Fin 32) (c : RemoteConfig) (s : State) : (s.remoteRefreshed i c).cfg.remotes.get i = c :=
  Table.get_set_self ..

theorem remoteRefreshed_source (i : Fin 32) (c : RemoteConfig) (s : State) :
    (s.remoteRefreshed i c).remoteSource i = s.sourceCode c.binding c.index (s.ost.remotes.get i).fixed := by
  unfold State.remoteSource
  rewrite [remoteRefreshed_get, remoteRefreshed_config]
  rfl

/-- Its action SAFE: a protect request for the safe value. -/
theorem remoteRefreshed_safe (hb : c.binding ≠ .none) (ha : c.action = .safe) :
    Asked true i (c.safe : Int) { s.ost.remotes.get i with timer := c.refresh, value := some c.safe, taken := some ⟨true, c⟩ } c.refresh
      ⟨.command, c.node, c.point, c.safe, 0, some i⟩
      ((s.remoteRefreshed i c).setRemote i { s.ost.remotes.get i with timer := c.refresh, value := some c.safe, taken := some ⟨true, c⟩ })
      ((s.remoteRefreshed i c).tripRemote true i) := by
  have hconfig := remoteRefreshed_config i c s
  have htrip := tripRemote_safe (s := s.remoteRefreshed i c) (i := i) (by rwa [hconfig]) (by rwa [hconfig]) true
  dsimp only at htrip
  rewrite [hconfig, remoteRefreshed_get] at htrip
  rewrite [htrip]
  exact remote_asked (Table.get_set_self ..) (by simp only [State.remoteConfig, State.setRemote, Table.get_set_self]) rfl true

/-- Its action HOLD: an ordinary request for its source code. -/
theorem remoteRefreshed_hold (hb : c.binding ≠ .none) (hp : s.phase = .run) (ha : c.action = .hold)
    (hnew : c.binding ≠ .light ∨
      (s.ost.remotes.get i).value ≠ some (s.sourceCode c.binding c.index (s.ost.remotes.get i).fixed : Int)) :
    let v : Int := s.sourceCode c.binding c.index (s.ost.remotes.get i).fixed
    Asked false i v { s.ost.remotes.get i with timer := c.refresh, taken := some ⟨false, c⟩, value := some v } c.refresh
      ⟨.command, c.node, c.point, v, c.priority, some i⟩
      ((s.remoteRefreshed i c).setRemote i { s.ost.remotes.get i with timer := c.refresh, taken := some ⟨false, c⟩, value := some v })
      ((s.remoteRefreshed i c).tripRemote true i) := by
  intro v
  have htrip := tripRemote_fresh (y := s.remoteRefreshed i c) (i := i) hb (remoteRefreshed_config i c s) hp ha
    (by rw [remoteRefreshed_get, remoteRefreshed_source]; exact hnew)
  rewrite [remoteRefreshed_get, remoteRefreshed_source] at htrip
  rewrite [htrip]
  exact remote_asked (Table.get_set_self ..) (by simp only [State.remoteConfig, State.setRemote, Table.get_set_self]) rfl false

end RemoteWrites

/-- Settles O20: the output by its binding, phase and protect state; the stage settings; the entry by the same; and the source codes. -/
theorem outputWritesTakeEffect : Obligations.OutputWritesTakeEffect := by
  refine ⟨fun tag i record c n s h hl hp => ?output, fun tag full s h => ?stage, fun tag i record c n s h hl hp => ?remote, fun s fixed => ?codes,
    parseOutput_fields, parseRemote_fields⟩
  case output =>
    intro written o
    have hexec := exec_writeOutputs h hl hp
    have hwritten := outputWritten_eq ((s.cfg.outputs.get i).binding == .none) i c s
    refine ⟨(s.outputSet i c).setOutput i (s.rewritten ((s.cfg.outputs.get i).binding == .none) i c), ?_, ?_⟩
    · rewrite [hexec, ← hwritten]
      rfl
    · rewrite [setOutput_self]
      obtain ⟨hsource, hfixed⟩ := rewritten_kept ((s.cfg.outputs.get i).binding == .none) i c s
      refine ⟨rfl, hsource, hfixed, fun hb => rewritten_none hb _, fun hb hrun ha => rewritten_armed hb hrun ha _, fun hb hrun => ?_,
        fun hb hrun ha => ⟨fun hold => ?_, fun hold => ?_⟩⟩
      · rewrite [rewritten_waiting hb hrun]
        rfl
      · rewrite [beq_eq_false_iff_ne.mpr hold, rewritten_stays hb hrun ha]
        rfl
      · rewrite [hold, show (OutputBinding.none == OutputBinding.none) = true from rfl, rewritten_bound hb hrun ha]
        exact ⟨((takeAction_tripped c _ _).tripped).of_source, fun hact hlight => takeAction_light hact hlight ..⟩
  case stage =>
    have hev := (handOn_event [.backup] (s.stageSet (max 1 (min 30000 full.toNat)))).1.trans
      (handRemotes_event ((s.stageSet (max 1 (min 30000 full.toNat))).handOn [.backup])).1
    have hfollow := (stageSet_followed (max 1 (min 30000 full.toNat)) s).trans ((handOn_event [.backup] (s.stageSet (max 1 (min 30000 full.toNat)))).2.trans
      (handRemotes_event ((s.stageSet (max 1 (min 30000 full.toNat))).handOn [.backup])).2)
    refine ⟨((s.stageSet (max 1 (min 30000 full.toNat))).handOn [.backup]).handRemotes, ?_, hev, hfollow, fun i hb => stageWritten_source _ hb⟩
    rw [exec_writeStage h, limited_full, conclude_counted]
  case remote =>
    intro written r
    have hexec := exec_writeRemotes h hl hp
    refine ⟨(s.remoteSet i c).remoteWritten ((s.cfg.remotes.get i).binding == .none) i, hexec, remoteWritten_event ..,
      (remoteWritten_undisturbed ..).outputs, fun hb => ?_, fun hb hrun => ?_, fun hb hrun ha ht => ?_, fun hb hrun ha => ⟨fun hold => ?_,
      fun hold => ?_⟩⟩
    · rewrite [remoteWritten_none hb]
      exact ⟨rfl, rfl⟩
    · rewrite [remoteWritten_waiting hb hrun]
      exact ⟨rfl, rfl⟩
    · intro v answer
      have hask := setRemote_asked (p := false) (s := s.remoteSet i c) (i := i) (v := v)
        (r := { r with value := some v, timer := c.refresh }) rfl rfl
      have hconfig : (s.remoteSet i c).remoteConfig i = c := by
        unfold State.remoteConfig
        rewrite [show (s.remoteSet i c).ost = s.ost from rfl, ht]
        exact remoteSet_get ..
      rewrite [State.commandOf, hconfig] at hask
      rewrite [remoteWritten_armed hb hrun ha]
      exact ⟨fun hd => hask.dropped hd, fun hd => hask.kept hd (request_false_displaced ..)⟩
    · rewrite [beq_eq_false_iff_ne.mpr hold, remoteWritten_stays hb hrun ha]
      exact ⟨rfl, rfl⟩
    · rewrite [hold, show (OutputBinding.none == OutputBinding.none) = true from rfl, remoteWritten_bound hb hrun ha]
      refine ⟨fun hact => ?_, fun hact hnew => ?_⟩
      · intro answer
        obtain ⟨hvalue, htaken, htimer, hdropped, hkept⟩ := (remoteRefreshed_safe (s := s) hb hact).answered rfl
        exact ⟨hvalue, htaken, htimer rfl, hdropped, hkept⟩
      · intro answer
        obtain ⟨hvalue, htaken, htimer, hdropped, hkept⟩ := (remoteRefreshed_hold hb hrun hact hnew).answered rfl
        refine ⟨hvalue, htaken, htimer rfl, hdropped, fun hd => ?_⟩
        obtain ⟨hclean, hlast, hbus⟩ := hkept hd
        exact ⟨hbus.trans (if_pos (request_false_displaced ..)), hclean, hlast⟩
  case codes =>
    refine ⟨fun k => ⟨rfl, rfl, rfl⟩, fun i => ?_, fun i => ?_, fun z => ⟨?_, ?_⟩, fun sh => ?_⟩ <;> simp only [State.sourceCode, index_val]

/-! PROOF. A WRITE of a zone: its record, its one notice, and the limiting margin, state and demand of an evaluation (R66 to R77, R81). -/

section ZoneFigures

variable {s : State} {c : ZoneConfig} {flood : Bool}

/-! ### The state of a margin (R74 to R76) -/

/-- By how much a flood shifts the thresholds (R74). -/
def ZoneConfig.shift (c : ZoneConfig) (flood : Bool) : Int := if flood = true then c.flood else 0

/-- The level of a margin against thresholds raised by `extra`, in the words of R76. -/
def LevelIs (c : ZoneConfig) (flood : Bool) (m extra : Int) : ZoneState → Prop
  | .fog => m ≤ extra
  | .risk => extra < m ∧ m ≤ c.risk + c.shift flood + extra
  | .watch => c.risk + c.shift flood + extra < m ∧ extra < m ∧
      m ≤ c.watch + c.shift flood + extra
  | .clear => c.watch + c.shift flood + extra < m
  | .unknown => False

theorem thresholds_eq (c : ZoneConfig) (flood : Bool) : riskThreshold c flood = c.risk + c.shift flood ∧
    watchThreshold c flood = c.watch + c.shift flood ∧ 0 ≤ c.shift flood := by
  unfold riskThreshold watchThreshold ZoneConfig.shift
  cases flood <;> simp

theorem zoneLevel_of_levelIs (hc : c.risk < c.watch) {m : Int} {extra : Nat} {x : ZoneState} (h : LevelIs c flood m extra x) :
    zoneLevel c flood extra m = x := by
  obtain ⟨hrisk, hwatch, hshift⟩ := thresholds_eq c flood
  unfold zoneLevel
  rw [hrisk, hwatch]
  cases x with
  | fog => exact if_pos h
  | risk =>
    have hm : (extra : Int) < m ∧ m ≤ c.risk + c.shift flood + extra := h
    rw [if_neg (by omega), if_pos hm.2]
  | watch =>
    have hm : c.risk + c.shift flood + extra < m ∧ (extra : Int) < m ∧ m ≤ c.watch + c.shift flood + extra := h
    rw [if_neg (by omega), if_neg (by omega), if_pos hm.2.2]
  | clear =>
    have hm : (c.watch : Int) + c.shift flood + extra < m := h
    rw [if_neg (by omega), if_neg (by omega), if_neg (by omega)]
  | unknown => exact h.elim

theorem zoneLevel_ne_unknown (extra : Nat) (m : Int) : zoneLevel c flood extra m ≠ .unknown := by
  unfold zoneLevel
  split
  · decide
  · split
    · decide
    · split <;> decide

/-- A greater margin is never more dangerous. -/
theorem zoneLevel_antitone (extra : Nat) {m k : Int} (h : m ≤ k) : (zoneLevel c flood extra k).rank ≤ (zoneLevel c flood extra m).rank := by
  have hall (x : ZoneState) : x.rank ≤ 3 := by cases x <;> decide
  unfold zoneLevel
  by_cases h1 : m ≤ extra
  · rewrite [if_pos h1]
    exact hall _
  · rewrite [if_neg h1, if_neg (by omega : ¬ k ≤ extra)]
    by_cases h2 : m ≤ riskThreshold c flood + extra
    · rewrite [if_pos h2]
      split
      · exact Nat.le_refl _
      · split <;> decide
    · rewrite [if_neg h2, if_neg (by omega : ¬ k ≤ riskThreshold c flood + extra)]
      by_cases h3 : m ≤ watchThreshold c flood + extra
      · rewrite [if_pos h3]
        split <;> decide
      · rw [if_neg h3, if_neg (by omega : ¬ k ≤ watchThreshold c flood + extra)]

/-- Raised thresholds are reached by more margins: the down-level is at least as dangerous as the up-level. -/
theorem zoneLevel_raised (a : Nat) (m : Int) : (zoneLevel c flood 0 m).rank ≤ (zoneLevel c flood a m).rank := by
  have h : zoneLevel c flood a m = zoneLevel c flood 0 (m - a) := by
    unfold zoneLevel
    congr 1
    · rewrite [eq_iff_iff]
      omega
    · congr 1
      · rewrite [eq_iff_iff]
        omega
      · congr 1
        rewrite [eq_iff_iff]
        omega
  rewrite [h]
  exact zoneLevel_antitone 0 (by omega)

/-- The rank of the new state lies where its two levels leave it (R76). -/
theorem nextZoneState_rank (c : ZoneConfig) (flood : Bool) (present : ZoneState) (m : Int) (h : present ≠ .unknown) :
    (nextZoneState c flood present m).rank =
      if present.rank < (zoneLevel c flood 0 m).rank then (zoneLevel c flood 0 m).rank
      else if (zoneLevel c flood c.hysteresis m).rank < present.rank then (zoneLevel c flood c.hysteresis m).rank else present.rank := by
  unfold nextZoneState
  dsimp only
  rewrite [if_neg h]
  split
  · rfl
  · split <;> rfl

theorem nextZoneState_ne_unknown (c : ZoneConfig) (flood : Bool) (present : ZoneState) (m : Int) :
    nextZoneState c flood present m ≠ .unknown := by
  unfold nextZoneState
  dsimp only
  split
  · exact zoneLevel_ne_unknown _ _
  · split
    · exact zoneLevel_ne_unknown _ _
    · split
      · exact zoneLevel_ne_unknown _ _
      · assumption

theorem nextZoneState_antitone (present : ZoneState) {m k : Int} (h : m ≤ k) :
    (nextZoneState c flood present k).rank ≤ (nextZoneState c flood present m).rank := by
  have hup := zoneLevel_antitone (c := c) (flood := flood) 0 h
  have hdown := zoneLevel_antitone (c := c) (flood := flood) c.hysteresis h
  by_cases hp : present = .unknown
  · simp only [nextZoneState, hp, if_true]
    exact hup
  · rewrite [nextZoneState_rank _ _ _ _ hp, nextZoneState_rank _ _ _ _ hp]
    generalize (zoneLevel c flood 0 k).rank = a at *
    generalize (zoneLevel c flood 0 m).rank = b at *
    generalize (zoneLevel c flood c.hysteresis k).rank = d at *
    generalize (zoneLevel c flood c.hysteresis m).rank = e at *
    split_ifs <;> omega

/-- The danger order as a list, with each state's place in it. -/
theorem idxOf_rank {x : ZoneState} (h : x ≠ .unknown) : [ZoneState.clear, .watch, .risk, .fog].idxOf x = x.rank :=
  match x with
  | .unknown => absurd rfl h
  | .clear => rfl
  | .watch => rfl
  | .risk => rfl
  | .fog => rfl

theorem ne_unknown_of_mem {x : ZoneState} (h : x ∈ [ZoneState.clear, .watch, .risk, .fog]) : x ≠ .unknown := by
  rintro rfl
  simp at h

/-! ### Demand and evaluation (R73, R77) -/

theorem zoneDemand_flooded (state : ZoneState) (base : Nat) :
    zoneDemand c state true base = if zoneDemand c state false base < 700 then 700 else zoneDemand c state false base := by
  have h (d : Nat) : max d 700 = if d < 700 then 700 else d := by split <;> omega
  exact h _

/-- The fields of an evaluation with both air inputs (R70, R73). -/
theorem evaluatedZone_some {d : Int × Bool} (h : s.zoneDew c = some d) (present : ZoneState) :
    (s.evaluatedZone c flood present).floorFlag = d.2 ∧
      (s.evaluatedZone c flood present).fogMargin = (s.zoneInput .nearIceAir c.nearIce).map (· - d.1) ∧
      (s.evaluatedZone c flood present).dripMargin = (s.zoneInput .ceilingTemp c.ceiling).map (· - d.1) := by
  unfold State.evaluatedZone
  rewrite [h]
  dsimp only
  refine ⟨rfl, ?_, ?_⟩
  · cases s.zoneInput .nearIceAir c.nearIce <;> rfl
  · cases s.zoneInput .ceilingTemp c.ceiling <;> rfl

theorem evaluatedZone_none (h : s.zoneDew c = none) (present : ZoneState) :
    (s.evaluatedZone c flood present).floorFlag = false ∧ (s.evaluatedZone c flood present).fogMargin = none ∧
      (s.evaluatedZone c flood present).dripMargin = none := by
  unfold State.evaluatedZone
  rewrite [h]
  exact ⟨rfl, rfl, rfl⟩

theorem evaluatedZone_state (present : ZoneState) :
    ((s.evaluatedZone c flood present).margin = none → (s.evaluatedZone c flood present).state = .unknown) ∧
    (∀ x, (s.evaluatedZone c flood present).margin = some x → (s.evaluatedZone c flood present).state = nextZoneState c flood present x) := by
  have hstate : (s.evaluatedZone c flood present).state = match (s.evaluatedZone c flood present).margin with
      | some x => nextZoneState c flood present x
      | none => .unknown := by
    unfold State.evaluatedZone
    dsimp only
    cases limitingMargin _ _ <;> rfl
  refine ⟨fun h => ?_, fun x h => ?_⟩ <;> rw [hstate, h]

end ZoneFigures

section ZoneWrites

variable {s t : State} {tag : Byte} {i : Fin 4} {c : ZoneConfig}

/-! ### The WRITE (R66 to R68) -/

theorem exec_writeZones {record : List Byte} {n : Nat} (h : WriteReady tag 5 (BitVec.ofNat 8 i :: record) s) (hl : record.length = 20)
    (hp : parseZone record = some (c, n)) : exec (.writeZones tag (BitVec.ofNat 8 i :: record)) s =
      .next (s.conclude tag (if c.watch ≤ c.risk then .error .badValue
        else done n ((s.setCfg { s.cfg with zones := s.cfg.zones.set i c }).zoneWritten (s.cfg.zones.get i) i))) :=
  exec_record (c := .writeZones tag (BitVec.ofNat 8 i :: record)) (fits := lengthIs zoneLength) h rfl (index_byte (by decide) i)
    (beq_iff_eq.mpr hl) hp

/-- The part with the new record of a zone in its configuration. -/
def State.zoneSet (i : Fin 4) (c : ZoneConfig) (s : State) : State := s.setCfg { s.cfg with zones := s.cfg.zones.set i c }

theorem zoneSet_get (i : Fin 4) (c : ZoneConfig) (s : State) : (s.zoneSet i c).cfg.zones.get i = c := Table.get_set_self ..

theorem zoneSet_evaluated (i : Fin 4) (c : ZoneConfig) (s : State) (flood : Bool) (present : ZoneState) :
    (s.zoneSet i c).evaluatedZone c flood present = s.evaluatedZone c flood present := rfl

/-- The new record of a zone whose configuration is replaced. -/
def State.zoneRun (i : Fin 4) (c : ZoneConfig) (s : State) : ZoneRun := s.rewrittenZone (s.cfg.zones.get i) c (s.cdm.get i)

theorem flatMap_of_others {α β : Type} {f : α → List β} {l : List α} {a : α} (hl : l.Nodup) (ha : a ∈ l) (h : ∀ b ∈ l, b ≠ a → f b = []) :
    l.flatMap f = f a := by
  induction l with
  | nil => exact absurd ha List.not_mem_nil
  | cons b l ih =>
    obtain ⟨hb, hl⟩ := List.nodup_cons.mp hl
    rewrite [List.flatMap_cons]
    rcases List.mem_cons.mp ha with rfl | ha
    · have hrest : l.flatMap f = [] := List.flatMap_eq_nil_iff.mpr fun x hx => h x (List.mem_cons_of_mem _ hx) fun e => hb (e ▸ hx)
      rw [hrest, List.append_nil]
    · rw [h b List.mem_cons_self fun e => hb (e ▸ ha), ih hl ha fun x hx => h x (List.mem_cons_of_mem _ hx), List.nil_append]

/-- Where only one zone may have changed, its notice is the only one. -/
theorem zoneChanges_of_others (h : ∀ j, j ≠ i → t.cdm.get j = s.cdm.get j) : zoneChanges s t = zoneChange s t i :=
  flatMap_of_others (List.nodup_finRange 4) (List.mem_finRange i) fun j _ hj => zoneChange_of_eq (h j hj)

theorem sheetChange_of_state {sh : Fin 2} (h : (t.shm.get sh).state = (s.shm.get sh).state) : sheetChange s t sh = [] := by
  simp [sheetChange, Offer.when, h]

theorem replaceZone_cdm (config : Bool) (z : Fin 4) (r : ZoneRun) (s : State) : (s.replaceZone config z r).state.cdm = s.cdm.set z r :=
  (handZone_cdm ..).trans (putZone_cdm ..)

theorem replaceZone_shm (config : Bool) (z : Fin 4) (r : ZoneRun) (s : State) : (s.replaceZone config z r).state.shm = s.shm :=
  (handZone_shm ..).trans (noticeIf_event ..).shm

theorem replaceZone_announced (config : Bool) (z : Fin 4) (r : ZoneRun) (s : State) :
    Announced (Offer.when ((s.cdm.get z).state ≠ r.state) .zone z (codeOf zoneStates r.state)) s (s.replaceZone config z r).state := by
  have h : Announced _ s (s.replaceZone config z r).state := (putZone_announced z r s).trans (handZone_quiet ..)
  rwa [List.append_nil] at h

/-- What a new record of one zone leaves, once its passes are done. -/
theorem replaceZone_finish (config : Bool) (z : Fin 4) (r : ZoneRun) (s : State) :
    (s.replaceZone config z r).finish.cdm = s.cdm.set z r ∧ StatesNotified s (s.replaceZone config z r).finish := by
  have hcdm := replaceZone_cdm config z r s
  have hshm := replaceZone_shm config z r s
  have hheat := (s.replaceZone config z r).finish_heat
  have hann := (replaceZone_announced config z r s).trans (s.replaceZone config z r).finish_quiet
  generalize (s.replaceZone config z r).finish = t at *
  have htable : t.cdm = s.cdm.set z r := hheat.cdm.trans hcdm
  refine ⟨htable, Announced.statesNotified ?_⟩
  have hzones : zoneChanges s t = zoneChange s t z := zoneChanges_of_others fun j hj => by rw [htable, Table.get_set_ne _ (Ne.symm hj)]
  have hstates (j : Fin 2) : (t.shm.get j).state = (s.shm.get j).state := by rw [hheat.shm j, hshm]
  have hsheets : sheetChanges s t = [] := (sheetChanges_of_others (sh := 0) fun j _ => hstates j).trans (sheetChange_of_state (hstates 0))
  rewrite [hzones, hsheets, zoneChange, htable, Table.get_set_self]
  rwa [List.append_nil] at hann ⊢

theorem zoneWritten_eq (i : Fin 4) (c : ZoneConfig) (s : State) : ∃ flags : Bool,
    (s.zoneSet i c).zoneWritten (s.cfg.zones.get i) i = ((s.zoneSet i c).replaceZone flags i (s.zoneRun i c)).finish := by
  refine ⟨(s.cfg.zones.get i).enabled != c.enabled || (s.cfg.zones.get i).servedRegen != c.servedRegen ||
    (s.cfg.zones.get i).servedCeiling != c.servedCeiling, ?_⟩
  unfold State.zoneWritten
  dsimp only
  rewrite [zoneSet_get]
  rfl

end ZoneWrites

/-- Settles O17: the record is refused, or the zone is evaluated on it; and what an evaluation gives. -/
theorem zoneWriteTakesEffect : Obligations.ZoneWriteTakesEffect := by
  refine ⟨fun tag i record c n s h hl hp => ⟨fun hc => ?refused, fun hc => ?written⟩, fun fog drip => ⟨rfl, rfl, rfl, rfl⟩,
    fun c flood m hc => ?levels, fun c state flood base => ?demand, parseZone_fields⟩
  case refused => rw [exec_writeZones h hl hp, if_pos hc, conclude_refused]
  case written =>
    obtain ⟨flags, heq⟩ := zoneWritten_eq i c s
    obtain ⟨hcdm, hnotified⟩ := replaceZone_finish flags i (s.zoneRun i c) (s.zoneSet i c)
    have hevent : ZoneEvent (s.zoneSet i c) ((s.zoneSet i c).replaceZone flags i (s.zoneRun i c)).finish :=
      (replaceZone_zone flags i (s.zoneRun i c) (s.zoneSet i c)).trans (Triggered.finish_heat _).zone
    generalize ((s.zoneSet i c).replaceZone flags i (s.zoneRun i c)).finish = t at *
    have hget : t.cdm.get i = s.zoneRun i c := by rw [hcdm, Table.get_set_self]
    refine ⟨t, ?_, hevent, ⟨hnotified.sheets, hnotified.zones⟩, fun j hj => ?_, fun he => ?_, fun he => ?_⟩
    · rw [exec_writeZones h hl hp, if_neg (by omega), ← State.zoneSet, heq, conclude_counted]
    · rewrite [hcdm, Table.get_set_ne _ (Ne.symm hj)]
      rfl
    · rw [hget, State.zoneRun, State.rewrittenZone, if_neg (by rw [he]; decide)]
    · have hrun : s.zoneRun i c = s.evaluatedZone c (s.floodOf c) (if (s.cfg.zones.get i).enabled then (s.cdm.get i).state else .unknown) :=
        if_pos he
      intro z present near ceiling
      have hz : z = s.evaluatedZone c (s.floodOf c) present := hget.trans hrun
      rewrite [hz]
      exact ⟨rfl, rfl, fun d hd => evaluatedZone_some hd present, fun hd => evaluatedZone_none hd present, rfl, rfl,
        (evaluatedZone_state present).1, (evaluatedZone_state present).2, rfl, rfl⟩
  case levels =>
    intro shift order isLevel up hup down hdown hlup hldown
    have hlevelup : zoneLevel c flood 0 m = up := zoneLevel_of_levelIs hc (extra := 0) (by cases up <;> exact hlup)
    have hleveldown : zoneLevel c flood c.hysteresis m = down := zoneLevel_of_levelIs hc (extra := c.hysteresis) (by cases down <;> exact hldown)
    have hraised := zoneLevel_raised (c := c) (flood := flood) c.hysteresis m
    have hiup := idxOf_rank (ne_unknown_of_mem hup)
    have hidown := idxOf_rank (ne_unknown_of_mem hdown)
    rewrite [hlevelup, hleveldown] at hraised
    refine ⟨?_, fun present hpresent => ?_, fun present k hk => ?_⟩
    · simp only [nextZoneState, hlevelup, if_true]
    · have hne := ne_unknown_of_mem hpresent
      have hi := idxOf_rank hne
      rewrite [hi, hiup, hidown]
      simp only [nextZoneState, if_neg hne, hlevelup, hleveldown]
      refine ⟨fun hlt => if_pos hlt, fun hlt => ?_, fun h1 h2 => ?_⟩
      · rw [if_neg (by omega), if_pos hlt]
      · rw [if_neg (by omega), if_neg (by omega)]
    · rewrite [idxOf_rank (nextZoneState_ne_unknown _ _ _ _), idxOf_rank (nextZoneState_ne_unknown _ _ _ _)]
      exact nextZoneState_antitone present hk
  case demand =>
    intro demand
    have hdry : zoneDemand c state false base = demand := by cases state <;> rfl
    refine ⟨fun hf => by rw [hf, hdry], fun hf => ?_⟩
    rw [hf, zoneDemand_flooded, hdry]

/-! PROOF. A WRITE of a sheet: its record, its notices, and the ice temperature, states and budget of evaluations (R45 to R52, R63, R81). -/

section QuietTriggers

variable {s t : State} {ns : List Offer}

/-! ### Raised triggers report no state of a sheet or zone -/

theorem passTrigger_quiet (s : State) : Announced [] s s.passTrigger := by
  unfold State.passTrigger
  split
  · exact passWith_quiet true s
  · exact .refl s

theorem protectNotice_quiet (subject : Nat) (s : State) : Announced [] s (s.protectNotice subject) :=
  noticeIf_quiet (k := .protect) (by decide) true ..

theorem heldTest_quiet (s : State) : Announced [] s s.heldTest := by
  unfold State.heldTest
  split
  · exact Announced.quiet (t := s.setPru { s.pru with state := .held }) (.of_lnk rfl rfl rfl) (protectNotice_quiet ..)
  · exact .refl s

theorem tripBegun_quiet (ts : List Trigger) (s : State) : Announced [] s (s.tripBegun ts) :=
  foldl_induct (P := fun x => Announced [] s x) _ ts _ (.of_lnk rfl rfl rfl) fun _ _ hx => hx.quiet (protectNotice_quiet ..)

theorem captureAtTrip_quiet (ts : List Trigger) (s : State) : Announced [] s (s.captureAtTrip ts) := by
  unfold State.captureAtTrip
  split
  · exact .refl s
  · exact .of_lnk rfl rfl rfl

theorem tripChannels_quiet (s : State) : Announced [] s s.tripChannels := by
  have hrelit : Announced [] s s.effectsStopped :=
    Announced.quiet (t := s.mapChannels fun _ r => r.stopEffect) (.of_lnk rfl rfl rfl) (relight_quiet ..)
  have hrest := tripChannels_rest s
  have hcfg : s.tripChannels.cfg = s.cfg := by rw [hrest]
  have hscu : s.tripChannels.scu = s.scu := by rw [hrest]
  have hlnk : s.tripChannels.lnk = s.effectsStopped.lnk := by rw [hrest]
  exact hrelit.quiet (.of_lnk (hcfg.trans hrelit.cfg.symm) (hscu.trans hrelit.scu.symm) hlnk)

theorem tripOutputs_quiet (s : State) : Announced [] s s.tripOutputs := by
  have houtputs : Announced [] s s.outputsTripped := by
    rewrite [outputsTripped_rest]
    exact .of_lnk rfl rfl rfl
  have hevent := remotesTripped_event s.outputsTripped
  exact houtputs.quiet (.of_lnk hevent.inner.setup.cfg hevent.inner.setup.scu (remotesTripped_lnk _))

theorem setHold_quiet (hold : Bool) (s : State) : Announced [] s (s.setHold hold) :=
  Announced.quiet (t := { s with hra := { s.hra with hold := hold } }) (.of_lnk rfl rfl rfl) (passTrigger_quiet _)

/-- The notices of a trip are of other kinds (R170). -/
theorem trip_quiet (ts : List Trigger) (s : State) : Announced [] s (s.trip ts) := by
  rewrite [trip_eq]
  exact (tripBegun_quiet ts s).quiet ((captureAtTrip_quiet ts _).quiet ((tripChannels_quiet _).quiet ((tripOutputs_quiet _).quiet
    ((setHold_quiet true _).quiet (heldTest_quiet _)))))

theorem raise_quiet (x : Trigger) (s : State) : Announced [] s (s.raise x) := by
  unfold State.raise
  split
  · exact .refl s
  · split
    · exact .of_lnk rfl rfl rfl
    · split
      · exact trip_quiet [x] s
      · split
        · exact .refl s
        · exact Announced.quiet (t := s.setPru { s.pru with triggers := insertTrigger x s.pru.triggers }) (.of_lnk rfl rfl rfl)
            (protectNotice_quiet ..)

theorem pointsRaised_quiet (n : Nat) (s : State) : Announced [] s (s.pointsRaised n) := by
  unfold State.pointsRaised
  split
  · exact raise_quiet .point s
  · exact .refl s

/-- An event whose reported states are those that changed, sheets and zones each in order. -/
theorem Announced.states (h : Announced ns s t) (hsheets : ns.filter (fun n => [NoticeKind.sheet].contains n.1) = sheetChanges s t)
    (hzones : ns.filter (fun n => [NoticeKind.zone].contains n.1) = zoneChanges s t) : StatesNotified s t := by
  constructor
  · rewrite [← hsheets]
    exact h.notified fun n hn => by simp_all [Offer.ofState]
  · rewrite [← hzones]
    exact h.notified fun n hn => by simp_all [Offer.ofState]

theorem sheetChanges_filter : (sheetChanges s t).filter (fun n => [NoticeKind.sheet].contains n.1) = sheetChanges s t ∧
    (sheetChanges s t).filter (fun n => [NoticeKind.zone].contains n.1) = [] :=
  ⟨List.filter_eq_self.mpr fun n hn => by simp [kind_of_mem_sheetChanges hn],
    List.filter_eq_nil_iff.mpr fun n hn => by simp [kind_of_mem_sheetChanges hn]⟩

theorem zoneChanges_filter : (zoneChanges s t).filter (fun n => [NoticeKind.zone].contains n.1) = zoneChanges s t ∧
    (zoneChanges s t).filter (fun n => [NoticeKind.sheet].contains n.1) = [] :=
  ⟨List.filter_eq_self.mpr fun n hn => by simp [kind_of_mem_zoneChanges hn],
    List.filter_eq_nil_iff.mpr fun n hn => by simp [kind_of_mem_zoneChanges hn]⟩

theorem zoneChanges_congr {a b : State} (hs : s.cdm = a.cdm) (ht : t.cdm = b.cdm) : zoneChanges s t = zoneChanges a b := by
  unfold zoneChanges
  rw [hs, ht]

/-- Sheets first, then zones: the other order of `Announced.statesNotified`. -/
theorem Announced.sheetsFirst (h : Announced (sheetChanges s t ++ zoneChanges s t) s t) : StatesNotified s t :=
  h.states (by rw [List.filter_append, sheetChanges_filter.1, zoneChanges_filter.2, List.append_nil])
    (by rw [List.filter_append, sheetChanges_filter.2, zoneChanges_filter.1, List.nil_append])

end QuietTriggers

section SheetWrites

variable {s t : State} {tag : Byte} {i : Fin 2} {c : SheetConfig}

/-! ### The effect of the WRITE (R46, R61, R62) -/

theorem exec_writeSheets {record : List Byte} {n : Nat} (h : WriteReady tag 4 (BitVec.ofNat 8 i :: record) s) (hl : sheetLengthOk record = true)
    (hp : parseSheet record = some (c, n)) : exec (.writeSheets tag (BitVec.ofNat 8 i :: record)) s =
      .next (s.conclude tag (if c.temperaturesBad then .error .badValue
        else done n ((s.setCfg { s.cfg with sheets := s.cfg.sheets.set i c }).sheetWritten i))) :=
  exec_record (c := .writeSheets tag (BitVec.ofNat 8 i :: record)) (fits := sheetLengthOk) h rfl (index_byte (by decide) i) hl hp

theorem temperaturesBad_iff (c : SheetConfig) : c.temperaturesBad = true ↔ c.tSoft ≤ c.tSet ∨ c.tLimit ≤ c.tSoft := by
  simp [SheetConfig.temperaturesBad]

/-- The part with the new record of a sheet in its configuration. -/
def State.sheetSet (i : Fin 2) (c : SheetConfig) (s : State) : State := s.setCfg { s.cfg with sheets := s.cfg.sheets.set i c }

theorem sheetSet_get (i : Fin 2) (c : SheetConfig) (s : State) : (s.sheetSet i c).cfg.sheets.get i = c := Table.get_set_self ..

theorem sheetSet_temp (i : Fin 2) (c d : SheetConfig) (s : State) : (s.sheetSet i c).sheetTemp d = s.sheetTemp d := rfl

/-- Only the end of RESURFACE reaches the zones; it dries those linked to the sheet (R74). -/
theorem sheetRewritten_reports (sh : Fin 2) (s : State) :
    (s.sheetRewritten sh).state.shm = s.shm.set sh (s.rewrittenSheet sh) ∧
    Announced (Offer.when ((s.shm.get sh).state ≠ (s.rewrittenSheet sh).state) .sheet sh (codeOf sheetStates (s.rewrittenSheet sh).state)
      ++ zoneChanges s (s.sheetRewritten sh).state) s (s.sheetRewritten sh).state := by
  have hput := putSheet_announced false sh (s.rewrittenSheet sh) s
  have hshm := putSheet_shm false sh (s.rewrittenSheet sh) s
  have hcdm := putSheet_cdm false sh (s.rewrittenSheet sh) s
  simp only [State.sheetRewritten, Triggered.triggerIf_state]
  generalize s.putSheet false sh (s.rewrittenSheet sh) = x at *
  split
  · have hflood := informFlood_flooded sh false x.state
    refine ⟨hflood.shm.trans hshm, ?_⟩
    have hzones : zoneChanges s (x.and (State.informFlood sh false)).state = zoneChanges x.state (x.state.informFlood sh false).state :=
      zoneChanges_congr hcdm.symm rfl
    rewrite [hzones, zoneChanges_eq]
    exact hput.trans hflood.announced
  · refine ⟨hshm, ?_⟩
    have hzones : zoneChanges s x.state = [] := by
      rewrite [zoneChanges_eq]
      exact List.flatMap_eq_nil_iff.mpr fun z _ => zoneChange_of_eq (by rw [hcdm])
    rwa [hzones, List.append_nil]

theorem recheckTrigger_reports (sh : Fin 2) (s : State) : Announced [] s (s.recheckTrigger sh) ∧ (s.recheckTrigger sh).cdm = s.cdm ∧
    ∃ on : Bool, (on = true → (s.shm.get sh).state = .critical) ∧
      SheetsKept (s.setSheet sh { s.shm.get sh with trigger := on }) (s.recheckTrigger sh) := by
  unfold State.recheckTrigger
  dsimp only
  have hcritical (h : ((s.shm.get sh).state == .critical && (s.cfg.sheets.get sh).criticalHold != 0 &&
      decide ((s.cfg.sheets.get sh).criticalHold ≤ (s.shm.get sh).criticalTime)) = true) : (s.shm.get sh).state = .critical := by
    simp only [Bool.and_eq_true, beq_iff_eq] at h
    exact h.1.1
  generalize ((s.shm.get sh).state == .critical && (s.cfg.sheets.get sh).criticalHold != 0 &&
    decide ((s.cfg.sheets.get sh).criticalHold ≤ (s.shm.get sh).criticalTime)) = on at hcritical ⊢
  have hset : Announced [] s (s.setSheet sh { s.shm.get sh with trigger := on }) := .of_lnk rfl rfl rfl
  split
  · exact ⟨hset.quiet (raise_quiet ..), (raise_protect ..).cdm, on, hcritical, (raise_protect ..).shm⟩
  · exact ⟨hset, rfl, on, hcritical, .refl _⟩

theorem evaluateHeave_reports (sh : Fin 2) (s : State) : Announced [] s (s.evaluateHeave sh) ∧ (s.evaluateHeave sh).cdm = s.cdm ∧
    (s.evaluateHeave sh).shm = s.shm.set sh { s.shm.get sh with heave := ((s.evaluateHeave sh).shm.get sh).heave } := by
  have hput (h : Heave) : (s.setSheet sh { s.shm.get sh with heave := h }).shm =
      s.shm.set sh { s.shm.get sh with heave := ((s.setSheet sh { s.shm.get sh with heave := h }).shm.get sh).heave } := by
    rw [State.setSheet_shm, Table.get_set_self]
  unfold State.evaluateHeave
  dsimp only
  split
  · exact ⟨.refl s, rfl, (Table.set_get ..).symm⟩
  · exact ⟨.of_lnk rfl rfl rfl, rfl, hput _⟩

/-- What an accepted WRITE of a sheet leaves: the record, its critical trigger and heave request apart, the other sheet, and the notices. -/
structure SheetWritten (sh : Fin 2) (s t : State) : Prop where
  inner : Inner s t
  ptb : t.ptb = s.ptb
  others : ∀ j, j ≠ sh → t.shm.get j = { s.shm.get j with atLastPass := (t.shm.get j).atLastPass }
  sheet : t.shm.get sh = { s.rewrittenSheet sh with
    atLastPass := (t.shm.get sh).atLastPass, trigger := (t.shm.get sh).trigger, heave := (t.shm.get sh).heave }
  trigger : (t.shm.get sh).trigger = true → (t.shm.get sh).state = .critical
  notified : StatesNotified s t

theorem sheetWritten_writes (sh : Fin 2) (s : State) : SheetWritten sh s (s.sheetWritten sh) := by
  obtain ⟨hinner, hptb⟩ := sheetWritten_inner sh s
  rewrite [sheetWritten_eq] at hinner hptb ⊢
  obtain ⟨hshm, hann⟩ := sheetRewritten_reports sh s
  have hheat := (s.sheetRewritten sh).finish_heat
  have hquiet := (s.sheetRewritten sh).finish_quiet
  generalize s.sheetRewritten sh = x at *
  generalize x.finish = y at *
  obtain ⟨hyz, hcdm, on, hon, hkept⟩ := recheckTrigger_reports sh y
  generalize y.recheckTrigger sh = z at *
  obtain ⟨hzt, hcdm', hshm'⟩ := evaluateHeave_reports sh z
  generalize z.evaluateHeave sh = t at *
  have hsheet : t.shm.get sh = { s.rewrittenSheet sh with
      atLastPass := (t.shm.get sh).atLastPass, trigger := on, heave := (t.shm.get sh).heave } := by
    have hx : x.state.shm.get sh = s.rewrittenSheet sh := by rw [hshm, Table.get_set_self]
    have hy := hheat.shm sh
    have hz := hkept sh
    rewrite [State.setSheet_shm, Table.get_set_self] at hz
    have ht : t.shm.get sh = { z.shm.get sh with heave := (t.shm.get sh).heave } := by rw [hshm', Table.get_set_self]
    rewrite [hx] at hy
    generalize t.shm.get sh = r at ht ⊢
    rewrite [hz, hy] at ht
    rw [ht]
  have hothers (j : Fin 2) (hj : j ≠ sh) : t.shm.get j = { s.shm.get j with atLastPass := (t.shm.get j).atLastPass } := by
    have hx : x.state.shm.get j = s.shm.get j := by rw [hshm, Table.get_set_ne _ (Ne.symm hj)]
    have hy := hheat.shm j
    have hz := hkept j
    rewrite [State.setSheet_shm, Table.get_set_ne _ (Ne.symm hj)] at hz
    have ht : t.shm.get j = z.shm.get j := by rw [hshm', Table.get_set_ne _ (Ne.symm hj)]
    rewrite [hx] at hy
    rw [ht, hz, hy]
  have hstate : (t.shm.get sh).state = (s.rewrittenSheet sh).state := by rw [hsheet]
  refine ⟨hinner, hptb, hothers, ?_, fun h => ?_, Announced.sheetsFirst ?_⟩
  · generalize t.shm.get sh = r at hsheet ⊢
    rw [hsheet]
  · have hcritical := hon (by rw [hsheet] at h; exact h)
    have hy : (y.shm.get sh).state = (s.rewrittenSheet sh).state := by rw [hheat.shm sh, hshm, Table.get_set_self]
    rw [hstate, ← hy, hcritical]
  · have hzones : zoneChanges s x.state = zoneChanges s t := by
      have h : t.cdm = x.state.cdm := (hcdm'.trans hcdm).trans hheat.cdm
      simp [zoneChanges, h]
    rewrite [hzones] at hann
    rewrite [sheetChanges_of_others fun j hj => by rw [hothers j hj], sheetChange, hstate]
    simpa using ((hann.trans hquiet).trans hyz).trans hzt

/-! ### The record in its new state (R46, R56, R61) -/

theorem budgetOf_frozen {state : SheetState} (h : state ≠ .resurface) (x : Option Int) (source : TempSource) (frozen : Option Nat) :
    budgetOf c state x source frozen = budgetOf c state x source none :=
  match state with
  | .resurface => absurd rfl h
  | .off => rfl
  | .normal => rfl
  | .soft => rfl
  | .critical => rfl
  | .covered => rfl
  | .blind => rfl

theorem nextSheetState_mem (c : SheetConfig) (present : SheetState) (x : Int) :
    nextSheetState c present x ∈ [SheetState.normal, .soft, .critical] := by
  unfold nextSheetState
  split
  · decide
  · split
    · split <;> decide
    · split
      · split <;> decide
      · decide

theorem evaluatedState_ne_resurface {present : SheetState} (h : present = .normal ∨ present = .soft ∨ present = .critical) (x : Option Int)
    (source : TempSource) : evaluatedState c present x source ≠ .resurface := by
  have hnext (x : Int) : nextSheetState c present x ≠ .resurface := fun e => by
    have hmem := nextSheetState_mem c present x
    rewrite [e] at hmem
    exact absurd hmem (by decide)
  rcases h with rfl | rfl | rfl <;> unfold evaluatedState <;> dsimp only <;> split <;> simp only [hnext, ne_eq, not_false_eq_true, reduceCtorEq]

theorem enter_fields {state : SheetState} (h : state ≠ .resurface) (x : Option Int) (source : TempSource) (r : SheetRun) :
    (r.enter c state x source).state = state ∧ (r.enter c state x source).temp = x.map shownTemp ∧
      (r.enter c state x source).source = source ∧ (r.enter c state x source).budget = budgetOf c state x source none :=
  ⟨rfl, rfl, rfl, budgetOf_frozen h ..⟩

theorem rewrittenSheet_tank (sh : Fin 2) (s : State) : (s.rewrittenSheet sh).tank = (s.shm.get sh).tank := by
  unfold State.rewrittenSheet
  dsimp only
  split <;> rfl

theorem rewrittenSheet_disabled {sh : Fin 2} (h : (s.cfg.sheets.get sh).enabled = false) : (s.rewrittenSheet sh).state = .off ∧
    ((s.shm.get sh).state ≠ .off → (s.rewrittenSheet sh).budget = .unlimited ∧ (s.rewrittenSheet sh).frozen = none ∧
      (s.rewrittenSheet sh).hold = 0 ∧ (s.rewrittenSheet sh).criticalTime = 0) := by
  by_cases hst : (s.shm.get sh).state = .off
  · have hr : s.rewrittenSheet sh = s.shm.get sh := by simp only [State.rewrittenSheet, h, hst]
    rewrite [hr]
    exact ⟨hst, fun k => absurd hst k⟩
  · have hr : s.rewrittenSheet sh = { (s.shm.get sh).enter (s.cfg.sheets.get sh) .off none .none with
        temp := (s.shm.get sh).temp, source := (s.shm.get sh).source } := by
      unfold State.rewrittenSheet
      dsimp only
      split
      · next e _ => exact absurd (h.symm.trans e) (by decide)
      · next e _ => exact absurd (h.symm.trans e) (by decide)
      · next e _ => exact absurd (h.symm.trans e) (by decide)
      · next e _ _ _ => exact absurd (h.symm.trans e) (by decide)
      · next _ e => exact absurd e hst
      · rfl
    rewrite [hr]
    exact ⟨rfl, fun _ => ⟨rfl, rfl, rfl, rfl⟩⟩

theorem rewrittenSheet_enabled {sh : Fin 2} (h : (s.cfg.sheets.get sh).enabled = true) :
    let c := s.cfg.sheets.get sh
    let old := s.shm.get sh
    let r := s.rewrittenSheet sh
    let m := s.sheetTemp c
    (old.state = .off ∨ old.state = .blind → r.state = freshState c m.1 m.2 ∧ r.temp = m.1.map shownTemp ∧ r.source = m.2 ∧
      r.budget = budgetOf c (freshState c m.1 m.2) m.1 m.2 none) ∧
    (old.state = .normal ∨ old.state = .soft ∨ old.state = .critical → r.state = evaluatedState c old.state m.1 m.2 ∧
      r.temp = m.1.map shownTemp ∧ r.budget = budgetOf c (evaluatedState c old.state m.1 m.2) m.1 m.2 none) ∧
    (old.state = .resurface ∨ old.state = .covered → r = old) := by
  intro c old r m
  have hfresh := enter_fields (c := c) (freshState_ne_resurface c m.1 m.2) m.1 m.2 old
  refine ⟨fun hst => ?_, fun hst => ?_, fun hst => ?_⟩
  · rcases hst with hst | hst
    · have hr : r = s.freshSheet sh := by simp only [r, State.rewrittenSheet, h, show (s.shm.get sh).state = .off from hst]
      rewrite [hr]
      exact hfresh
    · have hr : r = s.evaluatedSheet sh := by simp only [r, State.rewrittenSheet, h, show (s.shm.get sh).state = .blind from hst]
      rewrite [hr, State.evaluatedSheet, show (s.shm.get sh).state = .blind from hst]
      exact hfresh
  · have hr : r = s.evaluatedSheet sh := by
      rcases hst with hst | hst | hst <;> simp only [r, State.rewrittenSheet, h, show (s.shm.get sh).state = _ from hst]
    obtain ⟨hstate, htemp, -, hbudget⟩ := enter_fields (c := c) (evaluatedState_ne_resurface hst m.1 m.2) m.1 m.2 old
    rewrite [hr]
    exact ⟨hstate, htemp, hbudget⟩
  · rcases hst with hst | hst <;> simp only [r, State.rewrittenSheet, h, show (s.shm.get sh).state = _ from hst, old]

end SheetWrites

section SheetFigures

variable {s : State} {c : SheetConfig}

/-! ### The ice temperature (R47) -/

theorem greatest_eq_max? (l : List Int) : greatest l = l.max? := by cases l <;> rfl

theorem sheetTemp_surface {p : Nat} {v : Int} (hp : p ∈ c.surfaces) (hv : s.usableValue .iceSurface p = some v)
    (hmax : ∀ q w, q ∈ c.surfaces → s.usableValue .iceSurface q = some w → w ≤ v) : s.sheetTemp c = (some v, .surface) := by
  have hgreatest : greatest (c.surfaces.filterMap (s.usableValue .iceSurface)) = some v := by
    rewrite [greatest_eq_max?, List.max?_eq_some_iff]
    refine ⟨List.mem_filterMap.mpr ⟨p, hp, hv⟩, fun w hw => ?_⟩
    obtain ⟨q, hq, hw⟩ := List.mem_filterMap.mp hw
    exact hmax q w hq hw
  simp only [State.sheetTemp, hgreatest]

theorem sheetTemp_brine (h : ∀ p v, p ∈ c.surfaces → s.usableValue .iceSurface p ≠ some v) : s.sheetTemp c =
    match c.brine.bind (s.usableValue .brineReturn) with
    | some b => (some (b + c.brineOffset), .estimate)
    | none => (none, .none) := by
  have hnone : c.surfaces.filterMap (s.usableValue .iceSurface) = [] := by
    rewrite [List.filterMap_eq_nil_iff]
    exact fun p hp => Option.eq_none_iff_forall_ne_some.mpr fun v => h p v hp
  unfold State.sheetTemp
  rewrite [hnone]
  simp only [greatest]
  cases c.brine.bind (s.usableValue .brineReturn) <;> rfl

theorem evaluation_blind {source : TempSource} (h : source ≠ .surface) (x : Option Int) :
    freshState c x source = .blind ∧
    ∀ present ∈ [SheetState.normal, .soft, .critical], evaluatedState c present x source = .blind := by
  have hfresh : freshState c x source = .blind := by
    unfold freshState
    split
    · exact absurd rfl h
    · rfl
  refine ⟨hfresh, fun present hp => ?_⟩
  simp only [List.mem_cons, List.not_mem_nil, or_false] at hp
  rcases hp with rfl | rfl | rfl <;> unfold evaluatedState <;> dsimp only <;> split <;> simp_all only [ne_eq, not_true_eq_false]

/-- The straight line between T_set and T_limit (R51). -/
theorem lineBudget_between {t : Int} (hset : c.tSet < t) (hlimit : t < c.tLimit) :
    (lineBudget c t : Int) = c.bMax * (c.tLimit - t) / (c.tLimit - c.tSet) := by
  unfold lineBudget
  rewrite [if_neg (by omega)]
  push_cast
  rw [Int.toNat_of_nonneg (by omega), Int.toNat_of_nonneg (by omega)]

end SheetFigures

/-- Settles O16: the record is refused or takes effect by its switch and its present state; and what an evaluation gives. -/
theorem sheetWriteTakesEffect : Obligations.SheetWriteTakesEffect := by
  refine ⟨fun tag i record c n s h hl hp => ?write, fun c s => ?temperature, fun c x source h => evaluation_blind h x,
    fun c t hsoft hlimit => ?states, fun c x source frozen w => ⟨rfl, rfl, rfl, rfl, rfl⟩, parseSheet_fields⟩
  case write =>
    intro old m
    refine ⟨fun hbad => ?_, fun hset hsoft => ?_⟩
    · rw [exec_writeSheets h hl hp, if_pos ((temperaturesBad_iff c).mpr hbad), conclude_refused]
    · have hgood : ¬ c.temperaturesBad = true := by
        rewrite [temperaturesBad_iff]
        omega
      have hwritten := sheetWritten_writes i (s.sheetSet i c)
      have hexec : exec (.writeSheets tag (BitVec.ofNat 8 i :: record)) s = .next (((s.sheetSet i c).sheetWritten i).answered tag .done (u8 n)) := by
        rw [exec_writeSheets h hl hp, if_neg hgood, ← State.sheetSet, conclude_counted]
      have htank := rewrittenSheet_tank i (s.sheetSet i c)
      have hdisabled := rewrittenSheet_disabled (s := s.sheetSet i c) (sh := i)
      have henabled := rewrittenSheet_enabled (s := s.sheetSet i c) (sh := i)
      rewrite [sheetSet_get] at henabled
      dsimp only at henabled
      rewrite [sheetSet_temp] at henabled
      rewrite [sheetSet_get] at hdisabled
      generalize (s.sheetSet i c).sheetWritten i = t at *
      have hsheet := hwritten.sheet
      generalize hr : (s.sheetSet i c).rewrittenSheet i = r at *
      have hnew : (t.shm.get i).state = r.state ∧ (t.shm.get i).temp = r.temp ∧ (t.shm.get i).source = r.source ∧
          (t.shm.get i).budget = r.budget ∧ (t.shm.get i).frozen = r.frozen ∧ (t.shm.get i).hold = r.hold ∧
          (t.shm.get i).criticalTime = r.criticalTime ∧ (t.shm.get i).tank = r.tank := by
        generalize t.shm.get i = new at hsheet ⊢
        rewrite [hsheet]
        exact ⟨rfl, rfl, rfl, rfl, rfl, rfl, rfl, rfl⟩
      obtain ⟨hstate, htemp, hsource, hbudget, hfrozen, hhold, htime, htank'⟩ := hnew
      refine ⟨t, hexec, hwritten.inner, hwritten.ptb, ⟨hwritten.notified.sheets, hwritten.notified.zones⟩, hwritten.others,
        htank'.trans htank, fun he => ?_, fun he hne => ?_, fun he hst => ?_, fun he hst => ?_, fun he hst => ?_⟩
      · exact hstate.trans (hdisabled he).1
      · obtain ⟨hb, hf, hh, ht⟩ := (hdisabled he).2 hne
        have hquiet : (t.shm.get i).trigger = false := Bool.eq_false_iff.mpr fun htrigger => by
          have hcritical := hwritten.trigger htrigger
          rewrite [hstate, (hdisabled he).1] at hcritical
          exact absurd hcritical (by decide)
        exact ⟨hbudget.trans hb, hfrozen.trans hf, hhold.trans hh, htime.trans ht, hquiet⟩
      · obtain ⟨h1, h2, h3, h4⟩ := (henabled he).1 hst
        exact ⟨hstate.trans h1, htemp.trans h2, hsource.trans h3, hbudget.trans h4⟩
      · obtain ⟨h1, h2, h3⟩ := (henabled he).2.1 hst
        exact ⟨hstate.trans h1, htemp.trans h2, hbudget.trans h3⟩
      · have hkept : r = s.shm.get i := (henabled he).2.2 hst
        rewrite [hstate, hbudget, hfrozen, hhold, hkept]
        exact ⟨rfl, rfl, rfl, rfl⟩
  case temperature =>
    intro reads
    refine ⟨fun p v hv hmax => sheetTemp_surface hv.1 hv.2 fun q w hq hw => hmax q w ⟨hq, hw⟩, fun hnone => ?_⟩
    have hbrine := sheetTemp_brine (s := s) (c := c) fun p v hp hv => hnone p v ⟨hp, hv⟩
    refine ⟨fun p v hp hv => ?_, fun hp => ?_⟩
    · rw [hbrine, hp, Option.bind_some, hv]
    · rw [hbrine]
      cases hc : c.brine with
      | none => rfl
      | some p => rw [Option.bind_some, hp p hc]
  case states =>
    intro fresh next budget estimate cap
    have hnext (present : SheetState) (hp : present ∈ [SheetState.normal, .soft, .critical]) : next present = nextSheetState c present t := by
      simp only [List.mem_cons, List.not_mem_nil, or_false] at hp
      rcases hp with rfl | rfl | rfl <;> rfl
    have hfresh : fresh = if c.tLimit ≤ t then .critical else if c.tSoft < t then .soft else .normal := rfl
    have hestimate : estimate = .watts (min (if c.tLimit ≤ t then 0 else lineBudget c t) cap) := rfl
    have hbudget : budget .normal = .watts (lineBudget c t) ∧ budget .soft = .watts (lineBudget c t) := ⟨rfl, rfl⟩
    rewrite [hfresh, hestimate, hbudget.1, hbudget.2, hnext .normal (by decide), hnext .soft (by decide), hnext .critical (by decide)]
    refine ⟨fun h => ⟨?_, ?_, fun present hp => ?_⟩, fun h k => ?_, fun h => ?_, fun h k => ?_, fun h k l => ?_, fun h k => ?_, fun h => ?_,
      fun h k => ⟨lineBudget c t, lineBudget_between h k, ?_⟩⟩
    · rw [if_pos h]
    · rw [if_pos h, Nat.zero_min]
    · rw [hnext present hp, nextSheetState, if_pos h]
    · rw [if_neg (by omega), if_pos h]
    · rw [if_neg (by omega), if_neg (by omega)]
    · simp only [nextSheetState, if_neg (show ¬ c.tLimit ≤ t by omega), if_pos h]
      exact ⟨rfl, rfl, rfl⟩
    · simp only [nextSheetState, if_neg (show ¬ c.tLimit ≤ t by omega), if_neg (show ¬ c.tLimit - c.hysteresis < t by omega), if_pos h]
      refine ⟨?_, rfl, rfl⟩
      by_cases hs : c.tSoft < t
      · rw [if_pos hs, if_neg (by omega)]
      · rw [if_neg hs, if_pos ⟨trivial, by omega⟩]
    · simp only [nextSheetState, if_neg (show ¬ c.tLimit ≤ t by omega), if_neg (show ¬ c.tLimit - c.hysteresis < t by omega),
        if_neg (show ¬ c.tSoft - c.hysteresis < t by omega), and_self]
    · have hline : lineBudget c t = c.bMax := if_pos h
      rewrite [hline, if_neg (by omega)]
      exact ⟨rfl, rfl, rfl⟩
    · rewrite [if_neg (by omega)]
      exact ⟨rfl, rfl, rfl⟩

/-! PROOF. What the blocks behind the points report: notices of sheets, zones, heat, lights and protect, and no other. -/

section BlockReports

variable {s t u : State}

/-- The kinds of notice that the blocks behind the Point Table queue (R63, R81, R102, R103, R127, R174). -/
def Offer.ofBlock (n : Offer) : Bool := [NoticeKind.sheet, .zone, .grantShort, .backup, .derate, .protect].contains n.1

/-- From `s` to `t` notices of the blocks behind the Point Table were offered, and no other. -/
structure BlocksReport (s t : State) : Prop where
  cfg : t.cfg = s.cfg
  scu : t.scu = s.scu
  offers : ∃ ns : List Offer, (∀ n ∈ ns, n.ofBlock = true) ∧ t.lnk = s.offered ns

theorem BlocksReport.of_lnk (hcfg : t.cfg = s.cfg) (hscu : t.scu = s.scu) (hlnk : t.lnk = s.lnk) : BlocksReport s t :=
  ⟨hcfg, hscu, [], by simp, hlnk⟩

theorem BlocksReport.refl (s : State) : BlocksReport s s := .of_lnk rfl rfl rfl

theorem BlocksReport.trans (h : BlocksReport s t) (k : BlocksReport t u) : BlocksReport s u := by
  obtain ⟨ns, hns, hs⟩ := h.offers
  obtain ⟨ms, hms, ht⟩ := k.offers
  exact ⟨k.cfg.trans h.cfg, k.scu.trans h.scu, ns ++ ms, fun n hn => (List.mem_append.mp hn).elim (hns n) (hms n),
    ht.trans (offered_append h.cfg h.scu hs)⟩

theorem noticeIf_blocks {k : NoticeKind} (hk : Offer.ofBlock (k, 0, 0) = true) (c : Bool) (x : Nat) (v : Int) (s : State) :
    BlocksReport s (s.noticeIf c k x v) :=
  ⟨(noticeIf_event ..).inner.setup.cfg, (noticeIf_event ..).inner.setup.scu, _, fun n hn => by
    unfold Offer.ofBlock
    rewrite [kind_of_mem_when hn]
    exact hk, noticeIf_lnk ..⟩

theorem forEach_blocks {n : Nat} (f : Fin n → State → State) (h : ∀ i x, BlocksReport x (f i x)) (s : State) :
    BlocksReport s (forEach n f s) :=
  forEach_induct (P := fun x => BlocksReport s x) f s (.refl s) fun i x hx => hx.trans (h i x)

theorem forEachTriggered_blocks {n : Nat} (f : Fin n → State → Triggered) (h : ∀ i x, BlocksReport x (f i x).state) (s : State) :
    BlocksReport s (forEachTriggered n f s).state :=
  forEachTriggered_induct (P := fun x => BlocksReport s x) f s (.refl s) fun i x hx => hx.trans (h i x)

/-! ### Passes and hand-overs -/

theorem handOn_blocks (bs : List OutputBinding) (s : State) : BlocksReport s (s.handOn bs) := by
  rewrite [handOn_outputs]
  exact .of_lnk rfl rfl rfl

theorem handRemotes_blocks (s : State) : BlocksReport s s.handRemotes :=
  forEach_blocks _ (fun i x => .of_lnk (handRemote_event i x).1.inner.setup.cfg (handRemote_event i x).1.inner.setup.scu
    (handRemote_lnk i x)) s

theorem passWith_blocks (jumps : Bool) (s : State) : BlocksReport s (s.passWith jumps) :=
  have hsetup := (passWith_heat jumps s).inner.setup
  ⟨hsetup.cfg, hsetup.scu, _, fun n hn => by
    unfold Offer.ofBlock
    rcases kind_of_mem_passNotices hn with e | e | e <;> rw [e] <;> rfl, (passWith_passed jumps s).lnk⟩

theorem passes_blocks (jumps : Bool) (n : Nat) (s : State) : BlocksReport s (s.passes jumps n) := by
  induction n generalizing s with
  | zero => exact .refl s
  | succ n ih =>
    refine BlocksReport.trans ?_ (ih _)
    split
    · exact (passWith_blocks jumps s).trans (handRemotes_blocks _)
    · exact .refl s

theorem Triggered.finish_blocks (x : Triggered) : BlocksReport x.state x.finish := (passes_blocks ..).trans (handRemotes_blocks _)

theorem passTrigger_blocks (s : State) : BlocksReport s s.passTrigger := by
  unfold State.passTrigger
  split
  · exact passWith_blocks true s
  · exact .refl s

/-! ### Sheets, zones and sinks -/

theorem putSheet_blocks (always : Bool) (sh : Fin 2) (r : SheetRun) (s : State) : BlocksReport s (s.putSheet always sh r).state := by
  have hset : BlocksReport s (s.setSheet sh r) := .of_lnk rfl rfl rfl
  have hnotice (x : State) : BlocksReport x (x.sheetNotice (s.shm.get sh).state sh) := noticeIf_blocks (k := .sheet) rfl ..
  have halarm (x : State) : BlocksReport x (x.handAlarm (s.shm.get sh).state sh) := by
    unfold State.handAlarm
    split
    · exact handOn_blocks ..
    · exact .refl x
  exact (hset.trans (hnotice _)).trans (halarm _)

theorem evaluateHeave_blocks (sh : Fin 2) (s : State) : BlocksReport s (s.evaluateHeave sh) := by
  unfold State.evaluateHeave
  dsimp only
  split
  · exact .refl s
  · exact .of_lnk rfl rfl rfl

theorem informSheets_blocks (p : Nat) (s : State) : BlocksReport s (s.informSheets p).state := by
  refine forEachTriggered_blocks _ (fun sh x => ?_) s
  dsimp only
  have hevaluated : BlocksReport x (if (x.cfg.sheets.get sh).surfaces.contains p || (x.cfg.sheets.get sh).brine == some p
      then x.evaluateSheet sh else ⟨x, 0⟩ : Triggered).state := by
    split
    · exact putSheet_blocks ..
    · exact .refl x
  split
  · exact hevaluated.trans (evaluateHeave_blocks sh _)
  · exact hevaluated

theorem handZone_blocks (config : Bool) (old : ZoneRun) (z : Fin 4) (s : State) : BlocksReport s (s.handZone config old z) := by
  have hheat (b : Bool) : BlocksReport s (if b then s.recomputeKinds [.regen, .ceiling] else s) := by
    split
    · exact .of_lnk rfl rfl rfl
    · exact .refl s
  unfold State.handZone
  dsimp only
  split
  · exact (hheat _).trans (handOn_blocks ..)
  · exact hheat _

theorem putZone_blocks (z : Fin 4) (r : ZoneRun) (s : State) : BlocksReport s (s.putZone z r) :=
  BlocksReport.trans (t := { s with cdm := s.cdm.set z r }) (.of_lnk rfl rfl rfl) (noticeIf_blocks (k := .zone) rfl ..)

theorem evaluateZone_blocks (flood : Bool) (z : Fin 4) (s : State) : BlocksReport s (s.evaluateZone flood z).state :=
  BlocksReport.trans (putZone_blocks z (s.evaluatedZone (s.cfg.zones.get z) flood (s.cdm.get z).state) s) (handZone_blocks ..)

theorem informZones_blocks (p : Nat) (s : State) : BlocksReport s (s.informZones p).state := by
  refine forEachTriggered_blocks _ (fun z x => ?_) s
  dsimp only
  split
  · exact evaluateZone_blocks ..
  · exact .refl x

theorem informSinks_blocks (p : Nat) (s : State) : BlocksReport s (s.informSinks p) := .of_lnk rfl rfl rfl

theorem informPoint_blocks (p : Fin 64) (s : State) : BlocksReport s (s.informPoint p).state := by
  rewrite [State.informPoint, Triggered.andThen_state, Triggered.and_state]
  exact ((informSheets_blocks p.val s).trans (informZones_blocks p.val _)).trans (informSinks_blocks p.val _)

/-! ### Protect -/

theorem protectNotice_blocks (subject : Nat) (s : State) : BlocksReport s (s.protectNotice subject) :=
  noticeIf_blocks (k := .protect) rfl true ..

theorem heldTest_blocks (s : State) : BlocksReport s s.heldTest := by
  unfold State.heldTest
  split
  · exact BlocksReport.trans (t := s.setPru { s.pru with state := .held }) (.of_lnk rfl rfl rfl) (protectNotice_blocks ..)
  · exact .refl s

theorem tripBegun_blocks (ts : List Trigger) (s : State) : BlocksReport s (s.tripBegun ts) :=
  foldl_induct (P := fun x => BlocksReport s x) _ ts _ (.of_lnk rfl rfl rfl) fun _ _ hx => hx.trans (protectNotice_blocks ..)

theorem captureAtTrip_blocks (ts : List Trigger) (s : State) : BlocksReport s (s.captureAtTrip ts) := by
  unfold State.captureAtTrip
  split
  · exact .refl s
  · exact .of_lnk rfl rfl rfl

theorem tripChannels_blocks (s : State) : BlocksReport s s.tripChannels := by
  have hrest := tripChannels_rest s
  obtain ⟨ns, hns, hlnk⟩ := effectsStopped_lnk s
  exact ⟨by rw [hrest], by rw [hrest], ns, fun n hn => by unfold Offer.ofBlock; rw [hns n hn]; rfl, by rw [hrest]; exact hlnk⟩

theorem tripOutputs_blocks (s : State) : BlocksReport s s.tripOutputs := by
  have houtputs : BlocksReport s s.outputsTripped := by
    rewrite [outputsTripped_rest]
    exact .of_lnk rfl rfl rfl
  have hevent := remotesTripped_event s.outputsTripped
  exact houtputs.trans (.of_lnk hevent.inner.setup.cfg hevent.inner.setup.scu (remotesTripped_lnk _))

theorem setHold_blocks (hold : Bool) (s : State) : BlocksReport s (s.setHold hold) :=
  BlocksReport.trans (t := { s with hra := { s.hra with hold := hold } }) (.of_lnk rfl rfl rfl) (passTrigger_blocks _)

theorem trip_blocks (ts : List Trigger) (s : State) : BlocksReport s (s.trip ts) := by
  rewrite [trip_eq]
  exact (tripBegun_blocks ts s).trans ((captureAtTrip_blocks ts _).trans ((tripChannels_blocks _).trans ((tripOutputs_blocks _).trans
    ((setHold_blocks true _).trans (heldTest_blocks _)))))

theorem raise_blocks (x : Trigger) (s : State) : BlocksReport s (s.raise x) := by
  unfold State.raise
  split
  · exact .refl s
  · split
    · exact .of_lnk rfl rfl rfl
    · split
      · exact trip_blocks [x] s
      · split
        · exact .refl s
        · exact BlocksReport.trans (t := s.setPru { s.pru with triggers := insertTrigger x s.pru.triggers }) (.of_lnk rfl rfl rfl)
            (protectNotice_blocks ..)

theorem pointsRaised_blocks (n : Nat) (s : State) : BlocksReport s (s.pointsRaised n) := by
  unfold State.pointsRaised
  split
  · exact raise_blocks .point s
  · exact .refl s

/-! ### The notices of one point (R11, R12) -/

theorem pointNotices_lnk (i : Fin 64) (new : PointRun) (s : State) :
    ((s.setPoint i new).pointNotices (s.ptb.points.get i) i).lnk = s.offered (Offer.when ((s.ptb.points.get i).quality ≠ new.quality)
      .point i (codeOf qualities new.quality) ++ Offer.when ((s.ptb.points.get i).output ≠ new.output) .limit i new.output.toNat) := by
  have hnew : (s.setPoint i new).ptb.points.get i = new := Table.get_set_self ..
  unfold State.pointNotices
  dsimp only
  rewrite [hnew]
  have hpoint := noticeIf_lnk ((s.ptb.points.get i).quality != new.quality) .point i.val (codeOf qualities new.quality) (s.setPoint i new)
  have hlimit := noticeIf_lnk ((s.ptb.points.get i).output != new.output) .limit i.val new.output.toNat
    ((s.setPoint i new).noticeIf ((s.ptb.points.get i).quality != new.quality) .point i.val (codeOf qualities new.quality))
  have hevent := noticeIf_event ((s.ptb.points.get i).quality != new.quality) .point i.val (codeOf qualities new.quality) (s.setPoint i new)
  rewrite [hlimit]
  refine (offered_append (s := s) hevent.inner.setup.cfg hevent.inner.setup.scu hpoint).trans ?_
  simp only [bne_iff_ne]

theorem kind_of_mem_pointChanges {i : Fin 64} {n : Offer} (h : n ∈ pointChanges s t i) : n.1 = .point ∨ n.1 = .limit :=
  (List.mem_append.mp h).imp kind_of_mem_when kind_of_mem_when

/-- The notices of points, before those of the blocks they reach, are all of these kinds that the event queues. -/
theorem pointsNotified {own ns : List Offer} (hcfg : t.cfg = s.cfg) (hown : ∀ n ∈ own, n.1 = .point ∨ n.1 = .limit)
    (hns : ∀ n ∈ ns, n.ofBlock = true) (hlnk : t.lnk = s.offered (own ++ ns)) : Notified [.point, .limit] own s t := by
  have hkept : own.filter (fun n => [NoticeKind.point, .limit].contains n.1) = own :=
    List.filter_eq_self.mpr fun n hn => by rcases hown n hn with e | e <;> rw [e] <;> rfl
  have hrest : ns.filter (fun n => [NoticeKind.point, .limit].contains n.1) = [] := filter_kinds_nil fun n hn => by
    have hblock := hns n hn
    unfold Offer.ofBlock at hblock
    cases hk : n.1 <;> rw [hk] at hblock <;> simp_all
  have h := notified_of_lnk (kinds := [.point, .limit]) hcfg hlnk
  rwa [List.filter_append, hkept, hrest, List.append_nil] at h

end BlockReports

/-! PROOF. A point informs the sheets and zones that name it: what each becomes, and the notices of their states (R11, R48, R62, R63, R69,
R81). -/

section AnnouncedLoops

variable {n : Nat} {σ α : Type} {st : σ → State} {get : σ → Fin n → α} {P : σ → Prop} {f : Fin n → σ → σ}
  {change : Fin n → α → α → List Offer}

/-- Steps of a loop over other entries leave an entry alone. -/
theorem foldl_kept (hstep : ∀ i x, P x → P (f i x) ∧ ∀ j, j ≠ i → get (f i x) j = get x j) {l : List (Fin n)} {x : σ} (hx : P x)
    {j : Fin n} (hj : j ∉ l) : get (l.foldl (fun x i => f i x) x) j = get x j := by
  induction l generalizing x with
  | nil => rfl
  | cons i l ih =>
    obtain ⟨hp, hothers⟩ := hstep i x hx
    rw [List.foldl_cons, ih hp fun h => hj (List.mem_cons_of_mem _ h), hothers j fun e => hj (e ▸ List.mem_cons_self)]

/-- A loop whose step `i` reports what it made of entry `i`, and leaves the others alone, reports what it made of all, in order. -/
theorem forEach_announced (hstep : ∀ i x, P x → P (f i x) ∧ Announced (change i (get x i) (get (f i x) i)) (st x) (st (f i x)) ∧
    ∀ j, j ≠ i → get (f i x) j = get x j) {x : σ} (hx : P x) :
    Announced ((List.finRange n).flatMap fun i => change i (get x i) (get (forEach n f x) i)) (st x) (st (forEach n f x)) := by
  have hkept (i : Fin n) (x : σ) (hx : P x) : P (f i x) ∧ ∀ j, j ≠ i → get (f i x) j = get x j := ⟨(hstep i x hx).1, (hstep i x hx).2.2⟩
  have key (l : List (Fin n)) (hl : l.Nodup) (x : σ) (hx : P x) :
      Announced (l.flatMap fun i => change i (get x i) (get (l.foldl (fun x i => f i x) x) i)) (st x) (st (l.foldl (fun x i => f i x) x)) := by
    induction l generalizing x with
    | nil => exact .refl _
    | cons i l ih =>
      obtain ⟨hi, hl⟩ := List.nodup_cons.mp hl
      obtain ⟨hp, hann, hothers⟩ := hstep i x hx
      have htail : (l.flatMap fun j => change j (get x j) (get (l.foldl (fun x i => f i x) (f i x)) j)) =
          l.flatMap fun j => change j (get (f i x) j) (get (l.foldl (fun x i => f i x) (f i x)) j) :=
        List.flatMap_congr fun j hj => by rw [hothers j fun e => hi (e ▸ hj)]
      rewrite [List.foldl_cons, List.flatMap_cons, foldl_kept hkept hp hi, htail]
      exact hann.trans (ih hl _ hp)
  exact key _ (List.nodup_finRange n) x hx

end AnnouncedLoops

section InformedBlocks

variable {s t u : State} {p : Nat} {sh : Fin 2} {z : Fin 4}

/-! ### What an evaluation reads -/

/-- An evaluation reads the configuration, the points and the mode. -/
structure SameInputs (s t : State) : Prop where
  cfg : t.cfg = s.cfg
  points : t.ptb = s.ptb
  scu : t.scu = s.scu

theorem SameInputs.refl (s : State) : SameInputs s s := ⟨rfl, rfl, rfl⟩

theorem SameInputs.trans (h : SameInputs s t) (k : SameInputs t u) : SameInputs s u :=
  ⟨k.cfg.trans h.cfg, k.points.trans h.points, k.scu.trans h.scu⟩

theorem SheetEvent.inputs (h : SheetEvent s t) : SameInputs s t := ⟨h.inner.setup.cfg, h.ptb, h.inner.setup.scu⟩

theorem ProtectEvent.inputs (h : ProtectEvent s t) : SameInputs s t := ⟨h.inner.setup.cfg, h.ptb, h.inner.setup.scu⟩

theorem SameInputs.usableValue (h : SameInputs s t) : t.usableValue = s.usableValue := by
  funext k q
  simp only [State.usableValue, State.pointOfKind, h.cfg, h.points]

theorem SameInputs.sheetTemp (h : SameInputs s t) (c : SheetConfig) : t.sheetTemp c = s.sheetTemp c := by
  simp only [State.sheetTemp, h.usableValue]

theorem SameInputs.heaveNow (h : SameInputs s t) (c : SheetConfig) (present : Heave) : t.heaveNow c present = s.heaveNow c present := by
  simp only [State.heaveNow, h.usableValue]

theorem SameInputs.zoneDew (h : SameInputs s t) (c : ZoneConfig) : t.zoneDew c = s.zoneDew c := by
  simp only [State.zoneDew, h.usableValue]

theorem SameInputs.zoneInput (h : SameInputs s t) (k : PointKind) (q : Option Nat) : t.zoneInput k q = s.zoneInput k q := by
  simp only [State.zoneInput, h.usableValue]

theorem SameInputs.evaluatedZone (h : SameInputs s t) (c : ZoneConfig) (flood : Bool) (present : ZoneState) :
    t.evaluatedZone c flood present = s.evaluatedZone c flood present := by
  simp only [State.evaluatedZone, h.zoneDew, h.zoneInput, State.profile, h.cfg, h.scu]

/-! ### The sheets (R48, R62) -/

/-- What becomes of a sheet's record that the point `p` informs. -/
def State.toldSheet (p : Nat) (sh : Fin 2) (r : SheetRun) (s : State) : SheetRun :=
  let c := s.cfg.sheets.get sh
  let m := s.sheetTemp c
  let r' := if c.surfaces.contains p || c.brine == some p then r.enter c (evaluatedState c r.state m.1 m.2) m.1 m.2 else r
  if c.subsoil == some p then { r' with heave := s.heaveNow c r'.heave } else r'

theorem SameInputs.toldSheet (h : SameInputs s t) (p : Nat) (sh : Fin 2) (r : SheetRun) : t.toldSheet p sh r = s.toldSheet p sh r := by
  simp only [State.toldSheet, h.cfg, h.sheetTemp, h.heaveNow]

/-- One sheet's turn. -/
def State.informSheet (p : Nat) (sh : Fin 2) (s : State) : Triggered :=
  let c := s.cfg.sheets.get sh
  let x := if c.surfaces.contains p || c.brine == some p then s.evaluateSheet sh else ⟨s, 0⟩
  if c.subsoil == some p then x.andThen (State.evaluateHeave sh) else x

theorem informSheets_eq (p : Nat) (s : State) : s.informSheets p = forEachTriggered 2 (fun sh st => st.informSheet p sh) s := rfl

theorem evaluateHeave_shm (sh : Fin 2) (s : State) : (s.evaluateHeave sh).shm =
    s.shm.set sh { s.shm.get sh with heave := s.heaveNow (s.cfg.sheets.get sh) (s.shm.get sh).heave } := by
  unfold State.evaluateHeave
  dsimp only
  split
  · next h =>
    rewrite [h]
    exact (Table.set_get ..).symm
  · rfl

/-- A sheet's turn renews its record and reports its state if that changed. -/
theorem informSheet_told (p : Nat) (sh : Fin 2) (s : State) :
    SheetEvent s (s.informSheet p sh).state ∧ (s.informSheet p sh).state.cdm = s.cdm ∧
    (s.informSheet p sh).state.shm = s.shm.set sh (s.toldSheet p sh (s.shm.get sh)) ∧
    Announced (sheetChange s (s.informSheet p sh).state sh) s (s.informSheet p sh).state := by
  have heval : ∃ r, r = (if (s.cfg.sheets.get sh).surfaces.contains p || (s.cfg.sheets.get sh).brine == some p then s.evaluatedSheet sh
        else s.shm.get sh) ∧ ∃ x : Triggered, x = (if (s.cfg.sheets.get sh).surfaces.contains p || (s.cfg.sheets.get sh).brine == some p
        then s.evaluateSheet sh else ⟨s, 0⟩) ∧ SheetEvent s x.state ∧ x.state.cdm = s.cdm ∧ x.state.shm = s.shm.set sh r ∧
      Announced (Offer.when ((s.shm.get sh).state ≠ r.state) .sheet sh (codeOf sheetStates r.state)) s x.state := by
    refine ⟨_, rfl, _, rfl, ?_⟩
    split
    · exact ⟨evaluateSheet_sheet .., putSheet_cdm .., putSheet_shm .., putSheet_announced ..⟩
    · refine ⟨.refl s, rfl, (Table.set_get ..).symm, ?_⟩
      rewrite [Offer.when, if_neg (not_not.mpr rfl)]
      exact .refl s
  obtain ⟨r, hr, x, hx, hevent, hcdm, hshm, hann⟩ := heval
  have htold : s.toldSheet p sh (s.shm.get sh) = if (s.cfg.sheets.get sh).subsoil == some p
      then { r with heave := s.heaveNow (s.cfg.sheets.get sh) r.heave } else r := by rw [hr]; rfl
  have hturn : s.informSheet p sh = if (s.cfg.sheets.get sh).subsoil == some p then x.andThen (State.evaluateHeave sh) else x := by
    rewrite [hx]
    rfl
  have hget : x.state.shm.get sh = r := by rw [hshm, Table.get_set_self]
  rewrite [hturn, htold]
  split
  · rewrite [Triggered.andThen_state]
    obtain ⟨hquiet, hkept, -⟩ := evaluateHeave_reports sh x.state
    have hheave := evaluateHeave_shm sh x.state
    have hsame := evaluateHeave_sheet sh x.state
    generalize x.state.evaluateHeave sh = y at *
    rewrite [hget, hshm, hevent.inputs.heaveNow, hevent.inner.setup.cfg] at hheave
    have hset : y.shm = s.shm.set sh { r with heave := s.heaveNow (s.cfg.sheets.get sh) r.heave } := by rw [hheave]; exact Table.set_set ..
    refine ⟨hevent.trans hsame, hkept.trans hcdm, hset, ?_⟩
    rewrite [sheetChange, hset, Table.get_set_self]
    have hboth := hann.trans hquiet
    rewrite [List.append_nil] at hboth
    exact hboth
  · refine ⟨hevent, hcdm, hshm, ?_⟩
    rwa [sheetChange, hget]

theorem informSheets_told (p : Nat) (s : State) :
    (s.informSheets p).state.cdm = s.cdm ∧ (∀ sh, (s.informSheets p).state.shm.get sh = s.toldSheet p sh (s.shm.get sh)) ∧
    Announced (sheetChanges s (s.informSheets p).state) s (s.informSheets p).state := by
  have hstep (i : Fin 2) (x : Triggered) (hx : SheetEvent s x.state ∧ x.state.cdm = s.cdm) :
      (SheetEvent s (x.and (State.informSheet p i)).state ∧ (x.and (State.informSheet p i)).state.cdm = s.cdm) ∧
      (x.and (State.informSheet p i)).state.shm = x.state.shm.set i (s.toldSheet p i (x.state.shm.get i)) ∧
      Announced (sheetChange x.state (x.and (State.informSheet p i)).state i) x.state (x.and (State.informSheet p i)).state := by
    obtain ⟨hevent, hcdm, hshm, hann⟩ := informSheet_told p i x.state
    rewrite [hx.1.inputs.toldSheet] at hshm
    exact ⟨⟨hx.1.trans hevent, hcdm.trans hx.2⟩, hshm, hann⟩
  have h0 : SheetEvent s (⟨s, 0⟩ : Triggered).state ∧ (⟨s, 0⟩ : Triggered).state.cdm = s.cdm := ⟨.refl s, rfl⟩
  have hself (i : Fin 2) (x : Triggered) (hx : SheetEvent s x.state ∧ x.state.cdm = s.cdm) :
      (x.and (State.informSheet p i)).state.shm.get i = s.toldSheet p i (x.state.shm.get i) := by
    rw [(hstep i x hx).2.1, Table.get_set_self]
  have hothers (i : Fin 2) (x : Triggered) (hx : SheetEvent s x.state ∧ x.state.cdm = s.cdm) (j : Fin 2) (hj : j ≠ i) :
      (x.and (State.informSheet p i)).state.shm.get j = x.state.shm.get j := by
    rw [(hstep i x hx).2.1, Table.get_set_ne _ (Ne.symm hj)]
  rewrite [informSheets_eq]
  unfold forEachTriggered
  refine ⟨?_, fun sh => ?_, ?_⟩
  · exact (forEach_induct (P := fun x : Triggered => SheetEvent s x.state ∧ x.state.cdm = s.cdm) _ _ h0 fun i x hx => (hstep i x hx).1).2
  · exact forEach_get (g := fun i r => s.toldSheet p i r) (get := fun (x : Triggered) j => x.state.shm.get j) (P := fun x : Triggered => SheetEvent s x.state ∧ x.state.cdm = s.cdm)
      (fun i x hx => ⟨(hstep i x hx).1, hself i x hx, hothers i x hx⟩) h0 sh
  · exact forEach_announced (st := Triggered.state) (get := fun (x : Triggered) j => x.state.shm.get j)
      (P := fun x : Triggered => SheetEvent s x.state ∧ x.state.cdm = s.cdm)
      (change := fun sh a b => Offer.when (a.state ≠ b.state) .sheet sh (codeOf sheetStates b.state))
      (fun i x hx => ⟨(hstep i x hx).1, (hstep i x hx).2.2, hothers i x hx⟩) h0

/-! ### The zones (R69) -/

/-- What becomes of a zone's record that the point `p` informs. -/
def State.toldZone (p : Nat) (z : Fin 4) (r : ZoneRun) (s : State) : ZoneRun :=
  let c := s.cfg.zones.get z
  if c.enabled && c.names p then s.evaluatedZone c r.flood r.state else r

theorem SameInputs.toldZone (h : SameInputs s t) (p : Nat) (z : Fin 4) (r : ZoneRun) : t.toldZone p z r = s.toldZone p z r := by
  simp only [State.toldZone, h.cfg, h.evaluatedZone]

/-- One zone's turn. -/
def State.informZone (p : Nat) (z : Fin 4) (s : State) : Triggered :=
  let c := s.cfg.zones.get z
  if c.enabled && c.names p then s.evaluateZone (s.cdm.get z).flood z else ⟨s, 0⟩

theorem informZones_eq (p : Nat) (s : State) : s.informZones p = forEachTriggered 4 (fun z st => st.informZone p z) s := rfl

theorem informZone_told (p : Nat) (z : Fin 4) (s : State) :
    SheetEvent s (s.informZone p z).state ∧ (s.informZone p z).state.shm = s.shm ∧
    (s.informZone p z).state.cdm = s.cdm.set z (s.toldZone p z (s.cdm.get z)) ∧
    Announced (zoneChange s (s.informZone p z).state z) s (s.informZone p z).state := by
  unfold State.informZone State.toldZone
  dsimp only
  split
  · exact ⟨(evaluateZone_zone ..).sheet, evaluateZone_shm .., evaluateZone_cdm .., evaluateZone_announced ..⟩
  · refine ⟨.refl s, rfl, (Table.set_get ..).symm, ?_⟩
    rewrite [zoneChange_of_eq rfl]
    exact .refl s

theorem informZones_told (p : Nat) (s : State) :
    (s.informZones p).state.shm = s.shm ∧ (∀ z, (s.informZones p).state.cdm.get z = s.toldZone p z (s.cdm.get z)) ∧
    Announced (zoneChanges s (s.informZones p).state) s (s.informZones p).state := by
  have hstep (i : Fin 4) (x : Triggered) (hx : SheetEvent s x.state ∧ x.state.shm = s.shm) :
      (SheetEvent s (x.and (State.informZone p i)).state ∧ (x.and (State.informZone p i)).state.shm = s.shm) ∧
      (x.and (State.informZone p i)).state.cdm = x.state.cdm.set i (s.toldZone p i (x.state.cdm.get i)) ∧
      Announced (zoneChange x.state (x.and (State.informZone p i)).state i) x.state (x.and (State.informZone p i)).state := by
    obtain ⟨hevent, hshm, hcdm, hann⟩ := informZone_told p i x.state
    rewrite [hx.1.inputs.toldZone] at hcdm
    exact ⟨⟨hx.1.trans hevent, hshm.trans hx.2⟩, hcdm, hann⟩
  have h0 : SheetEvent s (⟨s, 0⟩ : Triggered).state ∧ (⟨s, 0⟩ : Triggered).state.shm = s.shm := ⟨.refl s, rfl⟩
  have hself (i : Fin 4) (x : Triggered) (hx : SheetEvent s x.state ∧ x.state.shm = s.shm) :
      (x.and (State.informZone p i)).state.cdm.get i = s.toldZone p i (x.state.cdm.get i) := by
    rw [(hstep i x hx).2.1, Table.get_set_self]
  have hothers (i : Fin 4) (x : Triggered) (hx : SheetEvent s x.state ∧ x.state.shm = s.shm) (j : Fin 4) (hj : j ≠ i) :
      (x.and (State.informZone p i)).state.cdm.get j = x.state.cdm.get j := by
    rw [(hstep i x hx).2.1, Table.get_set_ne _ (Ne.symm hj)]
  rewrite [informZones_eq]
  unfold forEachTriggered
  refine ⟨?_, fun z => ?_, ?_⟩
  · exact (forEach_induct (P := fun x : Triggered => SheetEvent s x.state ∧ x.state.shm = s.shm) _ _ h0 fun i x hx => (hstep i x hx).1).2
  · exact forEach_get (g := fun i r => s.toldZone p i r) (get := fun (x : Triggered) j => x.state.cdm.get j) (P := fun x : Triggered => SheetEvent s x.state ∧ x.state.shm = s.shm)
      (fun i x hx => ⟨(hstep i x hx).1, hself i x hx, hothers i x hx⟩) h0 z
  · exact forEach_announced (st := Triggered.state) (get := fun (x : Triggered) j => x.state.cdm.get j)
      (P := fun x : Triggered => SheetEvent s x.state ∧ x.state.shm = s.shm)
      (change := fun z a b => Offer.when (a.state ≠ b.state) .zone z (codeOf zoneStates b.state))
      (fun i x hx => ⟨(hstep i x hx).1, (hstep i x hx).2.2, hothers i x hx⟩) h0

/-! ### The inform whole (R11) -/

/-- What stands after a point has informed the blocks. -/
structure Told (p : Nat) (s t : State) : Prop where
  sheets : ∀ sh, t.shm.get sh = { s.toldSheet p sh (s.shm.get sh) with atLastPass := (t.shm.get sh).atLastPass }
  zones : ∀ z, t.cdm.get z = s.toldZone p z (s.cdm.get z)

theorem sheetChanges_congr {a b : State} (hs : ∀ sh, (s.shm.get sh).state = (a.shm.get sh).state)
    (ht : ∀ sh, (t.shm.get sh).state = (b.shm.get sh).state) : sheetChanges s t = sheetChanges a b := by
  unfold sheetChanges
  exact List.flatMap_congr fun sh _ => by rw [hs sh, ht sh]

theorem toldSheet_setPass (b : Option Power) (r : SheetRun) (s : State) :
    s.toldSheet p sh { r with atLastPass := b } = { s.toldSheet p sh r with atLastPass := b } := by
  unfold State.toldSheet
  dsimp only
  split <;> split <;> rfl

theorem informSinks_quiet (p : Nat) (s : State) : Announced [] s (s.informSinks p) := .of_lnk rfl rfl rfl

theorem informPoint_told (i : Fin 64) (s : State) :
    Told i.val s (s.informPoint i).finish ∧
    Announced (sheetChanges s (s.informPoint i).finish ++ zoneChanges s (s.informPoint i).finish) s (s.informPoint i).finish := by
  obtain ⟨hcdm, hshm, hann⟩ := informSheets_told i.val s
  have hinputs := (informSheets_sheet i.val s).inputs
  have hfinish := (s.informPoint i).finish_heat
  have hquiet := (s.informPoint i).finish_quiet
  rewrite [State.informPoint, Triggered.andThen_state, Triggered.and_state] at hfinish hquiet
  rewrite [← State.informPoint] at hfinish hquiet
  obtain ⟨hshm', hcdm', hann'⟩ := informZones_told i.val (s.informSheets i.val).state
  generalize (s.informSheets i.val).state = x at *
  generalize hy : (x.informZones i.val).state = y at *
  have hysinks := informSinks_heat i.val y
  have hyshm : (y.informSinks i.val).shm = y.shm := rfl
  have hsinks := informSinks_quiet i.val y
  generalize y.informSinks i.val = w at *
  generalize (s.informPoint i).finish = t at *
  have htold : Told i.val s t := by
    refine ⟨fun sh => ?_, fun z => ?_⟩
    · rw [hfinish.shm sh, hyshm, hshm', hshm sh]
    · rw [hfinish.cdm, hysinks.cdm, hcdm' z, hinputs.toldZone, hcdm]
  refine ⟨htold, ?_⟩
  have hsheets : sheetChanges s x = sheetChanges s t :=
    sheetChanges_congr (fun _ => rfl) fun sh => by rw [htold.sheets sh, hshm sh]
  have hzones : zoneChanges x y = zoneChanges s t := zoneChanges_congr hcdm (hfinish.cdm.trans hysinks.cdm).symm
  rewrite [← hsheets, ← hzones]
  simpa using ((hann.trans hann').trans hsinks).trans hquiet

end InformedBlocks

/-! PROOF. WRITEs of a point: a configuration record, a value; the comparator, and the notices of what changed (R4, R6 to R8, R11 to R16). -/

section CompletedPoints

variable {s t : State} {i : Fin 64} {new : PointRun}

/-! ### An event of one point (R11, R12, R16) -/

/-- What an event leaves that gives the point `i` the record `new`. -/
structure PointCompleted (i : Fin 64) (stored : Bool) (new : PointRun) (s t : State) : Prop where
  inner : Inner s t
  ptb : t.ptb = { s.ptb with points := s.ptb.points.set i new }
  notified : Notified [.point, .limit] (pointChanges s t i) s t
  states : StatesNotified s t
  told : stored = true ∨ (s.ptb.points.get i).quality ≠ new.quality → Told i.val (s.setPoint i new) t

/-- The point's record and its notices, before its triggers and informs. -/
def State.pointPut (i : Fin 64) (new : PointRun) (s : State) : State := (s.setPoint i new).pointNotices (s.ptb.points.get i) i

theorem completePoint_eq (n : Nat) (stored : Bool) (i : Fin 64) (new : PointRun) (s : State) : s.completePoint n stored i new =
    if stored || (s.ptb.points.get i).quality != new.quality then (((s.pointPut i new).pointsRaised n).informPoint i).finish
    else (s.pointPut i new).pointsRaised n := rfl

/-- The raised trigger leaves what the informs read and renew. -/
theorem pointPut_raised (n : Nat) (i : Fin 64) (new : PointRun) (s : State) :
    SameInputs (s.setPoint i new) ((s.pointPut i new).pointsRaised n) ∧
    ((s.pointPut i new).pointsRaised n).cdm = s.cdm ∧ SheetsKept s ((s.pointPut i new).pointsRaised n) ∧
    Announced [] s ((s.pointPut i new).pointsRaised n) := by
  have hput : OutputEvent (s.setPoint i new) (s.pointPut i new) := pointNotices_output (s.ptb.points.get i) i (s.setPoint i new)
  have hquiet : Announced [] (s.setPoint i new) (s.pointPut i new) := by
    unfold State.pointPut State.pointNotices
    exact (noticeIf_quiet (k := .point) (by decide) ..).quiet (noticeIf_quiet (k := .limit) (by decide) ..)
  have hset : Announced [] s (s.setPoint i new) := .of_lnk rfl rfl rfl
  generalize s.pointPut i new = x at *
  have hraised := pointsRaised_protect n x
  refine ⟨SameInputs.trans ⟨hput.inner.setup.cfg, hput.ptb, hput.inner.setup.scu⟩ hraised.inputs, hraised.cdm.trans hput.cdm,
    (SheetsKept.of_eq hput.shm).trans hraised.shm, (hset.quiet hquiet).quiet (pointsRaised_quiet n x)⟩

theorem Told.of_raised {x : State} {p : Nat} (h : Told p x t) (hi : SameInputs s x) (hshm : SheetsKept s x) (hcdm : x.cdm = s.cdm) : Told p s t := by
  refine ⟨fun sh => ?_, fun z => ?_⟩
  · have hsheet := h.sheets sh
    rewrite [hshm sh, hi.toldSheet, toldSheet_setPass] at hsheet
    exact hsheet
  · rw [h.zones z, hi.toldZone, hcdm]

theorem completePoint_completed (n : Nat) (stored : Bool) (i : Fin 64) (new : PointRun) (s : State) :
    PointCompleted i stored new s (s.completePoint n stored i new) := by
  obtain ⟨hinner, hptb⟩ := completePoint_inner n stored i new s
  obtain ⟨hinputs, hcdm, hshm, hquiet⟩ := pointPut_raised n i new s
  have hblocks := pointsRaised_blocks n (s.pointPut i new)
  have hlnk : (s.pointPut i new).lnk = _ := pointNotices_lnk i new s
  have hput : OutputEvent (s.setPoint i new) (s.pointPut i new) := pointNotices_output (s.ptb.points.get i) i (s.setPoint i new)
  have hcfg : (s.pointPut i new).cfg = s.cfg := hput.inner.setup.cfg
  have hscu : (s.pointPut i new).scu = s.scu := hput.inner.setup.scu
  rewrite [completePoint_eq] at hinner hptb ⊢
  generalize s.pointPut i new = x at *
  generalize x.pointsRaised n = y at *
  obtain ⟨htold, hann⟩ := informPoint_told i y
  have hinformed := (informPoint_blocks i y).trans (y.informPoint i).finish_blocks
  generalize (y.informPoint i).finish = w at *
  have hnotified {t : State} (ht : BlocksReport y t) (hptb : t.ptb = { s.ptb with points := s.ptb.points.set i new }) :
      Notified [.point, .limit] (pointChanges s t i) s t := by
    have hall := hblocks.trans ht
    obtain ⟨ns, hns, htlnk⟩ := hall.offers
    refine pointsNotified (hall.cfg.trans hcfg) (fun n hn => kind_of_mem_pointChanges hn) hns ?_
    rw [htlnk, offered_append hcfg hscu hlnk, pointChanges, hptb, Table.get_set_self]
  have hstates (sh : Fin 2) : (y.shm.get sh).state = (s.shm.get sh).state := by rw [hshm sh]
  split at hptb
  · next hinforms =>
    rewrite [if_pos hinforms] at hinner ⊢
    refine ⟨hinner, hptb, hnotified hinformed hptb, Announced.sheetsFirst ?_, fun _ => htold.of_raised hinputs hshm hcdm⟩
    rewrite [← sheetChanges_congr hstates (fun _ => rfl), ← zoneChanges_congr hcdm rfl]
    exact hquiet.trans hann
  · next hinforms =>
    rewrite [if_neg hinforms] at hinner ⊢
    refine ⟨hinner, hptb, hnotified (.refl y) hptb, Announced.sheetsFirst ?_, fun h => ?_⟩
    · have hsheets : sheetChanges s y = [] := List.flatMap_eq_nil_iff.mpr fun sh _ => sheetChange_of_state (hstates sh)
      have hzones : zoneChanges s y = [] := List.flatMap_eq_nil_iff.mpr fun z _ => zoneChange_of_eq (by rw [hcdm])
      rewrite [hsheets, hzones]
      exact hquiet
    · exact absurd (by simpa using h) hinforms

/-! ### Updates (R7, R8) -/

theorem update_stored {c : PointConfig} {v : Int} (r : PointRun) (h : c.plausMin ≤ v) (k : v ≤ c.plausMax) :
    r.update c v = { value := some v, age := 0, quality := .good, suspect := 0, output := evaluated c r.output v } :=
  if_pos (by simp [PointConfig.plausible, h, k])

theorem update_suspect {c : PointConfig} {v : Int} (r : PointRun) (h : v < c.plausMin ∨ c.plausMax < v) :
    r.update c v = { r with
      suspect := min 3 (r.suspect + 1), quality := if r.quality = .failed ∨ 2 ≤ r.suspect then .failed else .suspect } := by
  have hbad : ¬ c.plausible v = true := by
    simp only [PointConfig.plausible, Bool.and_eq_true, decide_eq_true_eq]
    omega
  have hrun : (r.quality = .failed ∨ min 3 (r.suspect + 1) = 3) ↔ (r.quality = .failed ∨ 2 ≤ r.suspect) := or_congr_right (by omega)
  unfold PointRun.update
  simp only [if_neg hbad, hrun]

theorem updatePoint_completed (i : Fin 64) (v : Int) (s : State) :
    PointCompleted i ((s.cfg.points.get i).plausible v) ((s.ptb.points.get i).update (s.cfg.points.get i) v) s (s.updatePoint i v) :=
  completePoint_completed ..

/-- The comparator: SET by its mode and thresholds, or as a latched output (R12, R13). -/
theorem evaluated_iff (c : PointConfig) (present : Bool) (v : Int) : evaluated c present v = true ↔
    (match c.mode with
      | .none => False
      | .above => c.high ≤ v
      | .hysteresis => c.high ≤ v ∨ (c.low < v ∧ present = true)
      | .window => v < c.low ∨ c.high < v) ∨ (c.latch = true ∧ present = true) := by
  have hunlatched : unlatched c present v = true ↔ match c.mode with
      | .none => False
      | .above => c.high ≤ v
      | .hysteresis => c.high ≤ v ∨ (c.low < v ∧ present = true)
      | .window => v < c.low ∨ c.high < v := by
    unfold unlatched
    cases c.mode with
    | none => simp
    | above => simp
    | window => simp
    | hysteresis =>
      dsimp only
      by_cases hh : c.high ≤ v
      · simp [hh]
      · by_cases hl : v ≤ c.low
        · simp [hh, hl]
        · simp only [if_neg hl, hh, if_false, false_or, show c.low < v from by omega, true_and]
  unfold evaluated
  by_cases hl : (c.latch && present) = true
  · rewrite [if_pos hl]
    simp only [Bool.and_eq_true] at hl
    exact ⟨fun _ => .inr hl, fun _ => rfl⟩
  · rewrite [if_neg hl, hunlatched]
    simp only [Bool.and_eq_true] at hl
    exact (or_iff_left hl).symm

end CompletedPoints

section PointWrites

variable {s : State} {tag : Byte} {i : Fin 64} {c : PointConfig}

/-! ### The WRITEs (R1, R4, R184) -/

theorem exec_writePoint {record : List Byte} {n : Nat} (h : WriteReady tag 1 (BitVec.ofNat 8 i :: record) s) (hl : record.length = 16)
    (hp : parsePoint record = some (c, n)) : exec (.writePointsConfig tag (BitVec.ofNat 8 i :: record)) s =
      .next (s.conclude tag (if c.thresholdsBad || s.identityTaken i c then .error .badValue else done n (s.writePoint i c))) := by
  refine exec_record (c := .writePointsConfig tag (BitVec.ofNat 8 i :: record)) (fits := lengthIs pointLength)
    (g := fun i st c n => if c.thresholdsBad || st.identityTaken i c then .error .badValue else done n (st.writePoint i c)) h ?_
    (index_byte (by decide) i) (beq_iff_eq.mpr hl) hp
  exact if_neg (by rw [List.length_cons, hl]; decide)

theorem s16At_s16 (v : BitVec 16) : s16At (s16 v.toInt) 0 = v.toInt := by
  have hint : v.toInt % 65536 = v.toNat := by
    have hlt := v.isLt
    rewrite [BitVec.toInt_eq_toNat_cond]
    split <;> omega
  have hbytes : u16At (s16 v.toInt) 0 = v.toNat := by
    rewrite [s16, hint, Int.toNat_natCast]
    exact u16At_head v.isLt []
  rewrite [s16At, hbytes, signed16, BitVec.toInt_eq_toNat_cond]
  have hlt := v.isLt
  split <;> split <;> omega

theorem exec_writeValue {v : BitVec 16} (h : WriteReady tag 1 (BitVec.ofNat 8 i :: s16 v.toInt) s) :
    exec (.writePointValue tag (BitVec.ofNat 8 i :: s16 v.toInt)) s = .next (s.conclude tag
      (if (s.cfg.points.get i).binding = .link then done 0 (s.updatePoint i v.toInt) else .error .notNow)) := by
  have hrow : exec (.writePointValue tag (BitVec.ofNat 8 i :: s16 v.toInt)) s = .next (s.serveWrite tag 1 (BitVec.ofNat 8 i :: s16 v.toInt)
      (writeValue (BitVec.ofNat 8 i :: s16 v.toInt))) := rfl
  have hdecided := exec_row (c := .writePointValue tag (BitVec.ofNat 8 i :: s16 v.toInt)) (fits := lengthIs 2)
    (f := fun i record st => if (st.cfg.points.get i).binding = .link then done 0 (st.updatePoint i (s16At record 0)) else .error .notNow)
    h hrow (index_byte (by decide) i) rfl
  rwa [s16At_s16] at hdecided

/-- The part with the new configuration of a point, its record still the old one. -/
def State.pointSet (i : Fin 64) (c : PointConfig) (s : State) : State := { s with cfg := { s.cfg with points := s.cfg.points.set i c } }

theorem writePoint_completed (i : Fin 64) (c : PointConfig) (s : State) :
    PointCompleted i (!(s.cfg.points.get i).sameSource c) ((s.ptb.points.get i).reconfigured (s.cfg.points.get i) c) (s.pointSet i c)
      (s.writePoint i c) :=
  completePoint_completed ..

/-! ### The runtime part after a configuration WRITE (R4, R15) -/

theorem reconfigured_restarts {b : PointConfig} (r : PointRun) (h : b.sameSource c = false) : r.reconfigured b c =
    { value := none, age := 0, suspect := 0, output := false, quality := if c.binding = .none then .unbound else .noValue } := by
  unfold PointRun.reconfigured
  rewrite [h]
  rfl

theorem reconfigured_kept {b : PointConfig} (r : PointRun) (h : b.sameSource c = true) :
    r.reconfigured b c = { r with output := (r.reconfigured b c).output } ∧
    (b.sameComparator c = true → r.reconfigured b c = r) ∧
    (b.sameComparator c = false → c.mode = .none → (r.reconfigured b c).output = false) ∧
    (b.sameComparator c = false → c.mode ≠ .none → r.value = none → (r.reconfigured b c).output = r.output) ∧
    (b.sameComparator c = false → c.mode ≠ .none → ∀ v, r.value = some v → (r.reconfigured b c).output = evaluated c r.output v) := by
  have heq : r.reconfigured b c = if b.sameComparator c then r else if c.mode = .none then { r with output := false }
      else match r.value with
        | some v => { r with output := evaluated c r.output v }
        | none => r := by
    unfold PointRun.reconfigured
    rewrite [h]
    rfl
  rewrite [heq]
  refine ⟨?_, fun hs => by rw [if_pos hs], fun hs hm => ?_, fun hs hm hv => ?_, fun hs hm v hv => ?_⟩
  · split
    · rfl
    · split
      · rfl
      · split <;> rfl
  · rw [if_neg (by rw [hs]; decide), if_pos hm]
  · rw [if_neg (by rw [hs]; decide), if_neg hm, hv]
  · rw [if_neg (by rw [hs]; decide), if_neg hm, hv]

end PointWrites

/-- Settles O14: the record is refused, or replaced, with the comparator judged by what changed. -/
theorem pointWriteRestartsOrKeeps : Obligations.PointWriteRestartsOrKeeps := by
  refine ⟨fun tag i record c n s h hl hp => ?_, parsePoint_fields⟩
  intro old r
  refine ⟨fun hbad => ?_, fun hthresholds hfree => ?_⟩
  · rw [exec_writePoint h hl hp, if_pos (by simpa using hbad), conclude_refused]
  · have hdone := writePoint_completed i c s
    have hexec : exec (.writePointsConfig tag (BitVec.ofNat 8 i :: record)) s = .next ((s.writePoint i c).answered tag .done (u8 n)) := by
      rw [exec_writePoint h hl hp, if_neg (by rw [hthresholds, hfree]; decide), conclude_counted]
    generalize s.writePoint i c = t at *
    refine ⟨t, r.reconfigured old c, hexec, hdone.inner, hdone.ptb, hdone.notified, ⟨hdone.states.sheets, hdone.states.zones⟩,
      reconfigured_restarts r, fun hs => (reconfigured_kept r hs).1, fun hs => (reconfigured_kept r hs).2.1,
      fun hs => (reconfigured_kept r hs).2.2.1, fun hs => (reconfigured_kept r hs).2.2.2.1, fun hs => (reconfigured_kept r hs).2.2.2.2⟩

/-- Settles O15: a LINK point takes the update, any other refuses it; and the comparator. -/
theorem pointValueWriteUpdates : Obligations.PointValueWriteUpdates := by
  refine ⟨fun tag i v s => ?_, evaluated_iff⟩
  intro rest c r h
  refine ⟨fun hb => ?_, fun hb => ?_⟩
  · rw [exec_writeValue h, if_neg hb, conclude_refused]
  · have hdone := updatePoint_completed i v.toInt s
    exact ⟨s.updatePoint i v.toInt, r.update c v.toInt, by rw [exec_writeValue h, if_pos hb, conclude_unclamped], hdone.inner, hdone.ptb,
      hdone.notified, hdone.states, update_stored r, update_suspect r⟩

/-! PROOF. PTB takes receive entries, and the aging expiry ages the points and asks for polls (R5, R7 to R11, R48, R69). -/

section Polls

variable {s t u : State} {f : Fbc} {e w : TxEntry} {held : Bool}

/-! ### What an ordinary request makes of the waiting entries (R28, R28a) -/

theorem asked_rest (f : Fbc) (held : Bool) (e : TxEntry) : (f.asked held e).txProtect = f.txProtect ∧ (f.asked held e).inFlight = f.inFlight := by
  unfold Fbc.asked Fbc.request
  by_cases hp : f.txProtect.any (·.sameKey e) = true
  · simp [hp]
  · by_cases ho : f.txOrdinary.any (·.sameKey e) = true
    · simp [hp, ho]
    · by_cases hs : f.slots < 16
      · simp [hp, ho, hs]
      · simp [hp, ho, hs]

theorem asked_txOrdinary (f : Fbc) (held : Bool) (e : TxEntry) : (f.asked held e).txOrdinary =
    if f.txProtect.any (·.sameKey e) then f.txOrdinary
    else if f.txOrdinary.any (·.sameKey e) then coalesceIn e f.txOrdinary
    else if f.slots < 16 then f.txOrdinary ++ [e] else f.txOrdinary := by
  unfold Fbc.asked Fbc.request
  by_cases hp : f.txProtect.any (·.sameKey e) = true
  · simp [hp]
  · by_cases ho : f.txOrdinary.any (·.sameKey e) = true
    · simp [hp, ho]
    · by_cases hs : f.slots < 16
      · simp [hp, ho, hs]
      · simp [hp, ho, hs]

/-- The polls among the waiting entries. -/
def pollsIn (q : List TxEntry) : List TxEntry := q.filter fun w => w.kind == .poll

theorem mem_pollsIn {q : List TxEntry} : w ∈ pollsIn q ↔ w ∈ q ∧ w.kind = .poll := by simp [pollsIn]

theorem pollsIn_coalesce (h : e.kind ≠ .poll) (q : List TxEntry) : pollsIn (coalesceIn e q) = pollsIn q := by
  induction q with
  | nil => rfl
  | cons w q ih =>
    have hcons : pollsIn (coalesceIn e (w :: q)) =
        pollsIn [if w.sameKey e then { w with value := e.value, priority := e.priority, owner := e.owner } else w] ++ pollsIn (coalesceIn e q) := by
      rewrite [pollsIn, pollsIn, pollsIn, ← List.filter_append]
      rfl
    have hhead : pollsIn [if w.sameKey e then { w with value := e.value, priority := e.priority, owner := e.owner } else w] = pollsIn [w] := by
      split
      · next hk =>
        have hkind : w.kind = e.kind := by
          simp only [TxEntry.sameKey, Bool.and_eq_true, beq_iff_eq] at hk
          exact hk.1.1
        simp [pollsIn, hkind, h]
      · rfl
    rewrite [hcons, hhead, ih, pollsIn, pollsIn, ← List.filter_append]
    rfl

/-- A request for a COMMAND leaves the polls alone. -/
theorem asked_polls (h : e.kind ≠ .poll) : pollsIn (f.asked held e).txOrdinary = pollsIn f.txOrdinary := by
  rewrite [asked_txOrdinary]
  split
  · rfl
  · split
    · exact pollsIn_coalesce h _
    · split
      · simp [pollsIn, h]
      · rfl

theorem requestRemote_polls (i : Fin 32) (s : State) : pollsIn (s.requestRemote false i).fbc.txOrdinary = pollsIn s.fbc.txOrdinary := by
  unfold State.requestRemote
  dsimp only
  split
  · rfl
  · simp only [Bool.false_eq_true, if_false]
    rewrite [enqueue_false]
    have hasked (v : Int) : pollsIn (s.fbc.asked s.holdsCounts ⟨.command, (s.remoteConfig i).node, (s.remoteConfig i).point, v,
        (s.remoteConfig i).priority, some i⟩).txOrdinary = pollsIn s.fbc.txOrdinary := asked_polls (by simp)
    split <;> exact hasked _

theorem newRemoteValue_polls (i : Fin 32) (v : Nat) (s : State) : pollsIn (s.newRemoteValue i v).fbc.txOrdinary = pollsIn s.fbc.txOrdinary := by
  unfold State.newRemoteValue
  dsimp only
  split
  · rfl
  · split
    · exact requestRemote_polls ..
    · rfl

theorem handRemote_polls (i : Fin 32) (s : State) : pollsIn (s.handRemote i).fbc.txOrdinary = pollsIn s.fbc.txOrdinary := by
  unfold State.handRemote
  split
  · split
    · rfl
    · exact newRemoteValue_polls ..
  · split
    · split
      · exact newRemoteValue_polls ..
      · rfl
    · rfl

theorem handRemotes_polls (s : State) : pollsIn s.handRemotes.fbc.txOrdinary = pollsIn s.fbc.txOrdinary := by
  unfold State.handRemotes
  exact forEach_induct (P := fun x : State => pollsIn x.fbc.txOrdinary = pollsIn s.fbc.txOrdinary) _ s rfl fun i x hx => (handRemote_polls i x).trans hx

theorem passes_polls (jumps : Bool) (n : Nat) (s : State) : pollsIn (s.passes jumps n).fbc.txOrdinary = pollsIn s.fbc.txOrdinary := by
  induction n generalizing s with
  | zero => rfl
  | succ n ih =>
    refine (ih _).trans ?_
    split
    · rw [handRemotes_polls, (passWith_passed jumps s).fbc]
    · rfl

theorem Triggered.finish_polls (x : Triggered) : pollsIn x.finish.fbc.txOrdinary = pollsIn x.state.fbc.txOrdinary := by
  unfold Triggered.finish
  exact (handRemotes_polls _).trans (passes_polls ..)

/-! ### The informs of a point ask nothing of the bus -/

theorem informSheet_fbc (p : Nat) (sh : Fin 2) (s : State) : (s.informSheet p sh).state.fbc = s.fbc := by
  have hevaluated : (s.evaluateSheet sh).state.fbc = s.fbc := (handAlarm_bus ..).1.trans (noticeIf_fbc ..)
  have hheave (x : State) : (x.evaluateHeave sh).fbc = x.fbc := by
    unfold State.evaluateHeave
    dsimp only
    split <;> rfl
  have hturn : (if (s.cfg.sheets.get sh).surfaces.contains p || (s.cfg.sheets.get sh).brine == some p then s.evaluateSheet sh
      else ⟨s, 0⟩ : Triggered).state.fbc = s.fbc := by
    split
    · exact hevaluated
    · rfl
  unfold State.informSheet
  dsimp only
  split
  · exact (hheave _).trans hturn
  · exact hturn

theorem handZone_fbc (config : Bool) (old : ZoneRun) (z : Fin 4) (s : State) : (s.handZone config old z).fbc = s.fbc := by
  unfold State.handZone
  dsimp only
  have hheat (b : Bool) : (if b then s.recomputeKinds [.regen, .ceiling] else s).fbc = s.fbc := by split <;> rfl
  split
  · exact (handOn_fbc ..).trans (hheat _)
  · exact hheat _

theorem informZone_fbc (p : Nat) (z : Fin 4) (s : State) : (s.informZone p z).state.fbc = s.fbc := by
  unfold State.informZone
  dsimp only
  split
  · exact (handZone_fbc ..).trans (noticeIf_fbc ..)
  · rfl

theorem informPoint_fbc (i : Fin 64) (s : State) : (s.informPoint i).state.fbc = s.fbc := by
  rewrite [State.informPoint, Triggered.andThen_state, Triggered.and_state, informZones_eq, informSheets_eq]
  have hsheets (x : State) : (forEachTriggered 2 (fun sh st => st.informSheet i.val sh) x).state.fbc = x.fbc :=
    forEachTriggered_induct (P := fun y => y.fbc = x.fbc) _ x rfl fun sh y hy => (informSheet_fbc i.val sh y).trans hy
  have hzones (x : State) : (forEachTriggered 4 (fun z st => st.informZone i.val z) x).state.fbc = x.fbc :=
    forEachTriggered_induct (P := fun y => y.fbc = x.fbc) _ x rfl fun z y hy => (informZone_fbc i.val z y).trans hy
  have hsinks (x : State) : (x.informSinks i.val).fbc = x.fbc := rfl
  rw [hsinks, hzones, hsheets]

/-! ### One request more -/

theorem coalesced_eq (h : w.sameKey e = true) : ({ w with value := e.value, priority := e.priority, owner := e.owner } : TxEntry) = e := by
  obtain ⟨hk, ht, hp⟩ := TxEntry.sameKey_iff.mp h
  cases w
  cases e
  simp_all

theorem mem_coalesceIn {q : List TxEntry} (h : w ∈ coalesceIn e q) : w ∈ q ∨ w = e := by
  obtain ⟨v, hv, rfl⟩ := List.mem_map.mp h
  split
  · next hk => exact .inr (coalesced_eq hk)
  · exact .inl hv

theorem mem_of_asked (h : w ∈ (f.asked held e).txOrdinary) : w ∈ f.txOrdinary ∨ w = e := by
  rewrite [asked_txOrdinary] at h
  split at h
  · exact .inl h
  · split at h
    · exact mem_coalesceIn h
    · split at h
      · exact (List.mem_append.mp h).imp id List.mem_singleton.mp
      · exact .inl h

/-- An entry stays that has another key, or is the very one asked for. -/
theorem mem_asked (hw : w ∈ f.txOrdinary) (h : w.sameKey e = true → w = e) : w ∈ (f.asked held e).txOrdinary := by
  rewrite [asked_txOrdinary]
  split
  · exact hw
  · split
    · refine List.mem_map.mpr ⟨w, hw, ?_⟩
      split
      · next hk => rw [coalesced_eq hk, h hk]
      · rfl
    · split
      · exact List.mem_append_left _ hw
      · exact hw

/-- With a slot free and no protect entry of its key, the entry asked for waits. -/
theorem asked_waits (hp : ∀ w ∈ f.txProtect, w.sameKey e = false) (hs : f.slots < 16) : e ∈ (f.asked held e).txOrdinary := by
  have hfree : ¬ f.txProtect.any (·.sameKey e) = true := by
    rewrite [Bool.not_eq_true, List.any_eq_false]
    exact fun w hw => by rw [hp w hw]; decide
  rewrite [asked_txOrdinary, if_neg hfree, if_pos hs]
  split
  · next ho =>
    obtain ⟨w, hw, hk⟩ := List.any_eq_true.mp ho
    exact List.mem_map.mpr ⟨w, hw, by rw [if_pos hk, coalesced_eq hk]⟩
  · exact List.mem_append_right _ List.mem_cons_self

theorem asked_slots (f : Fbc) (held : Bool) (e : TxEntry) : (f.asked held e).slots ≤ f.slots + 1 := by
  have hlength : (f.asked held e).txOrdinary.length ≤ f.txOrdinary.length + 1 := by
    rewrite [asked_txOrdinary]
    split
    · omega
    · split
      · simp [coalesceIn]
      · split
        · simp
        · omega
  unfold Fbc.slots
  rewrite [(asked_rest f held e).1, (asked_rest f held e).2]
  omega

end Polls

section Aging

variable {s t x : State} {l : List (Fin 64)}

/-! ### The aging of one point (R9 to R11) -/

def State.agedPoint (s : State) (i : Fin 64) : PointRun := (s.ptb.points.get i).aged (s.cfg.points.get i)

/-- A POLL is asked for the point at this expiry (R10). -/
def State.dueAt (s : State) (i : Fin 64) : Bool := pollDue (s.cfg.points.get i) (s.ptb.points.get i) (s.agedPoint i)

def State.pollOf (s : State) (i : Fin 64) : TxEntry := ⟨.poll, (s.cfg.points.get i).node, (s.cfg.points.get i).point, 0, 4, none⟩

/-- The notices of a point's aging. -/
def State.agedOffers (s : State) (i : Fin 64) : List Offer :=
  Offer.when ((s.ptb.points.get i).quality ≠ (s.agedPoint i).quality) .point i (codeOf qualities (s.agedPoint i).quality) ++
    Offer.when ((s.ptb.points.get i).output ≠ (s.agedPoint i).output) .limit i (s.agedPoint i).output.toNat

theorem pointNotices_rest (old : PointRun) (i : Fin 64) (s : State) :
    s.pointNotices old i = { s with lnk := (s.pointNotices old i).lnk } := by
  unfold State.pointNotices
  dsimp only
  cases old.quality != (s.ptb.points.get i).quality <;> cases old.output != (s.ptb.points.get i).output <;> rfl

/-- One point's aging: its record, its notices, and its POLL. -/
theorem agePoint_rest (i : Fin 64) (s : State) : s.agePoint i = { s with
    ptb := { s.ptb with points := s.ptb.points.set i (s.agedPoint i) }
    lnk := s.offered (s.agedOffers i)
    fbc := if s.dueAt i then s.fbc.asked s.holdsCounts (s.pollOf i) else s.fbc } := by
  have hput : s.pointPut i (s.agedPoint i) = { s.setPoint i (s.agedPoint i) with lnk := s.offered (s.agedOffers i) } := by
    have hlnk : (s.pointPut i (s.agedPoint i)).lnk = s.offered (s.agedOffers i) := pointNotices_lnk i (s.agedPoint i) s
    rewrite [← hlnk]
    exact pointNotices_rest ..
  have heq : s.agePoint i = if s.dueAt i then (s.pointPut i (s.agedPoint i)).requestPoll (s.cfg.points.get i)
      else s.pointPut i (s.agedPoint i) := rfl
  rewrite [heq, hput]
  have hassembly : (s.offered (s.agedOffers i)).assembly = s.lnk.assembly := by
    unfold State.offered
    exact foldl_induct (P := fun l : Lnk => l.assembly = s.lnk.assembly) _ _ _ rfl fun l n hl => by
      obtain ⟨-, -, -, -, -, -, hassembly, -⟩ := Lnk.offer_rest l (s.cfg.notice.enables.get (noticeIndex n.1)) ⟨n.1, n.2.1, n.2.2, s.scu.clock, 0⟩
      exact hassembly.trans hl
  split
  · rewrite [State.requestPoll, enqueue_false]
    unfold State.holdsCounts
    dsimp only
    rewrite [hassembly]
    rfl
  · rfl

/-- The aging loop after the points `l`. -/
structure AgedUpTo (s : State) (l : List (Fin 64)) (x : State) : Prop where
  rest : x = { s with ptb := { s.ptb with points := x.ptb.points }, lnk := s.offered (l.flatMap s.agedOffers), fbc := x.fbc }
  points : ∀ j, x.ptb.points.get j = if j ∈ l then s.agedPoint j else s.ptb.points.get j
  protect : x.fbc.txProtect = s.fbc.txProtect
  slots : x.fbc.slots ≤ s.fbc.slots + l.countP s.dueAt
  asked : ∀ w ∈ x.fbc.txOrdinary, w.kind = .poll → w ∈ s.fbc.txOrdinary ∨ ∃ i, s.dueAt i = true ∧ w = s.pollOf i
  polled : ∀ i ∈ l, s.dueAt i = true → s.fbc.slots + l.countP s.dueAt ≤ 16 →
    (∀ w ∈ s.fbc.txProtect, w.sameKey (s.pollOf i) = false) → s.pollOf i ∈ x.fbc.txOrdinary

theorem AgedUpTo.nil (s : State) : AgedUpTo s [] s :=
  ⟨rfl, fun _ => by simp, rfl, by simp, fun _ hw _ => .inl hw, by simp⟩

theorem AgedUpTo.point {i : Fin 64} (h : AgedUpTo s l x) (hi : i ∉ l) : AgedUpTo s (l ++ [i]) (x.agePoint i) := by
  have hold : x.ptb.points.get i = s.ptb.points.get i := by rw [h.points i, if_neg hi]
  have hcfg : x.cfg = s.cfg := by rw [h.rest]
  have hscu : x.scu = s.scu := by rw [h.rest]
  have hlnk : x.lnk = s.offered (l.flatMap s.agedOffers) := by rw [h.rest]
  have hnew : x.agedPoint i = s.agedPoint i := by rw [State.agedPoint, hold, hcfg]; rfl
  have hoffers : x.agedOffers i = s.agedOffers i := by rw [State.agedOffers, hnew, hold]; rfl
  have hdue : x.dueAt i = s.dueAt i := by rw [State.dueAt, hnew, hold, hcfg]; rfl
  have hpoll : x.pollOf i = s.pollOf i := by rw [State.pollOf, hcfg]; rfl
  have hstep := agePoint_rest i x
  rewrite [hnew, hoffers, hdue, hpoll, offered_append hcfg hscu hlnk] at hstep
  have hptb : (x.agePoint i).ptb.points = x.ptb.points.set i (s.agedPoint i) := by rw [hstep]
  have hfbc : (x.agePoint i).fbc = if s.dueAt i then x.fbc.asked x.holdsCounts (s.pollOf i) else x.fbc := by rw [hstep]
  have hcount : (l ++ [i]).countP s.dueAt = l.countP s.dueAt + if s.dueAt i then 1 else 0 := by
    rw [List.countP_append, List.countP_singleton]
  have hkey (j : Fin 64) : (s.pollOf j).sameKey (s.pollOf i) = true → s.pollOf j = s.pollOf i := fun hk => coalesced_eq hk
  refine ⟨?_, fun j => ?_, ?_, ?_, fun w hw hk => ?_, fun j hj hd hroom hp => ?_⟩
  · rw [List.flatMap_append, List.flatMap_singleton, hstep, h.rest]
  · rewrite [hptb, Table.get_set]
    by_cases hij : i = j
    · subst hij
      rw [if_pos rfl, if_pos (List.mem_append_right _ List.mem_cons_self)]
    · rewrite [if_neg hij, h.points j]
      simp only [List.mem_append, List.mem_singleton, Ne.symm hij, or_false]
  · rewrite [hfbc]
    split
    · exact (asked_rest ..).1.trans h.protect
    · exact h.protect
  · rewrite [hfbc, hcount]
    have hslots := h.slots
    split
    · exact (asked_slots ..).trans (by omega)
    · omega
  · rewrite [hfbc] at hw
    split at hw
    · next hd => exact (mem_of_asked hw).elim (fun hw => h.asked w hw hk) fun e => .inr ⟨i, hd, e⟩
    · exact h.asked w hw hk
  · rewrite [hcount] at hroom
    have hslots := h.slots
    rewrite [hfbc]
    rcases List.mem_append.mp hj with hj | hj
    · have hwaits := h.polled j hj hd (by omega) hp
      split
      · exact mem_asked hwaits (hkey j)
      · exact hwaits
    · obtain rfl := List.mem_singleton.mp hj
      rewrite [if_pos hd] at hroom ⊢
      exact asked_waits (by rw [h.protect]; exact hp) (by omega)

/-- What holds at the start and is carried over each new entry holds of a loop over distinct entries. -/
theorem foldl_history {α σ : Type} {P : List α → σ → Prop} {f : σ → α → σ} {s : σ} (h0 : P [] s)
    (hstep : ∀ l a x, a ∉ l → P l x → P (l ++ [a]) (f x a)) {l : List α} (hl : l.Nodup) : P l (l.foldl f s) := by
  induction l using List.reverseRecOn with
  | nil => exact h0
  | append_singleton l a ih =>
    rewrite [List.foldl_append]
    have hnodup := List.nodup_append.mp hl
    exact hstep l a _ (fun ha => hnodup.2.2 a ha a List.mem_cons_self rfl) (ih hnodup.1)

theorem ageLoop_aged (s : State) : AgedUpTo s (List.finRange 64) (forEach 64 State.agePoint s) :=
  foldl_history (P := fun l x => AgedUpTo s l x) (.nil s) (fun _ _ _ ha h => h.point ha) (List.nodup_finRange 64)

/-! ### The expiry whole -/

theorem ageAll_aged (s : State) : ∃ y, AgedUpTo s (List.finRange 64) y ∧ SheetEvent y s.ageAll ∧ BlocksReport y s.ageAll ∧
    pollsIn s.ageAll.fbc.txOrdinary = pollsIn y.fbc.txOrdinary := by
  refine ⟨_, ageLoop_aged s, ?_⟩
  unfold State.ageAll
  dsimp only
  generalize forEach 64 State.agePoint s = y
  have hstep (i : Fin 64) (b : Bool) (z : State) : SheetEvent z (if b then z.informPoint i else ⟨z, 0⟩ : Triggered).state ∧
      BlocksReport z (if b then z.informPoint i else ⟨z, 0⟩ : Triggered).state ∧ (if b then z.informPoint i else ⟨z, 0⟩ : Triggered).state.fbc = z.fbc := by
    split
    · exact ⟨informPoint_sheet i z, informPoint_blocks i z, informPoint_fbc i z⟩
    · exact ⟨.refl z, .refl z, rfl⟩
  have hloop := forEachTriggered_induct (P := fun z => SheetEvent y z ∧ BlocksReport y z ∧ z.fbc = y.fbc)
    (fun i st => if (((s.ptb.points.get i).aged (s.cfg.points.get i)).quality != (s.ptb.points.get i).quality) then st.informPoint i else ⟨st, 0⟩) y
    ⟨.refl y, .refl y, rfl⟩ fun i z hz =>
      have h := hstep i (((s.ptb.points.get i).aged (s.cfg.points.get i)).quality != (s.ptb.points.get i).quality) z
      ⟨hz.1.trans h.1, hz.2.1.trans h.2.1, h.2.2.trans hz.2.2⟩
  generalize forEachTriggered 64 (fun i st => if (((s.ptb.points.get i).aged (s.cfg.points.get i)).quality != (s.ptb.points.get i).quality)
    then st.informPoint i else ⟨st, 0⟩) y = w at hloop ⊢
  exact ⟨hloop.1.finish, hloop.2.1.trans w.finish_blocks, by rw [w.finish_polls, hloop.2.2]⟩

theorem aged_untouched {c : PointConfig} {r : PointRun} (h : r.quality = .noValue ∨ r.quality = .unbound) : r.aged c = r := by
  unfold PointRun.aged
  rcases h with h | h <;> rw [h]

theorem aged_older {c : PointConfig} {r : PointRun} (h : r.quality ≠ .noValue) (k : r.quality ≠ .unbound) : r.aged c = { r with
    age := min 65535 (r.age + 1)
    quality := if r.quality ≠ .failed ∧ 4 * c.stale ≤ min 65535 (r.age + 1) then .failed
      else if r.quality = .good ∧ c.stale ≤ min 65535 (r.age + 1) then .stale else r.quality } := by
  unfold PointRun.aged
  split
  · next e => exact absurd e h
  · next e => exact absurd e k
  · rfl

end Aging

section Entries

variable {s t : State} {i : Fin 64} {node point : Nat}

/-! ### The receive entry (R5) -/

/-- The point is bound to the identity (R5). -/
def State.HoldsIdentity (s : State) (node point : Nat) (i : Fin 64) : Prop :=
  (s.cfg.points.get i).binding = .bus ∧ (s.cfg.points.get i).node = node ∧ (s.cfg.points.get i).point = point

theorem holdsIdentity_iff : ((s.cfg.points.get i).binding == .bus && (s.cfg.points.get i).node == node && (s.cfg.points.get i).point == point) = true ↔
    s.HoldsIdentity node point i := by
  simp [State.HoldsIdentity, and_assoc]

theorem pointOfIdentity_some (h : s.HoldsIdentity node point i) (hu : ∀ j, s.HoldsIdentity node point j → j = i) :
    s.pointOfIdentity node point = some i := by
  cases hf : s.pointOfIdentity node point with
  | none =>
    have hnone := List.find?_eq_none.mp hf i (List.mem_finRange i)
    exact absurd (holdsIdentity_iff.mpr h) hnone
  | some j =>
    have hj := List.find?_some hf
    rw [hu j (holdsIdentity_iff.mp hj)]

theorem pointOfIdentity_none (h : ∀ j, ¬ s.HoldsIdentity node point j) : s.pointOfIdentity node point = none :=
  List.find?_eq_none.mpr fun j _ hj => h j (holdsIdentity_iff.mp hj)

/-- The entry taken from the queue. -/
def State.entryTaken (rest : List RxEntry) (s : State) : State := { s with fbc := { s.fbc with rxQueue := rest } }

theorem exec_receiveEntry {e : RxEntry} {rest : List RxEntry} (live : s.live = true) (hread : s.readsPoints = false)
    (hq : s.fbc.rxQueue = e :: rest) : exec .receiveEntryTaken s = .next ((s.entryTaken rest).handleEntry e) := by
  have hevent : exec .receiveEntryTaken s = .next s.takeEntry := congrArg Host.Outcome.next (event_live live _)
  rewrite [hevent, State.takeEntry, hq]
  simp only [hread, Bool.false_eq_true, if_false]
  rfl

/-- The identity that no point holds is counted and kept (R5). -/
def State.unboundTaken (e : RxEntry) (s : State) : State :=
  { s.count .rxUnbound with fbc := { (s.count .rxUnbound).fbc with unbound := some (e.source, e.point) } }

theorem handleEntry_eq {e : RxEntry} (h : e.kind = .reading) (s : State) : s.handleEntry e =
    match s.pointOfIdentity e.source e.point with
    | some i => s.updatePoint i e.value
    | none => s.unboundTaken e := by
  unfold State.handleEntry
  rewrite [if_neg (not_not.mpr h)]
  rfl

theorem unboundTaken_counted (e : RxEntry) (s : State) : Counted [.rxUnbound] s (s.unboundTaken e) := by
  have h := count_counted .rxUnbound s
  exact h

theorem unboundTaken_rest (e : RxEntry) (s : State) : s.unboundTaken e = { s with fbc := { s.fbc with
    counters := (s.unboundTaken e).fbc.counters, tallies := (s.unboundTaken e).fbc.tallies, unbound := some (e.source, e.point) } } := by
  unfold State.unboundTaken State.count Fbc.count
  cases s.holdsCounts <;> rfl

/-! ### What the point's inform gives (R48, R62, R69) -/

theorem toldSheet_evaluated {p : Nat} {sh : Fin 2} {r : SheetRun} (h : p ∈ (s.cfg.sheets.get sh).surfaces ∨ (s.cfg.sheets.get sh).brine = some p) :
    let c := s.cfg.sheets.get sh
    let m := s.sheetTemp c
    let state := evaluatedState c r.state m.1 m.2
    (s.toldSheet p sh r).state = state ∧ (s.toldSheet p sh r).temp = m.1.map shownTemp ∧ (s.toldSheet p sh r).source = m.2 ∧
      (s.toldSheet p sh r).budget = budgetOf c state m.1 m.2 (if state = .resurface then r.frozen else none) := by
  intro c m state
  have htest : (c.surfaces.contains p || c.brine == some p) = true := by simpa [c] using h
  unfold State.toldSheet
  dsimp only
  rewrite [if_pos htest]
  split <;> exact ⟨rfl, rfl, rfl, rfl⟩

theorem toldSheet_kept {p : Nat} {sh : Fin 2} {r : SheetRun} (h : p ∉ (s.cfg.sheets.get sh).surfaces) (k : (s.cfg.sheets.get sh).brine ≠ some p) :
    s.toldSheet p sh r = { r with heave := (s.toldSheet p sh r).heave } := by
  have htest : ¬ ((s.cfg.sheets.get sh).surfaces.contains p || (s.cfg.sheets.get sh).brine == some p) = true := by simp [h, k]
  unfold State.toldSheet
  dsimp only
  rewrite [if_neg htest]
  split <;> rfl

theorem toldSheet_heave {p : Nat} {sh : Fin 2} (r : SheetRun) : (s.toldSheet p sh r).heave =
    if (s.cfg.sheets.get sh).subsoil == some p then s.heaveNow (s.cfg.sheets.get sh) r.heave else r.heave := by
  unfold State.toldSheet
  dsimp only
  split <;> split <;> rfl

theorem toldZone_eq {p : Nat} {z : Fin 4} (r : ZoneRun) :
    ((s.cfg.zones.get z).enabled = true → (s.cfg.zones.get z).names p = true →
      s.toldZone p z r = s.evaluatedZone (s.cfg.zones.get z) r.flood r.state) ∧
    ((s.cfg.zones.get z).enabled = false ∨ (s.cfg.zones.get z).names p = false → s.toldZone p z r = r) := by
  unfold State.toldZone
  dsimp only
  refine ⟨fun h k => by rw [h, k]; rfl, fun h => ?_⟩
  rcases h with h | h <;> rw [h] <;> simp

/-- Each sheet after a point's inform (R48, R62). -/
theorem Told.sheet {p : Nat} (h : Told p s t) (sh : Fin 2) :
    let d := s.cfg.sheets.get sh
    let old := s.shm.get sh
    let m := s.sheetTemp d
    let state := evaluatedState d old.state m.1 m.2
    (p ∈ d.surfaces ∨ d.brine = some p →
      (t.shm.get sh).state = state ∧ (t.shm.get sh).temp = m.1.map shownTemp ∧ (t.shm.get sh).source = m.2 ∧
      (t.shm.get sh).budget = budgetOf d state m.1 m.2 (if state = .resurface then old.frozen else none)) ∧
    (p ∉ d.surfaces → d.brine ≠ some p → t.shm.get sh = { old with
      atLastPass := (t.shm.get sh).atLastPass, heave := (t.shm.get sh).heave }) ∧
    (d.subsoil = some p → (t.shm.get sh).heave = s.heaveNow d old.heave) ∧
    (d.subsoil ≠ some p → (t.shm.get sh).heave = old.heave) := by
  intro d old m state
  have hsheet := h.sheets sh
  have hheave := toldSheet_heave (s := s) (p := p) (sh := sh) old
  have hevaluated := toldSheet_evaluated (s := s) (p := p) (sh := sh) (r := old)
  have hkept := toldSheet_kept (s := s) (p := p) (sh := sh) (r := old)
  generalize t.shm.get sh = new at *
  change new = { s.toldSheet p sh old with atLastPass := new.atLastPass } at hsheet
  generalize s.toldSheet p sh old = told at *
  have hnew : new.state = told.state ∧ new.temp = told.temp ∧ new.source = told.source ∧ new.budget = told.budget ∧ new.heave = told.heave := by
    rewrite [hsheet]
    exact ⟨rfl, rfl, rfl, rfl, rfl⟩
  obtain ⟨hstate, htemp, hsource, hbudget, hheave'⟩ := hnew
  refine ⟨fun h => ?_, fun h k => ?_, fun h => ?_, fun h => ?_⟩
  · obtain ⟨h1, h2, h3, h4⟩ := hevaluated h
    exact ⟨hstate.trans h1, htemp.trans h2, hsource.trans h3, hbudget.trans h4⟩
  · have htold := hkept h k
    rewrite [← hheave'] at htold
    rw [hsheet, htold]
  · exact hheave'.trans (hheave.trans (if_pos (beq_iff_eq.mpr h)))
  · exact hheave'.trans (hheave.trans (if_neg (mt beq_iff_eq.mp h)))

/-- Each zone after a point's inform (R69). -/
theorem Told.zone {p : Nat} (h : Told p s t) (z : Fin 4) :
    let d := s.cfg.zones.get z
    let old := s.cdm.get z
    (d.enabled = true → d.names p = true → t.cdm.get z = s.evaluatedZone d old.flood old.state) ∧
    (d.enabled = false ∨ d.names p = false → t.cdm.get z = old) :=
  ⟨fun he hn => (h.zones z).trans ((toldZone_eq _).1 he hn), fun hk => (h.zones z).trans ((toldZone_eq _).2 hk)⟩

end Entries

/-- Settles O42: the point that holds the entry's identity is updated and its sheets and zones follow; and the aging of every point. -/
theorem pointEvents : Obligations.PointEvents := by
  refine ⟨fun e rest s live hread hq hkind => ?entry, fun s live hread => ?aging⟩
  case entry =>
    intro taken holds
    have hexec := exec_receiveEntry live hread hq
    rewrite [handleEntry_eq hkind] at hexec
    refine ⟨fun i hi hunique => ?_, fun hnone => ?_⟩
    · intro c r
      rewrite [pointOfIdentity_some (s := s.entryTaken rest) (i := i) hi hunique] at hexec
      dsimp only at hexec
      have hdone := updatePoint_completed i e.value (s.entryTaken rest)
      generalize (s.entryTaken rest).updatePoint i e.value = t at *
      refine ⟨t, r.update c e.value, hexec, hdone.inner, hdone.ptb, hdone.notified, ⟨hdone.states.sheets, hdone.states.zones⟩, update_stored r,
        update_suspect r, fun hinforms => ?_⟩
      have htold : Told i.val (taken.setPoint i (r.update c e.value)) t := hdone.told (hinforms.elim (fun h => .inr (Ne.symm h)) fun h =>
        .inl (by simp [PointConfig.plausible, c, State.entryTaken, h.1, h.2]))
      have hu : ({ taken with ptb := t.ptb } : State) = taken.setPoint i (r.update c e.value) := by
        rewrite [hdone.ptb]
        rfl
      intro u
      have hu : u = taken.setPoint i (r.update c e.value) := hu
      rewrite [hu]
      exact ⟨fun sh => htold.sheet sh, fun z => htold.zone z⟩
    · rewrite [pointOfIdentity_none (s := s.entryTaken rest) hnone] at hexec
      exact ⟨_, hexec, unboundTaken_counted e (s.entryTaken rest), unboundTaken_rest e (s.entryTaken rest)⟩
  case aging =>
    obtain ⟨y, haged, hsheet, hblocks, hpolls⟩ := ageAll_aged s
    have hinner := ageAll_inner s
    have hexec : exec .agingExpiry s = .next s.ageAll :=
      (congrArg Host.Outcome.next (event_live live _)).trans (congrArg Host.Outcome.next (if_neg (by rw [hread]; decide)))
    generalize s.ageAll = t at *
    have hrest := haged.rest
    have hpoints (i : Fin 64) : t.ptb.points.get i = s.agedPoint i := by
      rw [hsheet.ptb, haged.points i, if_pos (List.mem_finRange i)]
    have host : y.ost = s.ost := by rw [hrest]
    have hlsq : y.lsq = s.lsq := by rw [hrest]
    have hpru : y.pru = s.pru := by rw [hrest]
    have hstc : y.stc = s.stc := by rw [hrest]
    have hheld : y.ptb.heldAging = s.ptb.heldAging := by rw [hrest]
    refine ⟨t, hexec, hinner, (Followed.of_eq host).trans hsheet.followed, (LightsFollow.of_eq hlsq).trans hsheet.lights,
      hsheet.pru.trans hpru, hsheet.stc.trans hstc, by rw [hsheet.ptb, hheld], ?_, fun i => ?_, ?_⟩
    · obtain ⟨ns, hns, hlnk⟩ := hblocks.offers
      have hylnk : y.lnk = s.offered ((List.finRange 64).flatMap s.agedOffers) := by rw [hrest]
      have hown : (List.finRange 64).flatMap (pointChanges s t) = (List.finRange 64).flatMap s.agedOffers :=
        List.flatMap_congr fun i _ => by
          rewrite [pointChanges, hpoints i]
          rfl
      refine pointsNotified hinner.setup.cfg (fun n hn => ?_) hns ?_
      · obtain ⟨i, -, hn⟩ := List.mem_flatMap.mp hn
        exact kind_of_mem_pointChanges hn
      · rw [hown, hlnk, offered_append (by rw [hrest]) (by rw [hrest]) hylnk]
    · intro c r age
      rewrite [hpoints i]
      exact ⟨fun h => aged_untouched h, fun h k => aged_older h k⟩
    · intro due poll
      have hdue : due = s.dueAt := by
        funext i
        simp only [due, hpoints i]
        rfl
      have hmem (w : TxEntry) (hw : w.kind = .poll) : w ∈ t.fbc.txOrdinary ↔ w ∈ y.fbc.txOrdinary := by
        have h : w ∈ pollsIn t.fbc.txOrdinary ↔ w ∈ pollsIn y.fbc.txOrdinary := by rw [hpolls]
        simpa [mem_pollsIn, hw] using h
      rewrite [hdue]
      exact ⟨fun i hi hroom hp => (hmem _ rfl).mpr (haged.polled i (List.mem_finRange i) hi hroom hp),
        fun w hw hk => haged.asked w ((hmem w hk).mp hw) hk⟩

/-! PROOF. A tick advances the clock and takes every due entry of the event program (R150, R160 to R162). -/

section Ticks

variable {s t u : State} {l : List ProgramEntry} {e : ProgramEntry}

/-! ### One action (R161) -/

/-- What an entry's action leaves alone: of the clock and the program everything but the mode. -/
structure Executed (s t : State) : Prop where
  scu : t.scu = { s.scu with mode := t.scu.mode }
  cfg : t.cfg = s.cfg
  phase : t.phase = s.phase
  link : LinkKept s t
  bus : BusKept s t
  pru : t.pru = s.pru
  ptb : t.ptb = s.ptb
  stc : t.stc = s.stc

theorem SheetEvent.executed (h : SheetEvent s t) : Executed s t :=
  ⟨by rw [h.inner.setup.scu], h.inner.setup.cfg, h.inner.setup.phase, h.inner.link, h.inner.bus, h.pru, h.ptb, h.stc⟩

theorem LightEvent.executed (h : LightEvent s t) : Executed s t :=
  ⟨by rw [h.inner.setup.scu], h.inner.setup.cfg, h.inner.setup.phase, h.inner.link, h.inner.bus, h.pru, h.ptb, h.stc⟩

theorem Executed.refl (s : State) : Executed s s := (SheetEvent.refl s).executed

theorem setScu_kept (x : Scu) (s : State) : LinkKept s (s.setScu x) ∧ BusKept s (s.setScu x) := ⟨.of_eq rfl, .of_eq rfl⟩

theorem changeMode_executed (m : ArenaMode) (s : State) : Executed s (s.changeMode m) ∧ (s.changeMode m).scu.mode = m := by
  have hinner := changeMode_inner m s
  have hheat := changeMode_heat m s
  have hscu : (s.changeMode m).scu = { s.scu with mode := m } := hinner.setup.scu
  have hmode : (s.changeMode m).scu.mode = m := by rw [hscu]
  exact ⟨⟨by rw [hmode, hscu], hinner.setup.cfg, hinner.setup.phase, (setScu_kept _ s).1.trans hinner.link,
    (setScu_kept _ s).2.trans hinner.bus, hheat.pru.trans (takeMode_bus m s).2.2.2.2,
    hheat.ptb.trans (takeMode_followed m s).2, changeMode_stc m s⟩, hmode⟩

theorem outcomeOf_executed {o : Option State} (h : ∀ t, o = some t → SheetEvent s t) : Executed s (outcomeOf s o).2 :=
  match o with
  | .none => .refl s
  | .some t => (h t rfl).executed

theorem perform_executed (a : ProgramAction) (s : State) : Executed s (s.perform a).2 := by
  cases a with
  | mode m => exact (changeMode_executed m s).1
  | scene k fade =>
    have hrecall := (recall_light k fade s).executed
    unfold State.perform
    dsimp only
    generalize s.recall k fade = t at *
    split
    · exact hrecall
    · exact .refl s
  | resurface sh => exact outcomeOf_executed fun t ht => resurface_sheet ht
  | cover sh on =>
    refine outcomeOf_executed fun t ht => ?_
    cases on with
    | false => exact coverOff_sheet ht
    | true => exact coverOn_sheet ht
  | allocate =>
    unfold State.perform
    dsimp only
    split
    · exact (pass_heat s).sheet.executed
    · exact .refl s

/-! ### One entry, and the entries of a list one after the other (R160) -/

/-- What entries leave that were taken one after the other: their places are gone. -/
structure EntriesTaken (l : List ProgramEntry) (s t : State) : Prop where
  scu : t.scu = { s.scu with mode := t.scu.mode, program := s.scu.program.filter fun x => l.all fun e => x.id != e.id }
  cfg : t.cfg = s.cfg
  phase : t.phase = s.phase
  link : LinkKept s t
  bus : BusKept s t
  pru : t.pru = s.pru
  ptb : t.ptb = s.ptb
  stc : t.stc = s.stc

theorem takeProgramEntry_taken (e : ProgramEntry) (s : State) : EntriesTaken [e] s (s.takeProgramEntry true e) := by
  have h := perform_executed e.action (s.removeEntry e.id)
  have hnotice := notice_event .program e.id ((s.removeEntry e.id).perform e.action).1 ((s.removeEntry e.id).perform e.action).2
  have heq : s.takeProgramEntry true e = ((s.removeEntry e.id).perform e.action).2.notice .program e.id ((s.removeEntry e.id).perform e.action).1 := rfl
  rewrite [← heq] at hnotice
  generalize ((s.removeEntry e.id).perform e.action).2 = x at *
  generalize s.takeProgramEntry true e = t at *
  have hmode : t.scu = x.scu := hnotice.inner.setup.scu
  refine ⟨?_, hnotice.inner.setup.cfg.trans h.cfg, hnotice.inner.setup.phase.trans h.phase, ((setScu_kept _ s).1.trans h.link).trans hnotice.inner.link,
    ((setScu_kept _ s).2.trans h.bus).trans hnotice.inner.bus, hnotice.pru.trans h.pru, hnotice.ptb.trans h.ptb, hnotice.stc.trans h.stc⟩
  have hall : (fun x : ProgramEntry => [e].all fun e => x.id != e.id) = fun x => x.id != e.id := by
    funext x
    simp
  rewrite [hmode, h.scu, hall]
  rfl

theorem EntriesTaken.trans {m : List ProgramEntry} (h : EntriesTaken l s t) (k : EntriesTaken m t u) : EntriesTaken (l ++ m) s u := by
  refine ⟨?_, k.cfg.trans h.cfg, k.phase.trans h.phase, h.link.trans k.link, h.bus.trans k.bus, k.pru.trans h.pru, k.ptb.trans h.ptb,
    k.stc.trans h.stc⟩
  rewrite [k.scu, h.scu]
  simp only [List.filter_filter, List.all_append]
  congr 2
  funext x
  exact Bool.and_comm ..

theorem entries_taken (l : List ProgramEntry) (s : State) : EntriesTaken l s (l.foldl (fun st e => st.takeProgramEntry true e) s) := by
  induction l generalizing s with
  | nil => exact ⟨by simp, rfl, rfl, (SheetEvent.refl s).inner.link, (SheetEvent.refl s).inner.bus, rfl, rfl, rfl⟩
  | cons e l ih => exact (takeProgramEntry_taken e s).trans (ih _)

/-! ### The due entries (R156, R160) -/

/-- In start order the entries due are a prefix. -/
theorem takeWhile_eq_filter {c : Nat} (h : l.Pairwise fun a b => a.start ≤ b.start) :
    l.takeWhile (fun e => decide (e.start ≤ c)) = l.filter fun e => decide (e.start ≤ c) := by
  induction l with
  | nil => rfl
  | cons x l ih =>
    obtain ⟨hx, hl⟩ := List.pairwise_cons.mp h
    by_cases hc : x.start ≤ c
    · rw [List.takeWhile_cons_of_pos (by simpa using hc), List.filter_cons_of_pos (by simpa using hc), ih hl]
    · have hnone : l.filter (fun e => decide (e.start ≤ c)) = [] :=
        List.filter_eq_nil_iff.mpr fun y hy => by
          have hle := hx y hy
          simp only [decide_eq_true_eq]
          omega
      rw [List.takeWhile_cons_of_neg (by simpa using hc), List.filter_cons_of_neg (by simpa using hc), hnone]

theorem eq_of_id (h : l.Pairwise fun a b => a.id ≠ b.id) {a b : ProgramEntry} (ha : a ∈ l) (hb : b ∈ l) (hid : a.id = b.id) : a = b := by
  have hsymm : Std.Symm fun a b : ProgramEntry => a.id ≠ b.id := ⟨fun _ _ => Ne.symm⟩
  by_contra hne
  exact h.forall ha hb hne hid

/-- With distinct ids, removing the due entries leaves those that start later. -/
theorem filter_not_due {c : Nat} (h : l.Pairwise fun a b => a.id ≠ b.id) :
    (l.filter fun x => (l.filter fun e => decide (e.start ≤ c)).all fun e => x.id != e.id) = l.filter fun x => decide (c < x.start) := by
  refine List.filter_congr fun x hx => ?_
  rewrite [Bool.eq_iff_iff, List.all_eq_true, decide_eq_true_eq]
  constructor
  · intro hall
    by_contra hle
    have hself := hall x (List.mem_filter.mpr ⟨hx, by simpa using hle⟩)
    simp at hself
  · intro hlt e he
    obtain ⟨he, hdue⟩ := List.mem_filter.mp he
    rewrite [bne_iff_ne]
    intro hid
    obtain rfl := eq_of_id h hx he hid
    simp only [decide_eq_true_eq] at hdue
    omega

/-! ### The tick (R150) -/

/-- The clock one second on. -/
def State.clockMoved (s : State) : State := s.setScu { s.scu with clock := s.scu.clock + 1, elapsed := 0 }

theorem tickClock_wraps (h : s.scu.clock = 4294967295) : s.tickClock = s.setScu { s.scu with clock := 0, elapsed := 0 } := by
  have hwraps : (s.scu.clock == Config.maxWord) = true := by rw [h]; rfl
  unfold State.tickClock
  rewrite [hwraps]
  simp

theorem tickClock_moves_on (h : s.scu.clock ≠ 4294967295) :
    s.tickClock = if s.phase = .run ∧ s.stc.op ≠ .load then s.clockMoved.takeDue else s.clockMoved := by
  have hwraps : (s.scu.clock == Config.maxWord) = false := beq_eq_false_iff_ne.mpr h
  unfold State.tickClock
  rewrite [hwraps]
  simp only [Bool.false_eq_true, if_false, and_true]
  rfl

theorem takeDue_none (h : ∀ e ∈ s.scu.program, s.scu.clock < e.start) : s.takeDue = s := by
  have hnone : s.dueEntries = [] := by
    unfold State.dueEntries
    cases hp : s.scu.program with
    | nil => rfl
    | cons e l =>
      have he := h e (by rw [hp]; exact List.mem_cons_self)
      exact List.takeWhile_cons_of_neg (by simp only [decide_eq_true_eq]; omega)
  rewrite [State.takeDue, hnone]
  rfl

end Ticks

/-- Settles O46: the wrap takes no entry, else every due entry is taken in turn. -/
theorem tickAdvancesClock : Obligations.TickAdvancesClock := by
  intro s live
  have hexec : exec .tick s = .next s.tickClock := congrArg Host.Outcome.next (event_live live _)
  refine ⟨fun h => by rw [hexec, tickClock_wraps h]; rfl, fun h => ⟨fun hnone => ?_, fun hrun hop hp => ?_⟩⟩
  · rewrite [hexec, tickClock_moves_on h]
    split
    · next hc => rw [takeDue_none (s := s.clockMoved) (hnone.elim (fun k => absurd hc.1 k) fun k => k.elim (fun k => absurd k hc.2) id)]; rfl
    · rfl
  · intro take
    have hdue : s.clockMoved.dueEntries = s.scu.program.filter fun e => decide (e.start ≤ s.scu.clock + 1) := takeWhile_eq_filter hp.starts
    have htaken := entries_taken (s.scu.program.filter fun e => decide (e.start ≤ s.scu.clock + 1)) s.clockMoved
    have htake : s.tickClock = (s.scu.program.filter fun e => decide (e.start ≤ s.scu.clock + 1)).foldl
        (fun st e => st.takeProgramEntry true e) s.clockMoved := by
      rw [tickClock_moves_on h, if_pos ⟨hrun, hop⟩, State.takeDue, hdue]
    have hprogram := congrArg Scu.program htaken.scu
    have hclock := congrArg Scu.clock htaken.scu
    have hnext := congrArg Scu.nextId htaken.scu
    refine ⟨s.tickClock, hexec, htake, ?_⟩
    rewrite [htake]
    refine ⟨hclock, hnext, hprogram.trans (filter_not_due hp.ids), htaken.cfg, htaken.phase.trans hrun,
      (setScu_kept _ s).1.trans htaken.link, (setScu_kept _ s).2.trans htaken.bus, htaken.pru,
      htaken.ptb, htaken.stc, fun e m hone hm => ?_⟩
    rewrite [hone]
    have hmode : ((s.clockMoved.removeEntry e.id).perform e.action).2.scu.mode = m := by
      rewrite [hm]
      exact (changeMode_executed m _).2
    exact hmode

/-! PROOF. What the rest of START keeps: the period timer, and protect once it is tripped (R95, R170, R199); and O7. -/

section Running

variable {s t u : State}

/-! ### What the events of START keep -/

/-- The period timer stands at its period. -/
def State.FreshPeriod (s : State) : Prop := s.hra.timer = s.cfg.allocator.period

/-- Protect is not ARMED, and `x` is in the trigger set. -/
def State.TrippedBy (x : Trigger) (s : State) : Prop := s.pru.state ≠ .armed ∧ x ∈ s.pru.triggers

/-- From `s` to `t` the phase, the settings, the clock, the link and the bus hand-over stay, and so do a period just begun and a trip. -/
structure RunKept (s t : State) : Prop where
  phase : t.phase = s.phase
  cfg : t.cfg = s.cfg
  clock : t.scu.clock = s.scu.clock
  link : LinkKept s t
  handOver : t.fbc.handOver = s.fbc.handOver
  rxQueue : t.fbc.rxQueue = s.fbc.rxQueue
  fresh : s.FreshPeriod → t.FreshPeriod
  tripped : s.pru.state ≠ .armed → t.pru.state ≠ .armed

theorem RunKept.refl (s : State) : RunKept s s := ⟨rfl, rfl, rfl, LinkKept.refl s, rfl, rfl, id, id⟩

theorem RunKept.trans (h : RunKept s t) (k : RunKept t u) : RunKept s u :=
  ⟨k.phase.trans h.phase, k.cfg.trans h.cfg, k.clock.trans h.clock, h.link.trans k.link, k.handOver.trans h.handOver,
    k.rxQueue.trans h.rxQueue, fun x => k.fresh (h.fresh x), fun x => k.tripped (h.tripped x)⟩

theorem Inner.runKept (h : Inner s t) (fresh : s.FreshPeriod → t.FreshPeriod) (tripped : s.pru.state ≠ .armed → t.pru.state ≠ .armed) :
    RunKept s t :=
  ⟨h.setup.phase, h.setup.cfg, by rw [h.setup.scu], h.link, h.bus.handOver, h.bus.rxQueue, fresh, tripped⟩

/-- An event that leaves the allocator alone keeps a period just begun. -/
theorem freshPeriod_of_eq (hcfg : t.cfg = s.cfg) (hhra : t.hra = s.hra) (h : s.FreshPeriod) : t.FreshPeriod := by
  rw [State.FreshPeriod, hhra, hcfg]
  exact h

theorem RunKept.of_eq (hphase : t.phase = s.phase) (hcfg : t.cfg = s.cfg) (hclock : t.scu.clock = s.scu.clock) (hlnk : t.lnk = s.lnk)
    (hfbc : t.fbc = s.fbc) (hhra : t.hra.timer = s.hra.timer) (hpru : t.pru = s.pru) : RunKept s t :=
  ⟨hphase, hcfg, hclock, LinkKept.of_eq hlnk, by rw [hfbc], by rw [hfbc], fun h => by rw [State.FreshPeriod, hhra, hcfg]; exact h,
    fun h => by rwa [hpru]⟩

theorem OutputEvent.runKept (h : OutputEvent s t) : RunKept s t :=
  h.inner.runKept (freshPeriod_of_eq h.inner.setup.cfg h.hra) fun x => by rwa [h.pru]

theorem LightEvent.runKept (h : LightEvent s t) : RunKept s t :=
  h.inner.runKept (freshPeriod_of_eq h.inner.setup.cfg h.hra) fun x => by rwa [h.pru]

theorem passWith_fresh (jumps : Bool) (s : State) : (s.passWith jumps).FreshPeriod := by
  rw [State.FreshPeriod, (passWith_heat jumps s).inner.setup.cfg, passWith_hra]
  exact allocate_timer s

theorem passWith_runKept (jumps : Bool) (s : State) : RunKept s (s.passWith jumps) :=
  (passWith_heat jumps s).inner.runKept (fun _ => passWith_fresh jumps s) fun x => by rwa [(passWith_heat jumps s).pru]

theorem Inform.runKept (h : Inform s t) : RunKept s t := by
  cases h with
  | zones x => exact .of_eq rfl rfl rfl rfl rfl rfl rfl
  | sheets x => exact .of_eq rfl rfl rfl rfl rfl rfl rfl
  | points x => exact .of_eq rfl rfl rfl rfl rfl rfl rfl
  | tank sh b => exact .of_eq rfl rfl rfl rfl rfl rfl rfl
  | recompute chosen => exact .of_eq rfl rfl rfl rfl rfl rfl rfl
  | handOn bs => exact (handOn_event bs s).1.runKept
  | notice k x v => exact (notice_event ..).runKept
  | pass jumps => exact passWith_runKept jumps s
  | settle moved => exact (settleRemotes_event ..).1.runKept
  | poll c => exact (enqueue_event ..).1.runKept
  | mode m => exact .of_eq rfl rfl rfl rfl rfl rfl rfl
  | remove id' => exact .of_eq rfl rfl rfl rfl rfl rfl rfl
  | scene k fade _ => exact (recallLights_light k fade s).runKept

theorem Informs.runKept (h : Informs s t) : RunKept s t :=
  h.keep (P := RunKept s) (fun _ _ f k => f.trans k.runKept) (.refl s)

theorem catchUp_runKept (s : State) : RunKept s s.catchUp :=
  foldl_induct (P := RunKept s) _ _ _ (.refl s) fun _ _ h => h.trans (takeProgramEntry_informs _ _ _).runKept

/-! ### The trip of START -/

/-- A trip in RUN leaves protect tripped by its triggers, and its pass begins a period (R106, R170). -/
theorem trip_leaves (ts : List Trigger) (run : s.phase = .run) :
    (s.trip ts).pru.state ≠ .armed ∧ (s.trip ts).pru.triggers = ts ∧ (s.trip ts).FreshPeriod := by
  have hsteps := trip_eq_held ts s
  rw [setHold_run true _ ((tripUnheld_phase ts s).trans run)] at hsteps
  have hw := (trip_unheld ts s).held
  have hfresh := passWith_fresh true (s.tripUnheld ts).holding
  change s.trip ts = ((s.tripUnheld ts).holding.passWith true).heldTest at hsteps
  generalize (s.tripUnheld ts).holding.passWith true = w at hw hsteps hfresh
  obtain ⟨hrest, hstate⟩ := heldTest_rest hw.state
  rw [hsteps]
  refine ⟨?_, ?_, ?_⟩
  · rcases hstate with e | e <;> rw [e] <;> decide
  · rw [hrest]
    exact hw.triggers
  · exact freshPeriod_of_eq (by rw [hrest]) (by rw [hrest]) hfresh

theorem levelTrip_runKept (run : s.phase = .run) : RunKept s s.levelTrip := by
  unfold State.levelTrip
  split
  · exact .refl s
  · exact (trip_protect _ s).inner.runKept (fun _ => (trip_leaves _ run).2.2) fun _ => (trip_leaves _ run).1

theorem mem_insertTrigger {x y : Trigger} {ts : List Trigger} : y ∈ insertTrigger x ts ↔ y = x ∨ y ∈ ts := by
  have hy : y ∈ triggers := by cases y <;> decide
  simp [insertTrigger, hy]

/-- Raised under protect, a trigger joins the set or is gathered; the state and the set's members stay. -/
theorem raise_under (x : Trigger) (hs : s.pru.state ≠ .armed) :
    (s.raise x).pru.state = s.pru.state ∧ (s.raise x).hra = s.hra ∧ ∀ y ∈ s.pru.triggers, y ∈ (s.raise x).pru.triggers := by
  by_cases hp : s.phase = .run
  · by_cases hop : s.stc.op = .load
    · rewrite [raise_loading hp hop]
      exact ⟨rfl, rfl, fun y hy => hy⟩
    · by_cases hm : s.pru.triggers.contains x = true
      · rewrite [raise_member hp hop hs hm]
        exact ⟨rfl, rfl, fun y hy => hy⟩
      · rewrite [raise_joins hp hop hs (Bool.eq_false_iff.mpr hm), (notice_event ..).pru, (notice_event ..).hra]
        exact ⟨rfl, rfl, fun y hy => mem_insertTrigger.mpr (.inr hy)⟩
  · rewrite [raise_waiting hp]
    exact ⟨rfl, rfl, fun y hy => hy⟩

/-- A trigger raised in RUN trips protect, joins the set, or is gathered. -/
theorem raise_runKept (x : Trigger) (run : s.phase = .run) : RunKept s (s.raise x) := by
  have hinner := (raise_protect x s).inner
  by_cases hs : s.pru.state = .armed
  · refine hinner.runKept (fun hf => ?_) fun h => absurd hs h
    by_cases hop : s.stc.op = .load
    · rewrite [raise_loading run hop]
      exact hf
    · rewrite [raise_trips run hop hs]
      exact (trip_leaves [x] run).2.2
  · obtain ⟨hstate, hhra, -⟩ := raise_under x hs
    exact hinner.runKept (freshPeriod_of_eq hinner.setup.cfg hhra) fun _ => by rwa [hstate]

theorem pressCounted_runKept (run : s.phase = .run) : RunKept s s.pressCounted := by
  unfold State.pressCounted
  split
  · refine RunKept.trans ?_ (raise_runKept .key run)
    exact ⟨rfl, rfl, rfl, LinkKept.of_eq rfl, rfl, rfl, id, id⟩
  · exact ⟨rfl, rfl, rfl, LinkKept.of_eq rfl, rfl, rfl, id, id⟩

theorem pressCounted_triggers {y : Trigger} (hs : s.pru.state ≠ .armed) (hy : y ∈ s.pru.triggers) : y ∈ s.pressCounted.pru.triggers := by
  unfold State.pressCounted
  split
  · exact (raise_under (s := s.setPru { s.pru with key := .spent, keyTimer := 0 }) .key hs).2.2 y hy
  · exact hy

theorem evaluateProtect_runKept (run : s.phase = .run) : RunKept s s.evaluateProtect := by
  have hl := levelTrip_runKept run
  rw [evaluateProtect_eq]
  split
  · exact hl.trans (pressCounted_runKept (hl.phase.trans run))
  · exact hl

/-- Protect at START trips by every active level trigger (R168, R171). -/
theorem evaluateProtect_trips (run : s.phase = .run) (h : s.activeTriggers ≠ []) :
    s.evaluateProtect.pru.state ≠ .armed ∧ ∀ x ∈ s.activeTriggers, x ∈ s.evaluateProtect.pru.triggers := by
  have hl : s.levelTrip = s.trip s.activeTriggers := if_neg (by rwa [List.isEmpty_iff])
  obtain ⟨hs, hts, -⟩ := trip_leaves (s := s) s.activeTriggers run
  rw [← hl] at hs hts
  have hrun := (levelTrip_runKept run).phase.trans run
  rw [evaluateProtect_eq, ← hts]
  split
  · exact ⟨(pressCounted_runKept hrun).tripped hs, fun x hx => pressCounted_triggers hs hx⟩
  · exact ⟨hs, fun x hx => hx⟩

/-- With no level trigger active and the key not in TIMING, protect does nothing at START. -/
theorem evaluateProtect_quiet (h : s.activeTriggers = []) (hk : s.pru.key ≠ .timing) : s.evaluateProtect = s := by
  have hl : s.levelTrip = s := if_pos (by rw [h]; rfl)
  rw [evaluateProtect_eq, hl, if_neg hk]

theorem catchUp_quiet (h : s.dueEntries = []) : s.catchUp = s := by
  rw [State.catchUp, h]
  rfl

/-! ### The work of START up to its test of protect -/

theorem startChannels_base (s : State) (i : Fin 32) : (s.startChannels.lsq.channels.get i).base = (s.lsq.channels.get i).base := by
  have haim := (aimChannels_lightFrame true (fun _ => true) s).base i
  have hsample := forEach_induct
    (P := fun x => (x.lsq.channels.get i).base = ((s.aimChannels true fun _ => true).lsq.channels.get i).base) State.takeSample
    (s.aimChannels true fun _ => true) rfl fun j x hx => ((takeSample_lightFrame j x).base i).trans hx
  have hand : s.startChannels.lsq = (forEach 32 State.takeSample (s.aimChannels true fun _ => true)).lsq := handLevels_lsq _
  rw [hand, hsample, haim]

/-- An output at START: a bound one is driven towards its source (R148). -/
def State.startOutputAt (i : Fin 16) (s : State) : State :=
  let c := s.cfg.outputs.get i
  if c.binding = .none then s
  else
    let source := s.outputSource i
    s.setOutput i (({ s.ost.outputs.get i with driven := true, code := 0, source := source, target := source } : OutputRun).aim c)

/-- A remote entry at START: a bound one takes its source and requests it (R148). -/
def State.startRemoteAt (i : Fin 32) (s : State) : State :=
  let c := s.cfg.remotes.get i
  if c.binding = .none then s
  else (s.setRemote i { s.ost.remotes.get i with value := some (s.remoteSource i : Int), timer := c.refresh }).requestRemote false i

theorem startOutputs_eq (s : State) : s.startOutputs = forEach 32 State.startRemoteAt (forEach 16 State.startOutputAt s) := rfl

theorem startOutputAt_cfg (i : Fin 16) (s : State) : (s.startOutputAt i).cfg = s.cfg := by
  unfold State.startOutputAt
  dsimp only
  split <;> rfl

theorem startOutputAt_driven (i : Fin 16) (s : State) : ((s.startOutputAt i).ost.outputs.get i).driven =
    ((s.cfg.outputs.get i).binding != .none || (s.ost.outputs.get i).driven) := by
  unfold State.startOutputAt
  dsimp only
  split
  next h => simp [h]
  next h =>
    obtain ⟨-, hdriven, -⟩ := OutputRun.aim_kept (s.cfg.outputs.get i)
      { s.ost.outputs.get i with driven := true, code := 0, source := s.outputSource i, target := s.outputSource i }
    rewrite [setOutput_self, hdriven]
    simp [h]

theorem startOutputAt_other {i j : Fin 16} (h : j ≠ i) (s : State) : (s.startOutputAt i).ost.outputs.get j = s.ost.outputs.get j := by
  unfold State.startOutputAt
  dsimp only
  split
  · rfl
  · exact setOutput_other h.symm ..

theorem startRemoteAt_driven (i : Fin 32) (s : State) (j : Fin 16) :
    ((s.startRemoteAt i).ost.outputs.get j).driven = (s.ost.outputs.get j).driven := by
  unfold State.startRemoteAt
  dsimp only
  split
  · rfl
  · exact (requestRemote_event false i _).2.driven j

/-- The outputs at START: a bound output is driven, one with binding NONE stays (R148). -/
theorem startOutputs_driven (s : State) (j : Fin 16) : (s.startOutputs.ost.outputs.get j).driven =
    ((s.cfg.outputs.get j).binding != .none || (s.ost.outputs.get j).driven) := by
  rewrite [startOutputs_eq]
  refine (forEach_induct (P := fun x => (x.ost.outputs.get j).driven = ((forEach 16 State.startOutputAt s).ost.outputs.get j).driven)
    State.startRemoteAt _ rfl fun i x hx => (startRemoteAt_driven i x j).trans hx).trans ?_
  refine forEach_get (get := fun (x : State) j => (x.ost.outputs.get j).driven) (P := fun x => x.cfg = s.cfg)
    (g := fun i d => (s.cfg.outputs.get i).binding != .none || d) (fun i x hx => ?_) rfl j
  exact ⟨(startOutputAt_cfg i x).trans hx, (startOutputAt_driven i x).trans (by rw [hx]),
    fun j hj => congrArg OutputRun.driven (startOutputAt_other hj x)⟩

/-- What stands before START's test of protect (R199): RUN, with the outputs driven and a period begun. -/
structure Started (s t : State) : Prop where
  inner : Inner { s with phase := .run } t
  ptb : t.ptb = s.ptb
  shm : SheetsKept s t
  cdm : t.cdm = s.cdm
  pru : t.pru = s.pru
  stc : t.stc = s.stc
  fresh : t.FreshPeriod
  base : ∀ i, (t.lsq.channels.get i).base = (s.lsq.channels.get i).base
  driven : ∀ i, (t.ost.outputs.get i).driven = ((s.cfg.outputs.get i).binding != .none || (s.ost.outputs.get i).driven)

theorem startOutput_started (s : State) : Started s s.startOutput := by
  have hdriven := startOutputs_driven { s with phase := .run }
  have houtputs := startOutputs_event { s with phase := .run }
  have hwhole : s.startOutput = (((State.startOutputs { s with phase := .run }).passWith true).startChannels).handRemotes := rfl
  rewrite [hwhole]
  generalize State.startOutputs { s with phase := .run } = a at hdriven houtputs
  have hpass := passWith_heat true a
  have hfresh := passWith_fresh true a
  generalize a.passWith true = b at hpass hfresh
  have hlights := startChannels_light b
  have hbase := startChannels_base b
  generalize b.startChannels = c at hlights hbase
  have hremotes := handRemotes_heat c
  exact {
    inner := ((houtputs.inner.trans hpass.inner).trans hlights.inner).trans hremotes.inner
    ptb := hremotes.ptb.trans (hlights.ptb.trans (hpass.ptb.trans houtputs.ptb))
    shm := (((SheetsKept.of_eq houtputs.shm).trans hpass.shm).trans (SheetsKept.of_eq hlights.shm)).trans hremotes.shm
    cdm := hremotes.cdm.trans (hlights.cdm.trans (hpass.cdm.trans houtputs.cdm))
    pru := hremotes.pru.trans (hlights.pru.trans (hpass.pru.trans houtputs.pru))
    stc := hremotes.stc.trans (hlights.stc.trans (hpass.stc.trans houtputs.stc))
    fresh := freshPeriod_of_eq (hlights.inner.trans hremotes.inner).setup.cfg ((handRemotes_event c).1.hra.trans hlights.hra) hfresh
    base := fun i => (hremotes.lights.base i).trans ((hbase i).trans ((hpass.lights.base i).trans (by rw [houtputs.lsq])))
    driven := fun i => (hremotes.followed.driven i).trans ((hlights.followed.driven i).trans ((hpass.followed.driven i).trans (hdriven i))) }

theorem Started.link (h : Started s t) : LinkKept s t := (LinkKept.of_eq (s := s) (t := { s with phase := .run }) rfl).trans h.inner.link

/-- The level triggers read protect's inputs, the sheets' triggers and the points. -/
theorem activeTriggers_congr (hpru : t.pru = s.pru) (hshm : SheetsKept s t) (hptb : t.ptb = s.ptb) (hcfg : t.cfg = s.cfg) :
    t.activeTriggers = s.activeTriggers := by
  have hpoints : t.pointTriggers = s.pointTriggers := by
    unfold State.pointTriggers State.pointTrigger
    rw [hptb, hcfg]
  refine List.filter_congr fun x _ => ?_
  cases x with
  | pin => exact congrArg Pru.pin hpru
  | key => exact congrArg (fun p : Pru => p.key == .spent) hpru
  | host => rfl
  | sheetA => exact (congrArg SheetRun.trigger (hshm 0)).trans rfl
  | sheetB => exact (congrArg SheetRun.trigger (hshm 1)).trans rfl
  | point => exact congrArg (· != 0) hpoints

theorem Started.triggers (h : Started s t) : t.activeTriggers = s.activeTriggers :=
  activeTriggers_congr h.pru h.shm h.ptb h.inner.setup.cfg

theorem startWork_runKept (s : State) : RunKept s.startOutput s.startWork := by
  have hprotect := evaluateProtect_runKept (startOutput_started s).inner.setup.phase
  exact hprotect.trans (catchUp_runKept _)

/-- START with a level trigger active trips (R168). -/
theorem startWork_trips (h : s.activeTriggers ≠ []) : s.startWork.pru.state ≠ .armed := by
  have hstarted := startOutput_started s
  rewrite [startWork_eq]
  exact (catchUp_runKept _).tripped (evaluateProtect_trips hstarted.inner.setup.phase (by rwa [hstarted.triggers])).1

/-- START with no level trigger active, the key not in TIMING and no entry due. -/
theorem startWork_quiet (h : s.activeTriggers = []) (hk : s.pru.key ≠ .timing) (hd : s.dueEntries = []) : s.startWork = s.startOutput := by
  have hstarted := startOutput_started s
  have hprotect : s.startOutput.evaluateProtect = s.startOutput :=
    evaluateProtect_quiet (hstarted.triggers.trans h) (by rwa [hstarted.pru])
  rewrite [startWork_eq, hprotect]
  refine catchUp_quiet ?_
  rewrite [State.dueEntries, hstarted.inner.setup.scu]
  exact hd

theorem exec_start {tag : Byte} (h : ActReady tag 23 [] s) : exec (.start tag []) s =
    .next (s.conclude tag (if s.phase = .waiting then done 0 s.startWork else .error .notNow)) :=
  congrArg Host.Outcome.next (serveAct_act h rfl _)

end Running

/-- Settles O7: the work of START up to its test of protect keeps what it keeps; the test of protect trips, or does nothing. -/
theorem startRunsArena : Obligations.StartRunsArena := by
  intro tag s ready waiting _
  have hstarted := startOutput_started s
  have hkept := startWork_runKept s
  refine ⟨s.startWork, (exec_start ready).trans (by rw [if_pos waiting, conclude_unclamped]), hkept.phase.trans hstarted.inner.setup.phase,
    hkept.cfg.trans hstarted.inner.setup.cfg, hkept.clock.trans (congrArg Scu.clock hstarted.inner.setup.scu),
    hstarted.link.trans hkept.link, hkept.handOver.trans hstarted.inner.bus.handOver, hkept.rxQueue.trans hstarted.inner.bus.rxQueue,
    (hkept.fresh hstarted.fresh).trans (by rw [hkept.cfg, hstarted.inner.setup.cfg]), startWork_trips, fun h hk hd => ?_⟩
  rewrite [startWork_quiet h hk hd]
  exact ⟨hstarted.pru, hstarted.ptb, hstarted.cdm, hstarted.shm, hstarted.inner.setup.scu, hstarted.stc,
    fun i hi => (hstarted.driven i).trans (by simp [hi]), hstarted.base⟩

/-! PROOF. The end of SETTLE on a good image (R198): what START finds there, and what it reports; and O6. -/

section Reports

variable {s t : State}

/-! ### What START reports -/

theorem startOutputs_lnk (s : State) : s.startOutputs.lnk = s.lnk := by
  rewrite [startOutputs_eq]
  refine (forEach_lnk _ (fun i x => ?_) _).trans (forEach_lnk _ (fun i x => ?_) _)
  · unfold State.startRemoteAt
    dsimp only
    split
    · rfl
    · exact requestRemote_false_lnk i _
  · unfold State.startOutputAt
    dsimp only
    split <;> rfl

theorem takeSample_lnk (i : Fin 32) (s : State) : (s.takeSample i).lnk = s.lnk := by
  unfold State.takeSample
  dsimp only
  split <;> rfl

theorem handLevels_lnk (s : State) : s.handLevels.lnk = s.lnk := handOn_lnk [.light] s

theorem startChannels_lnk (s : State) : s.startChannels.lnk = s.lnk := by
  have hand : s.startChannels.lnk = (forEach 32 State.takeSample (s.aimChannels true fun _ => true)).lnk := handLevels_lnk _
  have haim : (s.aimChannels true fun _ => true).lnk = s.lnk := rfl
  rw [hand, forEach_lnk _ takeSample_lnk, haim]

/-- Notices of heat, lights and protect were offered, and no other. -/
structure Reports (s t : State) : Prop where
  blocks : BlocksReport s t
  quiet : Announced [] s t

theorem Reports.of_lnk (hcfg : t.cfg = s.cfg) (hscu : t.scu = s.scu) (hlnk : t.lnk = s.lnk) : Reports s t :=
  ⟨.of_lnk hcfg hscu hlnk, .of_lnk hcfg hscu hlnk⟩

theorem Reports.trans {u : State} (h : Reports s t) (k : Reports t u) : Reports s u := ⟨h.blocks.trans k.blocks, h.quiet.quiet k.quiet⟩

theorem passWith_reports (jumps : Bool) (s : State) : Reports s (s.passWith jumps) := ⟨passWith_blocks jumps s, passWith_quiet jumps s⟩

theorem startOutput_reports (s : State) : Reports s s.startOutput := by
  have houtputs := startOutputs_event { s with phase := .run }
  have hlnk := startOutputs_lnk { s with phase := .run }
  have hwhole : s.startOutput = (((State.startOutputs { s with phase := .run }).passWith true).startChannels).handRemotes := rfl
  rewrite [hwhole]
  generalize State.startOutputs { s with phase := .run } = a at houtputs hlnk
  have hlights := startChannels_light (a.passWith true)
  exact (((Reports.of_lnk (s := s) houtputs.inner.setup.cfg houtputs.inner.setup.scu hlnk).trans (passWith_reports true a)).trans
    (.of_lnk hlights.inner.setup.cfg hlights.inner.setup.scu (startChannels_lnk _))).trans ⟨handRemotes_blocks _, handRemotes_quiet _⟩

theorem evaluateProtect_reports (s : State) : Reports s s.evaluateProtect := by
  have htrip : Reports s s.levelTrip := by
    unfold State.levelTrip
    split
    · exact .of_lnk rfl rfl rfl
    · exact ⟨trip_blocks _ s, trip_quiet _ s⟩
  have hraise (x : Pru) (u : State) : Reports u ((u.setPru x).raise .key) :=
    (Reports.of_lnk (s := u) (t := u.setPru x) rfl rfl rfl).trans ⟨raise_blocks .key _, raise_quiet .key _⟩
  rewrite [evaluateProtect_eq]
  split
  · refine htrip.trans ?_
    unfold State.pressCounted
    split
    · exact hraise ..
    · exact .of_lnk rfl rfl rfl
  · exact htrip

theorem mem_offer {l : Lnk} {e : Bool} {n m : Notice} (h : n ∈ (l.offer e m).notices) : n ∈ l.notices ∨ n = m := by
  unfold Lnk.offer at h
  split at h
  · exact .inl h
  · split at h
    · exact (List.mem_append.mp h).imp_right List.mem_singleton.mp
    · exact .inl h

theorem mem_offered {n : Notice} {ns : List Offer} (h : n ∈ (s.offered ns).notices) : n ∈ s.lnk.notices ∨ ∃ o ∈ ns, o.1 = n.kind := by
  unfold State.offered at h
  generalize s.lnk = l at h ⊢
  induction ns generalizing l with
  | nil => exact .inl h
  | cons o ns ih =>
    rcases ih _ h with hl | ⟨m, hm, hk⟩
    · exact (mem_offer hl).imp_right fun e => ⟨o, List.mem_cons_self, by rw [e]⟩
    · exact .inr ⟨m, List.mem_cons_of_mem o hm, hk⟩

/-- From an empty queue only notices of heat, lights and protect come to stand in it. -/
theorem Reports.kinds (h : Reports s t) (hempty : s.lnk.notices = []) {n : Notice} (hn : n ∈ t.lnk.notices) :
    n.kind ∉ [NoticeKind.store, .point, .limit, .sheet, .zone, .bus, .program] := by
  obtain ⟨ns, hns, hblocks⟩ := h.blocks.offers
  obtain ⟨all, hall, hquiet⟩ := h.quiet.offers
  have offered {ms : List Offer} (hm : t.lnk = s.offered ms) : ∃ o ∈ ms, o.1 = n.kind :=
    (mem_offered (hm ▸ hn)).resolve_left (by simp [hempty])
  obtain ⟨o, ho, hkind⟩ := offered hblocks
  obtain ⟨m, hm, hkind'⟩ := offered hall
  have hblock : [NoticeKind.sheet, .zone, .grantShort, .backup, .derate, .protect].contains n.kind = true := hkind ▸ hns o ho
  have hstate : (n.kind == .sheet || n.kind == .zone) = false := hkind' ▸ Bool.eq_false_iff.mpr (List.filter_eq_nil_iff.mp hquiet m hm)
  revert hblock hstate
  generalize n.kind = k
  cases k <;> decide

end Reports

section Settled

variable {s t : State} {c : Configuration}

/-- A part whose bus is at its reset values on a configuration samples HAND. -/
theorem sampleHand_idle {a : Nat} {b : Nat} (h : s.fbc = { address := a, bitRate := b }) (held : Bool) : s.sampleHand held =
    { s with fbc := { address := a, bitRate := b, hand := held, handOver := if held then .released else .owned } } := by
  have hs : s = { s with fbc := { address := a, bitRate := b } } := by rw [← h]
  rw [hs]
  cases held <;> rfl

/-- What START finds at the end of SETTLE on a configuration (R198). -/
structure SettledOn (c : Configuration) (s t : State) : Prop where
  phase : t.phase = .waiting
  cfg : t.cfg = c
  pending : t.pending = s.pending
  strap : t.strap = s.strap
  pins : t.pins = s.pins
  scu : t.scu = { clock := s.scu.clock }
  lnk : t.lnk = { locked := s.lnk.locked }
  fbc : t.fbc = { address := c.bus.ownAddress, bitRate := c.bus.bitRate, hand := s.pins.hand
                  handOver := if s.pins.hand then .released else .owned }
  stc : t.stc = s.stc
  pru : t.pru = { pin := s.pins.protect, key := if s.pins.egress then .timing else .released }
  points : ∀ i, (t.ptb.points.get i).output = false
  sheets : ∀ sh, (t.shm.get sh).trigger = false
  outputs : ∀ i, (t.ost.outputs.get i).driven = false

theorem samplePins_idle (h : s.fbc = { address := c.bus.ownAddress, bitRate := c.bus.bitRate }) (hp : s.pru = {}) :
    s.samplePins = { s with
      fbc := { address := c.bus.ownAddress, bitRate := c.bus.bitRate, hand := s.pins.hand
               handOver := if s.pins.hand then .released else .owned }
      pru := { pin := s.pins.protect, key := if s.pins.egress then .timing else .released } } := by
  have hs : s = { s with pru := {} } := by rw [← hp]
  unfold State.samplePins
  rewrite [sampleHand_idle h, hs]
  rfl

theorem startSources_driven (s : State) (i : Fin 16) : (s.startSources.ost.outputs.get i).driven = (s.ost.outputs.get i).driven := by
  have h : s.startSources.ost.outputs.get i = { s.ost.outputs.get i with source := s.outputSource i } := Table.get_mapIdx ..
  rw [h]

theorem resetBlocks_settled (c : Configuration) (s : State) : SettledOn c s (s.resetBlocks c).samplePins := by
  have hfbc : (s.resetBlocks c).fbc = { address := c.bus.ownAddress, bitRate := c.bus.bitRate } := rfl
  have hpins := samplePins_idle hfbc rfl
  have hpoints : (s.resetBlocks c).ptb.points = c.points.mapIdx fun _ p => restarted p.binding := rfl
  have hsheets : (s.resetBlocks c).shm = c.sheets.mapIdx fun _ x => sheetAfterReset x := rfl
  rewrite [hpins]
  exact {
    phase := rfl
    cfg := rfl
    pending := rfl
    strap := rfl
    pins := rfl
    scu := rfl
    lnk := rfl
    fbc := rfl
    stc := rfl
    pru := rfl
    points := fun i => by
      rewrite [hpoints, Table.get_mapIdx]
      rfl
    sheets := fun sh => by
      rewrite [hsheets, Table.get_mapIdx]
      rfl
    outputs := fun i => (startSources_driven _ i).trans (congrArg OutputRun.driven (Table.get_const ..)) }

theorem endSettle_good (h : s.strap = .standalone) (hi : s.stc.goodImage = some c) :
    s.endSettle = ((s.resetBlocks c).samplePins).startWork := by
  unfold State.endSettle
  rewrite [h, hi]
  rfl

/-- With the pins released no level trigger is active. -/
theorem SettledOn.quiet (h : SettledOn c s t) (hpin : s.pins.protect = false) (hkey : s.pins.egress = false) :
    t.activeTriggers = [] ∧ t.pru.key ≠ .timing := by
  have hpoints : t.pointTriggers = 0 := by
    simp only [State.pointTriggers, State.pointTrigger, h.points, Bool.false_and]
    rfl
  refine ⟨List.filter_eq_nil_iff.mpr fun x _ => ?_, ?_⟩
  · cases x with
    | pin => simp [State.levelActive, h.pru, hpin]
    | key => simp [State.levelActive, h.pru, hkey]
    | host => exact Bool.false_ne_true
    | sheetA => simp [State.levelActive, h.sheets]
    | sheetB => simp [State.levelActive, h.sheets]
    | point => simp [State.levelActive, hpoints]
  · simp [h.pru, hkey]

theorem SettledOn.pinActive (h : SettledOn c s t) (hpin : s.pins.protect = true) : Trigger.pin ∈ t.activeTriggers :=
  List.mem_filter.mpr ⟨by decide, by rw [State.levelActive, h.pru, hpin]⟩

/-- With no program there is nothing to catch up at the end of SETTLE. -/
theorem SettledOn.startWork (h : SettledOn c s t) : t.startWork = t.startOutput.evaluateProtect := by
  have hscu := ((evaluateProtect_protect _).inner.setup.scu.trans (startOutput_started t).inner.setup.scu).trans h.scu
  rewrite [startWork_eq]
  refine catchUp_quiet ?_
  rewrite [State.dueEntries, hscu]
  rfl

end Settled

/-- Settles O6: START finds the reset values of the image, and no event of it loses what it finds. -/
theorem settleEndsRunning : Obligations.SettleEndsRunning := by
  intro s c settle standalone image
  have hfound := resetBlocks_settled c s
  have hexec : exec .settleEnd s = .next ((s.resetBlocks c).samplePins).startWork :=
    congrArg Host.Outcome.next ((if_pos settle).trans (endSettle_good standalone image))
  refine ⟨_, hexec, ?_⟩
  generalize (s.resetBlocks c).samplePins = p at hfound
  have hstarted := startOutput_started p
  have hprotect := evaluateProtect_protect p.startOutput
  have hkept := evaluateProtect_runKept hstarted.inner.setup.phase
  have himage := evaluateProtect_image p.startOutput
  have hreports := (startOutput_reports p).trans (evaluateProtect_reports p.startOutput)
  have htrips := evaluateProtect_trips hstarted.inner.setup.phase
  have hinner := hstarted.inner.trans hprotect.inner
  have hlink := hstarted.link.trans hprotect.inner.link
  have hcfg := hinner.setup.cfg.trans hfound.cfg
  rewrite [hfound.startWork]
  refine ⟨hinner.setup.phase, hcfg, hinner.setup.pending.trans hfound.pending, hinner.setup.strap.trans hfound.strap,
    hinner.setup.pins.trans hfound.pins, hinner.setup.scu.trans hfound.scu, hlink.locked.trans (by rw [hfound.lnk]),
    hlink.requests.trans (congrArg Lnk.requests hfound.lnk), hlink.output.trans (congrArg Lnk.output hfound.lnk),
    hinner.bus.address.trans (congrArg Fbc.address hfound.fbc), hinner.bus.bitRate.trans (congrArg Fbc.bitRate hfound.fbc),
    hinner.bus.hand.trans (congrArg Fbc.hand hfound.fbc), hinner.bus.inFlight.trans (congrArg Fbc.inFlight hfound.fbc),
    hinner.bus.rxQueue.trans (congrArg Fbc.rxQueue hfound.fbc), himage.image.trans (congrArg Stc.image (hstarted.stc.trans hfound.stc)),
    (hkept.fresh hstarted.fresh).trans (by rw [hcfg]), fun n hn => hreports.kinds (congrArg Lnk.notices hfound.lnk) hn, fun hpin => ?_,
    fun hpin hkey => ?_⟩
  · have hactive := hfound.pinActive hpin
    rewrite [← hstarted.triggers] at hactive
    exact (htrips (List.ne_nil_of_mem hactive)).imp_right fun h => h _ hactive
  · obtain ⟨hnone, htiming⟩ := hfound.quiet hpin hkey
    rewrite [evaluateProtect_quiet (hstarted.triggers.trans hnone) (by rwa [hstarted.pru])]
    exact ⟨(congrArg Pru.state hstarted.pru).trans (congrArg Pru.state hfound.pru),
      fun i => (hstarted.driven i).trans (by rw [hfound.outputs, hfound.cfg, Bool.or_false])⟩

/-! PROOF. What the passes that end a LOAD leave alone: levels, base targets and steps, and source codes that stay current (R134, R137). -/

section Sources

variable {s t u : State} {i : Fin 16}

/-! ### Source codes -/

/-- The source code of an output is the one its binding calls for. -/
def State.Sourced (i : Fin 16) (s : State) : Prop := (s.ost.outputs.get i).source = s.outputSource i

/-- The states give an output the same source code, as far as its binding reads them. -/
structure SameSource (i : Fin 16) (s t : State) : Prop where
  cfg : t.cfg = s.cfg
  levels : ∀ j, (t.lsq.channels.get j).level = (s.lsq.channels.get j).level
  grants : (s.cfg.outputs.get i).binding = .sink → ∀ j, (t.hra.sinks.get j).grant = (s.hra.sinks.get j).grant
  backup : (s.cfg.outputs.get i).binding = .backup → t.hra.backup = s.hra.backup
  cdm : t.cdm = s.cdm
  shm : ∀ j, (t.shm.get j).state = (s.shm.get j).state
  fixed : (t.ost.outputs.get i).fixed = (s.ost.outputs.get i).fixed

theorem SameSource.outputSource (h : SameSource i s t) : t.outputSource i = s.outputSource i := by
  unfold State.outputSource
  rewrite [h.cfg, h.fixed]
  dsimp only
  cases hb : (s.cfg.outputs.get i).binding with
  | none => rfl
  | light => simp only [State.sourceCode, h.levels]
  | sink => simp only [State.sourceCode, h.grants hb, h.cfg]
  | zoneDemand => simp only [State.sourceCode, h.cdm]
  | fan => simp only [State.sourceCode, h.cdm]
  | sheetAlarm => simp only [State.sourceCode, h.shm]
  | backup => simp only [State.sourceCode, h.backup hb, h.cfg]
  | fixed => rfl

theorem State.Sourced.of_same (hs : s.Sourced i) (h : SameSource i s t) (hsource : (t.ost.outputs.get i).source = (s.ost.outputs.get i).source) :
    t.Sourced i := by
  rewrite [State.Sourced, h.outputSource, hsource]
  exact hs

theorem handOn_same (bs : List OutputBinding) (s : State) : SameSource i s (s.handOn bs) := by
  obtain ⟨hevent, hfollowed⟩ := handOn_event bs s
  exact ⟨hevent.inner.setup.cfg, fun _ => by rw [hevent.lsq], fun _ _ => by rw [hevent.hra], fun _ => by rw [hevent.hra], hevent.cdm,
    fun _ => by rw [hevent.shm], hfollowed.fixed i⟩

theorem handOutput_same (j : Fin 16) (s : State) : SameSource i s (s.handOutput j) := by
  obtain ⟨hevent, hfollowed⟩ := handOutput_event j s
  exact ⟨hevent.inner.setup.cfg, fun _ => by rw [hevent.lsq], fun _ _ => by rw [hevent.hra], fun _ => by rw [hevent.hra], hevent.cdm,
    fun _ => by rw [hevent.shm], hfollowed.fixed i⟩

theorem handOutput_sourced (j : Fin 16) (hs : s.Sourced i) : (s.handOutput j).Sourced i := by
  by_cases h : j = i
  · subst h
    exact (handOutput_source j s).trans (handOutput_same j s).outputSource.symm
  · exact hs.of_same (handOutput_same j s) (by rw [handOutput_other h])

/-- A hand-over leaves a current source code current. -/
theorem handOn_sourced (bs : List OutputBinding) (hs : s.Sourced i) : (s.handOn bs).Sourced i := by
  unfold State.handOn
  refine forEach_induct (P := State.Sourced i) _ _ hs fun j x hx => ?_
  split
  · exact handOutput_sourced j hx
  · exact hx

/-- A hand-over makes the source codes of its bindings current (R137). -/
theorem handOn_makes {bs : List OutputBinding} (h : bs.contains (s.cfg.outputs.get i).binding = true) : (s.handOn bs).Sourced i :=
  (handOn_source h).trans (handOn_same bs s).outputSource.symm

/-! ### Levels -/

/-- No level moves, and no channel's base, step or period. -/
structure LevelsKept (s t : State) : Prop where
  follow : LightsFollow s t
  level : ∀ i, (t.lsq.channels.get i).level = (s.lsq.channels.get i).level

theorem LevelsKept.trans (h : LevelsKept s t) (k : LevelsKept t u) : LevelsKept s u :=
  ⟨h.follow.trans k.follow, fun i => (k.level i).trans (h.level i)⟩

theorem LevelsKept.of_channels (h : t.lsq.channels = s.lsq.channels) : LevelsKept s t := by
  constructor
  · constructor <;> intro i <;> rw [h]
  · intro i
    rw [h]

theorem aim_level (running : Bool) (r : ChannelRun) : (r.aim running false).level = r.level := by
  unfold ChannelRun.aim
  split
  · rfl
  · split
    · rfl
    · split
      next h => exact absurd h.2 Bool.false_ne_true
      next => rfl

theorem aimChannels_levels (chosen : Fin 32 → Bool) (s : State) : LevelsKept s (s.aimChannels false chosen) := by
  refine ⟨(aimChannels_heat false chosen s).lights, fun i => ?_⟩
  have hget : (s.aimChannels false chosen).lsq.channels.get i =
      if chosen i then (s.lsq.channels.get i).aim (s.phase == .run) false else s.lsq.channels.get i := Table.get_mapIdx ..
  rewrite [hget]
  split
  · exact aim_level ..
  · rfl

theorem setTargets_levels (chosen : Fin 32 → Bool) (s : State) : LevelsKept s (s.setTargets chosen) := by
  refine ⟨(setTargets_heat chosen s).lights, fun i => ?_⟩
  unfold State.setTargets
  split
  · have hget : (s.mapChannels fun i r => if chosen i then { r with target := s.effectiveTarget i } else r).lsq.channels.get i =
        if chosen i then { s.lsq.channels.get i with target := s.effectiveTarget i } else s.lsq.channels.get i := Table.get_mapIdx ..
    rewrite [hget]
    split <;> rfl
  · rfl

theorem relightAndAim_levels (shs : List (Fin 2)) (also : Fin 32 → Bool) (s : State) : LevelsKept s (s.relightAndAim false shs also) := by
  have hrelit : LevelsKept s (s.relight shs) := .of_channels (relight_lsq shs s).1
  unfold State.relightAndAim
  dsimp only
  split
  · exact (hrelit.trans (setTargets_levels _ _)).trans (aimChannels_levels _ _)
  · exact hrelit.trans (setTargets_levels _ _)

theorem receiveAllowance_levels (sh : Fin 2) (a : Power) (s : State) : LevelsKept s (s.receiveAllowance false sh a) := by
  rewrite [receiveAllowance_eq]
  exact ((LevelsKept.of_channels (s := s) (t := s.allowed sh a) rfl).trans (relightAndAim_levels [sh] _ _)).trans
    (.of_channels (by rw [handLevels_lsq]))

/-! ### The passes of a LOAD -/

/-- Where only the lighting moved, and no level, the sources are the same. -/
theorem SameSource.of_lights (h : OnlyLights s t) (hl : LevelsKept s t) (hf : (t.ost.outputs.get i).fixed = (s.ost.outputs.get i).fixed) :
    SameSource i s t :=
  ⟨by rw [h.eq], hl.level, fun _ _ => by rw [h.eq], fun _ => by rw [h.eq], by rw [h.eq], fun _ => by rw [h.eq], hf⟩

theorem receiveAllowance_sourced (sh : Fin 2) (a : Power) (hs : s.Sourced i) : (s.receiveAllowance false sh a).Sourced i := by
  have hlights := OnlyLights.trans (allowed_lights sh a s) (relightAndAim_lights false [sh] (fun _ => false) (s.allowed sh a))
  have hlevels := (LevelsKept.of_channels (s := s) (t := s.allowed sh a) rfl).trans (relightAndAim_levels [sh] (fun _ => false) _)
  have host := relightAndAim_ost false [sh] (fun _ => false) (s.allowed sh a)
  rewrite [receiveAllowance_eq]
  generalize (s.allowed sh a).relightAndAim false [sh] (fun _ => false) = x at hlights hlevels host ⊢
  exact handOn_sourced [.light] (hs.of_same (.of_lights hlights hlevels (by rw [host]; rfl)) (by rw [host]; rfl))

theorem noticeIf_sourced (c : Bool) (k : NoticeKind) (x : Nat) (v : Int) (hs : s.Sourced i) : (s.noticeIf c k x v).Sourced i := by
  unfold State.noticeIf
  split <;> exact hs

/-- A pass that moves no level: the bindings it hands on become current, the others stay so. -/
theorem passWith_sourced (hs : s.Sourced i) : (s.passWith false).Sourced i := by
  rewrite [passWith_eq]
  refine noticeIf_sourced _ _ _ _ (foldl_induct (P := State.Sourced i) _ _ _ ?_ fun _ _ hx => noticeIf_sourced _ _ _ _ hx)
  unfold State.passHanded
  by_cases hb : [OutputBinding.sink, .backup].contains (s.cfg.outputs.get i).binding = true
  · refine handOn_makes ?_
    have hcfg := (forEach_induct (P := fun x => OnlyLights s.allocated x)
      (fun sh st => State.receiveAllowance false sh (s.allocate.1.sheets.get sh).allowance st) s.allocated (.refl _)
      fun _ _ hx => hx.trans (receiveAllowance_lights ..)).eq
    rw [hcfg]
    exact hb
  · refine handOn_sourced _ (forEach_induct (P := State.Sourced i) _ _ ?_ fun sh x hx => receiveAllowance_sourced sh _ hx)
    refine hs.of_same ⟨rfl, fun _ => rfl, fun h => absurd ?_ hb, fun h => absurd ?_ hb, rfl, fun j => ?_, rfl⟩ rfl
    · rw [h]
      rfl
    · rw [h]
      rfl
    · have hget : s.allocated.shm.get j = { s.shm.get j with atLastPass := some (s.shm.get j).budget } := Table.get_mapIdx ..
      rw [hget]

theorem passWith_levels (s : State) : LevelsKept s (s.passWith false) := by
  refine LevelsKept.trans (t := s.passHanded false) ?_ (.of_channels (by rw [passWith_lsq]))
  unfold State.passHanded
  have hand (x : State) : LevelsKept x (x.handOn [.sink, .backup]) := .of_channels (by rw [(handOn_event ..).1.lsq])
  refine LevelsKept.trans ?_ (hand _)
  exact forEach_induct (P := fun x => LevelsKept s x) _ _ (.of_channels (t := s.allocated) rfl) fun sh x hx =>
    hx.trans (receiveAllowance_levels sh _ x)

/-- What the passes that end a LOAD leave alone. -/
structure Settled (s t : State) : Prop where
  levels : LevelsKept s t
  sourced : ∀ i, s.Sourced i → t.Sourced i
  fresh : s.FreshPeriod → t.FreshPeriod

theorem Settled.refl (s : State) : Settled s s := ⟨.of_channels rfl, fun _ => id, id⟩

theorem Settled.trans (h : Settled s t) (k : Settled t u) : Settled s u :=
  ⟨h.levels.trans k.levels, fun i hi => k.sourced i (h.sourced i hi), fun hf => k.fresh (h.fresh hf)⟩

theorem handRemotes_settled (s : State) : Settled s s.handRemotes := by
  obtain ⟨hevent, hfollowed⟩ := handRemotes_event s
  refine ⟨.of_channels (by rw [hevent.lsq]), fun i hi => hi.of_same ?_ (by rw [handRemotes_outputs]),
    freshPeriod_of_eq hevent.inner.setup.cfg hevent.hra⟩
  exact ⟨hevent.inner.setup.cfg, fun _ => by rw [hevent.lsq], fun _ _ => by rw [hevent.hra], fun _ => by rw [hevent.hra], hevent.cdm,
    fun _ => by rw [hevent.shm], hfollowed.fixed i⟩

theorem passWith_settled (s : State) : Settled s (s.passWith false) :=
  ⟨passWith_levels s, fun _ => passWith_sourced, fun _ => passWith_fresh false s⟩

theorem passes_settled (n : Nat) (s : State) : Settled s (s.passes false n) := by
  induction n generalizing s with
  | zero => exact .refl s
  | succ n ih =>
    refine Settled.trans ?_ (ih _)
    split
    · exact (passWith_settled s).trans (handRemotes_settled _)
    · exact .refl s

/-- In RUN the passes begin a period (R95). -/
theorem passes_fresh (run : s.phase = .run) (n : Nat) : (s.passes false (n + 1)).FreshPeriod := by
  unfold State.passes
  rewrite [if_pos run]
  exact (passes_settled n _).fresh ((handRemotes_settled _).fresh (passWith_fresh false s))

end Sources

/-! PROOF. The sheets and zones at a LOAD, on points without values (R65, R84, R196). -/

section Blank

variable {s t u : State} {c : SheetConfig} {sh : Fin 2}

/-! ### Points without values -/

/-- No point has a value. -/
def State.Blank (s : State) : Prop := ∀ i, (s.ptb.points.get i).value = none

theorem State.Blank.usableValue (h : s.Blank) (k : PointKind) (p : Nat) : s.usableValue k p = none := by
  unfold State.usableValue State.pointOfKind
  cases index 64 p with
  | none => rfl
  | some i =>
    dsimp only
    split
    next r hr =>
      split at hr
      · obtain rfl := Option.some.inj hr
        simp [h i]
      · exact absurd hr.symm (Option.some_ne_none r)
    next => rfl

theorem State.Blank.sheetTemp (h : s.Blank) (c : SheetConfig) : s.sheetTemp c = (none, .none) := by
  have hsurface : c.surfaces.filterMap (s.usableValue .iceSurface) = [] := List.filterMap_eq_nil_iff.mpr fun _ _ => h.usableValue ..
  have hbrine : c.brine.bind (s.usableValue .brineReturn) = none := by
    cases c.brine with
    | none => rfl
    | some p => exact h.usableValue ..
  unfold State.sheetTemp
  rw [hsurface, hbrine]
  rfl

/-! ### The record of a sheet -/

/-- What a LOAD makes of a sheet's record (R65): kept in RESURFACE and COVERED, else BLIND; OFF when disabled. -/
structure SheetRun.Loaded (enabled : Bool) (old r : SheetRun) : Prop where
  tank : r.tank = old.tank
  held : enabled = true → old.state = .resurface ∨ old.state = .covered →
    r.state = old.state ∧ r.budget = old.budget ∧ r.frozen = old.frozen ∧ r.hold = old.hold
  blind : enabled = true → old.state ≠ .resurface → old.state ≠ .covered →
    r.state = .blind ∧ r.temp = none ∧ r.source = .none ∧ r.budget = .watts 0 ∧ r.trigger = false
  off : enabled = false → r.state = .off ∧ (old.state ≠ .off → r.budget = .unlimited ∧ r.frozen = none ∧ r.hold = 0)

/-- Temperature fields that become absent, the trigger taken back, heave and the budget at the last pass make no difference. -/
theorem SheetRun.Loaded.of_fields {enabled : Bool} {old r x : SheetRun} (h : old.Loaded enabled r) (htank : x.tank = r.tank)
    (hstate : x.state = r.state) (hbudget : x.budget = r.budget) (hfrozen : x.frozen = r.frozen) (hhold : x.hold = r.hold)
    (htemp : r.temp = none → r.source = .none → x.temp = none ∧ x.source = .none) (htrigger : r.trigger = false → x.trigger = false) :
    old.Loaded enabled x where
  tank := htank.trans h.tank
  held he hs := by
    rewrite [hstate, hbudget, hfrozen, hhold]
    exact h.held he hs
  blind he h1 h2 := by
    obtain ⟨hb, ht, hsource, hw, htr⟩ := h.blind he h1 h2
    obtain ⟨ht', hs'⟩ := htemp ht hsource
    exact ⟨hstate.trans hb, ht', hs', hbudget.trans hw, htrigger htr⟩
  off he := by
    rewrite [hstate, hbudget, hfrozen, hhold]
    exact h.off he

theorem enter_blind (c : SheetConfig) {old : SheetRun} (h : c.enabled = true) (h1 : old.state ≠ .resurface) (h2 : old.state ≠ .covered) :
    old.Loaded c.enabled (old.enter c .blind none .none) where
  tank := rfl
  held _ hs := (hs.elim h1 h2).elim
  blind _ _ _ := ⟨rfl, rfl, rfl, rfl, rfl⟩
  off he := absurd (h.symm.trans he) Bool.true_eq_false.mp

theorem evaluatedState_none {x : SheetState} (h1 : x ≠ .off) (h2 : x ≠ .resurface) (h3 : x ≠ .covered) :
    evaluatedState c x none .none = .blind := by
  cases x with
  | off => exact absurd rfl h1
  | resurface => exact absurd rfl h2
  | covered => exact absurd rfl h3
  | normal => rfl
  | soft => rfl
  | critical => rfl
  | blind => rfl

theorem SheetRun.Loaded.kept {old : SheetRun} {enabled : Bool} (h : enabled = true) (hs : old.state = .resurface ∨ old.state = .covered) :
    old.Loaded enabled old where
  tank := rfl
  held _ _ := ⟨rfl, rfl, rfl, rfl⟩
  blind _ h1 h2 := (hs.elim h1 h2).elim
  off he := absurd (h.symm.trans he) Bool.true_eq_false.mp

theorem State.Blank.rewrittenSheet (h : s.Blank) (sh : Fin 2) :
    (s.shm.get sh).Loaded (s.cfg.sheets.get sh).enabled (s.rewrittenSheet sh) := by
  simp only [State.rewrittenSheet]
  split
  next he hs =>
    have hfresh : s.freshSheet sh = (s.shm.get sh).enter (s.cfg.sheets.get sh) .blind none .none := by
      simp only [State.freshSheet, h.sheetTemp]
      rfl
    rewrite [hfresh]
    exact enter_blind _ he (by rw [hs]; exact SheetState.noConfusion) (by rw [hs]; exact SheetState.noConfusion)
  next he hs => exact .kept he (.inl hs)
  next he hs => exact .kept he (.inr hs)
  next he h1 h2 h3 =>
    have hevaluated : s.evaluatedSheet sh = (s.shm.get sh).enter (s.cfg.sheets.get sh) .blind none .none := by
      simp only [State.evaluatedSheet, h.sheetTemp, evaluatedState_none h1 h2 h3]
    rewrite [hevaluated]
    exact enter_blind _ he h2 h3
  next he hs =>
    exact ⟨rfl, fun e => absurd (e.symm.trans he) Bool.true_eq_false.mp, fun e => absurd (e.symm.trans he) Bool.true_eq_false.mp,
      fun _ => ⟨hs, fun k => absurd hs k⟩⟩
  next he _ =>
    exact ⟨rfl, fun e => absurd (e.symm.trans he) Bool.true_eq_false.mp, fun e => absurd (e.symm.trans he) Bool.true_eq_false.mp,
      fun _ => ⟨rfl, fun _ => ⟨rfl, rfl, rfl⟩⟩⟩

theorem SheetRun.Loaded.not_critical {old r : SheetRun} {enabled : Bool} (h : old.Loaded enabled r) : r.state ≠ .critical := by
  cases enabled with
  | false =>
    rewrite [(h.off rfl).1]
    exact SheetState.noConfusion
  | true =>
    by_cases h1 : old.state = .resurface
    · rewrite [(h.held rfl (.inl h1)).1, h1]
      exact SheetState.noConfusion
    · by_cases h2 : old.state = .covered
      · rewrite [(h.held rfl (.inr h2)).1, h2]
        exact SheetState.noConfusion
      · rewrite [(h.blind rfl h1 h2).1]
        exact SheetState.noConfusion

/-! ### A sheet at a LOAD -/

theorem recheckTrigger_calm (h : (s.shm.get sh).state ≠ .critical) :
    s.recheckTrigger sh = s.setSheet sh { s.shm.get sh with trigger := false } := by
  have hn : ((s.shm.get sh).state == .critical) = false := beq_false_of_ne h
  unfold State.recheckTrigger
  dsimp only
  rewrite [hn]
  rfl

theorem noticeIf_rest (b : Bool) (k : NoticeKind) (x : Nat) (v : Int) (s : State) :
    s.noticeIf b k x v = { s with lnk := (s.noticeIf b k x v).lnk } := by
  unfold State.noticeIf
  split <;> rfl

theorem evaluateHeave_rest (sh : Fin 2) (s : State) :
    s.evaluateHeave sh = { s with shm := (s.evaluateHeave sh).shm, hra := (s.evaluateHeave sh).hra } := by
  unfold State.evaluateHeave
  dsimp only
  split <;> rfl

/-- Only the sheets, the link's notices and the Heat Allocator may differ. -/
structure OnlySheets (s t : State) : Prop where
  eq : t = { s with shm := t.shm, lnk := t.lnk, hra := t.hra }

theorem OnlySheets.trans (h : OnlySheets s t) (k : OnlySheets t u) : OnlySheets s u := ⟨by rw [k.eq, h.eq]⟩

/-- What one sheet's LOAD leaves: its record, its heave request, and its notice. -/
structure SheetLoaded (sh : Fin 2) (s t : State) : Prop where
  rest : OnlySheets s t
  others : ∀ j, j ≠ sh → t.shm.get j = s.shm.get j
  loaded : (s.shm.get sh).Loaded (s.cfg.sheets.get sh).enabled (t.shm.get sh)
  announced : Announced (sheetChange s t sh) s t
  blocks : BlocksReport s t

/-- A loaded record takes its place: the notice, no trigger, then the heave request. -/
theorem SheetRun.Loaded.put {r : SheetRun} (h : (s.shm.get sh).Loaded (s.cfg.sheets.get sh).enabled r) :
    SheetLoaded sh s ((((s.setSheet sh r).sheetNotice (s.shm.get sh).state sh).recheckTrigger sh).evaluateHeave sh) := by
  have hget : (s.setSheet sh r).shm.get sh = r := Table.get_set_self ..
  have hothers (j : Fin 2) (hj : j ≠ sh) : (s.setSheet sh r).shm.get j = s.shm.get j := Table.get_set_ne _ hj.symm _
  have hset : OnlySheets s (s.setSheet sh r) := ⟨rfl⟩
  have hfirst : BlocksReport s (s.setSheet sh r) := .of_lnk rfl rfl rfl
  have hquiet : Announced [] s (s.setSheet sh r) := .of_lnk rfl rfl rfl
  generalize s.setSheet sh r = a at hget hothers hset hfirst hquiet ⊢
  have hnotice := sheetNotice_announced (s.shm.get sh).state sh a
  have hblocks : BlocksReport a (a.sheetNotice (s.shm.get sh).state sh) := noticeIf_blocks (k := .sheet) rfl ..
  have hrest : a.sheetNotice (s.shm.get sh).state sh = { a with lnk := (a.sheetNotice (s.shm.get sh).state sh).lnk } := noticeIf_rest ..
  generalize a.sheetNotice (s.shm.get sh).state sh = b at hnotice hblocks hrest ⊢
  have hshm : b.shm = a.shm := by rw [hrest]
  have hb : b.shm.get sh = r := by rw [hshm, hget]
  have hcalm : b.recheckTrigger sh = b.setSheet sh { r with trigger := false } := by
    rw [recheckTrigger_calm (by rw [hb]; exact h.not_critical), hb]
  rewrite [hcalm]
  have hgot : (b.setSheet sh { r with trigger := false }).shm.get sh = { r with trigger := false } := Table.get_set_self ..
  have hkept (j : Fin 2) (hj : j ≠ sh) : (b.setSheet sh { r with trigger := false }).shm.get j = a.shm.get j :=
    (Table.get_set_ne _ hj.symm _).trans (by rw [hshm])
  have hb' : OnlySheets a (b.setSheet sh { r with trigger := false }) := ⟨by rw [hrest]; rfl⟩
  have hsecond : BlocksReport b (b.setSheet sh { r with trigger := false }) := .of_lnk rfl rfl rfl
  have hquiet' : Announced [] b (b.setSheet sh { r with trigger := false }) := .of_lnk rfl rfl rfl
  generalize b.setSheet sh { r with trigger := false } = d at hgot hkept hb' hsecond hquiet' ⊢
  obtain ⟨hheave, -, hset'⟩ := evaluateHeave_reports sh d
  have hwhole := evaluateHeave_rest sh d
  have hlast := evaluateHeave_blocks sh d
  generalize d.evaluateHeave sh = e at hheave hset' hwhole hlast ⊢
  have hself : e.shm.get sh = { d.shm.get sh with heave := (e.shm.get sh).heave } := by
    rewrite [hset', Table.get_set_self]
    rfl
  have hstate : (e.shm.get sh).state = (a.shm.get sh).state := by rw [hself, hgot, hget]
  refine ⟨hset.trans (hb'.trans ⟨by rw [hwhole]⟩), fun j hj => ?_, ?_, ?_, ((hfirst.trans hblocks).trans hsecond).trans hlast⟩
  · rw [hset', Table.get_set_ne _ hj.symm, hkept j hj, hothers j hj]
  · rewrite [hself, hgot]
    exact h.of_fields rfl rfl rfl rfl rfl (fun ht hs => ⟨ht, hs⟩) fun _ => rfl
  · have hall := ((hquiet.trans hnotice).trans hquiet').trans hheave
    simpa [sheetChange, hstate] using hall

theorem State.Blank.loadSheet (h : s.Blank) (sh : Fin 2) : SheetLoaded sh s (s.loadSheet sh).state := by
  have hloaded := h.rewrittenSheet sh
  simp only [State.loadSheet, Triggered.triggerIf_state, h.sheetTemp]
  refine SheetRun.Loaded.put ?_
  split
  · exact hloaded.of_fields rfl rfl rfl rfl rfl (fun _ _ => ⟨rfl, rfl⟩) id
  · exact hloaded

/-! ### The zones at a LOAD -/

/-- The record of a zone after a LOAD on points without values (R84). -/
def zoneLoaded (c : ZoneConfig) (flood : Bool) (base : Nat) : ZoneRun :=
  if c.enabled then { state := .unknown, flood := flood, demand := zoneDemand c .unknown flood base } else {}

theorem State.Blank.rewrittenZone (h : s.Blank) (before c : ZoneConfig) (r : ZoneRun) :
    s.rewrittenZone before c r = zoneLoaded c (s.floodOf c) s.profile.baseDemand := by
  have hinput (k : PointKind) (p : Option Nat) : s.zoneInput k p = none := by
    cases p with
    | none => rfl
    | some i => exact h.usableValue ..
  unfold State.rewrittenZone zoneLoaded State.evaluatedZone
  simp only [State.zoneDew, h.usableValue, hinput]
  rfl

/-- Only the zones and the link's notices may differ. -/
structure OnlyZones (s t : State) : Prop where
  eq : t = { s with cdm := t.cdm, lnk := t.lnk }

theorem OnlyZones.trans (h : OnlyZones s t) (k : OnlyZones t u) : OnlyZones s u := ⟨by rw [k.eq, h.eq]⟩

theorem OnlyZones.blank (h : OnlyZones s t) (hb : s.Blank) : t.Blank := by
  rewrite [State.Blank, h.eq]
  exact hb

theorem putZone_only (z : Fin 4) (r : ZoneRun) (s : State) : OnlyZones s (s.putZone z r) := by
  have hrest := noticeIf_rest ((s.cdm.get z).state != r.state) .zone z.val (codeOf zoneStates r.state) { s with cdm := s.cdm.set z r }
  exact ⟨by rw [State.putZone, hrest]⟩

/-- One zone at a LOAD. -/
def State.loadZone (before : Configuration) (z : Fin 4) (s : State) : State :=
  s.putZone z (s.rewrittenZone (before.zones.get z) (s.cfg.zones.get z) (s.cdm.get z))

theorem loadZones_eq (before : Configuration) (s : State) :
    s.loadZones before = (forEach 4 (State.loadZone before) s).recomputeKinds [.regen, .ceiling] := rfl

/-- What the zones' LOAD leaves: their records and their notices. -/
structure ZonesLoaded (s t : State) : Prop where
  rest : t = { s with cdm := t.cdm, lnk := t.lnk, hra := t.hra }
  zones : ∀ z, t.cdm.get z = zoneLoaded (s.cfg.zones.get z) (s.floodOf (s.cfg.zones.get z)) s.profile.baseDemand
  announced : Announced (zoneChanges s t) s t
  blocks : BlocksReport s t

theorem loadZone_other (before : Configuration) {j z : Fin 4} (h : j ≠ z) (s : State) : (s.loadZone before z).cdm.get j = s.cdm.get j := by
  rw [State.loadZone, putZone_cdm, Table.get_set_ne _ h.symm]

theorem loadZone_announced (before : Configuration) (z : Fin 4) (s : State) :
    Announced (zoneChange s (s.loadZone before z) z) s (s.loadZone before z) := by
  have h := putZone_announced z (s.rewrittenZone (before.zones.get z) (s.cfg.zones.get z) (s.cdm.get z)) s
  have hget : (s.loadZone before z).cdm.get z = s.rewrittenZone (before.zones.get z) (s.cfg.zones.get z) (s.cdm.get z) := by
    rw [State.loadZone, putZone_cdm, Table.get_set_self]
  rwa [zoneChange, hget]

theorem State.Blank.loadZone (h : s.Blank) (before : Configuration) (z : Fin 4) (hx : OnlyZones s t) :
    (t.loadZone before z).cdm.get z = zoneLoaded (s.cfg.zones.get z) (s.floodOf (s.cfg.zones.get z)) s.profile.baseDemand := by
  rewrite [State.loadZone, putZone_cdm, Table.get_set_self, (hx.blank h).rewrittenZone, hx.eq]
  rfl

theorem State.Blank.loadZones (h : s.Blank) (before : Configuration) : ZonesLoaded s (s.loadZones before) := by
  have honly := forEach_induct (P := OnlyZones s) (State.loadZone before) s ⟨rfl⟩ fun z x hx => hx.trans (putZone_only ..)
  have hblocks := forEach_blocks (State.loadZone before) (fun z x => putZone_blocks ..) s
  have hget (j : Fin 4) := forEach_get (get := fun (x : State) z => x.cdm.get z) (P := OnlyZones s) (f := State.loadZone before)
    (g := fun z _ => zoneLoaded (s.cfg.zones.get z) (s.floodOf (s.cfg.zones.get z)) s.profile.baseDemand)
    (fun z x hx => ⟨hx.trans (putZone_only ..), h.loadZone before z hx, fun j hj => loadZone_other before hj x⟩) (x := s) ⟨rfl⟩ j
  have hann := forEach_announced (get := fun (x : State) z => x.cdm.get z) (st := id) (P := fun _ => True) (f := State.loadZone before)
    (change := fun z old new => Offer.when (old.state ≠ new.state) .zone z (codeOf zoneStates new.state))
    (fun z x _ => ⟨trivial, loadZone_announced before z x, fun j hj => loadZone_other before hj x⟩) (x := s) trivial
  rewrite [loadZones_eq]
  generalize forEach 4 (State.loadZone before) s = x at honly hblocks hget hann ⊢
  have hlast : BlocksReport x (x.recomputeKinds [.regen, .ceiling]) := .of_lnk rfl rfl rfl
  have hquiet : Announced [] x (x.recomputeKinds [.regen, .ceiling]) := .of_lnk rfl rfl rfl
  refine ⟨by rw [honly.eq]; rfl, hget, ?_, hblocks.trans hlast⟩
  have hall := Announced.trans hann hquiet
  rewrite [List.append_nil] at hall
  exact hall

end Blank

/-! PROOF. The lights, the outputs and the passes at a LOAD (R94, R134, R149, R196). -/

section Lights

variable {s t u : State}

/-! ### The lights -/

/-- The lights' channels with their own steps, before L_up and D follow. -/
def State.ownSteps (s : State) : State := s.mapChannels fun i r => r.ownStep (s.cfg.channels.get i)

theorem ownSteps_get (s : State) (i : Fin 32) : s.ownSteps.lsq.channels.get i = (s.lsq.channels.get i).ownStep (s.cfg.channels.get i) :=
  Table.get_mapIdx ..

theorem loadChannels_levels (s : State) : LevelsKept s.ownSteps s.loadChannels := by
  have hrelit : LevelsKept s.ownSteps (s.ownSteps.relight [0, 1]) := .of_channels (relight_lsq [0, 1] s.ownSteps).1
  have htargets := setTargets_levels (fun _ => true) (s.ownSteps.relight [0, 1])
  have hwhole : s.loadChannels = ((s.ownSteps.relight [0, 1]).setTargets fun _ => true).aimChannels false fun _ => true := rfl
  rewrite [hwhole]
  generalize s.ownSteps.relight [0, 1] = x at hrelit htargets ⊢
  exact (hrelit.trans htargets).trans (aimChannels_levels ..)

theorem loadChannels_lnk (s : State) : ∃ ns : List Offer, (∀ n ∈ ns, n.1 = .derate) ∧ s.loadChannels.lnk = s.offered ns := by
  have hrelit : SheetsRelit [0, 1] s.ownSteps s.loadChannels := ((relight_relit [0, 1] s.ownSteps).setTargets _).aimChannels _ _
  have hoffered (ns : List Offer) : s.ownSteps.offered ns = s.offered ns := rfl
  exact ⟨_, fun n hn => kind_of_mem_derateChanges hn, hrelit.lnk.trans (hoffered _)⟩

theorem loadChannels_reports (s : State) : Reports s s.loadChannels := by
  have hsetup := (loadChannels_light s).inner.setup
  obtain ⟨ns, hns, hlnk⟩ := loadChannels_lnk s
  refine ⟨⟨hsetup.cfg, hsetup.scu, ns, fun n hn => ?_, hlnk⟩,
    ⟨hsetup.cfg, hsetup.scu, ns, hlnk, List.filter_eq_nil_iff.mpr fun n hn => ?_⟩⟩
  · rw [Offer.ofBlock, hns n hn]
    rfl
  · rw [Offer.ofState, hns n hn]
    decide

/-! ### The outputs -/

theorem outputWritten_kept (wasNone : Bool) (i : Fin 16) (s : State) :
    ((s.outputWritten wasNone i).ost.outputs.get i).source = s.outputSource i ∧
      ((s.outputWritten wasNone i).ost.outputs.get i).fixed = (s.ost.outputs.get i).fixed := by
  have heq : s.outputWritten wasNone i = s.setOutput i (s.rewritten wasNone i (s.cfg.outputs.get i)) := rfl
  rewrite [heq, setOutput_self]
  exact rewritten_kept wasNone i (s.cfg.outputs.get i) s

/-- A remote entry at a LOAD (R149). -/
def State.loadRemoteAt (i : Fin 32) (s : State) : State :=
  let c := s.cfg.remotes.get i
  let r := s.ost.remotes.get i
  if c.binding = .none then s.setRemote i { r with value := none, timer := 0 }
  else
    let s1 := s.setRemote i { r with value := some (s.remoteSource i : Int), timer := if s.phase = .run then c.refresh else 0 }
    if s.phase = .run then s1.requestRemote false i else s1

theorem loadOutputs_eq (s : State) : s.loadOutputs = forEach 32 State.loadRemoteAt (forEach 16 (State.outputWritten false) s) := rfl

/-- Only the remote entries and the bus may have moved. -/
structure EntriesOnly (s t : State) : Prop where
  event : OutputEvent s t
  outputs : t.ost.outputs = s.ost.outputs
  lnk : t.lnk = s.lnk

theorem EntriesOnly.refl (s : State) : EntriesOnly s s := ⟨.refl s, rfl, rfl⟩

theorem EntriesOnly.trans (h : EntriesOnly s t) (k : EntriesOnly t u) : EntriesOnly s u :=
  ⟨h.event.trans k.event, k.outputs.trans h.outputs, k.lnk.trans h.lnk⟩

theorem requestRemote_entries (i : Fin 32) (s : State) : EntriesOnly s (s.requestRemote false i) :=
  ⟨(requestRemote_event false i s).1, (requestRemote_undisturbed false i s).outputs, requestRemote_false_lnk i s⟩

theorem loadRemoteAt_entries (i : Fin 32) (s : State) : EntriesOnly s (s.loadRemoteAt i) := by
  have hset (r : RemoteRun) : EntriesOnly s (s.setRemote i r) := ⟨setRemote_event .., rfl, rfl⟩
  unfold State.loadRemoteAt
  dsimp only
  split
  · exact hset _
  · split
    · exact (hset _).trans (requestRemote_entries ..)
    · exact hset _

/-- A step that leaves the figures and the fixed codes alone leaves the source codes alone. -/
theorem OutputEvent.same {i : Fin 16} (h : OutputEvent s t) (hf : (t.ost.outputs.get i).fixed = (s.ost.outputs.get i).fixed) : SameSource i s t :=
  ⟨h.inner.setup.cfg, fun _ => by rw [h.lsq], fun _ _ => by rw [h.hra], fun _ => by rw [h.hra], h.cdm, fun _ => by rw [h.shm], hf⟩

/-- What a LOAD leaves of the outputs (R149): fixed codes stay, and source codes follow the new bindings. -/
structure OutputsLoaded (s t : State) : Prop where
  event : OutputEvent s t
  lnk : t.lnk = s.lnk
  fixed : ∀ i, (t.ost.outputs.get i).fixed = (s.ost.outputs.get i).fixed
  sourced : ∀ i, t.Sourced i

theorem outputWritten_other (b : Bool) {i j : Fin 16} (h : j ≠ i) (s : State) :
    (s.outputWritten b i).ost.outputs.get j = s.ost.outputs.get j := setOutput_other h.symm ..

theorem outputWritten_fixed (b : Bool) (i j : Fin 16) (s : State) :
    ((s.outputWritten b i).ost.outputs.get j).fixed = (s.ost.outputs.get j).fixed := by
  by_cases h : j = i
  · subst h
    exact (outputWritten_kept b j s).2
  · rw [outputWritten_other b h]

theorem outputWritten_same (b : Bool) (i j : Fin 16) (s : State) : SameSource j s (s.outputWritten b i) :=
  (outputWritten_event b i s).same (outputWritten_fixed b i j s)

theorem loadOutputs_loaded (s : State) : OutputsLoaded s s.loadOutputs := by
  have hevent := loadOutputs_event s
  rewrite [loadOutputs_eq] at hevent ⊢
  have hfixed (j : Fin 16) := forEach_induct (P := fun x : State => (x.ost.outputs.get j).fixed = (s.ost.outputs.get j).fixed)
    (State.outputWritten false) s rfl fun i x hx => (outputWritten_fixed false i j x).trans hx
  have hlnk := forEach_lnk (State.outputWritten false) (fun i x => rfl) s
  have hsourced (j : Fin 16) := forEach_all (step := State.outputWritten false) (P := fun _ => True) (Q := fun j x => State.Sourced j x)
    (fun i x _ => ⟨trivial, (outputWritten_kept false i x).1.trans (outputWritten_same false i i x).outputSource.symm,
      fun j hj hq => State.Sourced.of_same hq (outputWritten_same false i j x) (by rw [outputWritten_other false hj])⟩)
    (s := s) trivial j
  generalize forEach 16 (State.outputWritten false) s = x at hevent hfixed hlnk hsourced ⊢
  have hentries := forEach_induct (P := EntriesOnly x) State.loadRemoteAt x (.refl x) fun i y hy => hy.trans (loadRemoteAt_entries i y)
  generalize forEach 32 State.loadRemoteAt x = t at hevent hentries ⊢
  exact ⟨hevent, hentries.lnk.trans hlnk, fun j => (by rw [hentries.outputs, hfixed j]),
    fun j => (hsourced j).of_same (hentries.event.same (by rw [hentries.outputs])) (by rw [hentries.outputs])⟩

/-! ### The passes -/

theorem passes_reports (n : Nat) (s : State) : Reports s (s.passes false n) := ⟨passes_blocks false n s, passes_quiet false n s⟩

/-- What stands after the lights, the outputs and the passes of a LOAD. -/
structure LightsLoaded (s t : State) : Prop where
  inner : Inner s t
  ptb : t.ptb = s.ptb
  shm : SheetsKept s t
  cdm : t.cdm = s.cdm
  pru : t.pru = s.pru
  stc : t.stc = s.stc
  reports : Reports s t
  fresh : s.phase = .run → t.FreshPeriod
  current : LightingCurrent t
  levels : LevelsKept s.ownSteps t
  fixed : ∀ i, (t.ost.outputs.get i).fixed = (s.ost.outputs.get i).fixed
  sourced : ∀ i, t.Sourced i

theorem lightsLoaded (n : Nat) (s : State) : LightsLoaded s (s.loadChannels.loadOutputs.passes false (n + 1)) := by
  have hlights := loadChannels_light s
  have hlevels := loadChannels_levels s
  have hcurrent := loadChannels_current s
  have hreports := loadChannels_reports s
  generalize s.loadChannels = a at hlights hlevels hcurrent hreports ⊢
  have houtputs := loadOutputs_loaded a
  have hcurrent' := hcurrent.of_frame (loadOutputs_event a).lightFrame
  generalize a.loadOutputs = b at houtputs hcurrent' ⊢
  have hheat := passes_heat false (n + 1) b
  have hsettled := passes_settled (n + 1) b
  exact {
    inner := (hlights.inner.trans houtputs.event.inner).trans hheat.inner
    ptb := hheat.ptb.trans (houtputs.event.ptb.trans hlights.ptb)
    shm := ((SheetsKept.of_eq hlights.shm).trans (SheetsKept.of_eq houtputs.event.shm)).trans hheat.shm
    cdm := hheat.cdm.trans (houtputs.event.cdm.trans hlights.cdm)
    pru := hheat.pru.trans (houtputs.event.pru.trans hlights.pru)
    stc := hheat.stc.trans (houtputs.event.stc.trans hlights.stc)
    reports := (hreports.trans (.of_lnk houtputs.event.inner.setup.cfg houtputs.event.inner.setup.scu houtputs.lnk)).trans
      (passes_reports (n + 1) b)
    fresh := fun run => passes_fresh (houtputs.event.inner.setup.phase.trans (hlights.inner.setup.phase.trans run)) n
    current := (passes_informs false (n + 1) b).current hcurrent'
    levels := (hlevels.trans (.of_channels (by rw [houtputs.event.lsq]))).trans hsettled.levels
    fixed := fun i => (hheat.followed.fixed i).trans ((houtputs.fixed i).trans (hlights.followed.fixed i))
    sourced := fun i => hsettled.sourced i (houtputs.sourced i) }

end Lights

/-! PROOF. The ends of a SAVE, a snapshot write and a LOAD (R65, R84, R134, R175, R177, R194 to R197); and O48. -/

section Ends

variable {s t : State} {c : Configuration}

/-! ### SAVE and snapshot write -/

/-- An image read back is good when the check behind it is the one computed (R194). -/
theorem goodImage_saved {x : Stc} {check : BitVec 16} (h : x.image = some ⟨c, check⟩) :
    x.goodImage = if crc16 (imageBytes c) % 65536 = check.toNat then some c else none := by
  have hcheck : ((imageCheck c == check) = true) = (crc16 (imageBytes c) % 65536 = check.toNat) := by
    rw [beq_iff_eq, ← BitVec.toNat_inj, imageCheck, BitVec.toNat_ofNat]
  have hgood : x.goodImage = if (imageCheck c == check) = true then some c else none := by
    unfold Stc.goodImage
    rewrite [h]
    rfl
  rw [hgood, if_congr (iff_of_eq hcheck) rfl rfl]

theorem storeNotice_rest (n : Nat) (b : Bool) (s : State) : s.storeNotice n b = { s with lnk := (s.storeNotice n b).lnk } := rfl

theorem goodImage_congr {x y : Stc} (h : x.image = y.image) : x.goodImage = y.goodImage := by
  unfold Stc.goodImage
  rw [h]

theorem beginWrite_none {x : Stc} (h : x.snapshot = none) : x.beginWrite = x := by
  unfold Stc.beginWrite
  rw [h]

theorem beginWrite_some {x : Stc} {n : Snapshot} (h : x.snapshot = some n) : x.beginWrite =
    { x with op := .snapshot, slots := x.slots.set x.target none, writing := some (x.target, n), snapshot := none } := by
  unfold Stc.beginWrite
  rw [h]

/-- Every field that the end of a SAVE leaves of the store (R175, R195). -/
theorem endSave_eq {check : BitVec 16} (h : s.stc.op = .save) : s.endSave check =
    (s.setStc (s.stc.afterSave check).beginWrite).storeNotice 0 (s.stc.afterSave check).goodImage.isNone := if_pos h

theorem endSnapshot_eq {good : Bool} {i : Fin 4} {x : Snapshot} (h : s.stc.op = .snapshot) (hw : s.stc.writing = some (i, x)) :
    s.endSnapshot good = (s.setStc { s.stc with
      op := .none, writing := none, slots := if good then s.stc.slots.set i (some x) else s.stc.slots }).storeNotice 2 (!good) := by
  unfold State.endSnapshot
  rewrite [h, hw]
  rfl

/-! ### After a LOAD with nothing deferred or held -/

theorem deferredTrip_none (h : s.pru.deferred = []) : s.deferredTrip = s := by
  have hpru : ({ s.pru with deferred := [] } : Pru) = s.pru := by rw [← h]
  unfold State.deferredTrip
  dsimp only
  rewrite [h, hpru]
  rfl

theorem dueEntries_none (h : ∀ e ∈ s.scu.program, s.scu.clock < e.start) : s.dueEntries = [] := by
  unfold State.dueEntries
  cases hp : s.scu.program with
  | nil => rfl
  | cons e es => exact List.takeWhile_cons_of_neg (by simpa using h e (hp ▸ List.mem_cons_self))

theorem afterLoad_quiet (h : s.pru.deferred = []) (hd : s.phase ≠ .run ∨ ∀ e ∈ s.scu.program, s.scu.clock < e.start) : s.afterLoad = s := by
  have hheld : s.takeHeld = s := by
    unfold State.takeHeld
    split
    next run =>
      rewrite [State.takeDue, dueEntries_none (hd.resolve_left fun k => k run)]
      rfl
    next => rfl
  unfold State.afterLoad
  rewrite [h, deferredTrip_none h, hheld]
  rfl

/-! ### LOAD -/

/-- The points restarted under the new configuration, its line in force where the bus is idle. -/
def State.pointsLoaded (receiving : Bool) (c : Configuration) (s : State) : State := ((s.setCfg c).loadPoints).applyLineWhenIdle receiving

/-- What restarting the points leaves: the bus may have another address and bit rate. -/
structure PointsLoaded (receiving : Bool) (c : Configuration) (s t : State) : Prop where
  rest : t = { s with cfg := c, ptb := t.ptb, fbc := t.fbc }
  points : ∀ i, t.ptb.points.get i = restarted (c.points.get i).binding
  rxQueue : t.fbc.rxQueue = s.fbc.rxQueue
  txe : t.fbc.txe = s.fbc.txe
  rxe : t.fbc.rxe = s.fbc.rxe
  handOver : t.fbc.handOver = s.fbc.handOver
  line : receiving = false → s.fbc.onLine = false → t.fbc.address = c.bus.ownAddress ∧ t.fbc.bitRate = c.bus.bitRate

theorem pointsLoaded (receiving : Bool) (c : Configuration) (s : State) : PointsLoaded receiving c s (s.pointsLoaded receiving c) := by
  have hpoints (i : Fin 64) : ((s.setCfg c).loadPoints).ptb.points.get i = restarted (c.points.get i).binding := Table.get_mapIdx ..
  unfold State.pointsLoaded State.applyLineWhenIdle
  split
  next h =>
    exact ⟨rfl, hpoints, rfl, rfl, rfl, rfl, fun hr hl => by
      have hidle : (receiving || s.fbc.onLine) = true := h
      rw [hr, hl] at hidle
      exact absurd hidle Bool.false_ne_true⟩
  next => exact ⟨rfl, hpoints, rfl, rfl, rfl, rfl, fun _ _ => ⟨rfl, rfl⟩⟩

theorem PointsLoaded.blank {receiving : Bool} (h : PointsLoaded receiving c s t) : t.Blank := fun i => by rw [h.points]; rfl

/-- What stands before the lights of a LOAD: points, sheets, zones and their notices. -/
structure BlocksLoaded (c : Configuration) (s a t : State) : Prop where
  inner : Inner a t
  rest : t = { a with shm := t.shm, cdm := t.cdm, lnk := t.lnk, hra := t.hra }
  sheets : ∀ sh, (s.shm.get sh).Loaded (c.sheets.get sh).enabled (t.shm.get sh)
  zones : ∀ z, t.cdm.get z = zoneLoaded (c.zones.get z) (t.floodOf (c.zones.get z)) (c.profiles.get (modeIndex s.scu.mode)).baseDemand
  announced : Announced (sheetChanges s t ++ zoneChanges s t) a t
  blocks : BlocksReport a t

theorem sheetChanges_eq (s t : State) : sheetChanges s t = sheetChange s t 0 ++ sheetChange s t 1 := by
  simp [sheetChanges, sheetChange, List.finRange_succ]

theorem sheetChange_congr {a b : State} {sh : Fin 2} (hs : s.shm.get sh = a.shm.get sh) (ht : t.shm.get sh = b.shm.get sh) :
    sheetChange s t sh = sheetChange a b sh := by
  unfold sheetChange
  rw [hs, ht]

theorem blocksLoaded {a : State} (hcfg : a.cfg = c) (hshm : a.shm = s.shm) (hcdm : a.cdm = s.cdm) (hscu : a.scu = s.scu) (hblank : a.Blank)
    (chosen : SinkConfig → Bool) : BlocksLoaded c s a ((((a.loadSheet 0).state.loadSheet 1).state.loadZones s.cfg).recompute chosen) := by
  have hfirst := hblank.loadSheet 0
  have hinner := loadSheet_inner 0 a
  generalize (a.loadSheet 0).state = b at hfirst hinner ⊢
  have hblank' : b.Blank := by
    rewrite [State.Blank, hfirst.rest.eq]
    exact hblank
  have hsecond := hblank'.loadSheet 1
  have hinner' := hinner.trans (loadSheet_inner 1 b)
  generalize (b.loadSheet 1).state = d at hsecond hinner' ⊢
  have hboth := hfirst.rest.trans hsecond.rest
  have hblank'' : d.Blank := by
    rewrite [State.Blank, hboth.eq]
    exact hblank
  have hzones := hblank''.loadZones s.cfg
  have hinner'' := (hinner'.trans (loadZones_zone s.cfg d).inner).trans (recompute_heat chosen _).inner
  generalize d.loadZones s.cfg = e at hzones hinner'' ⊢
  have hshm' : e.shm = d.shm := by rw [hzones.rest]
  have hquiet : Announced [] e (e.recompute chosen) := .of_lnk rfl rfl rfl
  have hlast : BlocksReport e (e.recompute chosen) := .of_lnk rfl rfl rfl
  have hrest : e.recompute chosen = { e with hra := (e.recompute chosen).hra } := rfl
  generalize e.recompute chosen = t at hquiet hlast hrest hinner'' ⊢
  have hts : t.shm = d.shm := by rw [hrest, ← hshm']
  have htz : t.cdm = e.cdm := by rw [hrest]
  have hdcfg : d.cfg = c := by rw [hboth.eq, ← hcfg]
  have hdscu : d.scu = s.scu := by rw [hboth.eq, ← hscu]
  have hdcdm : d.cdm = s.cdm := by rw [hboth.eq, ← hcdm]
  have h0 : t.shm.get 0 = b.shm.get 0 := by rw [hts, hsecond.others 0 (by decide)]
  have h1 : b.shm.get 1 = s.shm.get 1 := by rw [hfirst.others 1 (by decide), hshm]
  refine ⟨hinner'', by rw [hrest, hzones.rest, hboth.eq], fun sh => ?_, fun z => ?_, ?_, ?_⟩
  · match sh with
    | 0 =>
      rewrite [h0, ← hshm, ← hcfg]
      exact hfirst.loaded
    | 1 =>
      have hbcfg : b.cfg = c := by rw [hfirst.rest.eq, ← hcfg]
      rewrite [hts, ← h1, ← hbcfg]
      exact hsecond.loaded
  · have hflood (x : ZoneConfig) : t.floodOf x = d.floodOf x := by
      unfold State.floodOf
      rw [hts]
    have hzone := hzones.zones z
    rewrite [State.profile, hdcfg, hdscu] at hzone
    rw [htz, hflood, hzone]
  · have hall := ((hfirst.announced.trans hsecond.announced).trans hzones.announced).trans hquiet
    rewrite [List.append_nil, sheetChange_congr (t := b) (a := s) (b := t) (by rw [hshm]) h0.symm,
      sheetChange_congr (t := d) (a := s) (b := t) h1 (by rw [hts]), ← sheetChanges_eq, zoneChanges_congr hdcdm htz.symm] at hall
    exact hall
  · exact ((hfirst.blocks.trans hsecond.blocks).trans hzones.blocks).trans hlast

/-- What a good image leaves of the part (R196), before the STORE notice. -/
structure ImageTaken (receiving : Bool) (c : Configuration) (s t : State) : Prop where
  setup : SetupKept (s.setCfg c) t
  link : LinkKept s t
  pru : t.pru = s.pru
  stc : t.stc = s.stc
  announced : Announced (sheetChanges s t ++ zoneChanges s t) (s.setCfg c) t
  blocks : BlocksReport (s.setCfg c) t
  points : ∀ i, t.ptb.points.get i = restarted (c.points.get i).binding
  rxQueue : t.fbc.rxQueue = s.fbc.rxQueue
  txe : t.fbc.txe = s.fbc.txe
  rxe : t.fbc.rxe = s.fbc.rxe
  handOver : t.fbc.handOver = s.fbc.handOver
  line : receiving = false → s.fbc.onLine = false → t.fbc.address = c.bus.ownAddress ∧ t.fbc.bitRate = c.bus.bitRate
  sheets : ∀ sh, (s.shm.get sh).Loaded (c.sheets.get sh).enabled (t.shm.get sh)
  zones : ∀ z, t.cdm.get z = zoneLoaded (c.zones.get z) (t.floodOf (c.zones.get z)) (c.profiles.get (modeIndex s.scu.mode)).baseDemand
  timer : s.phase = .run → t.hra.timer = c.allocator.period
  channels : ∀ i, (t.lsq.channels.get i).base = (s.lsq.channels.get i).base ∧ (t.lsq.channels.get i).level = (s.lsq.channels.get i).level ∧
    (t.lsq.channels.get i).step = (c.channels.get i).step ∧ (t.lsq.channels.get i).period = (c.channels.get i).period
  current : LightingCurrent t
  fixed : ∀ i, (t.ost.outputs.get i).fixed = (s.ost.outputs.get i).fixed
  sourced : ∀ i, t.Sourced i

theorem SheetsKept.loaded (h : SheetsKept s t) {old : SheetRun} {enabled : Bool} {sh : Fin 2} (k : old.Loaded enabled (s.shm.get sh)) :
    old.Loaded enabled (t.shm.get sh) := by
  rewrite [h sh]
  exact k.of_fields rfl rfl rfl rfl rfl (fun ht hs => ⟨ht, hs⟩) id

theorem SheetsKept.state (h : SheetsKept s t) (sh : Fin 2) : (t.shm.get sh).state = (s.shm.get sh).state := by rw [h sh]

theorem sheetChanges_states {r : State} (h : ∀ sh, (t.shm.get sh).state = (r.shm.get sh).state) : sheetChanges s t = sheetChanges s r := by
  simp only [sheetChanges, h]

theorem floodOf_states {x : ZoneConfig} (h : ∀ sh, (t.shm.get sh).state = (s.shm.get sh).state) : t.floodOf x = s.floodOf x := by
  unfold State.floodOf
  cases x.sheet with
  | none => rfl
  | some sh => exact congrArg (· == .resurface) (h sh)

theorem takeImage_taken (receiving : Bool) (c : Configuration) (s : State) : ImageTaken receiving c s (s.takeImage receiving c) := by
  have hsetup := takeImage_setup receiving c s
  have hpoints := pointsLoaded receiving c s
  have hwhole : s.takeImage receiving c =
      (((((((s.pointsLoaded receiving c).loadSheet 0).state.loadSheet 1).state.loadZones s.cfg).recompute fun _ => true).loadChannels).loadOutputs).passes
        false (((s.pointsLoaded receiving c).loadSheet 0).passes + (((s.pointsLoaded receiving c).loadSheet 0).state.loadSheet 1).passes + 1) := rfl
  rewrite [hwhole] at hsetup ⊢
  generalize ((s.pointsLoaded receiving c).loadSheet 0).passes + (((s.pointsLoaded receiving c).loadSheet 0).state.loadSheet 1).passes = n at hsetup ⊢
  generalize s.pointsLoaded receiving c = a at hsetup hpoints ⊢
  have hblocks := blocksLoaded (s := s) (c := c) (a := a) (by rw [hpoints.rest]) (by rw [hpoints.rest]) (by rw [hpoints.rest])
    (by rw [hpoints.rest]) hpoints.blank fun _ => true
  generalize (((a.loadSheet 0).state.loadSheet 1).state.loadZones s.cfg).recompute (fun _ => true) = r at hsetup hblocks ⊢
  have hlights := lightsLoaded n r
  generalize (r.loadChannels.loadOutputs).passes false (n + 1) = t at hsetup hlights ⊢
  have hstates := hlights.shm.state
  have hpru : r.pru = s.pru := by rw [hblocks.rest, hpoints.rest]
  have hstc : r.stc = s.stc := by rw [hblocks.rest, hpoints.rest]
  have hlsq : r.lsq = s.lsq := by rw [hblocks.rest, hpoints.rest]
  have host : r.ost = s.ost := by rw [hblocks.rest, hpoints.rest]
  have hcfg : r.cfg = c := by rw [hblocks.rest, hpoints.rest]
  have hphase : r.phase = s.phase := by rw [hblocks.rest, hpoints.rest]
  have hptb : r.ptb = a.ptb := by rw [hblocks.rest]
  have hfirst : Announced [] (s.setCfg c) a := .of_lnk (by rw [hpoints.rest]; rfl) (by rw [hpoints.rest]; rfl) (by rw [hpoints.rest]; rfl)
  have hfirst' : BlocksReport (s.setCfg c) a := .of_lnk hfirst.cfg hfirst.scu (by rw [hpoints.rest]; rfl)
  have hlink : LinkKept s a := .of_eq (by rw [hpoints.rest])
  have hbus := hblocks.inner.bus.trans hlights.inner.bus
  have hown (i : Fin 32) : r.ownSteps.lsq.channels.get i = (s.lsq.channels.get i).ownStep (c.channels.get i) := by
    rw [ownSteps_get, hlsq, hcfg]
  exact {
    setup := hsetup
    link := (hlink.trans hblocks.inner.link).trans hlights.inner.link
    pru := hlights.pru.trans hpru
    stc := hlights.stc.trans hstc
    announced := by
      have hall := (hfirst.trans hblocks.announced).trans hlights.reports.quiet
      rwa [List.nil_append, List.append_nil, zoneChanges_congr rfl hlights.cdm.symm, ← sheetChanges_states hstates] at hall
    blocks := (hfirst'.trans hblocks.blocks).trans hlights.reports.blocks
    points := fun i => by rw [hlights.ptb, hptb, hpoints.points]
    rxQueue := hbus.rxQueue.trans hpoints.rxQueue
    txe := hbus.txe.trans hpoints.txe
    rxe := hbus.rxe.trans hpoints.rxe
    handOver := hbus.handOver.trans hpoints.handOver
    line := fun hr hl => ⟨hbus.address.trans (hpoints.line hr hl).1, hbus.bitRate.trans (hpoints.line hr hl).2⟩
    sheets := fun sh => hlights.shm.loaded (hblocks.sheets sh)
    zones := fun z => by rw [hlights.cdm, hblocks.zones, floodOf_states hstates]
    timer := fun run => (hlights.fresh (hphase.trans run)).trans (by rw [hlights.inner.setup.cfg, hcfg])
    channels := fun i => ⟨(hlights.levels.follow.base i).trans (by rw [hown]; rfl), (hlights.levels.level i).trans (by rw [hown]; rfl),
      (hlights.levels.follow.step i).trans (by rw [hown]; rfl), (hlights.levels.follow.period i).trans (by rw [hown]; rfl)⟩
    current := hlights.current
    fixed := fun i => (hlights.fixed i).trans (by rw [host])
    sourced := hlights.sourced }

end Ends
section Notices

variable {s t : State} {c : Configuration} {receiving : Bool}

/-- The STORE notice at the end of a LOAD, and the store operation over. -/
def State.loaded (failed : Bool) (s : State) : State :=
  (s.storeNotice 1 failed).setStc { (s.storeNotice 1 failed).stc with op := .none }

theorem endLoad_good (h : s.stc.op = .load) (hi : s.stc.goodImage = some c) :
    s.endLoad receiving = ((s.takeImage receiving c).loaded false).afterLoad := by
  unfold State.endLoad
  rewrite [if_pos h, hi]
  rfl

theorem endLoad_bad (h : s.stc.op = .load) (hi : s.stc.goodImage = none) : s.endLoad receiving = (s.loaded true).afterLoad := by
  unfold State.endLoad
  rewrite [if_pos h, hi]
  rfl

theorem loaded_lnk (failed : Bool) (s : State) : (s.loaded failed).lnk = s.offered [(.store, 1, failed.toNat)] := rfl

/-- No POINT or LIMIT notice, and the STORE notice alone of its kind (R195 to R197). -/
theorem ImageTaken.notified (h : ImageTaken receiving c s t) :
    Notified [.point, .limit] [] s (t.loaded false) ∧ StatesNotified s (t.loaded false) ∧ Notified [.store] [(.store, 1, 0)] s (t.loaded false) := by
  obtain ⟨ns, hns, hlnk⟩ := h.blocks.offers
  have hall : (t.loaded false).lnk = (s.setCfg c).offered (ns ++ [(.store, 1, 0)]) :=
    (loaded_lnk false t).trans (offered_append h.blocks.cfg h.blocks.scu hlnk)
  have hkind (n : Offer) (hn : n ∈ ns) : n.1 ≠ .point ∧ n.1 ≠ .limit ∧ n.1 ≠ .store := by
    have hblock := hns n hn
    unfold Offer.ofBlock at hblock
    revert hblock
    generalize n.1 = k
    cases k <;> decide
  have hpoint : (ns ++ [(NoticeKind.store, 1, 0)]).filter (fun n : Offer => [NoticeKind.point, .limit].contains n.1) = [] := by
    rewrite [List.filter_append, List.filter_eq_nil_iff.mpr fun n hn => by simp [hkind n hn]]
    rfl
  have hstore : (ns ++ [(NoticeKind.store, 1, 0)]).filter (fun n : Offer => [NoticeKind.store].contains n.1) = [(.store, 1, 0)] := by
    rewrite [List.filter_append, List.filter_eq_nil_iff.mpr fun n hn => by simp [hkind n hn]]
    rfl
  have hp := notified_of_lnk (kinds := [.point, .limit]) (s := s.setCfg c) (t := t.loaded false) h.blocks.cfg hall
  have hst := notified_of_lnk (kinds := [.store]) (s := s.setCfg c) (t := t.loaded false) h.blocks.cfg hall
  rewrite [hpoint] at hp
  rewrite [hstore] at hst
  have hquiet : Announced [] t (t.loaded false) := ⟨rfl, rfl, _, loaded_lnk false t, rfl⟩
  have hstates := h.announced.trans hquiet
  rewrite [List.append_nil] at hstates
  have hfirst : Announced (sheetChanges (s.setCfg c) (t.loaded false) ++ zoneChanges (s.setCfg c) (t.loaded false)) (s.setCfg c)
    (t.loaded false) := hstates
  obtain ⟨hsheets, hzones⟩ := hfirst.sheetsFirst
  exact ⟨hp, ⟨hsheets, hzones⟩, hst⟩

end Notices

/-- Settles O48: the image is judged by its check; a snapshot's write begins or ends; a LOAD takes a good image as one whole. -/
theorem storeCompletions : Obligations.StoreCompletions := by
  intro s live told
  refine ⟨fun check c hop hsaving => ?_, fun good i x hop hwriting => ?_, fun receiving hop hdeferred hheld => ⟨fun hbad => ?_, fun c hgood => ?_⟩⟩
  · refine ⟨s.endSave check, congrArg Host.Outcome.next (event_live live _), ?_⟩
    have himage : (s.stc.afterSave check).image = some ⟨c, check⟩ := congrArg (Option.map _) hsaving
    have hkept := Stc.beginWrite_image (s.stc.afterSave check)
    have hgood := goodImage_saved himage
    have hsame := (goodImage_congr hkept.1).trans hgood
    rewrite [endSave_eq hop]
    have hwrite : (s.stc.afterSave check).beginWrite.snapshot = none ∧
        (s.stc.afterSave check).beginWrite.nextSequence = s.stc.nextSequence := by
      cases hs : s.stc.snapshot with
      | none =>
        rewrite [beginWrite_none (x := s.stc.afterSave check) hs]
        exact ⟨hs, rfl⟩
      | some n =>
        rewrite [beginWrite_some (x := s.stc.afterSave check) hs]
        exact ⟨rfl, rfl⟩
    refine ⟨rfl, hkept.1.trans himage, hkept.2, hwrite.1, fun he => ?_, fun he => ?_, hwrite.2, fun hs => ?_, fun n hs => ?_⟩
    · have hnone : (s.stc.afterSave check).goodImage.isNone = false := by rw [hgood, if_pos he]; rfl
      rewrite [hnone]
      exact ⟨hsame.trans (if_pos he), rfl⟩
    · have hnone : (s.stc.afterSave check).goodImage.isNone = true := by rw [hgood, if_neg he]; rfl
      rewrite [hnone]
      exact ⟨hsame.trans (if_neg he), rfl⟩
    · rewrite [beginWrite_none (x := s.stc.afterSave check) hs]
      exact ⟨rfl, rfl, rfl⟩
    · rewrite [beginWrite_some (x := s.stc.afterSave check) hs]
      exact ⟨rfl, rfl, rfl⟩
  · refine ⟨s.endSnapshot good, congrArg Host.Outcome.next (event_live live _), ?_⟩
    rewrite [endSnapshot_eq hop hwriting]
    refine ⟨rfl, ?_, rfl⟩
    cases good <;> rfl
  · refine ⟨s.endLoad receiving, congrArg Host.Outcome.next (event_live live _), ?_⟩
    rewrite [endLoad_bad hop hbad, afterLoad_quiet (s := s.loaded true) hdeferred hheld]
    exact ⟨rfl, rfl⟩
  · have htaken := takeImage_taken receiving c s
    have hexec : exec (.loadComplete receiving) s = .next (s.endLoad receiving) := congrArg Host.Outcome.next (event_live live _)
    rewrite [endLoad_good hop hgood] at hexec
    generalize s.takeImage receiving c = t at htaken hexec
    have hend : (t.loaded false).afterLoad = t.loaded false := by
      refine afterLoad_quiet ((congrArg Pru.deferred htaken.pru).trans hdeferred) ?_
      rewrite [show (t.loaded false).phase = s.phase from htaken.setup.phase, show (t.loaded false).scu = s.scu from htaken.setup.scu]
      exact hheld
    rewrite [hend] at hexec
    obtain ⟨hpoint, hstates, hstore⟩ := htaken.notified
    refine ⟨t.loaded false, hexec, htaken.setup.cfg, ?_, htaken.pru, htaken.setup.scu, htaken.setup.phase, htaken.setup.pins, ?_, hpoint,
      hstates, hstore, htaken.points, htaken.rxQueue, htaken.txe, htaken.rxe, htaken.handOver, htaken.line, fun sh => ?_, fun z => ?_,
      htaken.timer, fun i => ?_, fun i => ?_⟩
    · have hover : LinkKept (t.notice .store 1 0) (t.loaded false) := .of_eq rfl
      exact (htaken.link.trans (notice_event .store 1 0 t).inner.link).trans hover
    · rewrite [← htaken.stc]
      rfl
    · obtain ⟨htank, hheld, hblind, hoff⟩ := htaken.sheets sh
      exact ⟨htank, hheld, hblind, hoff⟩
    · have hzone := htaken.zones z
      exact ⟨fun he => hzone.trans (if_neg (by simp [he])), fun he => hzone.trans (if_pos he)⟩
    · obtain ⟨hbase, hlevel, hstep, hperiod⟩ := htaken.channels i
      exact ⟨hbase, hlevel, hstep, hperiod, fun harmed => htaken.current.targets ((congrArg Pru.state htaken.pru).trans harmed) i⟩
    · have hsourced : (t.ost.outputs.get i).source = t.sourceCode (t.cfg.outputs.get i).binding (t.cfg.outputs.get i).index
          (t.ost.outputs.get i).fixed := htaken.sourced i
      rewrite [show t.cfg = c from htaken.setup.cfg] at hsourced
      exact ⟨htaken.fixed i, hsourced⟩


end Sys2Proof.Machine
